-- ==== Sys2Proof/Word.lean ====
section
/-! DEFINITION. The word types of the T24's registers and memory (R5, R6, R8). -/

namespace Sys2Proof

/-- One byte of memory (R6). -/
abbrev Byte := BitVec 8

/-- One BAR0 register (R8). -/
abbrev Word := BitVec 32

/-- A string of bytes as the spec's structures lay them out, byte 0 first (R6). -/
abbrev Bytes := List Byte

end Sys2Proof
end

