-- ==== Sys2Proof/Syntax.lean ====
section
/-! DEFINITION. The commands the T24 takes (spec/opcode_table.json) and their operands. Where a
command is an event of a pin, a link or the host, its operands are what that event brings with it;
everything else the meaning takes from the state. Bytes are given as the spec's layouts place
them. -/

namespace Sys2Proof

/-- Who reads a T1 line (R241 to R245): a work unit on a core or tile by its number, the host through
CXL.mem, a move of R229, or any other reader. -/
inductive Reader where
  | unit (u : Nat)
  | host
  | move
  | other
  deriving DecidableEq, Repr

/-- What start-up reads (R514, R515): whether the boot device answers with a good header at the first or
at the second try, whether it has the SFDP table (8D-8D-8D), and the image's bytes. -/
structure BootRead where
  headerTry1 : Bool
  headerTry2 : Bool
  sfdp : Bool
  image : Bytes
  deriving DecidableEq, Repr

/-- The commands of the T24: one constructor per row of spec/opcode_table.json, with the operands its
event brings from outside the block. -/
inductive Instr where
  /-- REGISTER_WRITE (R12). A write to a BAR0 register that has no row of its own stores the written fields as their access codes give. -/
  | registerWrite (off : Nat) (bytes : Nat) (value : Nat) (hw : Nat)
  /-- LOW_WORD_READ (R9). A read of the low word of a 64-bit pair latches the high word into a shadow for the same requester. -/
  | lowWordRead (requester : Nat) (off : Nat)
  /-- READ_TO_CLEAR (R12). A read of an RC field returns its value and clears it, keeping an event that coincides with the read. -/
  | readToClear (requester : Nat) (off : Nat) (hw : Nat)
  /-- INT_EN_WRITE (R437). A write that sets an interrupt enable bit while its status bit is set sends one MSI-X message. -/
  | intEnWrite (off : Nat) (value : Nat)
  /-- MSIX_UNMASK (R437). Unmasking an MSI-X vector with its pending bit set sends the held message. -/
  | msixUnmask (vector : Nat)
  /-- STEP_ADMIT (R29). The spine enters ADMIT when RUN is 1, a program is loaded, HALT_REQ is 0 and every data input ring head holds a batch, then checks batches, sections and leaf blocks. -/
  | stepAdmit
  /-- ADMIT_AHEAD (R30). While step N is in REDUCE, DECIDE or COMMIT the spine admits step N + 1, checking and sorting its batch only. -/
  | admitAhead
  /-- COMPUTE_ENTRY (R31). The step enters COMPUTE: ring consumer pointers advance, the watermark is recorded, table counters add and row requests start. -/
  | computeEntry
  /-- PHASE_REDUCE (R28). The step enters REDUCE for cross-device tree levels, the gradient all-to-all, owner row trees and staging. -/
  | phaseReduce
  /-- PHASE_DECIDE (R47). The step enters DECIDE, reads every optimiser parameter block and waits for the root header. -/
  | phaseDecide
  /-- COMMIT_APPLY (R48). An applied step's COMMIT performs actions 1 to 8 in order once the root has arrived. -/
  | commitApply (faulty : Bool)
  /-- COMMIT_SKIP (R49). A skipped step's COMMIT discards staged updates, writes markers and a SKIP record, halves the loss scale and ends the step. -/
  | commitSkip
  /-- STEP_WATCHDOG (R53). The step watchdog reaching its limit sets WDOG, logs the phase and passes to the fault policy. -/
  | stepWatchdog
  /-- SPINE_RUN (R57). A write of SPINE_CTL.RUN starts or stops the running of steps; clearing it acts as HALT_REQ. -/
  | spineRun (run : Bool)
  /-- SPINE_HALT_REQ (R57). A write of HALT_REQ finishes the current step and admits no further step, dropping a step not yet in COMPUTE. -/
  | spineHaltReq (halt : Bool)
  /-- SPINE_MODE_REQ (R54). A write of MODE_REQ requests service or recovery mode, taking effect only in IDLE. -/
  | spineModeReq (recovery : Bool)
  /-- RECOVERY_MODE_ENTER (R55). Once the tier manager reports T3 empty the device enters recovery mode, or refuses with MODE_FAIL. -/
  | recoveryModeEnter
  /-- SPINE_STEP_WRITE (R57). A write of SPINE_STEP sets the step number only in IDLE with RUN 0, otherwise it is ignored and logged. -/
  | spineStepWrite (high : Bool) (value : Nat)
  /-- LS_LOAD (R85). A write of 1 to NUM_LS_CTL.LOAD in IDLE sets s to INIT_LOG2 and the clean count to 0. -/
  | lsLoad
  /-- NUM_TAG_CFG_WRITE (R80). A write to NUM_TAG_CFG in IDLE takes effect at once and recomputes the tag's exponent. -/
  | numTagCfgWrite (off : Nat) (value : Nat)
  /-- CORE_TAKE_UNIT (R39). A core without a unit takes the next ready unit of its group by STAGE, LEAF, MICRO and number, subject to the ledger, and sets up the unit's state. -/
  | coreTakeUnit (core : Nat)
  /-- TILE_TAKE_UNIT (R39). A tile pulls the next ready tile-kind unit that names it. -/
  | tileTakeUnit (tile : Nat)
  /-- UNIT_FINISH (R36). A finished work unit decrements its successors' predecessor counts, making them ready. -/
  | unitFinish (unit : Nat)
  /-- NOP (R98). The NOP instruction does nothing. -/
  | nop (core : Nat)
  /-- END (R98). The END instruction ends the unit once every instruction in flight has completed. -/
  | endUnit (core : Nat)
  /-- LDODR (R102). LDODR loads a 32-byte operand descriptor from core memory into a descriptor register. -/
  | ldodr (core : Nat)
  /-- SETA (R98). SETA sets an address register to a 64-bit value. -/
  | seta (core : Nat)
  /-- ADDA (R98). ADDA adds a signed value to an address register modulo 2^64. -/
  | adda (core : Nat)
  /-- SETC (R98). SETC sets constant register C2 or C3 to an FP32 value. -/
  | setc (core : Nat)
  /-- XFER (R100). XFER starts moving LEN lines between core memory and the unified address space. -/
  | xfer (core : Nat)
  /-- XFER_COMPLETE (R100). An XFER's last line completes, or its failure after retries ends the unit with XFER_ERR and the core holds it. -/
  | xferComplete (core : Nat) (index : Nat) (fails : Nat)
  /-- ADDODR (R98). ADDODR adds a signed offset to a valid descriptor's BASE. -/
  | addodr (core : Nat)
  /-- LOOP (R99). LOOP pushes, decrements or pops the loop stack and branches back to the body. -/
  | loopEnd (core : Nat)
  /-- FENCE (R98). FENCE holds issue until every earlier instruction has completed. -/
  | fence (core : Nat)
  /-- MMA (R107). MMA starts a matrix product D = (C +) A × B under the reference order. -/
  | mma (core : Nat) (corrected : Nat)
  /-- MMA_COMPLETE (R110). An MMA writes its last result after its fixed duration, with non-finite and amax reduction into the leaf. -/
  | mmaComplete (core : Nat)
  /-- VCHAIN (R115). VCHAIN starts a Chanter chain of up to eight stages over ROWS rows. -/
  | vchain (core : Nat) (corrected : Nat)
  /-- VCHAIN_COMPLETE (R120). A Chanter chain writes its last result after its fixed duration. -/
  | vchainComplete (core : Nat)
  /-- S12CHAIN (R122). S12CHAIN runs an S12 loop descriptor on the Chanter. -/
  | s12chain (core : Nat)
  /-- S12CHAIN_COMPLETE (R124). An S12 chain writes its last result after its fixed duration. -/
  | s12chainComplete (core : Nat)
  /-- CORE_HW_ERROR (R126). An uncorrectable core memory or parity error ends the unit, requeues it and starts the core's self-test. -/
  | coreHwError (core : Nat)
  /-- CORE_SELFTEST_END (R126). A core's self-test ends: a pass returns it to the pool, a fail retires it. -/
  | coreSelftestEnd (core : Nat) (pass : Bool)
  /-- SELFTEST_REQ (R128). A write of CORE_CTL.SELFTEST_REQ makes the core finish its unit, leave the pool and self-test. -/
  | selftestReq (core : Nat)
  /-- CORE_REQUEUE (R100). A write of CORE_CTL.REQUEUE returns the units the core holds after XFER_ERR to the ready queue. -/
  | coreRequeue (core : Nat)
  /-- CORE_DRAIN (R129). A write of CORE_CTL.DRAIN takes the core out of the pool after its unit, or returns it. -/
  | coreDrain (core : Nat) (drain : Bool)
  /-- TABLE_ENABLE (R133). EMB_TBL_CMD ENABLE reads and checks a table descriptor, copies it to every tile and allocates its sketch. -/
  | tableEnable (table : Nat) (hostWrites : List Host.Cell)
  /-- TABLE_DISABLE (R133). EMB_TBL_CMD DISABLE discards the table's Bellwether replicas and sketch, keeping its rows. -/
  | tableDisable (table : Nat)
  /-- TABLE_CLEAR_COUNTERS (R161). EMB_TBL_CMD OP 3 clears the table's per-device counters. -/
  | tableClearCounters (table : Nat)
  /-- LOOKUP_UNIT (R150). A lookup unit pools its feature's bags for its leaf and writes the narrowed outputs. -/
  | lookupUnit (tile : Nat)
  /-- SORT_SCAN_UNIT (R163). A backward sort-and-scan unit coalesces one table's contributions for one leaf and forms its in-block row nodes. -/
  | sortScanUnit (tile : Nat)
  /-- OPT_STAGING_UNIT (R173). An optimiser staging unit reserves staging line sets for the rows the owner will update. -/
  | optStagingUnit (tile : Nat)
  /-- STAGING_RESERVE (R173). A staging reservation that had to wait for room completes once the tier manager enlarges the region. -/
  | stagingReserve (tile : Nat)
  /-- OWNER_ROW_TREES (R169). Once every member's ROW_GRAD set is complete the owner forms each row's tree up to the root. -/
  | ownerRowTrees (tile : Nat)
  /-- TAIL_ACK (R191). The T24 takes an acknowledgement from a tail acknowledgement ring, releasing pending entries and waiting gathers. -/
  | tailAck (ring : Nat)
  /-- TAIL_ACK_TIMEOUT (R196). A gather waiting OPT_TAIL_ACK_TIMEOUT ticks sets TAIL_TIMEOUT and passes to the fault policy. -/
  | tailAckTimeout
  /-- TAIL_DRAIN (R197). A write of OPT_TAIL_CTL.DRAIN in IDLE holds the spine until every sent record is acknowledged. -/
  | tailDrain
  /-- CREATE (R206). TIER_CMD CREATE reads and checks an object descriptor and allocates the object and its handle. -/
  | createObj (hostWrites : List Host.Cell)
  /-- DESTROY (R209). TIER_CMD DESTROY frees an object's frames, records and directory entries. -/
  | destroyObj
  /-- SET_POLICY (R209). TIER_CMD SET_POLICY changes an object's placement policy, starting pin sweeps or evacuations. -/
  | setPolicy (hostWrites : List Host.Cell)
  /-- LOCATE (R596). TIER_CMD LOCATE reports where a row lies in TIER_LOC. -/
  | locate
  /-- DRAIN_TILE (R229). TIER_CMD DRAIN_TILE reassigns a tile's sort map entries and moves its records and regions to other tiles. -/
  | drainTile (tile : Nat)
  /-- DRAIN_CARRIER (R230). TIER_CMD DRAIN_CARRIER moves every record off a carrier. -/
  | drainCarrier (carrier : Nat)
  /-- DRAIN_COMPLETE (R231). A drain reaches DRAIN_LEFT 0 or fails, and the next queued drain starts. -/
  | drainComplete (noRoom : Bool)
  /-- HOTNESS_DECAY (R220). An object's hotness decay tick is reached, halving its sketch and starting a sweep. -/
  | hotnessDecay (obj : Nat)
  /-- ROW_MOVE (R226). A background row move finishes its copy, takes the commit lock and switches or retries. -/
  | rowMove (obj : Nat) (row : Nat) (bad : Nat)
  /-- MEM_READ (R236). A line read reaches its controller and is decoded under its ECC class. -/
  | memRead (tile : Nat) (line : Nat) (reader : Reader) (cls : Nat) (waited : Nat) (bad1 : List Nat) (bad2 : List Nat)
  /-- MEM_WRITE (R240). A full-line write reaches the controller and clears POISON. -/
  | memWrite (tile : Nat) (line : Nat) (data : Bytes) (keepPoison : Bool) (cls : Nat) (waited : Nat)
  /-- MEM_PARTIAL_WRITE (R250). A partial write merges into the write-combining buffer. -/
  | memPartialWrite (tile : Nat) (line : Nat) (mask : Nat) (data : Bytes) (bad : List Nat)
  /-- ACCUMULATE_WRITE (R252). An accumulate-write stores or adds its 16 FP32 values into the line via the accumulate cache. -/
  | accumulateWrite (tile : Nat) (line : Nat) (data : Bytes) (first : Bool) (leaf : Nat) (unitDma : Bool)
  /-- WCB_AGE_FLUSH (R251). A write-combining entry reaching MEM_WCB_AGE is flushed by read-modify-write. -/
  | wcbAgeFlush (tile : Nat) (bad : List Nat)
  /-- SCRUB_PASS_START (R246). A patrol pass starts at the start of each scrub period, setting SCRUB_LATE if the previous pass overran. -/
  | scrubPassStart (tile : Nat)
  /-- PATROL_READ (R247). The patrol reads the next class 0 line in use, applying correction or lasting-error handling. -/
  | patrolRead (tile : Nat) (bad1 : List Nat) (bad2 : List Nat)
  /-- SCRUB_NOW (R246). A write of MEM_CTL.SCRUB_NOW starts a patrol pass if none is running. -/
  | scrubNow (tile : Nat)
  /-- SPARE_REQ (R255). A write of MEM_CTL.SPARE_REQ starts die sparing for SPARE_DIE or is refused. -/
  | spareReq (tile : Nat) (die : Nat)
  /-- SPARE_COPY_DONE (R256). The sparing copy ends and the spare replaces the old die. -/
  | spareCopyDone (tile : Nat) (lost : List Nat)
  /-- STACK_IF_ERROR (R258). A command parity or write CRC failure is retried once, a second failure being a lasting die fault. -/
  | stackIfError (tile : Nat) (channel : Nat) (lasting : Bool)
  /-- BANK_REFRESH (R259). A channel's refresh interval expires and the next bank is refreshed. -/
  | bankRefresh (tile : Nat) (channel : Nat)
  /-- STACK_TEMP_SAMPLE (R260). The controller samples its dies' sensors and enters or leaves thermal levels. -/
  | stackTempSample (tile : Nat) (readings : List (Option Int))
  /-- ENABLE_SPACE (R265). HIST_CMD ENABLE_SPACE checks the space's object and writes every list and slot free. -/
  | enableSpace (space : Nat) (hostWrites : List Host.Cell)
  /-- DISABLE_SPACE (R291). HIST_CMD DISABLE_SPACE disables a history space. -/
  | disableSpace (space : Nat)
  /-- FREE_LIST (R291). HIST_CMD FREE_LIST writes a list free and frees its slots. -/
  | freeList (space : Nat) (list : Nat)
  /-- FREE_ALL (R291). HIST_CMD FREE_ALL frees every list of a space. -/
  | freeAll (space : Nat)
  /-- HIST_FORWARD (R285). A FORWARD history attention unit expands pages and attends over them. -/
  | histForward (core : Nat)
  /-- HIST_BACKWARD (R287). A BACKWARD history attention unit forms query, up-projection and latent gradients. -/
  | histBackward (core : Nat)
  /-- WRITE_PAGES (R279). A WRITE_PAGES unit writes produced pages from FP32 latents. -/
  | writePages (core : Nat)
  /-- COLLECTIVE_STEP_UNIT (R307). A collective step unit sends or awaits the data of its LEAF and MICRO across devices. -/
  | collectiveStepUnit (unit : Nat)
  /-- COMMIT_UNIT (R37). A commit unit runs on the spine as part of the commit. -/
  | commitUnit (unit : Nat)
  /-- DMA_TRANSFER_UNIT (R377). A spine engine places a DMA transfer unit in its TYPE 1 ring. -/
  | dmaTransferUnit (engine : Nat)
  /-- JOIN (R318). COLL_CMD JOIN checks a job descriptor and sends its digest to device (0, 0). -/
  | join (hostWrites : List Host.Cell)
  /-- LEAVE (R318). COLL_CMD LEAVE in IDLE clears JOINED. -/
  | leave
  /-- COMPARE_NEXT (R341). COLL_CMD COMPARE_NEXT requests a digest comparison at the next COMMIT. -/
  | compareNext
  /-- RESET_WINDOWS (R347). COLL_CMD RESET_WINDOWS empties every straggler window on the job root. -/
  | resetWindows
  /-- JOIN_MSG (R318). Device (0, 0) takes a JOIN message; with all F × P it compares digests and answers every device. -/
  | joinMsg (msg : Bytes)
  /-- JOIN_OUTCOME (R318). A device takes the join outcome and sets JOINED or JOIN_FAIL. -/
  | joinOutcome (msg : Bytes)
  /-- JOIN_TIMEOUT (R318). Not all JOIN messages arrive within COLL_VOTE_TIMEOUT, so no device joins. -/
  | joinTimeout
  /-- NODE (R329). A NODE message segment is added into the parent node, or delivered as the root. -/
  | node (msg : Bytes)
  /-- NODE_HDR (R328). A NODE_HDR message carries a node's flag, amax and saturation counts. -/
  | nodeHdr (msg : Bytes)
  /-- ROW_REQ (R146). An owner takes ROW_REQ entries, updates its sketch and reads each row once. -/
  | rowReq (msg : Bytes)
  /-- ROW_DATA (R332). A requester takes ROW_DATA and stages the rows for lookup. -/
  | rowData (msg : Bytes)
  /-- ROW_GRAD (R169). An owner takes ROW_GRAD entries as nodes of row trees, treating duplicates as data faults. -/
  | rowGrad (msg : Bytes)
  /-- BW_CHANGE (R333). A member takes an owner's Bellwether change list. -/
  | bwChange (msg : Bytes)
  /-- BW_RECORD (R157). A member installs a promoted row's record before the first gather of the step after. -/
  | bwRecord (msg : Bytes)
  /-- SHARD_REQ (R313). A block owner takes a SHARD_REQ and answers with SHARD_DATA, starting its fence. -/
  | shardReq (msg : Bytes)
  /-- SHARD_DATA (R313). A gathering member takes a sharded block and checks its version tag. -/
  | shardData (msg : Bytes)
  /-- STAGE (R45). A STAGE message lands in its tensor's slot for the consuming unit. -/
  | stageMsg (msg : Bytes)
  /-- VOTE_SEND (R334). A device sends its VOTE once its owned-row roots, dense root and findings are complete. -/
  | voteSend
  /-- VOTE (R335). The job root takes a VOTE; with all votes it forms and broadcasts the ROOT_HDR. -/
  | vote (msg : Bytes)
  /-- ROOT_HDR (R336). A device takes the ROOT_HDR, forwards it, checks BW_CHANGE totals and leaves DECIDE. -/
  | rootHdr (msg : Bytes)
  /-- VOTE_TIMEOUT (R337). Votes missing COLL_VOTE_TIMEOUT ticks after the first set VOTE_TIMEOUT and pass to the fault policy. -/
  | voteTimeout
  /-- DIGEST (R342). A referee takes DIGEST messages and judges majority, minority or tie per block. -/
  | digest (msg : Bytes)
  /-- REPAIR_ORDER (R342). A source or minority member takes a REPAIR_ORDER. -/
  | repairOrder (msg : Bytes)
  /-- REPAIR (R345). A minority member writes a repaired block over its copy. -/
  | repair (msg : Bytes)
  /-- NACK (R325). A sender takes a NACK and sends the message again with RESEND. -/
  | nack (msg : Bytes)
  /-- RING_PROD_WRITE (R355). A host write of RING_PROD on a host-produced ring advances the pointer or is ignored. -/
  | ringProdWrite (ring : Nat) (value : Nat) (hostWrites : List Host.Cell)
  /-- RING_CONS_WRITE (R355). A host write of RING_CONS on a host-consumed ring frees entries or is ignored. -/
  | ringConsWrite (ring : Nat) (value : Nat)
  /-- RING_CTL_WRITE (R374). A write of RING_CTL enables or disables a ring and its interrupts. -/
  | ringCtlWrite (ring : Nat) (value : Nat)
  /-- RING_MOD_TIMER (R358). RING_MOD.CLK passing since the first unsignalled entry sends the ring's MSI-X message. -/
  | ringModTimer (ring : Nat)
  /-- RING_FULL_RESUME (R357). A producer waiting on a full ring writes its entry once room returns. -/
  | ringFullResume (ring : Nat)
  /-- RING_WRITE_RETRY (R357). An entry that could not be written is tried again every 256 clk. -/
  | ringWriteRetry (ring : Nat) (ok : Bool)
  /-- FABRIC_SEND_ENTRY (R363). The T24 takes a fabric send entry and sends it in one flit to its destination. -/
  | fabricSendEntry (ring : Nat)
  /-- CHAIN_START (R373). An idle channel whose ring holds an entry starts its chain. -/
  | chainStart (engine : Nat) (channel : Nat)
  /-- DMA_COPY (R369). A COPY descriptor moves each run from source to destination. -/
  | dmaCopy (engine : Nat) (channel : Nat) (fail : Option Nat)
  /-- DMA_ACCUMULATE (R369). An ACCUMULATE descriptor issues one accumulate-write per destination line. -/
  | dmaAccumulate (engine : Nat) (channel : Nat) (fail : Option Nat)
  /-- DMA_FILL (R369). A FILL descriptor writes an 8-byte pattern over each destination run. -/
  | dmaFill (engine : Nat) (channel : Nat) (fail : Option Nat)
  /-- PAGE_WALK (R371). A PAGE_WALK descriptor copies history pages through a page list. -/
  | pageWalk (engine : Nat) (channel : Nat) (fail : Option Nat)
  /-- CHAIN_COMPLETE (R373). A chain's last write reaches its destination, the ring consumer advances and a completion follows. -/
  | chainComplete (engine : Nat) (channel : Nat)
  /-- DMA_LINE_RETRY (R378). A failed line is retried 256 clk later, halting the channel when attempts run out. -/
  | dmaLineRetry (engine : Nat) (channel : Nat) (ok : Bool)
  /-- DMA_PAUSE (R375). DMA_CH_CTL PAUSE pauses a channel at the next line boundary. -/
  | dmaPause (engine : Nat) (value : Nat)
  /-- DMA_RESUME (R375). DMA_CH_CTL RESUME continues a paused or halted channel. -/
  | dmaResume (engine : Nat) (value : Nat)
  /-- DMA_ABORT (R375). DMA_CH_CTL ABORT abandons the chain and writes a completion. -/
  | dmaAbort (engine : Nat) (value : Nat)
  /-- LASER_INTERLOCK_OPEN (R390). LASER_INTLK_N deasserting darkens every feed and lane within 10 µs. -/
  | laserInterlockOpen
  /-- INTERLOCK_HOLD_DONE (R390). The interlock held asserted for 100 ms lets feeds and lanes light. -/
  | interlockHoldDone
  /-- LANE_GROUP_DARK (R391). Every receive lane of a group dark for 100 µs blanks its transmitters. -/
  | laneGroupDark (link : Nat)
  /-- OPEN_FIBRE_PROBE (R391). Every 10 s a blanked group lights its transmitters for 2 ms to probe. -/
  | openFibreProbe (link : Nat)
  /-- PROBE_END (R391). At the end of the 2 ms probe the group stays lit or is blanked again. -/
  | probeEnd (link : Nat) (light : Bool)
  /-- FEED_OVER_POWER (R392). Combined feed input above 24.5 dBm sets the over-power latch and darkens the engine. -/
  | feedOverPower (engine : Nat)
  /-- CLEAR_OVER (R392). A write of FAB_ENG_CTL.CLEAR_OVER releases the over-power latch. -/
  | clearOver (engine : Nat)
  /-- FEED_FAIL (R393). A feed failing makes the engine adjust to the other within 20 µs. -/
  | feedFail (engine : Nat) (feed : Nat)
  /-- FEED_OFF_WRITE (R394). A write of FEED_x_OFF switches a feed's enable, refused unless the other feed is in window. -/
  | feedOffWrite (engine : Nat) (value : Nat)
  /-- FEED_WINDOW_TIMEOUT (R394). A new feed not in window 50 ms after its enable sets FEED_FAULT. -/
  | feedWindowTimeout (engine : Nat) (feed : Nat)
  /-- DATA_FLIT (R396). A receiver takes a DATA flit or frame, checking CRC and SEQ and naking on a gap. -/
  | dataFlit (link : Nat) (flit : Bytes) (crcGood : Bool)
  /-- IDLE_FLIT (R395). A receiver takes an IDLE flit or frame carrying an ACK. -/
  | idleFlit (link : Nat) (ack : Nat) (crcGood : Bool)
  /-- LANE_CHECK (R398). A lane check counts per-lane PRBS31 errors and detects failing lanes. -/
  | laneCheck (link : Nat) (errors : List Nat)
  /-- NAK (R396). A NAK record makes the sender replay data flits from the named SEQ. -/
  | nak (link : Nat) (seq : Nat)
  /-- CREDIT (R405). A CREDIT record grants flits on a VC. -/
  | credit (link : Nat) (vc : Nat) (count : Nat)
  /-- LANE_SWITCH_REQ (R400). A LANE_SWITCH_REQ makes the transmitter send the lane on both fibres and acknowledge. -/
  | laneSwitchReq (link : Nat) (lane : Nat)
  /-- LANE_SWITCH_ACK (R400). A LANE_SWITCH_ACK lets the receiver move to the spare once deskewed. -/
  | laneSwitchAck (link : Nat) (lane : Nat)
  /-- SPARE_DESKEWED (R400). The receiver moves to the deskewed spare at a flit boundary. -/
  | spareDeskewed (link : Nat)
  /-- RETRAIN_REQ (R399). A RETRAIN_REQ record retrains the link at full width or width 4. -/
  | retrainReq (link : Nat) (width : Nat)
  /-- REPLAY_TIMEOUT (R396). ACK not advancing for REPLAY_TIMEOUT clk replays from the oldest unacknowledged flit. -/
  | replayTimeout (link : Nat)
  /-- LINK_RETRAIN_DONE (R399). A retrain ends, leaving the link in service, degraded or out. -/
  | linkRetrainDone (link : Nat) (ok : Bool) (faultRemains : Bool)
  /-- LINK_OUTAGE (R402). Every active receive lane of a link goes dark, putting it in outage. -/
  | linkOutage (link : Nat)
  /-- LIGHT_RETURN (R402). Light returning on a link in outage makes it retrain. -/
  | lightReturn (link : Nat)
  /-- LINK_TRAINED (R418). A plane or tier link finishes training. -/
  | linkTrained (link : Nat)
  /-- REASM_TIMEOUT (R408). A partial message waiting REASM_TIMEOUT clk is discarded. -/
  | reasmTimeout (plane : Nat) (src : Nat)
  /-- PLANE_DISABLE (R419). A write of FAB_PL_CTL.DISABLE takes the plane out after resending its unacknowledged flits. -/
  | planeDisable (plane : Nat) (disable : Bool)
  /-- PLANE_RETRAIN (R419). A write of FAB_PL_CTL.RETRAIN retrains the plane at full width. -/
  | planeRetrain (plane : Nat)
  /-- PLANE_MARGIN (R401). A write of FAB_PL_CTL.MARGIN sweeps the plane's receive spare. -/
  | planeMargin (plane : Nat)
  /-- CARRIER_MARGIN (R401). A write of TLNK_C_CTL.MARGIN sweeps the carrier link's receive spare. -/
  | carrierMargin (carrier : Nat)
  /-- SPARE_MARGIN_DONE (R401). A margin sweep ends and marks the spare unusable if below MARGIN_MIN. -/
  | spareMarginDone (link : Nat) (eyeW : Nat) (eyeH : Nat)
  /-- CARRIER_RETRAIN (R420). A write of TLNK_C_CTL.RETRAIN retrains a carrier link at full width. -/
  | carrierRetrain (carrier : Nat)
  /-- ACCEPT (R417). A write of TLNK_C_CTL.ACCEPT puts a joining carrier into service. -/
  | accept (carrier : Nat)
  /-- READ_DATA (R415). A READ_DATA response returns lines or poison for a tag. -/
  | readData (carrier : Nat) (tag : Nat) (status : Nat)
  /-- WRITE_DONE (R415). A WRITE_DONE response completes a WRITE tag. -/
  | writeDone (carrier : Nat) (tag : Nat) (status : Nat)
  /-- QUIESCED (R417). A QUIESCED response lets a drained carrier be removed. -/
  | quiesced (carrier : Nat)
  /-- HELLO (R416). A carrier's HELLO is checked and makes it joining, or resumes a carrier after outage. -/
  | hello (carrier : Nat) (line : Bytes)
  /-- TAG_TIMEOUT (R415). A tag without response after TAG_TIMEOUT is reissued once, a second timeout failing the carrier. -/
  | tagTimeout (carrier : Nat) (tag : Nat)
  /-- CARRIER_OUTAGE_LIMIT (R417). An outage beyond OUTAGE_LIMIT ticks fails the carrier. -/
  | carrierOutageLimit (carrier : Nat)
  /-- HOST_LINK_UP (R422). The CXL link trains and reissues held requests. -/
  | hostLinkUp (speed : Nat) (width : Nat)
  /-- HOST_LINK_DOWN (R423). A hot reset, link down or PERST_N resets the HOST domain's link state and holds requests. -/
  | hostLinkDown (cause : Nat)
  /-- HOST_RETRAIN_TIMER (R422). A link outside R421 retrains every 100 ms. -/
  | hostRetrainTimer
  /-- HOST_RETRAIN (R444). A write of HOST_CTL.RETRAIN retrains the link. -/
  | hostRetrain
  /-- CXL_RESET (R423). CXL Reset emergency-stops every domain except AON and SMU and resumes start-up at step 6. -/
  | cxlReset
  /-- MEM_RD (R432). A host MemRd or MemRdData reads a row line through the HDM range. -/
  | memRd (hpa : Nat)
  /-- MEM_WR (R432). A host MemWr writes a row line, held by the fence if fenced. -/
  | memWr (hpa : Nat) (data : Bytes)
  /-- MEM_WR_PTL (R432). A host MemWrPtl merges a partial write into a row line. -/
  | memWrPtl (hpa : Nat) (mask : Nat) (data : Bytes)
  /-- MEM_INV (R432). A host MemInv is taken on an HDM line. -/
  | memInv (hpa : Nat)
  /-- H2D_SNOOP (R426). An H2D snoop is answered RspIHitI. -/
  | h2dSnoop (line : Nat)
  /-- D2H_RESPONSE (R427). A response to a T24 CXL.cache request completes it. -/
  | d2hResponse (line : Nat)
  /-- CPL_TIMEOUT (R430). A request without response after HOST_CPL_TIMEOUT fails as a bus error. -/
  | cplTimeout (line : Nat)
  /-- BIRSP (R433). A BIRsp lets the pending write to a tracked line proceed. -/
  | birsp (line : Nat)
  /-- BI_TIMEOUT (R434). An unanswered BISnp is resent once, then dropped with BI_TIMEOUT. -/
  | biTimeout (line : Nat)
  /-- HDM_COMMIT (R431). Committing the HDM decoder starts decoding its range. -/
  | hdmCommit (base : Nat) (size : Nat) (ways : Nat)
  /-- DOE_OBJECT (R442). The DOE instance takes an SPDM, secured SPDM, CDAT or discovery object. -/
  | doeObject (object : Bytes)
  /-- IDE_FAIL (R443). An IDE stream leaving the secure state blocks traffic under REQUIRE and sets IDE_FAIL. -/
  | ideFail (stream : Nat)
  /-- IDENTIFY (R441). Mailbox IDENTIFY returns the part, stepping, rank, flags and identity. -/
  | identify (value : Nat)
  /-- SET_TICK (R506). Mailbox SET_TICK arms a tick value for the next marker. -/
  | setTick (value : Nat)
  /-- LOAD_PROGRAM (R440). Mailbox LOAD_PROGRAM reads, verifies and checks a program image and loads it or swaps it. -/
  | loadProgram (value : Nat) (hostWrites : List Host.Cell) (readFails : Bool)
  /-- UNLOAD_PROGRAM (R439). Mailbox UNLOAD_PROGRAM discards the program in IDLE with RUN 0. -/
  | unloadProgram (value : Nat)
  /-- LOAD_FIRMWARE (R537). Mailbox LOAD_FIRMWARE reads and verifies a firmware package and makes it pending. -/
  | loadFirmware (value : Nat) (hostWrites : List Host.Cell) (readFails : Bool) (refusal : Nat)
  /-- CHECKPOINT_STATUS (R465). CHECKPOINT STATUS returns GEN, DONE_GEN, D and the last complete END_STEP. -/
  | checkpointStatus (value : Nat)
  /-- BASE_NOW (R465). CHECKPOINT BASE_NOW abandons the generation in progress and starts one at the next COMMIT. -/
  | baseNow (value : Nat)
  /-- RESTORE_BEGIN (R465). RESTORE BEGIN sets the resume step. -/
  | restoreBegin (value : Nat)
  /-- RESTORE_SOURCE (R466). RESTORE SOURCE reads one base or delta extent and takes its records. -/
  | restoreSource (value : Nat) (hostWrites : List Host.Cell)
  /-- RESTORE_FINISH (R468). RESTORE FINISH sets the step, loss scale, histories, digests, COST and mode. -/
  | restoreFinish (value : Nat)
  /-- RESTORE_ABORT (R465). RESTORE ABORT abandons a restore. -/
  | restoreAbort (value : Nat)
  /-- BASE_DRAIN (R457). The snapshot buffer drains captured segments onto the base ring, ending with BASE_END. -/
  | baseDrain
  /-- DOMAIN_ENABLE (R481). Setting a domain's enable raises its rails and starts it when its parent is ON, or sets PENDING_ENABLE. -/
  | domainEnable (value : Nat)
  /-- DOMAIN_DISABLE (R483). Clearing a domain's enable starts an orderly stop, or is refused. -/
  | domainDisable (value : Nat)
  /-- DOMAIN_ON (R481). A domain finishes STARTING and enters ON, reloading its RWL fields. -/
  | domainOn (domain : Nat) (badDies : List (Nat × Nat))
  /-- DRAIN_LIMIT_EXPIRY (R484). PWR_DRAIN_LIMIT expiring ends a core group's running units and returns them. -/
  | drainLimitExpiry (domain : Nat)
  /-- DOMAIN_OFF (R481). A domain finishes STOPPING, enters OFF and may lower rails or act on a pending enable. -/
  | domainOff (domain : Nat)
  /-- RAIL_POWER_GOOD (R472). RAIL_PG_n asserting lets the T24 request the rail's target voltage. -/
  | railPowerGood (rail : Nat)
  /-- RAIL_PG_TIMEOUT (R473). Power-good absent 20 ms after enable deasserts the enable for a retry or fails the rail. -/
  | railPgTimeout (rail : Nat)
  /-- RAIL_RETRY_WAIT (R473). After the 1 ms wait the rail enable is asserted once more. -/
  | railRetryWait (rail : Nat)
  /-- RAIL_PG_LOST (R474). RAIL_PG_n deasserting while enabled is a lasting rail fault. -/
  | railPgLost (rail : Nat)
  /-- RAIL_LOWER (R472). A rail whose domains are all OFF is lowered after 10 µs. -/
  | railLower (rail : Nat)
  /-- RAIL_TARGET_WRITE (R476). A write of PWR_RAIL_TGT_n clamps and sends a voltage request over AVSBus. -/
  | railTargetWrite (rail : Nat) (value : Nat)
  /-- AVS_STATUS_POLL (R476). Every 10 µs the T24 reads Status until VDone acknowledges the request. -/
  | avsStatusPoll (bus : Nat) (vdone : Bool) (good : Bool) (mv : Nat)
  /-- AVS_TIMEOUT (R477). A request unacknowledged after 200 µs is retried once, then fails the rail. -/
  | avsTimeout (bus : Nat)
  /-- STANDBY (R489). A write of PWR_CTL.STANDBY stops every domain except AON and SMU. -/
  | standby
  /-- WAKE_N_EDGE (R490). A falling edge on WAKE_N leaves standby. -/
  | wakeNEdge
  /-- WAKE_ALARM (R490). The tick value reaching PWR_WAKE_TICK leaves standby. -/
  | wakeAlarm
  /-- BUDGET_WINDOW (R491). A budget window opens, setting B and the balance. -/
  | budgetWindow
  /-- POWER_SAMPLE (R495). Every 1 µs the power monitor samples the rails and updates the gate level and clamp stage. -/
  | powerSample (decimA : List Nat) (mv : List Nat)
  /-- LOGIC_TEMP_SAMPLE (R500). The logic die sensors are sampled and warn or throttle levels change. -/
  | logicTempSample (readings : List Int)
  /-- THERMAL_TRIP (R501). The comparator reaching 105 °C asserts THERMTRIP_N and emergency-stops every domain. -/
  | thermalTrip
  /-- TRIP_CLEAR (R501). A write of PWR_CTL.TRIP_CLEAR releases THERMTRIP_N when every sensor reads below 90 °C. -/
  | tripClear
  /-- DRONE_TICK (R504). A rising edge on the tick pair increments the tick value and drives tick counts. -/
  | droneTick (onTime : Bool)
  /-- EPOCH_MARKER (R507). An epoch marker takes an armed SET_TICK value or corrects slip. -/
  | epochMarker (onTime : Bool)
  /-- DRONE_EDGE_TIMEOUT (R508). No edge within 1.5 µs enters holdover. -/
  | droneEdgeTimeout
  /-- HOLDOVER_TICK (R508). In holdover a tick is supplied every 100 REF_CLK periods. -/
  | holdoverTick
  /-- AON_POWER_GOOD (R578). The AON supplies reaching their thresholds for 1 ms reset the device and start start-up. -/
  | aonPowerGood
  /-- AON_SUPPLY_LOSS (R578). An AON supply falling below its limit floats AON outputs. -/
  | aonSupplyLoss
  /-- RESET_N (R513). RESET_N asserted for 10 µs resets every domain except SMU and restarts start-up on deassertion. -/
  | resetN (asserted : Bool)
  /-- STARTUP (R521). Start-up runs the ROM, derives keys, reads and verifies the image, loads configuration and raises rails. -/
  | startup (boot : BootRead)
  /-- STARTUP_READY (R521). Start-up reaches ready: RWL fields lock, BAR0 decodes and READY sets. -/
  | startupReady (us : Nat)
  /-- MANAGEMENT_RESET (R513). A management reset resets every domain except SMU and restarts start-up. -/
  | managementReset
  /-- LOCKSTEP_MISMATCH (R527). The management pair disagreeing restarts it, or a second within 1 s resets the device. -/
  | lockstepMismatch
  /-- FAULT_EVENT (R543). The management pair takes the next fault event from its queue and applies its class action. -/
  | faultEvent
  /-- SEC_REVOKE (R535). A second matching write to SEC_REVOKE blows a slot's revocation bit. -/
  | secRevoke (slot : Nat)
  /-- TEST_WINDOW_OPEN (R545). At TEST_NEXT a test window opens and runs the enabled items. -/
  | testWindowOpen
  /-- TEST_WINDOW_CLOSE (R545). After TEST_WINDOW ticks the window closes. -/
  | testWindowClose
  /-- SMB_STATUS (R553). SMBus STATUS returns start, power, management status and temperature. -/
  | smbStatus (pec : Bool)
  /-- READ_AON (R553). SMBus READ_AON returns an AON register value. -/
  | readAon (off : Nat) (pec : Bool)
  /-- SMB_WAKE (R553). SMBus WAKE leaves standby with cause 4. -/
  | smbWake (pec : Bool)
  /-- SMB_STANDBY (R553). SMBus STANDBY enters standby as PWR_CTL.STANDBY. -/
  | smbStandby (pec : Bool)
  /-- SMB_RESET (R553). SMBus RESET performs a management reset if RESET_EN. -/
  | smbReset (word : Nat) (pec : Bool)
  /-- SET_CAP (R553). SMBus SET_CAP writes PWR_CAP.CAP if CAP_EN. -/
  | setCap (watts : Nat) (pec : Bool)
  /-- SMB_LOG (R553). SMBus LOG returns the oldest unread AON log entry. -/
  | smbLog (pec : Bool)
  /-- SMB_IDENTIFY (R553). SMBus IDENTIFY returns the IDENTIFY output. -/
  | smbIdentify (pec : Bool)
  /-- ALERT_RESPONSE (R554). A read at the Alert Response Address returns the address and deasserts SMB_ALERT_N. -/
  | alertResponse
  /-- SMU_SESSION_START (R565). The SMU supply rising starts a session with a new SESSION value. -/
  | smuSessionStart
  /-- SMU_SAMPLE (R563). The SMU converters sample together and add energy to each channel. -/
  | smuSample (volts : List Int) (amps : List Int)
  /-- SMU_STEP_MESSAGE (R564). The SMU takes a step message and updates step counters and gaps. -/
  | smuStepMessage
  /-- SMU_TICK_MESSAGE (R560). The SMU takes the Drone tick value once per second. -/
  | smuTickMessage
  /-- SMU_RECORD_CLOSE (R567). At the end of an interval the SMU closes, signs and stores a record. -/
  | smuRecordClose
  /-- CRYSTAL_STOP (R565). The crystal stopping for 2 ms switches the SMU to its internal oscillator. -/
  | crystalStop
  /-- CAL_STATUS (R571). Calibration STATUS returns CAL_EVENTS, seal state and the set in force. -/
  | calStatus (crcGood : Bool)
  /-- CAL_STAGE (R571). Calibration STAGE holds a set as staged while the seal is open. -/
  | calStage (set : Bytes) (crcGood : Bool)
  /-- CAL_COMMIT (R571). Calibration COMMIT programs the staged set into the next slot. -/
  | calCommit (crcGood : Bool)
  /-- SEAL_ASSERT (R571). SMU_SEAL_N asserting increments SEAL_OPENS and marks the interval. -/
  | sealAssert
  /-- SEAL_DEASSERT (R572). SMU_SEAL_N deasserting discards a staged set. -/
  | sealDeassert
  /-- LANE_LOSS_OF_LOCK (R398). A single active lane of a plane or tier link loses lock and becomes failing, leading to sparing or retraining under R399. -/
  | laneLossOfLock (link : Nat) (lane : Nat)
  /-- LASER_INTERLOCK_CLOSE (R390). LASER_INTLK_N asserting sets FAB_ENG_STATUS.INTLK and starts the unbroken 100 ms hold before feeds and lanes may light. -/
  | laserInterlockClose
  /-- SMU_SUPPLY_LOSS (R595). Loss of the SMU supply ends the SMU session, discards a staged set and makes the mirror read 0xFFFF_FFFF while training continues. -/
  | smuSupplyLoss
  /-- CRYSTAL_RETURN (R565). The 32.768 kHz crystal running again lets the SMU leave its internal oscillator and clear CRYSTAL_FAULT. -/
  | crystalReturn
  deriving DecidableEq, Repr

end Sys2Proof
end

