-- ==== Sys2Proof/Decode.lean ====
section
/-! DEFINITION. The words of the command table: spec/opcode_table.json gives no row bits, so no word
spells a command (DESIGN CHOICE, log entry 5). The instruction words of the cores are decoded in Machine/CoreWord.lean. -/

namespace Sys2Proof

/-- The command a word of the table's bits spells: none, since no row of the table has bits. -/
def decodeTableWord (_nbits _w : Nat) : Option Instr := none

end Sys2Proof
end

