-- ==== Sys2Proof/Config.lean ====
section
/-! DEFINITION. What an implementation fixes, and the values the spec leaves open. A constant with
no body is a FREE VALUE: nothing in Lean can evaluate it, so a claim holds whatever it is. -/

namespace Sys2Proof

/-- Cores (00_scope.md). -/
def Config.cores : Nat := 96
/-- Memory tiles (00_scope.md). -/
def Config.tiles : Nat := 24
/-- Carriers of the board tier (R420). -/
def Config.carriers : Nat := 4
/-- Fabric planes (R419). -/
def Config.planes : Nat := 8
/-- Optical engines (00_scope.md). -/
def Config.engines : Nat := 4
/-- Rings (R352). -/
def Config.rings : Nat := 4096
/-- DMA engines (R373). -/
def Config.dmaEngines : Nat := 28
/-- Rails (R471). -/
def Config.rails : Nat := 9
/-- Domains (R480). -/
def Config.domains : Nat := 20
/-- Lines of one stack (R235). -/
def Config.stackLines : Nat := 201326592
/-- Lines of one 2 MiB frame (R206). -/
def Config.frameLines : Nat := 32768
/-- Lines of one DRAM die (R256). -/
def Config.dieLines : Nat := 25165824

/-- A fresh free value for each n: a value the spec leaves open after an operation that goes on.
DESIGN CHOICE, Log entry 6. -/
opaque Config.freeNat : Nat → Nat

/-- SHA3-256, SHA3-384 and SHA3-512 (R43, R517, R529): the functions of their standard, which the
spec names and does not give. DESIGN CHOICE, Log entry 7. -/
opaque Config.sha3 : Nat → List (BitVec 8) → List (BitVec 8)
/-- SHAKE128/SHAKE256 of R340 and R529. DESIGN CHOICE, Log entry 7. -/
opaque Config.shake : Nat → List (BitVec 8) → Nat → List (BitVec 8)
/-- Ed25519 verification: key, message, signature (R533). DESIGN CHOICE, Log entry 7. -/
opaque Config.edVerify : List (BitVec 8) → List (BitVec 8) → List (BitVec 8) → Bool
/-- ML-DSA-65 verification: key, message, signature (R533). DESIGN CHOICE, Log entry 7. -/
opaque Config.mlDsaVerify : List (BitVec 8) → List (BitVec 8) → List (BitVec 8) → Bool
/-- Signature of a message under the device's or the SMU's key of a kind (R530, R550, R569). DESIGN CHOICE, Log entry 7. -/
opaque Config.sign : Nat → List (BitVec 8) → List (BitVec 8)
/-- Whether the CRC-64 of R395 takes a byte's least significant bit first: the spec gives no bit order. PRESUMED, Log entry 8. -/
opaque Config.crc64Low : Bool

/-- Calibration slot 0, programmed at manufacture (R570). DESIGN CHOICE, Log entry 14. -/
opaque Config.calSlot0 : List (BitVec 8)
/-- The SMU's Ed25519 and ML-DSA-65 public keys (R568), by kind 0 and 1. DESIGN CHOICE, Log entry 7. -/
opaque Config.smuPub : Nat → List (BitVec 8)
/-- The three digests of the SMU's ROM (R559), by 0 SHA3-512, 1 SHA-384, 2 SHA3-384. DESIGN CHOICE, Log entry 7. -/
opaque Config.smuRom : Nat → List (BitVec 8)

/-- The DOE response to an object, given the measurement blocks of R549 and the open sessions: SPDM, CDAT and DOE
discovery are protocols the spec names and does not give. DESIGN CHOICE, Log entry 25. -/
opaque Config.doeAnswer : List (BitVec 8) → List (Nat × List (BitVec 8)) → Nat → List (BitVec 8)
/-- Open SPDM sessions after an object, of those before (R442). DESIGN CHOICE, Log entry 25. -/
opaque Config.doeSessions : List (BitVec 8) → Nat → Nat
/-- The IDE streams that are secure after a secured object: bit 0 CXL.cachemem, bit 1 selective, bit 2 link, of those
before (R442, R443). DESIGN CHOICE, Log entry 25. -/
opaque Config.doeIde : List (BitVec 8) → Nat → Nat
/-- What the operand block of a sort-and-scan unit (R163) holds: its table, and by feature the address and stride of the
pooled-output gradients. The spec does not give the block. DESIGN CHOICE, Log entry 36. -/
opaque Config.sortTable : List (BitVec 8) → Nat
/-- The address of the pooled-output gradient of a leaf's sample 0, by feature. DESIGN CHOICE, Log entry 36. -/
opaque Config.sortGrad : List (BitVec 8) → Nat → Nat
/-- Bytes from one sample's gradient to the next, by feature. DESIGN CHOICE, Log entry 36. -/
opaque Config.sortStride : List (BitVec 8) → Nat → Nat
/-- What the operand block of a collective step unit (R307, R313) names, by field 0, mod 3, what it does (0: send a tensor,
1: wait for one, 2: fetch a shard block), 1 the address of the data, 2 its bytes, 3 the tensor, 4 the leaf and 5 the micro-batch of the
unit that takes it, 6 the binding entry and 7 the block, 8 the address a fetched block goes to, 9 the stage it goes to. The spec does not
give the block. DESIGN CHOICE, Log entry 36. -/
opaque Config.stepOperand : List (BitVec 8) → Nat → Nat
/-- Silicon stepping (R441) (DESIGN CHOICE, log entry 147). -/
opaque Config.stepping : Nat
/-- Digests of the management pair's ROM and of its ROM firmware (R549), by hash and target. DESIGN CHOICE, Log entry 7. -/
opaque Config.romDigest : Nat → List (BitVec 8)

end Sys2Proof
end

