-- ==== Sys2Proof/Machine/Bytes.lean ====
section
/-! DEFINITION. Little-endian bytes (R6) and bit ranges (R5): the readers of every structure the
spec lays out by byte offset; the two CRCs. -/

namespace Sys2Proof.Machine

/-- The number a little-endian byte string spells (R6). -/
def leNat : Bytes → Nat
  | [] => 0
  | b :: r => b.toNat + 256 * leNat r

/-- `v` as `n` little-endian bytes (R6). -/
def leBytes : Nat → Nat → Bytes
  | 0, _ => []
  | n + 1, v => BitVec.ofNat 8 v :: leBytes n (v / 256)

/-- `n` bytes at `off`; bytes past the end are not there. -/
def sub (b : Bytes) (off n : Nat) : Bytes := (b.drop off).take n

/-- The u8 at a byte offset. -/
def u8At (b : Bytes) (off : Nat) : Nat := leNat (sub b off 1)
/-- The u16 at a byte offset (R6). -/
def u16At (b : Bytes) (off : Nat) : Nat := leNat (sub b off 2)
/-- The u32 at a byte offset (R6). -/
def u32At (b : Bytes) (off : Nat) : Nat := leNat (sub b off 4)
/-- The u64 at a byte offset (R6). -/
def u64At (b : Bytes) (off : Nat) : Nat := leNat (sub b off 8)

/-- Bits [hi:lo] of a number (R5). -/
def bits (v hi lo : Nat) : Nat := v / 2 ^ lo % 2 ^ (hi + 1 - lo)

/-- Bit `i` of a number (R5). -/
def bit (v i : Nat) : Bool := v / 2 ^ i % 2 == 1

/-- A Bool as the bit it is stored as. -/
def b2n (b : Bool) : Nat := if b then 1 else 0

/-- Every byte of a range is zero: a reserved field (R19). -/
def zeros (b : Bytes) (off n : Nat) : Bool := (sub b off n).all (· == 0)

/-- A zero-filled string. -/
def zeroBytes (n : Nat) : Bytes := List.replicate n 0

/-- `b` cut or zero-filled to `n` bytes. -/
def padTo (n : Nat) (b : Bytes) : Bytes := b.take n ++ zeroBytes (n - b.length)

/-- `b` cut into pieces of `n` bytes; `fuel` bounds the pieces. -/
def chunksFuel : Nat → Nat → Bytes → List Bytes
  | 0, _, _ => []
  | f + 1, n, b => if b.isEmpty then [] else b.take n :: chunksFuel f n (b.drop n)

/-- `b` cut into pieces of `n` bytes, the last one possibly shorter. -/
def chunks (n : Nat) (b : Bytes) : List Bytes := chunksFuel b.length n b

/-- Round up to a multiple of `m`. -/
def ceilTo (m v : Nat) : Nat := (v + m - 1) / m * m

/-- ⌈a / b⌉. -/
def ceilDiv (a b : Nat) : Nat := (a + b - 1) / b

/-- A signed number as `n` bits of two's complement. -/
def ofInt (n : Nat) (v : Int) : Nat := (v % (2 ^ n : Nat)).toNat

/-- `n` bits of two's complement as a number. -/
def toInt (n v : Nat) : Int :=
  if v % 2 ^ n < 2 ^ (n - 1) then (v % 2 ^ n : Nat) else (v % 2 ^ n : Nat) - (2 ^ n : Nat)

/-- Bits of a square root from 2^(f-1) down. -/
def isqrtFrom (n : Nat) : Nat → Nat → Nat
  | 0, r => r
  | f + 1, r => isqrtFrom n f (if (r + 2 ^ f) * (r + 2 ^ f) ≤ n then r + 2 ^ f else r)

/-- The integer square root of a number below 2^(2 * 160). -/
def isqrt (n : Nat) : Nat := isqrtFrom n 160 0

/-- One bit of CRC-32C, least significant bit first (PRESUMED, log entry 8). -/
def crcBit (c : Nat) : Nat := if c % 2 = 1 then c / 2 ^^^ 0x82F63B78 else c / 2

/-- CRC-32C (R323): polynomial 0x1EDC6F41 reflected, initial value and final XOR all ones (PRESUMED, log entry 8). -/
def crc32c (b : Bytes) : Nat :=
  (b.foldl (fun c x => (List.range 8).foldl (fun c _ => crcBit c) (c ^^^ x.toNat)) 0xFFFFFFFF) ^^^ 0xFFFFFFFF

/-- One bit of the CRC-64 of R395, polynomial 0x42F0_E1EB_A9EA_3693, most significant bit first. -/
def crc64Up (c : Nat) : Nat := if 2 ^ 63 ≤ c then 2 * (c - 2 ^ 63) ^^^ 0x42F0E1EBA9EA3693 else 2 * c

/-- The same with the least significant bit first. -/
def crc64Down (c : Nat) : Nat := if c % 2 = 1 then c / 2 ^^^ 0xC96C5795D7870F42 else c / 2

/-- The CRC-64 of R395, initial value and final XOR all ones; which bit of a byte enters it first is open (PRESUMED, log entry 8). -/
def crc64 (b : Bytes) : Nat :=
  let ones := 0xFFFFFFFFFFFFFFFF
  (if Config.crc64Low then b.foldl (fun c x => (List.range 8).foldl (fun c _ => crc64Down c) (c ^^^ x.toNat)) ones
   else b.foldl (fun c x => (List.range 8).foldl (fun c _ => crc64Up c) (c ^^^ x.toNat * 2 ^ 56)) ones) ^^^ ones

end Sys2Proof.Machine
end

