-- ==== Sys2Proof/Machine/RegMap.lean ====
section
/-! DEFINITION. The register map: every register the spec's register tables give BAR0, with each
field's place, access code (R12) and reset value (R16), block by block. An offset no row covers is
a register of reserved bits (R11). -/

namespace Sys2Proof.Machine

/-- Access codes of R12. -/
inductive Access where
  | ro | rw | w1c | w1s | wo | rc | rwl
  deriving DecidableEq, Repr

/-- One field of a register table: name, lowest bit, width, access code, reset value; a register
of an array whose n-th copy resets to (reset + `step` * n) mod 24 gives `step` (EMB_SORT_MAP_n, R161). -/
structure FldRow where
  name : String
  lo : Nat
  w : Nat
  acc : Access
  reset : Nat
  step : Nat
  deriving DecidableEq, Repr

/-- One register: offset from its block, stride and count where it is an array, and whether it is the
low word of a 64-bit pair (R9). -/
structure RegRow where
  name : String
  off : Nat
  stride : Nat
  cnt : Nat
  flds : List FldRow
  pairLow : Bool
  deriving DecidableEq, Repr

/-- The register blocks of BAR0, a block that lies in two domains listed once for each. -/
inductive Block where
  | spine
  | num
  | core
  | emb
  | optShared
  | tile
  | tier
  | hist
  | coll
  | ring
  | ringShared
  | dma
  | dmaShared
  | fabSafety
  | fab
  | plane
  | tlnk
  | carrier
  | host
  | pwr
  | drone
  | mgmt
  | sec
  | test
  | smu
  deriving DecidableEq, Repr

/-- Shorthand of the table below. -/
def fld (name : String) (lo w : Nat) (acc : Access) (reset : Nat) : FldRow :=
  { name := name, lo := lo, w := w, acc := acc, reset := reset, step := 0 }

/-- Shorthand of the table below: one register. -/
def reg1 (name : String) (off : Nat) (flds : List FldRow) : RegRow :=
  { name := name, off := off, stride := 4, cnt := 1, flds := flds, pairLow := false }

/-- Shorthand of the table below: the low word of a 64-bit pair (R9). -/
def reg1L (name : String) (off : Nat) (flds : List FldRow) : RegRow :=
  { reg1 name off flds with pairLow := true }

/-- Shorthand of the table below: an array of registers. -/
def regN (name : String) (off stride cnt : Nat) (flds : List FldRow) : RegRow :=
  { name := name, off := off, stride := stride, cnt := cnt, flds := flds, pairLow := false }

/-- Shorthand of the table below: an array of low words (R9). -/
def regNL (name : String) (off stride cnt : Nat) (flds : List FldRow) : RegRow :=
  { regN name off stride cnt flds with pairLow := true }

/-- Block spine: the register tables of R57 (01_step.md), R470 (14_continuity.md). -/
def RegMap.spine : List RegRow :=
  [reg1 "SPINE_STATUS" 0x0 [fld "LOADED" 11 1 .ro 0, fld "ADMIT_NEXT" 10 1 .ro 0, fld "MODE_PEND" 9 1 .ro 0, fld "MODE" 8 1 .ro 1, fld "STEP_STATE" 0 3 .ro 0],
   reg1 "SPINE_CTL" 0x4 [fld "MODE_REQ" 2 1 .rw 1, fld "HALT_REQ" 1 1 .rw 0, fld "RUN" 0 1 .rw 0],
   reg1L "SPINE_STEP_LO" 0x8 [fld "STEP" 0 32 .rw 0],
   reg1 "SPINE_STEP_HI" 0xC [fld "STEP" 0 32 .rw 0],
   reg1 "SPINE_LEAF_CFG" 0x10 [fld "LEAF_SAMPLES" 16 16 .ro 0, fld "LEAF_LOG2" 0 5 .ro 0],
   reg1 "SPINE_WDOG" 0x14 [fld "LIMIT" 0 32 .rw 0x4c4b40],
   reg1 "SPINE_SKIP_CNT" 0x18 [fld "SKIPS" 0 32 .ro 0],
   reg1 "SPINE_DEFER_CNT" 0x1C [fld "DEFERRED" 0 32 .rc 0],
   reg1 "SPINE_POOL0" 0x20 [fld "IN_POOL" 0 32 .ro 0],
   reg1 "SPINE_POOL1" 0x24 [fld "IN_POOL" 0 32 .ro 0],
   reg1 "SPINE_POOL2" 0x28 [fld "IN_POOL" 0 32 .ro 0],
   reg1 "SPINE_INT_STATUS" 0x30 [fld "LOAD_FAIL" 6 1 .w1c 0, fld "MODE_FAIL" 5 1 .w1c 0, fld "COMMIT_FAULT" 4 1 .w1c 0, fld "WDOG" 3 1 .w1c 0, fld "LEAF_MISMATCH" 2 1 .w1c 0, fld "SKIP" 1 1 .w1c 0, fld "COMMIT" 0 1 .w1c 0],
   reg1 "SPINE_INT_EN" 0x34 [fld "EN" 0 7 .rw 0],
   reg1 "SPINE_LOAD_ERR" 0x38 [fld "CAUSE" 28 4 .ro 0, fld "UNIT" 0 24 .ro 0],
   reg1 "SPINE_STARVE" 0x3C [fld "TICKS" 0 32 .rc 0],
   reg1L "SPINE_COMMIT_TICK_LO" 0x40 [fld "TICK" 0 32 .ro 0],
   reg1 "SPINE_COMMIT_TICK_HI" 0x44 [fld "TICK" 0 32 .ro 0],
   reg1L "SPINE_WMARK_LO" 0x48 [fld "WMARK" 0 32 .ro 0],
   reg1 "SPINE_WMARK_HI" 0x4C [fld "WMARK" 0 32 .ro 0],
   regN "SPINE_BLOCK" 0x100 4 32 [fld "VALID" 31 1 .ro 0, fld "LOG2_SIZE" 16 5 .ro 0, fld "BASE" 0 16 .ro 0],
   reg1 "CKPT_CFG" 0x400 [fld "DELTA_RING" 16 12 .rwl 0, fld "BASE_RING" 0 12 .rwl 0],
   reg1 "CKPT_CTL" 0x404 [fld "ADAPT" 31 1 .rw 0, fld "MAX_LOST" 0 16 .rw 16],
   reg1 "CKPT_INTERVAL" 0x408 [fld "SECONDS" 0 32 .rw 3600],
   reg1 "CKPT_COST" 0x40C [fld "SECONDS" 0 32 .rw 0],
   reg1 "CKPT_MTBF" 0x410 [fld "SECONDS" 0 32 .rw 0]] ++
  [reg1 "CKPT_EFFECTIVE" 0x414 [fld "SECONDS" 0 32 .ro 3600],
   reg1 "CKPT_STATUS" 0x418 [fld "STATE" 30 2 .ro 0],
   reg1 "CKPT_GEN" 0x41C [fld "GEN" 0 32 .ro 0],
   reg1 "CKPT_DONE_GEN" 0x420 [fld "GEN" 0 32 .ro 0],
   reg1L "CKPT_BASE_LINES_LO" 0x428 [fld "VALUE" 0 32 .ro 0],
   reg1 "CKPT_BASE_LINES_HI" 0x42C [fld "VALUE" 0 32 .ro 0],
   reg1L "CKPT_BASE_DONE_LO" 0x430 [fld "VALUE" 0 32 .ro 0],
   reg1 "CKPT_BASE_DONE_HI" 0x434 [fld "VALUE" 0 32 .ro 0],
   reg1L "CKPT_DONE_END_LO" 0x438 [fld "VALUE" 0 32 .ro 0],
   reg1 "CKPT_DONE_END_HI" 0x43C [fld "VALUE" 0 32 .ro 0],
   reg1L "CKPT_DURABLE_LO" 0x440 [fld "VALUE" 0 32 .ro 0],
   reg1 "CKPT_DURABLE_HI" 0x444 [fld "VALUE" 0 32 .ro 0],
   reg1 "CKPT_LOST_WAIT" 0x448 [fld "COUNT" 0 32 .rc 0],
   reg1 "CKPT_HOLD" 0x44C [fld "COUNT" 0 32 .rc 0],
   reg1 "CKPT_RESTORE_IGN" 0x450 [fld "COUNT" 0 32 .rc 0],
   reg1 "CKPT_SNAP_LINES" 0x454 [fld "LINES" 0 32 .rwl 0],
   reg1 "CKPT_INT_STATUS" 0x460 [fld "RESTORE_ERR" 5 1 .w1c 0, fld "RESTORE_DONE" 4 1 .w1c 0, fld "LOST_WAIT" 3 1 .w1c 0, fld "BASE_ABANDON" 2 1 .w1c 0, fld "BASE_LATE" 1 1 .w1c 0, fld "BASE_DONE" 0 1 .w1c 0],
   reg1 "CKPT_INT_EN" 0x464 [fld "EN" 0 6 .rw 0],
   reg1 "CKPT_RESTORE_ERR" 0x468 [fld "CAUSE" 28 4 .ro 0, fld "SRC" 0 12 .ro 0]]

/-- Block num: the register tables of R92 (02_numerics.md). -/
def RegMap.num : List RegRow :=
  [reg1 "NUM_LS_CFG" 0x0 [fld "GROW" 16 16 .rw 2000, fld "INIT_LOG2" 0 5 .rw 16],
   reg1 "NUM_LS_CTL" 0x4 [fld "LOAD" 0 1 .wo 0],
   reg1 "NUM_LS_STATUS" 0x8 [fld "CLEAN" 16 16 .ro 0, fld "CUR_LOG2" 0 5 .ro 16],
   reg1 "NUM_LS_FLOOR_CNT" 0xC [fld "FLOOR" 0 32 .ro 0],
   reg1 "NUM_NF_LEAVES" 0x10 [fld "LEAVES" 0 32 .rc 0],
   reg1 "NUM_NF_FIRST" 0x14 [fld "VALID" 31 1 .ro 0, fld "TAG" 16 12 .ro 0, fld "LEAF" 0 16 .ro 0],
   reg1 "NUM_OPT_NF" 0x18 [fld "COUNT" 0 32 .rc 0],
   reg1 "NUM_AMAX_NF" 0x1C [fld "COUNT" 0 32 .rc 0],
   reg1 "NUM_INT_STATUS" 0x20 [fld "AMAX_NF" 3 1 .w1c 0, fld "SAT_CORR" 2 1 .w1c 0, fld "OPT_NF" 1 1 .w1c 0, fld "LS_FLOOR" 0 1 .w1c 0],
   reg1 "NUM_INT_EN" 0x24 [fld "EN" 0 4 .rw 0],
   reg1 "NUM_TAG_SEL" 0x40 [fld "TAG" 0 12 .rw 0],
   reg1 "NUM_TAG_CFG" 0x44 [fld "ENABLE" 31 1 .rw 0, fld "HIST_LEN" 16 7 .rw 16, fld "E_INIT" 8 8 .rw 0, fld "FORMAT" 0 4 .rw 3],
   reg1 "NUM_TAG_SAT_THRESH" 0x48 [fld "THRESH" 0 32 .rw 0],
   reg1 "NUM_TAG_SCALE" 0x4C [fld "CORR_CNT" 16 16 .ro 0, fld "E" 0 8 .ro 0],
   reg1 "NUM_TAG_AMAX_HIST" 0x50 [fld "AMAX" 0 32 .ro 0],
   reg1 "NUM_TAG_AMAX_LAST" 0x54 [fld "AMAX" 0 32 .ro 0],
   reg1L "NUM_TAG_SAT_LO" 0x58 [fld "SAT" 0 32 .ro 0],
   reg1 "NUM_TAG_SAT_HI" 0x5C [fld "SAT" 0 32 .ro 0],
   reg1 "NUM_TAG_NORM_W" 0x60 [fld "SUMSQ" 0 32 .ro 0],
   reg1 "NUM_TAG_NORM_G" 0x64 [fld "SUMSQ" 0 32 .ro 0],
   reg1 "NUM_TAG_NORM_U" 0x68 [fld "SUMSQ" 0 32 .ro 0],
   reg1L "NUM_NORM_STEP_LO" 0x70 [fld "STEP" 0 32 .ro 0],
   reg1 "NUM_NORM_STEP_HI" 0x74 [fld "STEP" 0 32 .ro 0]]

/-- Block core: the register tables of R129 (03_matrix_and_chanter.md). -/
def RegMap.core : List RegRow :=
  [reg1 "CORE_STATUS" 0x0 [fld "IN_POOL" 31 1 .ro 0, fld "STATE" 0 3 .ro 0],
   reg1 "CORE_CTL" 0x4 [fld "REQUEUE" 2 1 .w1s 0, fld "DRAIN" 1 1 .rw 0, fld "SELFTEST_REQ" 0 1 .w1s 0],
   reg1 "CORE_UNIT" 0x8 [fld "VALID" 31 1 .ro 0, fld "UNIT" 0 24 .ro 0],
   reg1 "CORE_INT_STATUS" 0x10 [fld "RETIRED" 4 1 .w1c 0, fld "SELFTEST_DONE" 3 1 .w1c 0, fld "HW_ERR" 2 1 .w1c 0, fld "XFER_ERR" 1 1 .w1c 0, fld "ILLEGAL" 0 1 .w1c 0],
   reg1 "CORE_INT_EN" 0x14 [fld "EN" 0 5 .rw 0],
   reg1 "CORE_ERR" 0x18 [fld "CAUSE" 28 4 .ro 0, fld "INDEX" 0 24 .ro 0],
   reg1 "CORE_ERR_UNIT" 0x1C [fld "UNIT" 0 24 .ro 0],
   reg1 "CORE_CE_CNT" 0x20 [fld "COUNT" 0 32 .rc 0],
   reg1 "CORE_UE_CNT" 0x24 [fld "COUNT" 0 32 .ro 0],
   reg1 "CORE_SELFTEST" 0x28 [fld "RUNS" 16 16 .ro 0, fld "RESULT" 0 2 .ro 0],
   reg1L "CORE_MMA_CLK_LO" 0x30 [fld "CLK" 0 32 .ro 0],
   reg1 "CORE_MMA_CLK_HI" 0x34 [fld "CLK" 0 32 .ro 0],
   reg1L "CORE_VEC_CLK_LO" 0x38 [fld "CLK" 0 32 .ro 0],
   reg1 "CORE_VEC_CLK_HI" 0x3C [fld "CLK" 0 32 .ro 0],
   reg1L "CORE_UNITS_LO" 0x40 [fld "UNITS" 0 32 .ro 0],
   reg1 "CORE_UNITS_HI" 0x44 [fld "UNITS" 0 32 .ro 0]]

/-- Block emb: the register tables of R161 (04_embedding_lookup.md). -/
def RegMap.emb : List RegRow :=
  [reg1L "EMB_TDA_LO" 0x0 [fld "ADDR" 0 32 .rw 0],
   reg1 "EMB_TDA_HI" 0x4 [fld "ADDR" 0 32 .rw 0],
   reg1 "EMB_TBL_CMD" 0x8 [fld "OP" 30 2 .wo 0, fld "TABLE" 0 12 .wo 0],
   reg1 "EMB_TBL_CMD_STATUS" 0xC [fld "BUSY" 31 1 .ro 0, fld "RESULT" 0 4 .ro 0],
   reg1 "EMB_TBL_SEL" 0x10 [fld "TABLE" 0 12 .rw 0],
   reg1 "EMB_TBL_STATE" 0x14 [fld "ENABLED" 31 1 .ro 0, fld "BW_ROWS" 0 25 .ro 0],
   reg1L "EMB_TBL_LOOKUPS_LO" 0x18 [fld "COUNT" 0 32 .ro 0],
   reg1 "EMB_TBL_LOOKUPS_HI" 0x1C [fld "COUNT" 0 32 .ro 0],
   reg1L "EMB_TBL_MISSING_LO" 0x20 [fld "COUNT" 0 32 .ro 0],
   reg1 "EMB_TBL_MISSING_HI" 0x24 [fld "COUNT" 0 32 .ro 0],
   reg1L "EMB_TBL_INVALID_LO" 0x28 [fld "COUNT" 0 32 .ro 0],
   reg1 "EMB_TBL_INVALID_HI" 0x2C [fld "COUNT" 0 32 .ro 0],
   reg1L "EMB_TBL_DROPPED_LO" 0x30 [fld "COUNT" 0 32 .ro 0],
   reg1 "EMB_TBL_DROPPED_HI" 0x34 [fld "COUNT" 0 32 .ro 0],
   reg1L "EMB_TBL_DEFAULTED_LO" 0x38 [fld "COUNT" 0 32 .ro 0],
   reg1 "EMB_TBL_DEFAULTED_HI" 0x3C [fld "COUNT" 0 32 .ro 0],
   reg1L "EMB_TBL_DISTINCT_LO" 0x40 [fld "COUNT" 0 32 .ro 0],
   reg1 "EMB_TBL_DISTINCT_HI" 0x44 [fld "COUNT" 0 32 .ro 0],
   reg1 "EMB_TBL_BW_PROMOTED" 0x50 [fld "COUNT" 0 32 .rc 0],
   reg1 "EMB_TBL_BW_DEMOTED" 0x54 [fld "COUNT" 0 32 .rc 0],
   reg1 "EMB_TBL_BW_REFUSED" 0x58 [fld "COUNT" 0 32 .rc 0],
   reg1L "EMB_TBL_NEXT_DECAY_LO" 0x60 [fld "TICK" 0 32 .ro 0],
   reg1 "EMB_TBL_NEXT_DECAY_HI" 0x64 [fld "TICK" 0 32 .ro 0],
   reg1 "EMB_BW_CAP" 0x70 [fld "LINES" 0 32 .rwl 0],
   reg1 "EMB_BW_USED" 0x74 [fld "LINES" 0 32 .ro 0]] ++
  [reg1 "EMB_INT_STATUS" 0x78 [fld "BW_CHANGE" 5 1 .w1c 0, fld "BW_REFUSED" 4 1 .w1c 0, fld "UNIT_ERR" 3 1 .w1c 0, fld "BAG_ERR" 2 1 .w1c 0, fld "CMD_FAIL" 1 1 .w1c 0, fld "CMD_DONE" 0 1 .w1c 0],
   reg1 "EMB_INT_EN" 0x7C [fld "EN" 0 6 .rw 0],
   reg1 "EMB_BAG_ERR" 0x80 [fld "CAUSE" 28 4 .ro 0, fld "TABLE" 16 12 .ro 0, fld "FEATURE" 0 16 .ro 0],
   reg1 "EMB_UNIT_ERR" 0x84 [fld "CAUSE" 28 4 .ro 0, fld "UNIT" 0 24 .ro 0],
   regN "EMB_SORT_MAP" 0x100 4 24 [⟨"ENTRY3", 24, 8, .ro, 3, 4⟩, ⟨"ENTRY2", 16, 8, .ro, 2, 4⟩, ⟨"ENTRY1", 8, 8, .ro, 1, 4⟩, ⟨"ENTRY0", 0, 8, .ro, 0, 4⟩]]

/-- Block optShared: the register tables of R199 (05_sparse_update.md). -/
def RegMap.optShared : List RegRow :=
  [reg1 "OPT_TAIL_CFG" 0x400 [fld "TAIL_RINGS" 16 5 .rwl 0, fld "STALE_K" 0 3 .rw 1],
   reg1 "OPT_TAIL_CTL" 0x404 [fld "DRAIN" 0 1 .w1s 0],
   reg1 "OPT_TAIL_ACK_TIMEOUT" 0x408 [fld "LIMIT" 0 32 .rw 0x186a0],
   reg1L "OPT_TAIL_RECORDS_LO" 0x410 [fld "COUNT" 0 32 .ro 0],
   reg1 "OPT_TAIL_RECORDS_HI" 0x414 [fld "COUNT" 0 32 .ro 0],
   reg1L "OPT_TAIL_ACK_STEP_LO" 0x418 [fld "STEP" 0 32 .ro 0],
   reg1 "OPT_TAIL_ACK_STEP_HI" 0x41C [fld "STEP" 0 32 .ro 0],
   reg1 "OPT_TAIL_WAIT" 0x420 [fld "COUNT" 0 32 .rc 0],
   reg1 "OPT_TAIL_STALE" 0x424 [fld "COUNT" 0 32 .rc 0],
   reg1 "OPT_STAGE_WAIT" 0x428 [fld "COUNT" 0 32 .rc 0],
   reg1 "OPT_PARAM_ERR" 0x42C [fld "CAUSE" 28 4 .ro 0, fld "TABLE" 0 12 .ro 0],
   reg1 "OPT_INT_STATUS" 0x430 [fld "TAIL_RING_FULL" 6 1 .w1c 0, fld "STAGE_WAIT" 5 1 .w1c 0, fld "PENDING_OVF" 4 1 .w1c 0, fld "VERSION_RETRY" 3 1 .w1c 0, fld "PARAM_ERR" 2 1 .w1c 0, fld "TAIL_TIMEOUT" 1 1 .w1c 0, fld "TAIL_ACK_FAIL" 0 1 .w1c 0],
   reg1 "OPT_INT_EN" 0x434 [fld "EN" 0 7 .rw 0]]

/-- Block tile: the register tables of R162 (04_embedding_lookup.md), R200 (05_sparse_update.md), R263 (07_stacked_memory.md). -/
def RegMap.tile : List RegRow :=
  [reg1 "EMB_SLICE_STATUS" 0x0 [fld "DRAINED" 3 1 .ro 0, fld "SKETCH_BUSY" 2 1 .ro 0, fld "LOOKUP_BUSY" 1 1 .ro 0, fld "SORT_BUSY" 0 1 .ro 0],
   reg1L "EMB_SLICE_KEYS_LO" 0x8 [fld "COUNT" 0 32 .ro 0],
   reg1 "EMB_SLICE_KEYS_HI" 0xC [fld "COUNT" 0 32 .ro 0],
   reg1L "EMB_SLICE_LINES_LO" 0x10 [fld "COUNT" 0 32 .ro 0],
   reg1 "EMB_SLICE_LINES_HI" 0x14 [fld "COUNT" 0 32 .ro 0],
   reg1L "EMB_SLICE_MCAST_LO" 0x18 [fld "COUNT" 0 32 .ro 0],
   reg1 "EMB_SLICE_MCAST_HI" 0x1C [fld "COUNT" 0 32 .ro 0],
   reg1L "EMB_SLICE_POOL_LO" 0x20 [fld "COUNT" 0 32 .ro 0],
   reg1 "EMB_SLICE_POOL_HI" 0x24 [fld "COUNT" 0 32 .ro 0],
   reg1 "EMB_SLICE_SKETCH_UPD" 0x28 [fld "COUNT" 0 32 .rc 0],
   reg1 "OPT_UNIT_STATUS" 0x100 [fld "PENDING_OVF" 2 1 .ro 0, fld "PREFETCH" 1 1 .ro 0, fld "BUSY" 0 1 .ro 0],
   reg1L "OPT_ROWS_LO" 0x108 [fld "COUNT" 0 32 .ro 0],
   reg1 "OPT_ROWS_HI" 0x10C [fld "COUNT" 0 32 .ro 0],
   reg1L "OPT_T2_ROWS_LO" 0x110 [fld "COUNT" 0 32 .ro 0],
   reg1 "OPT_T2_ROWS_HI" 0x114 [fld "COUNT" 0 32 .ro 0],
   reg1L "OPT_TAIL_ROWS_LO" 0x118 [fld "COUNT" 0 32 .ro 0],
   reg1 "OPT_TAIL_ROWS_HI" 0x11C [fld "COUNT" 0 32 .ro 0],
   reg1L "OPT_ELEM_OPS_LO" 0x120 [fld "COUNT" 0 32 .ro 0],
   reg1 "OPT_ELEM_OPS_HI" 0x124 [fld "COUNT" 0 32 .ro 0],
   reg1 "OPT_PENDING" 0x128 [fld "ENTRIES" 0 21 .ro 0],
   reg1 "OPT_VERSION_RETRY" 0x12C [fld "COUNT" 0 32 .rc 0],
   reg1L "OPT_OVF_STEP_LO" 0x130 [fld "STEP" 0 32 .ro 0],
   reg1 "OPT_OVF_STEP_HI" 0x134 [fld "STEP" 0 32 .ro 0],
   reg1 "OPT_STAGE_INIT" 0x138 [fld "LINES" 0 32 .rwl 0],
   reg1 "OPT_STAGE_LINES" 0x13C [fld "LINES" 0 32 .ro 0]] ++
  [reg1 "MEM_STATUS" 0x200 [fld "STATE" 30 2 .ro 0, fld "THERM" 28 2 .ro 0, fld "TEMP_FAIL" 27 1 .ro 0, fld "SCRUB_BUSY" 26 1 .ro 0],
   reg1 "MEM_CTL" 0x204 [fld "SPARE_DIE" 8 4 .rw 0, fld "SCRUB_NOW" 1 1 .w1s 0, fld "SPARE_REQ" 0 1 .w1s 0],
   reg1 "MEM_TEMP" 0x208 [fld "HOT_DIE" 16 4 .ro 0, fld "TEMP" 0 16 .ro 0],
   reg1 "MEM_SPARE" 0x20C [fld "STATE" 30 2 .ro 0, fld "DIE" 8 3 .ro 0, fld "CAUSE" 0 4 .ro 0],
   reg1 "MEM_SPARE_LEFT" 0x210 [fld "LINES" 0 32 .ro 0],
   reg1 "MEM_SPARE_RATE" 0x214 [fld "LINES" 0 3 .rw 1],
   reg1 "MEM_CE_THRESH" 0x218 [fld "COUNT" 0 32 .rw 4096],
   regN "MEM_DIE_CE" 0x220 4 9 [fld "COUNT" 0 32 .rc 0],
   reg1 "MEM_UE_CNT" 0x250 [fld "COUNT" 0 32 .ro 0],
   reg1 "MEM_DET_CNT" 0x254 [fld "COUNT" 0 32 .rc 0],
   reg1 "MEM_RECOMP_CNT" 0x258 [fld "COUNT" 0 32 .rc 0],
   reg1 "MEM_ERR_LINE" 0x25C [fld "VALID" 31 1 .ro 0, fld "CLASS" 30 1 .ro 0, fld "LINE" 0 28 .ro 0],
   reg1L "MEM_SCRUB_PERIOD_LO" 0x260 [fld "TICKS" 0 32 .rw 0x1dd76000],
   reg1 "MEM_SCRUB_PERIOD_HI" 0x264 [fld "TICKS" 0 32 .rw 20],
   reg1 "MEM_SCRUB_STATUS" 0x268 [fld "PASSES" 16 16 .ro 0],
   reg1 "MEM_WCB_AGE" 0x26C [fld "CLK" 0 16 .rw 4096],
   reg1 "MEM_WCB_FLUSH" 0x270 [fld "COUNT" 0 32 .rc 0],
   reg1 "MEM_ACC_EVICT" 0x274 [fld "COUNT" 0 32 .rc 0],
   reg1 "MEM_ACC_LINES" 0x278 [fld "LINES" 0 17 .rwl 0],
   regN "MEM_AGED" 0x280 4 4 [fld "COUNT" 0 32 .rc 0],
   reg1 "MEM_INT_STATUS" 0x2A0 [fld "SCRUB_LATE" 10 1 .w1c 0, fld "TEMP_FAIL" 9 1 .w1c 0, fld "THERM3" 8 1 .w1c 0, fld "THERM2" 7 1 .w1c 0, fld "THERM1" 6 1 .w1c 0, fld "NO_SPARE" 5 1 .w1c 0, fld "SPARE_DONE" 4 1 .w1c 0, fld "SPARE_START" 3 1 .w1c 0, fld "DETECTED" 2 1 .w1c 0, fld "UE" 1 1 .w1c 0, fld "IF_RETRY" 0 1 .w1c 0],
   reg1 "MEM_INT_EN" 0x2A4 [fld "EN" 0 11 .rw 0]]

/-- Block tier: the register tables of R233 (06_tiers.md). -/
def RegMap.tier : List RegRow :=
  [reg1 "TIER_STATUS" 0x0 [fld "DIR_FULL" 4 1 .ro 0, fld "T3_EMPTY" 3 1 .ro 1, fld "EVAC_BUSY" 2 1 .ro 0, fld "SWEEP_BUSY" 1 1 .ro 0, fld "DRAIN_BUSY" 0 1 .ro 0],
   reg1 "TIER_CMD" 0x4 [fld "OP" 28 4 .wo 0, fld "TARGET" 0 5 .wo 0],
   reg1 "TIER_CMD_STATUS" 0x8 [fld "BUSY" 31 1 .ro 0, fld "RESULT" 0 8 .ro 0],
   reg1 "TIER_CMD_HANDLE" 0xC [fld "HANDLE" 0 32 .rw 0],
   reg1L "TIER_CMD_ADDR_LO" 0x10 [fld "ADDR" 0 32 .rw 0],
   reg1 "TIER_CMD_ADDR_HI" 0x14 [fld "ADDR" 0 32 .rw 0],
   reg1L "TIER_CMD_ROW_LO" 0x18 [fld "ROW" 0 32 .rw 0],
   reg1 "TIER_CMD_ROW_HI" 0x1C [fld "ROW" 0 32 .rw 0],
   reg1L "TIER_LOC_LO" 0x20 [fld "LINE_LO" 0 32 .ro 0],
   reg1 "TIER_LOC_HI" 0x24 [fld "VERSION" 16 16 .ro 0, fld "CARRIER" 8 2 .ro 0, fld "STATE" 6 2 .ro 0, fld "TIER" 4 2 .ro 0, fld "LINE_HI" 0 4 .ro 0],
   reg1 "TIER_DIR_LINES" 0x30 [fld "LINES" 0 32 .rwl 0],
   reg1 "TIER_T1_RESERVE" 0x34 [fld "LINES" 0 32 .rwl 0],
   reg1 "TIER_TAIL_RATE" 0x38 [fld "SLOTS" 0 32 .rw 0xc3500],
   reg1 "TIER_MIG_RATE" 0x3C [fld "LINES" 0 6 .rw 16],
   reg1L "TIER_T1_FREE_LO" 0x40 [fld "LINES" 0 32 .ro 0],
   reg1 "TIER_T1_FREE_HI" 0x44 [fld "LINES" 0 32 .ro 0],
   reg1L "TIER_T2_FREE_LO" 0x48 [fld "LINES" 0 32 .ro 0],
   reg1 "TIER_T2_FREE_HI" 0x4C [fld "LINES" 0 32 .ro 0],
   reg1 "TIER_CARRIER" 0x50 [fld "STATE" 0 16 .ro 0],
   reg1 "TIER_DRAIN" 0x54 [fld "STATE" 28 4 .ro 0, fld "QUEUED" 24 4 .ro 0, fld "KIND" 16 1 .ro 0, fld "TARGET" 0 5 .ro 0],
   reg1L "TIER_DRAIN_LEFT_LO" 0x58 [fld "LINES" 0 32 .ro 0],
   reg1 "TIER_DRAIN_LEFT_HI" 0x5C [fld "LINES" 0 32 .ro 0],
   reg1 "TIER_PROMOTED" 0x60 [fld "COUNT" 0 32 .rc 0],
   reg1 "TIER_DEMOTED" 0x64 [fld "COUNT" 0 32 .rc 0],
   reg1 "TIER_MIG_RETRY" 0x68 [fld "COUNT" 0 32 .rc 0]] ++
  [reg1 "TIER_TAIL_PROMOTED" 0x6C [fld "COUNT" 0 32 .rc 0],
   reg1 "TIER_TAIL_OVER" 0x70 [fld "COUNT" 0 32 .rc 0],
   reg1 "TIER_NO_ROOM" 0x74 [fld "COUNT" 0 32 .rc 0],
   reg1 "TIER_HOST_MISS" 0x78 [fld "COUNT" 0 32 .rc 0],
   reg1 "TIER_INT_STATUS" 0x80 [fld "CARRIER_CHANGE" 6 1 .w1c 0, fld "DRAIN_FAIL" 5 1 .w1c 0, fld "DRAIN_DONE" 4 1 .w1c 0, fld "PIN_FAIL" 3 1 .w1c 0, fld "NO_ROOM" 2 1 .w1c 0, fld "CMD_FAIL" 1 1 .w1c 0, fld "CMD_DONE" 0 1 .w1c 0],
   reg1 "TIER_INT_EN" 0x84 [fld "EN" 0 7 .rw 0],
   reg1 "TIER_OBJ_SEL" 0x100 [fld "NUMBER" 0 14 .rw 0],
   reg1 "TIER_OBJ_STATE" 0x104 [fld "LIVE" 31 1 .ro 0, fld "GENERATION" 13 18 .ro 0, fld "ALLOWED" 10 3 .ro 0, fld "ECC" 9 1 .ro 0, fld "KIND" 0 8 .ro 0],
   reg1L "TIER_OBJ_T1_LO" 0x108 [fld "COUNT" 0 32 .ro 0],
   reg1 "TIER_OBJ_T1_HI" 0x10C [fld "COUNT" 0 32 .ro 0],
   reg1L "TIER_OBJ_T2_LO" 0x110 [fld "COUNT" 0 32 .ro 0],
   reg1 "TIER_OBJ_T2_HI" 0x114 [fld "COUNT" 0 32 .ro 0],
   reg1 "TIER_OBJ_TAIL" 0x118 [fld "ROWS" 0 32 .ro 0],
   reg1L "TIER_OBJ_NEXT_DECAY_LO" 0x120 [fld "TICK" 0 32 .ro 0],
   reg1 "TIER_OBJ_NEXT_DECAY_HI" 0x124 [fld "TICK" 0 32 .ro 0]]

/-- Block hist: the register tables of R291 (08_history_attention.md). -/
def RegMap.hist : List RegRow :=
  [reg1 "HIST_STATUS" 0x0 [fld "ENABLED" 0 8 .ro 0],
   reg1 "HIST_CMD" 0x4 [fld "OP" 28 4 .wo 0, fld "SPACE" 24 3 .wo 0, fld "LIST" 0 20 .wo 0],
   reg1 "HIST_CMD_STATUS" 0x8 [fld "BUSY" 31 1 .ro 0, fld "RESULT" 0 4 .ro 0],
   reg1 "HIST_SPACE_SEL" 0x10 [fld "SPACE" 0 3 .rw 0],
   reg1 "HIST_SPACE_OBJ" 0x14 [fld "HANDLE" 0 32 .rw 0],
   reg1 "HIST_SPACE_GEOM" 0x18 [fld "FORMAT" 28 4 .rw 3, fld "D" 16 8 .rw 64, fld "H" 10 6 .rw 8, fld "L" 0 10 .rw 256],
   reg1 "HIST_SPACE_LISTS" 0x1C [fld "LISTS" 0 21 .rw 1],
   reg1 "HIST_SPACE_PAGES" 0x20 [fld "PAGES" 0 24 .rw 1],
   reg1 "HIST_SPACE_TAG" 0x24 [fld "TAG" 0 12 .rw 0],
   reg1 "HIST_SPACE_REFRESH" 0x28 [fld "TICKS" 0 32 .rw 0],
   reg1 "HIST_SPACE_FREE" 0x2C [fld "SLOTS" 0 24 .ro 0],
   reg1L "HIST_PRODUCED_LO" 0x40 [fld "COUNT" 0 32 .ro 0],
   reg1 "HIST_PRODUCED_HI" 0x44 [fld "COUNT" 0 32 .ro 0],
   reg1L "HIST_REUSED_LO" 0x48 [fld "COUNT" 0 32 .ro 0],
   reg1 "HIST_REUSED_HI" 0x4C [fld "COUNT" 0 32 .ro 0],
   reg1 "HIST_STALE_USE" 0x50 [fld "COUNT" 0 32 .rc 0],
   reg1 "HIST_EMPTY_ROWS" 0x54 [fld "COUNT" 0 32 .rc 0],
   reg1 "HIST_NEGINF_KEYS" 0x58 [fld "COUNT" 0 32 .rc 0],
   reg1 "HIST_NF_ROWS" 0x5C [fld "COUNT" 0 32 .rc 0],
   reg1 "HIST_INT_STATUS" 0x80 [fld "UNIT_ERR" 6 1 .w1c 0, fld "NF_ROW" 5 1 .w1c 0, fld "STALE_USE" 4 1 .w1c 0, fld "POOL_FULL" 3 1 .w1c 0, fld "ADMIT_ERR" 2 1 .w1c 0, fld "CMD_FAIL" 1 1 .w1c 0, fld "CMD_DONE" 0 1 .w1c 0],
   reg1 "HIST_INT_EN" 0x84 [fld "EN" 0 7 .rw 0],
   reg1 "HIST_ADMIT_ERR" 0x88 [fld "CAUSE" 28 4 .ro 0, fld "ENTRY" 0 28 .ro 0],
   reg1 "HIST_UNIT_ERR" 0x8C [fld "CAUSE" 28 4 .ro 0, fld "UNIT" 0 24 .ro 0]]

/-- Block coll: the register tables of R351 (10_collectives.md). -/
def RegMap.coll : List RegRow :=
  [reg1 "COLL_STATUS" 0x0 [fld "JOINED" 31 1 .ro 0, fld "JOB_ROOT" 30 1 .ro 0, fld "STAGE_ROOT" 29 1 .ro 0, fld "COMPARE_BUSY" 28 1 .ro 0, fld "REPAIR_PEND" 27 1 .ro 0],
   reg1 "COLL_CMD" 0x4 [fld "OP" 28 4 .wo 0],
   reg1 "COLL_CMD_STATUS" 0x8 [fld "BUSY" 31 1 .ro 0, fld "RESULT" 0 4 .ro 0],
   reg1L "COLL_CMD_ADDR_LO" 0x10 [fld "ADDR" 0 32 .rw 0],
   reg1 "COLL_CMD_ADDR_HI" 0x14 [fld "ADDR" 0 32 .rw 0],
   reg1 "COLL_RANK" 0x18 [fld "RANK" 0 12 .rwl 0],
   reg1 "COLL_FLOCK" 0x1C [fld "F" 16 13 .ro 1, fld "INDEX" 0 12 .ro 0],
   reg1 "COLL_PIPE" 0x20 [fld "P" 8 4 .ro 1, fld "STAGE" 0 3 .ro 0],
   reg1L "COLL_JOB_ID_LO" 0x24 [fld "ID" 0 32 .ro 0],
   reg1 "COLL_JOB_ID_HI" 0x28 [fld "ID" 0 32 .ro 0],
   reg1 "COLL_ROOT" 0x2C [fld "JOB_ROOT" 16 12 .ro 0, fld "STAGE_ROOT" 0 12 .ro 0],
   reg1 "COLL_DIGEST_CFG" 0x30 [fld "RETIRE_WIN" 16 8 .rw 8, fld "INTERVAL" 0 16 .rw 64],
   reg1 "COLL_STRAG_CFG" 0x34 [fld "ENABLE" 31 1 .rw 1, fld "WINDOW" 16 8 .rw 16, fld "MOVES" 12 3 .rw 1, fld "THRESH" 0 12 .rw 50],
   reg1 "COLL_VOTE_TIMEOUT" 0x38 [fld "TICKS" 0 32 .rw 50000],
   reg1 "COLL_COMPUTE_TICKS" 0x3C [fld "TICKS" 0 32 .ro 0],
   reg1L "COLL_DIGEST_LAST_LO" 0x40 [fld "STEP" 0 32 .ro 0],
   reg1 "COLL_DIGEST_LAST_HI" 0x44 [fld "STEP" 0 32 .ro 0],
   reg1L "COLL_DIGEST_GOOD_LO" 0x48 [fld "STEP" 0 32 .ro 0],
   reg1 "COLL_DIGEST_GOOD_HI" 0x4C [fld "STEP" 0 32 .ro 0],
   reg1 "COLL_DIGEST_BLOCKS" 0x50 [fld "BLOCKS" 0 32 .ro 0],
   reg1 "COLL_MINORITY" 0x54 [fld "COUNT" 0 32 .rc 0],
   reg1 "COLL_REPAIR_SENT" 0x58 [fld "COUNT" 0 32 .rc 0],
   reg1 "COLL_REPAIR_ABANDON" 0x5C [fld "COUNT" 0 32 .rc 0],
   reg1 "COLL_MSG_RESEND" 0x60 [fld "COUNT" 0 32 .rc 0],
   reg1 "COLL_MSG_DUP" 0x64 [fld "COUNT" 0 32 .rc 0]] ++
  [reg1 "COLL_MSG_ERR" 0x68 [fld "CAUSE" 28 4 .ro 0, fld "TYPE" 20 8 .ro 0, fld "SRC" 0 12 .ro 0],
   reg1 "COLL_INT_STATUS" 0x70 [fld "JOIN_FAIL" 7 1 .w1c 0, fld "VOTE_TIMEOUT" 6 1 .w1c 0, fld "MSG_FAULT" 5 1 .w1c 0, fld "RETIRED" 4 1 .w1c 0, fld "DIGEST_TIE" 3 1 .w1c 0, fld "MINORITY" 2 1 .w1c 0, fld "MOVE" 1 1 .w1c 0, fld "JOINED" 0 1 .w1c 0],
   reg1 "COLL_INT_EN" 0x74 [fld "EN" 0 8 .rw 0],
   reg1 "COLL_MEMBER_SEL" 0x80 [fld "INDEX" 0 12 .rw 0],
   reg1 "COLL_MEMBER_MEAN" 0x84 [fld "TICKS" 0 32 .ro 0],
   reg1 "COLL_MEMBER_STATE" 0x88 [fld "FULL" 31 1 .ro 0, fld "FILL" 24 7 .ro 0, fld "SINCE_MINORITY" 0 16 .ro 65535],
   reg1 "COLL_MOVES" 0x8C [fld "COUNT" 0 32 .rc 0]]

/-- Block ring: the register tables of R381 (11_dma_rings.md). -/
def RegMap.ring : List RegRow :=
  [reg1 "RING_CFG" 0x0 [fld "TYPE" 28 4 .rwl 0, fld "LOG2_ENTRIES" 23 5 .rwl 0, fld "ENGINE" 18 5 .rwl 0, fld "CHANNEL" 11 7 .rwl 0, fld "VECTOR" 0 8 .rwl 0],
   reg1 "RING_PAIR" 0x4 [fld "UNITS" 15 1 .rwl 0, fld "PAIR" 0 12 .rwl 0],
   reg1L "RING_BASE_LO" 0x8 [fld "BASE" 0 32 .rwl 0],
   reg1 "RING_BASE_HI" 0xC [fld "BASE" 0 32 .rwl 0],
   reg1 "RING_PROD" 0x10 [fld "PTR" 0 32 .rw 0],
   reg1 "RING_CONS" 0x14 [fld "PTR" 0 32 .rw 0],
   reg1 "RING_CTL" 0x18 [fld "EMPTY_INT" 2 1 .rw 0, fld "INT_EN" 1 1 .rw 0, fld "ENABLE" 0 1 .rw 0],
   reg1 "RING_MOD" 0x1C [fld "COUNT" 24 8 .rw 1, fld "CLK" 0 24 .rw 0],
   reg1L "RING_WB_LO" 0x20 [fld "ADDR" 0 32 .rw 0],
   reg1 "RING_WB_HI" 0x24 [fld "ADDR" 0 32 .rw 0],
   reg1 "RING_STATUS" 0x28 [fld "ACC_ERR" 5 1 .w1c 0, fld "FULL" 4 1 .ro 0, fld "EMPTY" 3 1 .ro 1, fld "DROP" 2 1 .w1c 0, fld "FULL_WAIT" 1 1 .w1c 0, fld "PTR_ERR" 0 1 .w1c 0],
   reg1 "RING_DROP" 0x2C [fld "COUNT" 0 32 .rc 0]]

/-- Block ringShared: the register tables of R382 (11_dma_rings.md). -/
def RegMap.ringShared : List RegRow :=
  [reg1 "RING_BATCH_ERR" 0x40000 [fld "CAUSE" 28 4 .ro 0, fld "RING" 0 12 .ro 0],
   reg1 "RING_INT_STATUS" 0x40004 [fld "BATCH_ERR" 0 1 .w1c 0],
   reg1 "RING_INT_EN" 0x40008 [fld "EN" 0 1 .rw 0]]

/-- Block dma: the register tables of R383 (11_dma_rings.md). -/
def RegMap.dma : List RegRow :=
  [reg1 "DMA_ENG_STATUS" 0x0 [fld "HALTED" 8 8 .ro 0, fld "ACTIVE" 0 8 .ro 0],
   reg1 "DMA_ENG_CFG" 0x4 [fld "RETRY" 0 4 .rw 3],
   reg1 "DMA_ENG_INT_STATUS" 0x8 [fld "DESC_ERR" 2 1 .w1c 0, fld "HALT" 1 1 .w1c 0, fld "RETRY_OK" 0 1 .w1c 0],
   reg1 "DMA_ENG_INT_EN" 0xC [fld "EN" 0 3 .rw 0],
   reg1L "DMA_ENG_LINES_LO" 0x10 [fld "COUNT" 0 32 .ro 0],
   reg1 "DMA_ENG_LINES_HI" 0x14 [fld "COUNT" 0 32 .ro 0],
   reg1 "DMA_ENG_RETRIES" 0x18 [fld "COUNT" 0 32 .rc 0],
   reg1 "DMA_CH_SEL" 0x20 [fld "CHANNEL" 0 7 .rw 0],
   reg1 "DMA_CH_STATE" 0x24 [fld "STATE" 29 3 .ro 0, fld "RING" 0 12 .ro 0],
   reg1 "DMA_CH_CTL" 0x28 [fld "ABORT" 2 1 .w1s 0, fld "RESUME" 1 1 .w1s 0, fld "PAUSE" 0 1 .w1s 0],
   reg1 "DMA_CH_ERR" 0x2C [fld "CAUSE" 28 4 .ro 0, fld "ATTEMPTS" 24 4 .ro 0],
   reg1L "DMA_CH_DESC_LO" 0x30 [fld "ADDR" 0 32 .ro 0],
   reg1 "DMA_CH_DESC_HI" 0x34 [fld "ADDR" 0 32 .ro 0],
   reg1 "DMA_CH_POS0" 0x38 [fld "I1" 16 16 .ro 0, fld "I0" 0 16 .ro 0],
   reg1 "DMA_CH_POS1" 0x3C [fld "I2" 16 16 .ro 0, fld "LINE" 0 16 .ro 0],
   reg1 "DMA_CH_WALK_EMPTY" 0x40 [fld "COUNT" 0 32 .rc 0]]

/-- Block dmaShared: the register tables of R384 (11_dma_rings.md). -/
def RegMap.dmaShared : List RegRow :=
  [regNL "DMA_WIN_BASE_LO" 0x0 16 8 [fld "HPA" 0 32 .rwl 0],
   regN "DMA_WIN_BASE_HI" 0x4 16 8 [fld "HPA" 0 32 .rwl 0],
   regNL "DMA_WIN_LIMIT_LO" 0x8 16 8 [fld "HPA" 0 32 .rwl 0],
   regN "DMA_WIN_LIMIT_HI" 0xC 16 8 [fld "HPA" 0 32 .rwl 0],
   reg1 "DMA_XFER_RETRY" 0x80 [fld "RETRY" 0 4 .rw 3]]

/-- Block fabSafety: the register tables of R419 (12_optical_links.md). -/
def RegMap.fabSafety : List RegRow :=
  [regN "FAB_ENG_STATUS" 0x0 16 4 [fld "INTLK" 31 1 .ro 0, fld "OVER" 30 1 .ro 0, fld "FEED_B" 28 2 .ro 0, fld "FEED_A" 26 2 .ro 0, fld "DARK" 0 24 .ro 0xffffff],
   regN "FAB_ENG_CTL" 0x4 16 4 [fld "CLEAR_OVER" 2 1 .w1s 0, fld "FEED_B_OFF" 1 1 .rw 0, fld "FEED_A_OFF" 0 1 .rw 0],
   regN "FAB_ENG_POWER" 0x8 16 4 [fld "FEED_B" 16 16 .ro 32768, fld "FEED_A" 0 16 .ro 32768],
   reg1 "FAB_SAFETY_INT_STATUS" 0x40 [fld "OVER_POWER" 3 1 .w1c 0, fld "FEED_FAULT" 2 1 .w1c 0, fld "OPEN_FIBRE" 1 1 .w1c 0, fld "INTLK_OPEN" 0 1 .w1c 0],
   reg1 "FAB_SAFETY_INT_EN" 0x44 [fld "EN" 0 4 .rw 0]]

/-- Block fab: the register tables of R419 (12_optical_links.md). -/
def RegMap.fab : List RegRow :=
  [reg1 "FAB_CFG" 0x100 [fld "REPLAY_TIMEOUT" 16 16 .rw 14000, fld "LANE_ERR_THRESH" 0 16 .rw 16],
   reg1 "FAB_REASM_TIMEOUT" 0x104 [fld "CLK" 0 32 .rw 0x11170],
   reg1 "FAB_MARGIN_MIN" 0x108 [fld "EYE_W" 8 8 .rw 12, fld "EYE_H" 0 8 .rw 24],
   reg1 "FAB_PLANES" 0x10C [fld "IN_SERVICE" 0 8 .ro 0]]

/-- Block plane: the register tables of R419 (12_optical_links.md). -/
def RegMap.plane : List RegRow :=
  [reg1 "FAB_PL_STATUS" 0x0 [fld "STATE" 29 3 .ro 0, fld "DEGRADED" 28 1 .ro 0, fld "RX_SPARE_USED" 15 1 .ro 0, fld "RX_SPARED" 12 3 .ro 0, fld "TX_SPARE_USED" 11 1 .ro 0, fld "TX_SPARED" 8 3 .ro 0, fld "SPARE_BAD" 7 1 .ro 0],
   reg1 "FAB_PL_CTL" 0x4 [fld "MARGIN" 2 1 .w1s 0, fld "DISABLE" 1 1 .rw 0, fld "RETRAIN" 0 1 .w1s 0],
   reg1 "FAB_PL_MARGIN" 0x8 [fld "VALID" 31 1 .ro 0, fld "EYE_W" 8 8 .ro 0, fld "EYE_H" 0 8 .ro 0],
   reg1 "FAB_PL_REPLAY" 0x10 [fld "COUNT" 0 32 .rc 0],
   reg1 "FAB_PL_CRC" 0x14 [fld "COUNT" 0 32 .rc 0],
   reg1 "FAB_PL_REASM_DROP" 0x18 [fld "COUNT" 0 32 .rc 0],
   regN "FAB_PL_LANE_ERR" 0x20 4 9 [fld "COUNT" 0 32 .rc 0],
   reg1L "FAB_PL_FLITS_LO" 0x48 [fld "COUNT" 0 32 .ro 0],
   reg1 "FAB_PL_FLITS_HI" 0x4C [fld "COUNT" 0 32 .ro 0],
   reg1 "FAB_PL_INT_STATUS" 0x50 [fld "OUT" 4 1 .w1c 0, fld "OUTAGE" 3 1 .w1c 0, fld "DEGRADED" 2 1 .w1c 0, fld "SPARED" 1 1 .w1c 0, fld "RETRAINED" 0 1 .w1c 0],
   reg1 "FAB_PL_INT_EN" 0x54 [fld "EN" 0 5 .rw 0]]

/-- Block tlnk: the register tables of R420 (12_optical_links.md). -/
def RegMap.tlnk : List RegRow :=
  [reg1 "TLNK_CFG" 0x0 [fld "AUTO_JOIN" 31 1 .rwl 0, fld "TAG_TIMEOUT" 0 24 .rw 0x11170],
   reg1 "TLNK_OUTAGE_LIMIT" 0x4 [fld "TICKS" 0 32 .rw 0xf4240]]

/-- Block carrier: the register tables of R420 (12_optical_links.md). -/
def RegMap.carrier : List RegRow :=
  [reg1 "TLNK_C_STATUS" 0x0 [fld "LINK" 29 3 .ro 0, fld "TX_SPARE_USED" 28 1 .ro 0, fld "RX_SPARE_USED" 27 1 .ro 0, fld "SPARE_BAD" 26 1 .ro 0, fld "VERSION" 13 8 .ro 0, fld "OUTSTANDING" 0 13 .ro 0],
   reg1 "TLNK_C_CTL" 0x4 [fld "MARGIN" 2 1 .w1s 0, fld "RETRAIN" 1 1 .w1s 0, fld "ACCEPT" 0 1 .w1s 0],
   reg1L "TLNK_C_ID_LO" 0x8 [fld "VALUE" 0 32 .ro 0],
   reg1 "TLNK_C_ID_HI" 0xC [fld "VALUE" 0 32 .ro 0],
   reg1L "TLNK_C_CAP_LO" 0x10 [fld "VALUE" 0 32 .ro 0],
   reg1 "TLNK_C_CAP_HI" 0x14 [fld "VALUE" 0 32 .ro 0],
   reg1L "TLNK_C_ERR_LINE_LO" 0x18 [fld "LINE" 0 32 .ro 0],
   reg1 "TLNK_C_ERR_LINE_HI" 0x1C [fld "LINE" 0 32 .ro 0],
   reg1 "TLNK_C_MARGIN" 0x20 [fld "RESULT" 0 32 .ro 0],
   reg1 "TLNK_C_REPLAY" 0x24 [fld "COUNT" 0 32 .rc 0],
   reg1 "TLNK_C_CRC" 0x28 [fld "COUNT" 0 32 .rc 0],
   reg1 "TLNK_C_TIMEOUT" 0x2C [fld "COUNT" 0 32 .rc 0],
   reg1 "TLNK_C_POISON" 0x30 [fld "COUNT" 0 32 .rc 0],
   reg1 "TLNK_C_DUP_RESP" 0x34 [fld "COUNT" 0 32 .rc 0],
   reg1L "TLNK_C_RD_LINES_LO" 0x40 [fld "COUNT" 0 32 .ro 0],
   reg1 "TLNK_C_RD_LINES_HI" 0x44 [fld "COUNT" 0 32 .ro 0],
   reg1L "TLNK_C_WR_LINES_LO" 0x48 [fld "COUNT" 0 32 .ro 0],
   reg1 "TLNK_C_WR_LINES_HI" 0x4C [fld "COUNT" 0 32 .ro 0],
   reg1 "TLNK_C_INT_STATUS" 0x50 [fld "QUIESCED" 5 1 .w1c 0, fld "FAILED" 4 1 .w1c 0, fld "POISON" 3 1 .w1c 0, fld "DEGRADED" 2 1 .w1c 0, fld "SPARED" 1 1 .w1c 0, fld "HELLO" 0 1 .w1c 0],
   reg1 "TLNK_C_INT_EN" 0x54 [fld "EN" 0 6 .rw 0]]

/-- Block host: the register tables of R437 (13_host_interface.md), R444 (13_host_interface.md). -/
def RegMap.host : List RegRow :=
  [reg1 "HOST_STATUS" 0x0 [fld "LINK_UP" 31 1 .ro 0, fld "SPEED" 28 3 .ro 0, fld "WIDTH" 24 4 .ro 0, fld "HDM_COMMITTED" 23 1 .ro 0, fld "MEM_ACTIVE" 22 1 .ro 0, fld "IDE_CM" 21 1 .ro 0, fld "IDE_SEL" 20 1 .ro 0, fld "IDE_LINK" 19 1 .ro 0],
   reg1 "HOST_CTL" 0x4 [fld "RETRAIN" 0 1 .w1s 0],
   reg1 "HOST_INT_STATUS" 0x8 [fld "IDE_FAIL" 4 1 .w1c 0, fld "BI_TIMEOUT" 3 1 .w1c 0, fld "CPL_TIMEOUT" 2 1 .w1c 0, fld "LINK_CHANGE" 1 1 .w1c 0, fld "MBOX_DONE" 0 1 .w1c 0],
   reg1 "HOST_INT_EN" 0xC [fld "EN" 0 5 .rw 0],
   reg1 "HOST_INT_SRC" 0x10 [fld "PENDING" 0 20 .ro 0],
   regN "HOST_VEC" 0x20 4 5 [fld "VEC3" 24 8 .rw 0, fld "VEC2" 16 8 .rw 0, fld "VEC1" 8 8 .rw 0, fld "VEC0" 0 8 .rw 0],
   reg1 "HOST_MBOX_CMD" 0x40 [fld "DOORBELL" 31 1 .w1s 0, fld "IN_LEN" 16 9 .rw 0, fld "OPCODE" 0 16 .rw 0],
   reg1 "HOST_MBOX_STATUS" 0x44 [fld "BUSY" 31 1 .ro 0, fld "OUT_LEN" 16 9 .ro 0, fld "RESULT" 0 8 .ro 0],
   reg1 "HOST_D2H_RATE" 0x48 [fld "BURST" 16 16 .rwl 0, fld "RATE" 0 16 .rwl 0],
   reg1 "HOST_IDE_POLICY" 0x4C [fld "REQUIRE" 0 1 .rwl 0],
   reg1 "HOST_CPL_TIMEOUT" 0x50 [fld "CLK" 0 32 .rw 0x2160ec0],
   reg1 "HOST_RATE_STALL" 0x54 [fld "COUNT" 0 32 .rc 0],
   reg1 "HOST_CPL_TO_CNT" 0x58 [fld "COUNT" 0 32 .rc 0],
   reg1 "HOST_BI_CNT" 0x5C [fld "COUNT" 0 32 .rc 0],
   reg1 "HOST_LINK_DOWN_CNT" 0x60 [fld "COUNT" 0 32 .rc 0],
   reg1L "HOST_D2H_RD_LO" 0x68 [fld "COUNT" 0 32 .ro 0],
   reg1 "HOST_D2H_RD_HI" 0x6C [fld "COUNT" 0 32 .ro 0],
   reg1L "HOST_D2H_WR_LO" 0x70 [fld "COUNT" 0 32 .ro 0],
   reg1 "HOST_D2H_WR_HI" 0x74 [fld "COUNT" 0 32 .ro 0],
   reg1L "HOST_MEM_RD_LO" 0x78 [fld "COUNT" 0 32 .ro 0],
   reg1 "HOST_MEM_RD_HI" 0x7C [fld "COUNT" 0 32 .ro 0],
   reg1L "HOST_MEM_WR_LO" 0x80 [fld "COUNT" 0 32 .ro 0],
   reg1 "HOST_MEM_WR_HI" 0x84 [fld "COUNT" 0 32 .ro 0],
   regN "HOST_MBOX_PAYLOAD" 0x100 4 64 [fld "DATA" 0 32 .rw 0],
   regNL "MSIX_ADDR_LO" 0x10000 16 256 [fld "ADDR" 0 32 .rw 0]] ++
  [regN "MSIX_ADDR_HI" 0x10004 16 256 [fld "ADDR" 0 32 .rw 0],
   regN "MSIX_DATA" 0x10008 16 256 [fld "DATA" 0 32 .rw 0],
   regN "MSIX_CTL" 0x1000C 16 256 [fld "MASK" 0 1 .rw 1],
   regN "MSIX_PBA" 0x11000 4 8 [fld "PENDING" 0 32 .ro 0]]

/-- Block pwr: the register tables of R503 (15_power_and_budget.md). -/
def RegMap.pwr : List RegRow :=
  [reg1 "PWR_STATUS" 0x0 [fld "TRIP" 31 1 .ro 0, fld "STANDBY" 30 1 .ro 0, fld "STAGE" 28 2 .ro 0, fld "GATE" 20 5 .ro 0, fld "ON" 0 20 .ro 3],
   reg1 "PWR_CTL" 0x4 [fld "TRIP_CLEAR" 1 1 .w1s 0, fld "STANDBY" 0 1 .w1s 0],
   reg1 "PWR_DOM_CTL" 0x8 [fld "EN" 0 20 .rw 3],
   reg1 "PWR_DRAIN_LIMIT" 0xC [fld "CLK" 0 32 .rw 0xaae60],
   regN "PWR_DOM_STATE" 0x40 4 20 [fld "PENDING_ENABLE" 15 1 .ro 0, fld "PENDING_DISABLE" 14 1 .ro 0, fld "CAUSE" 8 3 .ro 0, fld "LAST_ERR" 4 4 .ro 0, fld "STATE" 0 2 .ro 0],
   regN "PWR_RAIL_TGT" 0x100 16 9 [fld "MV" 0 16 .rw 0],
   regN "PWR_RAIL_WIN" 0x104 16 9 [fld "MAX_MV" 16 16 .rwl 0, fld "MIN_MV" 0 16 .rwl 0],
   regN "PWR_RAIL_STATUS" 0x108 16 9 [fld "STATE" 29 3 .ro 0, fld "FAULT" 24 2 .ro 0, fld "MV" 0 16 .ro 0],
   regN "PWR_RAIL_MEAS" 0x10C 16 9 [fld "DECIAMP" 16 16 .ro 0, fld "MV" 0 16 .ro 0],
   reg1 "PWR_AVS_RETRY" 0x200 [fld "COUNT" 0 32 .rc 0],
   reg1 "PWR_VCLAMP_CNT" 0x204 [fld "COUNT" 0 32 .rc 0],
   reg1 "PWR_LEDGER_OVER" 0x208 [fld "COUNT" 0 32 .rc 0],
   reg1 "PWR_LEDGER_SWAP" 0x20C [fld "COUNT" 0 32 .rc 0],
   reg1 "PWR_LEDGER_WAIT" 0x210 [fld "COUNT" 0 32 .rc 0],
   reg1 "PWR_GATE_USEC" 0x214 [fld "COUNT" 0 32 .rc 0],
   reg1 "PWR_CAP" 0x300 [fld "CAP_MAX" 16 16 .rwl 1500, fld "CAP" 0 16 .rw 1500],
   reg1 "PWR_RESERVE" 0x304 [fld "WATTS" 0 16 .rw 300],
   reg1 "PWR_LEDGER_B" 0x308 [fld "UJ" 0 32 .ro 0],
   reg1 "PWR_LEDGER_BAL" 0x30C [fld "UJ" 0 32 .ro 0],
   reg1 "PWR_MEAS" 0x320 [fld "AVG_W" 16 16 .ro 0, fld "INST_W" 0 16 .ro 0],
   reg1 "PWR_CLAMP_CFG" 0x324 [fld "WINDOW" 0 11 .rwl 100],
   reg1 "PWR_TEMP" 0x330 [fld "HOT_SENSOR" 16 5 .ro 0, fld "TEMP" 0 16 .ro 0],
   reg1 "PWR_INT_STATUS" 0x340 [fld "WAKE" 6 1 .w1c 0, fld "TRIP" 5 1 .w1c 0, fld "THERM_WARN" 4 1 .w1c 0, fld "CLAMP" 3 1 .w1c 0, fld "RAIL_FAULT" 2 1 .w1c 0, fld "DOM_REFUSED" 1 1 .w1c 0, fld "DOM_CHANGE" 0 1 .w1c 0],
   reg1 "PWR_INT_EN" 0x344 [fld "EN" 0 7 .rw 0],
   reg1 "PWR_WAKE" 0x350 [fld "ALARM_EN" 31 1 .rw 0, fld "SET" 0 20 .rw 0xffffc]] ++
  [reg1L "PWR_WAKE_TICK_LO" 0x358 [fld "TICK" 0 32 .rw 0],
   reg1 "PWR_WAKE_TICK_HI" 0x35C [fld "TICK" 0 32 .rw 0]]

/-- Block drone: the register tables of R525 (16_time_and_start.md). -/
def RegMap.drone : List RegRow :=
  [reg1 "DRONE_STATUS" 0x0 [fld "LOCK" 30 2 .ro 0, fld "SET" 29 1 .ro 0, fld "ARMED" 28 1 .ro 0],
   reg1L "DRONE_TICK_LO" 0x8 [fld "TICK" 0 32 .ro 0],
   reg1 "DRONE_TICK_HI" 0xC [fld "TICK" 0 32 .ro 0],
   reg1L "DRONE_ARM_LO" 0x10 [fld "TICK" 0 32 .ro 0],
   reg1 "DRONE_ARM_HI" 0x14 [fld "TICK" 0 32 .ro 0],
   reg1 "DRONE_SLIP_LIMIT" 0x18 [fld "TICKS" 0 32 .rw 16],
   reg1 "DRONE_LAST_SLIP" 0x1C [fld "D" 0 32 .ro 0],
   reg1 "DRONE_SLIP_CNT" 0x20 [fld "COUNT" 0 32 .rc 0],
   reg1 "DRONE_HOLD_TICKS" 0x24 [fld "COUNT" 0 32 .rc 0],
   reg1 "DRONE_WMARK_BACK" 0x28 [fld "COUNT" 0 32 .rc 0],
   reg1 "DRONE_INT_STATUS" 0x30 [fld "WMARK_BACK" 5 1 .w1c 0, fld "EPOCH_ERR" 4 1 .w1c 0, fld "SET_DONE" 3 1 .w1c 0, fld "REGAINED" 2 1 .w1c 0, fld "LOST" 1 1 .w1c 0, fld "READY" 0 1 .w1c 0],
   reg1 "DRONE_INT_EN" 0x34 [fld "EN" 0 6 .rw 0],
   reg1 "DRONE_RESET_CAUSE" 0x40 [fld "CAUSE" 28 4 .ro 0, fld "HOST_RESETS" 0 16 .ro 0],
   reg1 "DRONE_START_STATUS" 0x44 [fld "STATE" 30 2 .ro 0, fld "STEP" 26 4 .ro 1, fld "SLOW_BOOT" 25 1 .ro 0, fld "FAIL_CAUSE" 8 8 .ro 0],
   reg1 "DRONE_START_ERR" 0x48 [fld "OFFSET" 0 32 .ro 0],
   reg1 "DRONE_START_US" 0x4C [fld "US" 0 32 .ro 0]]

/-- Block mgmt: the register tables of R555 (17_management_security_faults.md). -/
def RegMap.mgmt : List RegRow :=
  [reg1 "MGMT_STATUS" 0x0 [fld "RETIRED" 31 1 .ro 0, fld "SWAP_PEND" 30 1 .ro 0, fld "FW_SWAPPED" 24 6 .ro 0, fld "RESTARTS" 8 8 .ro 0, fld "EVQ" 0 8 .ro 0],
   regN "MGMT_POLICY" 0x10 4 4 [fld "ACTIONS" 0 32 .rw 0],
   reg1 "MGMT_SWAP" 0x20 [fld "TARGET" 28 4 .ro 0, fld "RESULT" 24 4 .ro 0, fld "CAUSE" 16 8 .ro 0],
   reg1 "MGMT_SMB_CFG" 0x24 [fld "ADDR" 2 7 .ro 96, fld "CAP_EN" 1 1 .rwl 0, fld "RESET_EN" 0 1 .rwl 0],
   reg1 "MGMT_EVQ_DROP" 0x28 [fld "COUNT" 0 32 .rc 0],
   reg1 "MGMT_SMB_ERR" 0x2C [fld "COUNT" 0 32 .rc 0],
   reg1 "MGMT_INT_STATUS" 0x40 [fld "EVQ_DROP" 2 1 .w1c 0, fld "RESTART" 1 1 .w1c 0, fld "SWAP" 0 1 .w1c 0],
   reg1 "MGMT_INT_EN" 0x44 [fld "EN" 0 3 .rw 0]]

/-- Block sec: the register tables of R556 (17_management_security_faults.md). -/
def RegMap.sec : List RegRow :=
  [reg1 "SEC_STATUS" 0x0 [fld "PUF_OK" 31 1 .ro 0, fld "REVOKED" 4 4 .ro 0, fld "KEY_SLOT" 0 2 .ro 0],
   regN "SEC_IDENTITY" 0x10 4 8 [fld "DATA" 0 32 .ro 0],
   regN "SEC_IMAGE_DIGEST" 0x40 4 16 [fld "DATA" 0 32 .ro 0],
   reg1 "SEC_REVOKE" 0x80 [fld "SLOT" 0 2 .wo 0],
   reg1 "SEC_VERIFY_FAIL" 0x84 [fld "COUNT" 0 32 .rc 0],
   reg1 "SEC_INT_STATUS" 0x90 [fld "REVOKED" 1 1 .w1c 0, fld "VERIFY_FAIL" 0 1 .w1c 0],
   reg1 "SEC_INT_EN" 0x94 [fld "EN" 0 2 .rw 0]]

/-- Block test: the register tables of R557 (17_management_security_faults.md). -/
def RegMap.test : List RegRow :=
  [reg1 "TEST_CFG" 0x0 [fld "ENABLE" 31 1 .rw 0, fld "ITEMS" 0 4 .rw 15],
   reg1 "TEST_PERIOD" 0x4 [fld "TICKS" 0 32 .rw 0x3938700],
   reg1 "TEST_WINDOW" 0x8 [fld "TICKS" 0 32 .rw 10000],
   reg1L "TEST_NEXT_LO" 0x10 [fld "TICK" 0 32 .rw 0],
   reg1 "TEST_NEXT_HI" 0x14 [fld "TICK" 0 32 .rw 0],
   reg1 "TEST_STATUS" 0x18 [fld "IN_WINDOW" 31 1 .ro 0, fld "NEXT_CORE" 8 8 .ro 0, fld "WINDOWS" 0 8 .ro 0],
   reg1 "TEST_CORE_PASS" 0x20 [fld "COUNT" 0 32 .rc 0],
   reg1 "TEST_CORE_FAIL" 0x24 [fld "COUNT" 0 32 .rc 0],
   reg1 "TEST_FEED_WEAK" 0x28 [fld "COUNT" 0 32 .rc 0],
   reg1 "TEST_ABANDON" 0x2C [fld "COUNT" 0 32 .rc 0],
   reg1 "TEST_INT_STATUS" 0x30 [fld "ITEM_FAIL" 1 1 .w1c 0, fld "WINDOW_DONE" 0 1 .w1c 0],
   reg1 "TEST_INT_EN" 0x34 [fld "EN" 0 2 .rw 0]]

/-- Block smu: the register tables of R573 (18_sealed_measurement.md). -/
def RegMap.smu : List RegRow :=
  [reg1 "SMU_STATUS" 0x0 [fld "READY" 31 1 .ro 0, fld "SEAL" 30 1 .ro 0, fld "STAGED" 29 1 .ro 0, fld "CRYSTAL_FAULT" 28 1 .ro 0, fld "OVERRANGE" 27 1 .ro 0, fld "CHANNEL_EN" 0 4 .ro 0],
   reg1 "SMU_CAL" 0x4 [fld "FULL_SCALE_W" 16 16 .ro 0, fld "INTERVAL_MIN" 8 8 .ro 0, fld "CAL_EVENTS" 0 8 .ro 0],
   reg1 "SMU_INTERVAL" 0x8 [fld "VALUE" 0 32 .ro 0],
   reg1 "SMU_SEAL_OPENS" 0xC [fld "VALUE" 0 32 .ro 0],
   reg1 "SMU_STEP_GAPS" 0x10 [fld "VALUE" 0 32 .ro 0],
   reg1L "SMU_SESSION_LO" 0x18 [fld "VALUE" 0 32 .ro 0],
   reg1 "SMU_SESSION_HI" 0x1C [fld "VALUE" 0 32 .ro 0],
   reg1L "SMU_REC_COUNT_LO" 0x20 [fld "VALUE" 0 32 .ro 0],
   reg1 "SMU_REC_COUNT_HI" 0x24 [fld "VALUE" 0 32 .ro 0],
   reg1L "SMU_UPTIME_LO" 0x28 [fld "VALUE" 0 32 .ro 0],
   reg1 "SMU_UPTIME_HI" 0x2C [fld "VALUE" 0 32 .ro 0],
   reg1L "SMU_ENERGY_LO" 0x30 [fld "VALUE" 0 32 .ro 0],
   reg1 "SMU_ENERGY_HI" 0x34 [fld "VALUE" 0 32 .ro 0],
   reg1L "SMU_STEPS_APPLIED_LO" 0x38 [fld "VALUE" 0 32 .ro 0],
   reg1 "SMU_STEPS_APPLIED_HI" 0x3C [fld "VALUE" 0 32 .ro 0],
   reg1L "SMU_STEPS_SKIPPED_LO" 0x40 [fld "VALUE" 0 32 .ro 0],
   reg1 "SMU_STEPS_SKIPPED_HI" 0x44 [fld "VALUE" 0 32 .ro 0],
   reg1L "SMU_SAMPLES_LO" 0x48 [fld "VALUE" 0 32 .ro 0],
   reg1 "SMU_SAMPLES_HI" 0x4C [fld "VALUE" 0 32 .ro 0],
   regN "SMU_POWER" 0x50 4 4 [fld "DECIWATT" 0 16 .ro 0],
   regN "SMU_IDENTITY" 0x80 4 8 [fld "DATA" 0 32 .ro 0],
   regN "SMU_ED_PUB" 0xA0 4 8 [fld "DATA" 0 32 .ro 0],
   regN "SMU_ROM_SHA3_512" 0xC0 4 16 [fld "DATA" 0 32 .ro 0],
   regN "SMU_ROM_SHA384" 0x800 4 12 [fld "DATA" 0 32 .ro 0],
   regN "SMU_ROM_SHA3_384" 0x830 4 12 [fld "DATA" 0 32 .ro 0]]

/-- One block of BAR0: where its copies lie and the registers each holds. -/
structure BlockRow where
  blk : Block
  base : Nat
  insts : Nat
  stride : Nat
  size : Nat
  rows : List RegRow
  deriving DecidableEq, Repr

/-- The blocks of BAR0 at the offsets of 00_scope.md and of each block's chapter. -/
def RegMap.blocks : List BlockRow :=
  [⟨.spine, 0xA00000, 1, 0x0, 0x10000, RegMap.spine⟩,
   ⟨.num, 0xB00000, 1, 0x0, 0x10000, RegMap.num⟩,
   ⟨.core, 0x1800000, 96, 0x10000, 0x10000, RegMap.core⟩,
   ⟨.emb, 0x1600000, 1, 0x0, 0x400, RegMap.emb⟩,
   ⟨.optShared, 0x1600000, 1, 0x0, 0x10000, RegMap.optShared⟩,
   ⟨.tile, 0x1000000, 24, 0x40000, 0x40000, RegMap.tile⟩,
   ⟨.tier, 0x2000000, 1, 0x0, 0x10000, RegMap.tier⟩,
   ⟨.hist, 0x2100000, 1, 0x0, 0x10000, RegMap.hist⟩,
   ⟨.coll, 0xC00000, 1, 0x0, 0x10000, RegMap.coll⟩,
   ⟨.ring, 0x500000, 4096, 0x40, 0x40, RegMap.ring⟩,
   ⟨.ringShared, 0x500000, 1, 0x0, 0x80000, RegMap.ringShared⟩,
   ⟨.dma, 0x800000, 28, 0x10000, 0x10000, RegMap.dma⟩,
   ⟨.dmaShared, 0x9C0000, 1, 0x0, 0x10000, RegMap.dmaShared⟩,
   ⟨.fabSafety, 0xD00000, 1, 0x0, 0x100, RegMap.fabSafety⟩,
   ⟨.fab, 0xD00000, 1, 0x0, 0x1000, RegMap.fab⟩,
   ⟨.plane, 0xD01000, 8, 0x100, 0x100, RegMap.plane⟩,
   ⟨.tlnk, 0xE00000, 1, 0x0, 0x100, RegMap.tlnk⟩,
   ⟨.carrier, 0xE00100, 4, 0x100, 0x100, RegMap.carrier⟩,
   ⟨.host, 0x400000, 1, 0x0, 0x20000, RegMap.host⟩,
   ⟨.pwr, 0x100000, 1, 0x0, 0x10000, RegMap.pwr⟩,
   ⟨.drone, 0x200000, 1, 0x0, 0x10000, RegMap.drone⟩,
   ⟨.mgmt, 0x0, 1, 0x0, 0x10000, RegMap.mgmt⟩,
   ⟨.sec, 0x2300000, 1, 0x0, 0x10000, RegMap.sec⟩,
   ⟨.test, 0x2200000, 1, 0x0, 0x10000, RegMap.test⟩,
   ⟨.smu, 0x300000, 1, 0x0, 0x10000, RegMap.smu⟩
  ]

/-- Find the register of a block at a relative offset, with its index in its array. -/
def RegMap.findRow (rows : List RegRow) (rel : Nat) : Option (RegRow × Nat) :=
  rows.findSome? fun r =>
    if r.off ≤ rel ∧ (rel - r.off) % r.stride = 0 ∧ (rel - r.off) / r.stride < r.cnt then
      some (r, (rel - r.off) / r.stride) else none

/-- A register's place: its block, the block's copy, its table row and its index in an array. -/
structure RegAt where
  blk : Block
  inst : Nat
  row : RegRow
  idx : Nat
  deriving DecidableEq, Repr

/-- The register at a BAR0 offset, where one occupies it (R8, R11). -/
def RegMap.at? (off : Nat) : Option RegAt :=
  RegMap.blocks.findSome? fun b =>
    let inst := if b.stride = 0 then 0 else (off - b.base) / b.stride
    let rel := off - b.base - inst * b.stride
    if b.base ≤ off ∧ inst < b.insts ∧ rel < b.size then
      (RegMap.findRow b.rows rel).map fun p => ⟨b.blk, inst, p.1, p.2⟩
    else none

/-- The block that covers a BAR0 offset, whether or not a register occupies it, and its copy. -/
def RegMap.blockAt? (off : Nat) : Option (Block × Nat) :=
  RegMap.blocks.findSome? fun b =>
    let inst := if b.stride = 0 then 0 else (off - b.base) / b.stride
    if b.base ≤ off ∧ inst < b.insts ∧ off - b.base - inst * b.stride < b.size then
      some (b.blk, inst)
    else none

/-- A field's value after reset (R16). -/
def FldRow.resetAt (f : FldRow) (idx : Nat) : Nat :=
  if f.step = 0 then f.reset else (f.reset + f.step * idx) % 24

/-- A register's value after reset (R16): the reset values of its fields in place, reserved bits 0. -/
def RegRow.resetAt (r : RegRow) (idx : Nat) : Nat :=
  r.flds.foldl (fun a f => a + f.resetAt idx * 2 ^ f.lo) 0

/-- Registers are held under a key: the BAR0 offset, plus 2^26 times the page of a windowed
register (the tag, table, object, space, member or channel that a select register names). -/
def regPage : Nat := 2 ^ 26

/-- What an unlisted register key reads as: the reset value of its register (R16), 0 where no
register occupies the offset (R11). -/
def regReset (key : Nat) : BitVec 32 :=
  match RegMap.at? (key % regPage) with
  | some a => BitVec.ofNat 32 (a.row.resetAt a.idx)
  | none => 0

end Sys2Proof.Machine
end

