-- ==== Sys2Proof/Machine/RegFields.lean ====
section
/-! DEFINITION. Names for the register fields the meanings read and write, at the places the
register tables give them (a register's own name stands for all its 32 bits). -/

namespace Sys2Proof.Machine

/-- A field of a register: the register's key, the field's lowest bit and its width. -/
structure Fld where
  key : Nat
  lo : Nat
  w : Nat
  deriving DecidableEq, Repr

namespace F

def CKPT_BASE_DONE_LO_VALUE : Fld := ⟨0xA00430, 0, 32⟩
def CKPT_BASE_LINES_LO_VALUE : Fld := ⟨0xA00428, 0, 32⟩
def CKPT_CFG_BASE_RING : Fld := ⟨0xA00400, 0, 12⟩
def CKPT_CFG_DELTA_RING : Fld := ⟨0xA00400, 16, 12⟩
def CKPT_COST_SECONDS : Fld := ⟨0xA0040C, 0, 32⟩
def CKPT_CTL_ADAPT : Fld := ⟨0xA00404, 31, 1⟩
def CKPT_CTL_MAX_LOST : Fld := ⟨0xA00404, 0, 16⟩
def CKPT_DONE_END_LO_VALUE : Fld := ⟨0xA00438, 0, 32⟩
def CKPT_DONE_GEN_GEN : Fld := ⟨0xA00420, 0, 32⟩
def CKPT_DURABLE_LO_VALUE : Fld := ⟨0xA00440, 0, 32⟩
def CKPT_EFFECTIVE : Fld := ⟨0xA00414, 0, 32⟩
def CKPT_GEN_GEN : Fld := ⟨0xA0041C, 0, 32⟩
def CKPT_INTERVAL_SECONDS : Fld := ⟨0xA00408, 0, 32⟩
def CKPT_INT_STATUS_BASE_ABANDON : Fld := ⟨0xA00460, 2, 1⟩
def CKPT_INT_STATUS_BASE_DONE : Fld := ⟨0xA00460, 0, 1⟩
def CKPT_INT_STATUS_BASE_LATE : Fld := ⟨0xA00460, 1, 1⟩
def CKPT_INT_STATUS_LOST_WAIT : Fld := ⟨0xA00460, 3, 1⟩
def CKPT_INT_STATUS_RESTORE_DONE : Fld := ⟨0xA00460, 4, 1⟩
def CKPT_INT_STATUS_RESTORE_ERR : Fld := ⟨0xA00460, 5, 1⟩
def CKPT_LOST_WAIT_COUNT : Fld := ⟨0xA00448, 0, 32⟩
def CKPT_MTBF_SECONDS : Fld := ⟨0xA00410, 0, 32⟩
def CKPT_RESTORE_ERR_CAUSE : Fld := ⟨0xA00468, 28, 4⟩
def CKPT_RESTORE_ERR_SRC : Fld := ⟨0xA00468, 0, 12⟩
def CKPT_RESTORE_IGN_COUNT : Fld := ⟨0xA00450, 0, 32⟩
def CKPT_SNAP_LINES_LINES : Fld := ⟨0xA00454, 0, 32⟩
def CKPT_STATUS_STATE : Fld := ⟨0xA00418, 30, 2⟩
def COLL_CMD : Fld := ⟨0xC00004, 0, 32⟩
def COLL_CMD_ADDR_LO_ADDR : Fld := ⟨0xC00010, 0, 32⟩
def COLL_CMD_STATUS_BUSY : Fld := ⟨0xC00008, 31, 1⟩
def COLL_CMD_STATUS_RESULT : Fld := ⟨0xC00008, 0, 4⟩
def COLL_COMPUTE_TICKS_TICKS : Fld := ⟨0xC0003C, 0, 32⟩
def COLL_DIGEST_BLOCKS_BLOCKS : Fld := ⟨0xC00050, 0, 32⟩
def COLL_DIGEST_CFG_INTERVAL : Fld := ⟨0xC00030, 0, 16⟩
def COLL_DIGEST_CFG_RETIRE_WIN : Fld := ⟨0xC00030, 16, 8⟩
def COLL_DIGEST_GOOD_LO_STEP : Fld := ⟨0xC00048, 0, 32⟩
def COLL_DIGEST_LAST_LO_STEP : Fld := ⟨0xC00040, 0, 32⟩
def COLL_FLOCK_F : Fld := ⟨0xC0001C, 16, 13⟩
def COLL_FLOCK_INDEX : Fld := ⟨0xC0001C, 0, 12⟩
def COLL_INT_STATUS_DIGEST_TIE : Fld := ⟨0xC00070, 3, 1⟩
def COLL_INT_STATUS_JOINED : Fld := ⟨0xC00070, 0, 1⟩
def COLL_INT_STATUS_JOIN_FAIL : Fld := ⟨0xC00070, 7, 1⟩
def COLL_INT_STATUS_MINORITY : Fld := ⟨0xC00070, 2, 1⟩
def COLL_INT_STATUS_MOVE : Fld := ⟨0xC00070, 1, 1⟩
def COLL_INT_STATUS_MSG_FAULT : Fld := ⟨0xC00070, 5, 1⟩
def COLL_INT_STATUS_RETIRED : Fld := ⟨0xC00070, 4, 1⟩
def COLL_INT_STATUS_VOTE_TIMEOUT : Fld := ⟨0xC00070, 6, 1⟩
def COLL_JOB_ID_LO_ID : Fld := ⟨0xC00024, 0, 32⟩
def COLL_MEMBER_MEAN (page : Nat) : Fld := ⟨0xC00084 + regPage * page, 0, 32⟩
def COLL_MEMBER_MEAN_TICKS (page : Nat) : Fld := ⟨0xC00084 + regPage * page, 0, 32⟩
def COLL_MEMBER_SEL_INDEX : Fld := ⟨0xC00080, 0, 12⟩
def COLL_MEMBER_STATE (page : Nat) : Fld := ⟨0xC00088 + regPage * page, 0, 32⟩
def COLL_MEMBER_STATE_FILL (page : Nat) : Fld := ⟨0xC00088 + regPage * page, 24, 7⟩
def COLL_MEMBER_STATE_FULL (page : Nat) : Fld := ⟨0xC00088 + regPage * page, 31, 1⟩
def COLL_MEMBER_STATE_SINCE_MINORITY (page : Nat) : Fld := ⟨0xC00088 + regPage * page, 0, 16⟩
def COLL_MINORITY_COUNT : Fld := ⟨0xC00054, 0, 32⟩
def COLL_MOVES_COUNT : Fld := ⟨0xC0008C, 0, 32⟩
def COLL_MSG_DUP_COUNT : Fld := ⟨0xC00064, 0, 32⟩
def COLL_MSG_ERR_CAUSE : Fld := ⟨0xC00068, 28, 4⟩
def COLL_MSG_ERR_SRC : Fld := ⟨0xC00068, 0, 12⟩
def COLL_MSG_ERR_TYPE : Fld := ⟨0xC00068, 20, 8⟩
def COLL_MSG_RESEND_COUNT : Fld := ⟨0xC00060, 0, 32⟩
def COLL_PIPE_P : Fld := ⟨0xC00020, 8, 4⟩
def COLL_PIPE_STAGE : Fld := ⟨0xC00020, 0, 3⟩
def COLL_RANK_RANK : Fld := ⟨0xC00018, 0, 12⟩
def COLL_REPAIR_ABANDON_COUNT : Fld := ⟨0xC0005C, 0, 32⟩
def COLL_REPAIR_SENT_COUNT : Fld := ⟨0xC00058, 0, 32⟩
def COLL_ROOT : Fld := ⟨0xC0002C, 0, 32⟩
def COLL_ROOT_JOB_ROOT : Fld := ⟨0xC0002C, 16, 12⟩
def COLL_ROOT_STAGE_ROOT : Fld := ⟨0xC0002C, 0, 12⟩
def COLL_STATUS_COMPARE_BUSY : Fld := ⟨0xC00000, 28, 1⟩
def COLL_STATUS_JOB_ROOT : Fld := ⟨0xC00000, 30, 1⟩
def COLL_STATUS_JOINED : Fld := ⟨0xC00000, 31, 1⟩
def COLL_STATUS_REPAIR_PEND : Fld := ⟨0xC00000, 27, 1⟩
def COLL_STATUS_STAGE_ROOT : Fld := ⟨0xC00000, 29, 1⟩
def COLL_STRAG_CFG_ENABLE : Fld := ⟨0xC00034, 31, 1⟩
def COLL_STRAG_CFG_MOVES : Fld := ⟨0xC00034, 12, 3⟩
def COLL_STRAG_CFG_THRESH : Fld := ⟨0xC00034, 0, 12⟩
def COLL_STRAG_CFG_WINDOW : Fld := ⟨0xC00034, 16, 8⟩
def COLL_VOTE_TIMEOUT_TICKS : Fld := ⟨0xC00038, 0, 32⟩
def CORE_CE_CNT_COUNT (n : Nat) : Fld := ⟨0x1800020 + 0x10000 * n, 0, 32⟩
def CORE_CTL (n : Nat) : Fld := ⟨0x1800004 + 0x10000 * n, 0, 32⟩
def CORE_CTL_DRAIN (n : Nat) : Fld := ⟨0x1800004 + 0x10000 * n, 1, 1⟩
def CORE_CTL_REQUEUE (n : Nat) : Fld := ⟨0x1800004 + 0x10000 * n, 2, 1⟩
def CORE_CTL_SELFTEST_REQ (n : Nat) : Fld := ⟨0x1800004 + 0x10000 * n, 0, 1⟩
def CORE_ERR_CAUSE (n : Nat) : Fld := ⟨0x1800018 + 0x10000 * n, 28, 4⟩
def CORE_ERR_INDEX (n : Nat) : Fld := ⟨0x1800018 + 0x10000 * n, 0, 24⟩
def CORE_ERR_UNIT_UNIT (n : Nat) : Fld := ⟨0x180001C + 0x10000 * n, 0, 24⟩
def CORE_INT_STATUS_HW_ERR (n : Nat) : Fld := ⟨0x1800010 + 0x10000 * n, 2, 1⟩
def CORE_INT_STATUS_ILLEGAL (n : Nat) : Fld := ⟨0x1800010 + 0x10000 * n, 0, 1⟩
def CORE_INT_STATUS_RETIRED (n : Nat) : Fld := ⟨0x1800010 + 0x10000 * n, 4, 1⟩
def CORE_INT_STATUS_SELFTEST_DONE (n : Nat) : Fld := ⟨0x1800010 + 0x10000 * n, 3, 1⟩
def CORE_INT_STATUS_XFER_ERR (n : Nat) : Fld := ⟨0x1800010 + 0x10000 * n, 1, 1⟩
def CORE_MMA_CLK_LO_CLK (n : Nat) : Fld := ⟨0x1800030 + 0x10000 * n, 0, 32⟩
def CORE_SELFTEST_RESULT (n : Nat) : Fld := ⟨0x1800028 + 0x10000 * n, 0, 2⟩
def CORE_SELFTEST_RUNS (n : Nat) : Fld := ⟨0x1800028 + 0x10000 * n, 16, 16⟩
def CORE_STATUS_IN_POOL (n : Nat) : Fld := ⟨0x1800000 + 0x10000 * n, 31, 1⟩
def CORE_STATUS_STATE (n : Nat) : Fld := ⟨0x1800000 + 0x10000 * n, 0, 3⟩
def CORE_UE_CNT_COUNT (n : Nat) : Fld := ⟨0x1800024 + 0x10000 * n, 0, 32⟩
def CORE_UNIT (n : Nat) : Fld := ⟨0x1800008 + 0x10000 * n, 0, 32⟩
def CORE_UNITS_LO_UNITS (n : Nat) : Fld := ⟨0x1800040 + 0x10000 * n, 0, 32⟩
def CORE_UNIT_UNIT (n : Nat) : Fld := ⟨0x1800008 + 0x10000 * n, 0, 24⟩
def CORE_UNIT_VALID (n : Nat) : Fld := ⟨0x1800008 + 0x10000 * n, 31, 1⟩
def CORE_VEC_CLK_LO_CLK (n : Nat) : Fld := ⟨0x1800038 + 0x10000 * n, 0, 32⟩
def DMA_CH_CTL (n page : Nat) : Fld := ⟨0x800028 + 0x10000 * n + regPage * page, 0, 32⟩
def DMA_CH_DESC_HI (n page : Nat) : Fld := ⟨0x800034 + 0x10000 * n + regPage * page, 0, 32⟩
def DMA_CH_DESC_LO (n page : Nat) : Fld := ⟨0x800030 + 0x10000 * n + regPage * page, 0, 32⟩
def DMA_CH_ERR (n page : Nat) : Fld := ⟨0x80002C + 0x10000 * n + regPage * page, 0, 32⟩
def DMA_CH_POS0 (n page : Nat) : Fld := ⟨0x800038 + 0x10000 * n + regPage * page, 0, 32⟩
def DMA_CH_POS1 (n page : Nat) : Fld := ⟨0x80003C + 0x10000 * n + regPage * page, 0, 32⟩
def DMA_CH_SEL_CHANNEL (n : Nat) : Fld := ⟨0x800020 + 0x10000 * n, 0, 7⟩
def DMA_CH_STATE (n page : Nat) : Fld := ⟨0x800024 + 0x10000 * n + regPage * page, 0, 32⟩
def DMA_CH_WALK_EMPTY_COUNT (n page : Nat) : Fld := ⟨0x800040 + 0x10000 * n + regPage * page, 0, 32⟩
def DMA_ENG_CFG_RETRY (n : Nat) : Fld := ⟨0x800004 + 0x10000 * n, 0, 4⟩
def DMA_ENG_INT_STATUS_DESC_ERR (n : Nat) : Fld := ⟨0x800008 + 0x10000 * n, 2, 1⟩
def DMA_ENG_INT_STATUS_HALT (n : Nat) : Fld := ⟨0x800008 + 0x10000 * n, 1, 1⟩
def DMA_ENG_INT_STATUS_RETRY_OK (n : Nat) : Fld := ⟨0x800008 + 0x10000 * n, 0, 1⟩
def DMA_ENG_LINES_LO_COUNT (n : Nat) : Fld := ⟨0x800010 + 0x10000 * n, 0, 32⟩
def DMA_ENG_RETRIES_COUNT (n : Nat) : Fld := ⟨0x800018 + 0x10000 * n, 0, 32⟩
def DMA_ENG_STATUS (n : Nat) : Fld := ⟨0x800000 + 0x10000 * n, 0, 32⟩
def DMA_WIN_BASE_HI (k : Nat) : Fld := ⟨0x9C0004 + 16 * k, 0, 32⟩
def DMA_WIN_BASE_LO (k : Nat) : Fld := ⟨0x9C0000 + 16 * k, 0, 32⟩
def DMA_WIN_LIMIT_HI (k : Nat) : Fld := ⟨0x9C000C + 16 * k, 0, 32⟩
def DMA_WIN_LIMIT_LO (k : Nat) : Fld := ⟨0x9C0008 + 16 * k, 0, 32⟩
def DMA_XFER_RETRY_RETRY : Fld := ⟨0x9C0080, 0, 4⟩
def DRONE_ARM_HI : Fld := ⟨0x200014, 0, 32⟩
def DRONE_ARM_LO : Fld := ⟨0x200010, 0, 32⟩
def DRONE_HOLD_TICKS_COUNT : Fld := ⟨0x200024, 0, 32⟩
def DRONE_INT_STATUS_EPOCH_ERR : Fld := ⟨0x200030, 4, 1⟩
def DRONE_INT_STATUS_LOST : Fld := ⟨0x200030, 1, 1⟩
def DRONE_INT_STATUS_READY : Fld := ⟨0x200030, 0, 1⟩
def DRONE_INT_STATUS_REGAINED : Fld := ⟨0x200030, 2, 1⟩
def DRONE_INT_STATUS_SET_DONE : Fld := ⟨0x200030, 3, 1⟩
def DRONE_INT_STATUS_WMARK_BACK : Fld := ⟨0x200030, 5, 1⟩
def DRONE_LAST_SLIP_D : Fld := ⟨0x20001C, 0, 32⟩
def DRONE_RESET_CAUSE_CAUSE : Fld := ⟨0x200040, 28, 4⟩
def DRONE_SLIP_CNT_COUNT : Fld := ⟨0x200020, 0, 32⟩
def DRONE_SLIP_LIMIT_TICKS : Fld := ⟨0x200018, 0, 32⟩
def DRONE_START_ERR : Fld := ⟨0x200048, 0, 32⟩
def DRONE_START_STATUS : Fld := ⟨0x200044, 0, 32⟩
def DRONE_START_STATUS_FAIL_CAUSE : Fld := ⟨0x200044, 8, 8⟩
def DRONE_START_STATUS_SLOW_BOOT : Fld := ⟨0x200044, 25, 1⟩
def DRONE_START_STATUS_STATE : Fld := ⟨0x200044, 30, 2⟩
def DRONE_START_STATUS_STEP : Fld := ⟨0x200044, 26, 4⟩
def DRONE_START_US_US : Fld := ⟨0x20004C, 0, 32⟩
def DRONE_STATUS : Fld := ⟨0x200000, 0, 32⟩
def DRONE_TICK_HI : Fld := ⟨0x20000C, 0, 32⟩
def DRONE_TICK_LO : Fld := ⟨0x200008, 0, 32⟩
def DRONE_WMARK_BACK_COUNT : Fld := ⟨0x200028, 0, 32⟩
def EMB_BAG_ERR_CAUSE : Fld := ⟨0x1600080, 28, 4⟩
def EMB_BAG_ERR_FEATURE : Fld := ⟨0x1600080, 0, 16⟩
def EMB_BAG_ERR_TABLE : Fld := ⟨0x1600080, 16, 12⟩
def EMB_BW_CAP_LINES : Fld := ⟨0x1600070, 0, 32⟩
def EMB_BW_USED_LINES : Fld := ⟨0x1600074, 0, 32⟩
def EMB_INT_STATUS_BAG_ERR : Fld := ⟨0x1600078, 2, 1⟩
def EMB_INT_STATUS_BW_CHANGE : Fld := ⟨0x1600078, 5, 1⟩
def EMB_INT_STATUS_BW_REFUSED : Fld := ⟨0x1600078, 4, 1⟩
def EMB_INT_STATUS_CMD_DONE : Fld := ⟨0x1600078, 0, 1⟩
def EMB_INT_STATUS_CMD_FAIL : Fld := ⟨0x1600078, 1, 1⟩
def EMB_INT_STATUS_UNIT_ERR : Fld := ⟨0x1600078, 3, 1⟩
def EMB_SLICE_KEYS_LO_COUNT (n : Nat) : Fld := ⟨0x1000008 + 0x40000 * n, 0, 32⟩
def EMB_SLICE_LINES_LO_COUNT (n : Nat) : Fld := ⟨0x1000010 + 0x40000 * n, 0, 32⟩
def EMB_SLICE_MCAST_LO_COUNT (n : Nat) : Fld := ⟨0x1000018 + 0x40000 * n, 0, 32⟩
def EMB_SLICE_POOL_LO_COUNT (n : Nat) : Fld := ⟨0x1000020 + 0x40000 * n, 0, 32⟩
def EMB_SLICE_SKETCH_UPD_COUNT (n : Nat) : Fld := ⟨0x1000028 + 0x40000 * n, 0, 32⟩
def EMB_SLICE_STATUS_DRAINED (n : Nat) : Fld := ⟨0x1000000 + 0x40000 * n, 3, 1⟩
def EMB_SORT_MAP (k : Nat) : Fld := ⟨0x1600100 + 4 * k, 0, 32⟩
def EMB_TBL_BW_DEMOTED_COUNT (page : Nat) : Fld := ⟨0x1600054 + regPage * page, 0, 32⟩
def EMB_TBL_BW_PROMOTED_COUNT (page : Nat) : Fld := ⟨0x1600050 + regPage * page, 0, 32⟩
def EMB_TBL_BW_REFUSED_COUNT (page : Nat) : Fld := ⟨0x1600058 + regPage * page, 0, 32⟩
def EMB_TBL_CMD : Fld := ⟨0x1600008, 0, 32⟩
def EMB_TBL_CMD_STATUS_BUSY : Fld := ⟨0x160000C, 31, 1⟩
def EMB_TBL_CMD_STATUS_RESULT : Fld := ⟨0x160000C, 0, 4⟩
def EMB_TBL_DEFAULTED_LO_COUNT (page : Nat) : Fld := ⟨0x1600038 + regPage * page, 0, 32⟩
def EMB_TBL_DISTINCT_LO_COUNT (page : Nat) : Fld := ⟨0x1600040 + regPage * page, 0, 32⟩
def EMB_TBL_DROPPED_LO_COUNT (page : Nat) : Fld := ⟨0x1600030 + regPage * page, 0, 32⟩
def EMB_TBL_INVALID_LO_COUNT (page : Nat) : Fld := ⟨0x1600028 + regPage * page, 0, 32⟩
def EMB_TBL_LOOKUPS_LO_COUNT (page : Nat) : Fld := ⟨0x1600018 + regPage * page, 0, 32⟩
def EMB_TBL_MISSING_LO_COUNT (page : Nat) : Fld := ⟨0x1600020 + regPage * page, 0, 32⟩
def EMB_TBL_NEXT_DECAY_LO_TICK (page : Nat) : Fld := ⟨0x1600060 + regPage * page, 0, 32⟩
def EMB_TBL_SEL_TABLE : Fld := ⟨0x1600010, 0, 12⟩
def EMB_TBL_STATE_BW_ROWS (page : Nat) : Fld := ⟨0x1600014 + regPage * page, 0, 25⟩
def EMB_TBL_STATE_ENABLED (page : Nat) : Fld := ⟨0x1600014 + regPage * page, 31, 1⟩
def EMB_TDA_LO_ADDR : Fld := ⟨0x1600000, 0, 32⟩
def EMB_UNIT_ERR_CAUSE : Fld := ⟨0x1600084, 28, 4⟩
def EMB_UNIT_ERR_UNIT : Fld := ⟨0x1600084, 0, 24⟩
def FAB_CFG_LANE_ERR_THRESH : Fld := ⟨0xD00100, 0, 16⟩
def FAB_ENG_CTL (k : Nat) : Fld := ⟨0xD00004 + 16 * k, 0, 32⟩
def FAB_ENG_CTL_FEED_A_OFF (k : Nat) : Fld := ⟨0xD00004 + 16 * k, 0, 1⟩
def FAB_ENG_CTL_FEED_B_OFF (k : Nat) : Fld := ⟨0xD00004 + 16 * k, 1, 1⟩
def FAB_ENG_POWER_FEED_A (k : Nat) : Fld := ⟨0xD00008 + 16 * k, 0, 16⟩
def FAB_ENG_POWER_FEED_B (k : Nat) : Fld := ⟨0xD00008 + 16 * k, 16, 16⟩
def FAB_ENG_STATUS (k : Nat) : Fld := ⟨0xD00000 + 16 * k, 0, 32⟩
def FAB_ENG_STATUS_FEED_A (k : Nat) : Fld := ⟨0xD00000 + 16 * k, 26, 2⟩
def FAB_ENG_STATUS_FEED_B (k : Nat) : Fld := ⟨0xD00000 + 16 * k, 28, 2⟩
def FAB_ENG_STATUS_OVER (k : Nat) : Fld := ⟨0xD00000 + 16 * k, 30, 1⟩
def FAB_MARGIN_MIN_EYE_H : Fld := ⟨0xD00108, 0, 8⟩
def FAB_MARGIN_MIN_EYE_W : Fld := ⟨0xD00108, 8, 8⟩
def FAB_PLANES_IN_SERVICE : Fld := ⟨0xD0010C, 0, 8⟩
def FAB_PL_CRC_COUNT (n : Nat) : Fld := ⟨0xD01014 + 0x100 * n, 0, 32⟩
def FAB_PL_CTL (n : Nat) : Fld := ⟨0xD01004 + 0x100 * n, 0, 32⟩
def FAB_PL_CTL_DISABLE (n : Nat) : Fld := ⟨0xD01004 + 0x100 * n, 1, 1⟩
def FAB_PL_CTL_MARGIN (n : Nat) : Fld := ⟨0xD01004 + 0x100 * n, 2, 1⟩
def FAB_PL_CTL_RETRAIN (n : Nat) : Fld := ⟨0xD01004 + 0x100 * n, 0, 1⟩
def FAB_PL_FLITS_LO_COUNT (n : Nat) : Fld := ⟨0xD01048 + 0x100 * n, 0, 32⟩
def FAB_PL_INT_STATUS_DEGRADED (n : Nat) : Fld := ⟨0xD01050 + 0x100 * n, 2, 1⟩
def FAB_PL_INT_STATUS_OUT (n : Nat) : Fld := ⟨0xD01050 + 0x100 * n, 4, 1⟩
def FAB_PL_INT_STATUS_OUTAGE (n : Nat) : Fld := ⟨0xD01050 + 0x100 * n, 3, 1⟩
def FAB_PL_INT_STATUS_RETRAINED (n : Nat) : Fld := ⟨0xD01050 + 0x100 * n, 0, 1⟩
def FAB_PL_INT_STATUS_SPARED (n : Nat) : Fld := ⟨0xD01050 + 0x100 * n, 1, 1⟩
def FAB_PL_LANE_ERR_COUNT (n k : Nat) : Fld := ⟨0xD01020 + 0x100 * n + 4 * k, 0, 32⟩
def FAB_PL_MARGIN_EYE_H (n : Nat) : Fld := ⟨0xD01008 + 0x100 * n, 0, 8⟩
def FAB_PL_MARGIN_EYE_W (n : Nat) : Fld := ⟨0xD01008 + 0x100 * n, 8, 8⟩
def FAB_PL_MARGIN_VALID (n : Nat) : Fld := ⟨0xD01008 + 0x100 * n, 31, 1⟩
def FAB_PL_REASM_DROP_COUNT (n : Nat) : Fld := ⟨0xD01018 + 0x100 * n, 0, 32⟩
def FAB_PL_REPLAY_COUNT (n : Nat) : Fld := ⟨0xD01010 + 0x100 * n, 0, 32⟩
def FAB_PL_STATUS_DEGRADED (n : Nat) : Fld := ⟨0xD01000 + 0x100 * n, 28, 1⟩
def FAB_PL_STATUS_RX_SPARED (n : Nat) : Fld := ⟨0xD01000 + 0x100 * n, 12, 3⟩
def FAB_PL_STATUS_RX_SPARE_USED (n : Nat) : Fld := ⟨0xD01000 + 0x100 * n, 15, 1⟩
def FAB_PL_STATUS_SPARE_BAD (n : Nat) : Fld := ⟨0xD01000 + 0x100 * n, 7, 1⟩
def FAB_PL_STATUS_STATE (n : Nat) : Fld := ⟨0xD01000 + 0x100 * n, 29, 3⟩
def FAB_PL_STATUS_TX_SPARED (n : Nat) : Fld := ⟨0xD01000 + 0x100 * n, 8, 3⟩
def FAB_PL_STATUS_TX_SPARE_USED (n : Nat) : Fld := ⟨0xD01000 + 0x100 * n, 11, 1⟩
def FAB_SAFETY_INT_STATUS_FEED_FAULT : Fld := ⟨0xD00040, 2, 1⟩
def FAB_SAFETY_INT_STATUS_INTLK_OPEN : Fld := ⟨0xD00040, 0, 1⟩
def FAB_SAFETY_INT_STATUS_OPEN_FIBRE : Fld := ⟨0xD00040, 1, 1⟩
def FAB_SAFETY_INT_STATUS_OVER_POWER : Fld := ⟨0xD00040, 3, 1⟩
def HIST_ADMIT_ERR_CAUSE : Fld := ⟨0x2100088, 28, 4⟩
def HIST_ADMIT_ERR_ENTRY : Fld := ⟨0x2100088, 0, 28⟩
def HIST_CMD : Fld := ⟨0x2100004, 0, 32⟩
def HIST_CMD_STATUS_RESULT : Fld := ⟨0x2100008, 0, 4⟩
def HIST_EMPTY_ROWS_COUNT (page : Nat) : Fld := ⟨0x2100054 + regPage * page, 0, 32⟩
def HIST_INT_STATUS_ADMIT_ERR : Fld := ⟨0x2100080, 2, 1⟩
def HIST_INT_STATUS_CMD_DONE : Fld := ⟨0x2100080, 0, 1⟩
def HIST_INT_STATUS_CMD_FAIL : Fld := ⟨0x2100080, 1, 1⟩
def HIST_INT_STATUS_NF_ROW : Fld := ⟨0x2100080, 5, 1⟩
def HIST_INT_STATUS_POOL_FULL : Fld := ⟨0x2100080, 3, 1⟩
def HIST_INT_STATUS_STALE_USE : Fld := ⟨0x2100080, 4, 1⟩
def HIST_INT_STATUS_UNIT_ERR : Fld := ⟨0x2100080, 6, 1⟩
def HIST_NEGINF_KEYS_COUNT (page : Nat) : Fld := ⟨0x2100058 + regPage * page, 0, 32⟩
def HIST_NF_ROWS_COUNT (page : Nat) : Fld := ⟨0x210005C + regPage * page, 0, 32⟩
def HIST_PRODUCED_LO_COUNT (page : Nat) : Fld := ⟨0x2100040 + regPage * page, 0, 32⟩
def HIST_REUSED_LO_COUNT (page : Nat) : Fld := ⟨0x2100048 + regPage * page, 0, 32⟩
def HIST_SPACE_FREE_SLOTS (page : Nat) : Fld := ⟨0x210002C + regPage * page, 0, 24⟩
def HIST_SPACE_GEOM_D (page : Nat) : Fld := ⟨0x2100018 + regPage * page, 16, 8⟩
def HIST_SPACE_GEOM_FORMAT (page : Nat) : Fld := ⟨0x2100018 + regPage * page, 28, 4⟩
def HIST_SPACE_GEOM_H (page : Nat) : Fld := ⟨0x2100018 + regPage * page, 10, 6⟩
def HIST_SPACE_GEOM_L (page : Nat) : Fld := ⟨0x2100018 + regPage * page, 0, 10⟩
def HIST_SPACE_LISTS_LISTS (page : Nat) : Fld := ⟨0x210001C + regPage * page, 0, 21⟩
def HIST_SPACE_OBJ_HANDLE (page : Nat) : Fld := ⟨0x2100014 + regPage * page, 0, 32⟩
def HIST_SPACE_PAGES_PAGES (page : Nat) : Fld := ⟨0x2100020 + regPage * page, 0, 24⟩
def HIST_SPACE_REFRESH_TICKS (page : Nat) : Fld := ⟨0x2100028 + regPage * page, 0, 32⟩
def HIST_SPACE_SEL_SPACE : Fld := ⟨0x2100010, 0, 3⟩
def HIST_SPACE_TAG_TAG (page : Nat) : Fld := ⟨0x2100024 + regPage * page, 0, 12⟩
def HIST_STALE_USE_COUNT (page : Nat) : Fld := ⟨0x2100050 + regPage * page, 0, 32⟩
def HIST_STATUS_ENABLED : Fld := ⟨0x2100000, 0, 8⟩
def HIST_UNIT_ERR_CAUSE : Fld := ⟨0x210008C, 28, 4⟩
def HIST_UNIT_ERR_UNIT : Fld := ⟨0x210008C, 0, 24⟩
def HOST_BI_CNT_COUNT : Fld := ⟨0x40005C, 0, 32⟩
def HOST_CPL_TO_CNT_COUNT : Fld := ⟨0x400058, 0, 32⟩
def HOST_CTL : Fld := ⟨0x400004, 0, 32⟩
def HOST_CTL_RETRAIN : Fld := ⟨0x400004, 0, 1⟩
def HOST_D2H_RD_LO_COUNT : Fld := ⟨0x400068, 0, 32⟩
def HOST_D2H_WR_LO_COUNT : Fld := ⟨0x400070, 0, 32⟩
def HOST_IDE_POLICY_REQUIRE : Fld := ⟨0x40004C, 0, 1⟩
def HOST_INT_SRC : Fld := ⟨0x400010, 0, 32⟩
def HOST_INT_STATUS_BI_TIMEOUT : Fld := ⟨0x400008, 3, 1⟩
def HOST_INT_STATUS_CPL_TIMEOUT : Fld := ⟨0x400008, 2, 1⟩
def HOST_INT_STATUS_IDE_FAIL : Fld := ⟨0x400008, 4, 1⟩
def HOST_INT_STATUS_LINK_CHANGE : Fld := ⟨0x400008, 1, 1⟩
def HOST_INT_STATUS_MBOX_DONE : Fld := ⟨0x400008, 0, 1⟩
def HOST_LINK_DOWN_CNT_COUNT : Fld := ⟨0x400060, 0, 32⟩
def HOST_MBOX_CMD : Fld := ⟨0x400040, 0, 32⟩
def HOST_MBOX_CMD_DOORBELL : Fld := ⟨0x400040, 31, 1⟩
def HOST_MBOX_CMD_IN_LEN : Fld := ⟨0x400040, 16, 9⟩
def HOST_MBOX_CMD_OPCODE : Fld := ⟨0x400040, 0, 16⟩
def HOST_MBOX_PAYLOAD_DATA (k : Nat) : Fld := ⟨0x400100 + 4 * k, 0, 32⟩
def HOST_MBOX_STATUS_BUSY : Fld := ⟨0x400044, 31, 1⟩
def HOST_MBOX_STATUS_OUT_LEN : Fld := ⟨0x400044, 16, 9⟩
def HOST_MBOX_STATUS_RESULT : Fld := ⟨0x400044, 0, 8⟩
def HOST_MEM_RD_LO_COUNT : Fld := ⟨0x400078, 0, 32⟩
def HOST_MEM_WR_LO_COUNT : Fld := ⟨0x400080, 0, 32⟩
def HOST_STATUS_HDM_COMMITTED : Fld := ⟨0x400000, 23, 1⟩
def HOST_STATUS_IDE_CM : Fld := ⟨0x400000, 21, 1⟩
def HOST_STATUS_IDE_LINK : Fld := ⟨0x400000, 19, 1⟩
def HOST_STATUS_IDE_SEL : Fld := ⟨0x400000, 20, 1⟩
def HOST_STATUS_LINK_UP : Fld := ⟨0x400000, 31, 1⟩
def HOST_STATUS_MEM_ACTIVE : Fld := ⟨0x400000, 22, 1⟩
def HOST_STATUS_SPEED : Fld := ⟨0x400000, 28, 3⟩
def HOST_STATUS_WIDTH : Fld := ⟨0x400000, 24, 4⟩
def HOST_VEC (k : Nat) : Fld := ⟨0x400020 + 4 * k, 0, 32⟩
def MEM_ACC_EVICT_COUNT (n : Nat) : Fld := ⟨0x1000274 + 0x40000 * n, 0, 32⟩
def MEM_ACC_LINES_LINES (n : Nat) : Fld := ⟨0x1000278 + 0x40000 * n, 0, 17⟩
def MEM_AGED_COUNT (n k : Nat) : Fld := ⟨0x1000280 + 0x40000 * n + 4 * k, 0, 32⟩
def MEM_CE_THRESH_COUNT (n : Nat) : Fld := ⟨0x1000218 + 0x40000 * n, 0, 32⟩
def MEM_CTL (n : Nat) : Fld := ⟨0x1000204 + 0x40000 * n, 0, 32⟩
def MEM_CTL_SCRUB_NOW (n : Nat) : Fld := ⟨0x1000204 + 0x40000 * n, 1, 1⟩
def MEM_CTL_SPARE_DIE (n : Nat) : Fld := ⟨0x1000204 + 0x40000 * n, 8, 4⟩
def MEM_DET_CNT_COUNT (n : Nat) : Fld := ⟨0x1000254 + 0x40000 * n, 0, 32⟩
def MEM_DIE_CE_COUNT (n k : Nat) : Fld := ⟨0x1000220 + 0x40000 * n + 4 * k, 0, 32⟩
def MEM_ERR_LINE_CLASS (n : Nat) : Fld := ⟨0x100025C + 0x40000 * n, 30, 1⟩
def MEM_ERR_LINE_LINE (n : Nat) : Fld := ⟨0x100025C + 0x40000 * n, 0, 28⟩
def MEM_ERR_LINE_VALID (n : Nat) : Fld := ⟨0x100025C + 0x40000 * n, 31, 1⟩
def MEM_INT_STATUS_DETECTED (n : Nat) : Fld := ⟨0x10002A0 + 0x40000 * n, 2, 1⟩
def MEM_INT_STATUS_IF_RETRY (n : Nat) : Fld := ⟨0x10002A0 + 0x40000 * n, 0, 1⟩
def MEM_INT_STATUS_NO_SPARE (n : Nat) : Fld := ⟨0x10002A0 + 0x40000 * n, 5, 1⟩
def MEM_INT_STATUS_SCRUB_LATE (n : Nat) : Fld := ⟨0x10002A0 + 0x40000 * n, 10, 1⟩
def MEM_INT_STATUS_SPARE_DONE (n : Nat) : Fld := ⟨0x10002A0 + 0x40000 * n, 4, 1⟩
def MEM_INT_STATUS_SPARE_START (n : Nat) : Fld := ⟨0x10002A0 + 0x40000 * n, 3, 1⟩
def MEM_INT_STATUS_TEMP_FAIL (n : Nat) : Fld := ⟨0x10002A0 + 0x40000 * n, 9, 1⟩
def MEM_INT_STATUS_THERM1 (n : Nat) : Fld := ⟨0x10002A0 + 0x40000 * n, 6, 1⟩
def MEM_INT_STATUS_THERM2 (n : Nat) : Fld := ⟨0x10002A0 + 0x40000 * n, 7, 1⟩
def MEM_INT_STATUS_THERM3 (n : Nat) : Fld := ⟨0x10002A0 + 0x40000 * n, 8, 1⟩
def MEM_INT_STATUS_UE (n : Nat) : Fld := ⟨0x10002A0 + 0x40000 * n, 1, 1⟩
def MEM_RECOMP_CNT_COUNT (n : Nat) : Fld := ⟨0x1000258 + 0x40000 * n, 0, 32⟩
def MEM_SCRUB_PERIOD_LO_TICKS (n : Nat) : Fld := ⟨0x1000260 + 0x40000 * n, 0, 32⟩
def MEM_SCRUB_STATUS_PASSES (n : Nat) : Fld := ⟨0x1000268 + 0x40000 * n, 16, 16⟩
def MEM_SPARE_CAUSE (n : Nat) : Fld := ⟨0x100020C + 0x40000 * n, 0, 4⟩
def MEM_SPARE_DIE (n : Nat) : Fld := ⟨0x100020C + 0x40000 * n, 8, 3⟩
def MEM_SPARE_LEFT_LINES (n : Nat) : Fld := ⟨0x1000210 + 0x40000 * n, 0, 32⟩
def MEM_SPARE_STATE (n : Nat) : Fld := ⟨0x100020C + 0x40000 * n, 30, 2⟩
def MEM_STATUS_SCRUB_BUSY (n : Nat) : Fld := ⟨0x1000200 + 0x40000 * n, 26, 1⟩
def MEM_STATUS_STATE (n : Nat) : Fld := ⟨0x1000200 + 0x40000 * n, 30, 2⟩
def MEM_STATUS_TEMP_FAIL (n : Nat) : Fld := ⟨0x1000200 + 0x40000 * n, 27, 1⟩
def MEM_STATUS_THERM (n : Nat) : Fld := ⟨0x1000200 + 0x40000 * n, 28, 2⟩
def MEM_TEMP_HOT_DIE (n : Nat) : Fld := ⟨0x1000208 + 0x40000 * n, 16, 4⟩
def MEM_TEMP_TEMP (n : Nat) : Fld := ⟨0x1000208 + 0x40000 * n, 0, 16⟩
def MEM_UE_CNT_COUNT (n : Nat) : Fld := ⟨0x1000250 + 0x40000 * n, 0, 32⟩
def MEM_WCB_FLUSH_COUNT (n : Nat) : Fld := ⟨0x1000270 + 0x40000 * n, 0, 32⟩
def MGMT_EVQ_DROP : Fld := ⟨0x28, 0, 32⟩
def MGMT_INT_STATUS_EVQ_DROP : Fld := ⟨0x40, 2, 1⟩
def MGMT_INT_STATUS_RESTART : Fld := ⟨0x40, 1, 1⟩
def MGMT_INT_STATUS_SWAP : Fld := ⟨0x40, 0, 1⟩
def MGMT_POLICY (k : Nat) : Fld := ⟨0x10 + 4 * k, 0, 32⟩
def MGMT_SMB_CFG_ADDR : Fld := ⟨0x24, 2, 7⟩
def MGMT_SMB_CFG_CAP_EN : Fld := ⟨0x24, 1, 1⟩
def MGMT_SMB_CFG_RESET_EN : Fld := ⟨0x24, 0, 1⟩
def MGMT_SMB_ERR : Fld := ⟨0x2C, 0, 32⟩
def MGMT_STATUS : Fld := ⟨0x0, 0, 32⟩
def MGMT_STATUS_EVQ : Fld := ⟨0x0, 0, 8⟩
def MGMT_STATUS_FW_SWAPPED : Fld := ⟨0x0, 24, 6⟩
def MGMT_STATUS_RESTARTS : Fld := ⟨0x0, 8, 8⟩
def MGMT_STATUS_SWAP_PEND : Fld := ⟨0x0, 30, 1⟩
def MGMT_SWAP_CAUSE : Fld := ⟨0x20, 16, 8⟩
def MGMT_SWAP_RESULT : Fld := ⟨0x20, 24, 4⟩
def MGMT_SWAP_TARGET : Fld := ⟨0x20, 28, 4⟩
def MSIX_ADDR_HI (k : Nat) : Fld := ⟨0x410004 + 16 * k, 0, 32⟩
def MSIX_ADDR_LO (k : Nat) : Fld := ⟨0x410000 + 16 * k, 0, 32⟩
def MSIX_CTL_MASK (k : Nat) : Fld := ⟨0x41000C + 16 * k, 0, 1⟩
def MSIX_DATA (k : Nat) : Fld := ⟨0x410008 + 16 * k, 0, 32⟩
def MSIX_PBA (k : Nat) : Fld := ⟨0x411000 + 4 * k, 0, 32⟩
def NUM_AMAX_NF_COUNT : Fld := ⟨0xB0001C, 0, 32⟩
def NUM_INT_STATUS_AMAX_NF : Fld := ⟨0xB00020, 3, 1⟩
def NUM_INT_STATUS_LS_FLOOR : Fld := ⟨0xB00020, 0, 1⟩
def NUM_INT_STATUS_OPT_NF : Fld := ⟨0xB00020, 1, 1⟩
def NUM_INT_STATUS_SAT_CORR : Fld := ⟨0xB00020, 2, 1⟩
def NUM_LS_CFG_GROW : Fld := ⟨0xB00000, 16, 16⟩
def NUM_LS_CFG_INIT_LOG2 : Fld := ⟨0xB00000, 0, 5⟩
def NUM_LS_CTL : Fld := ⟨0xB00004, 0, 32⟩
def NUM_LS_FLOOR_CNT_FLOOR : Fld := ⟨0xB0000C, 0, 32⟩
def NUM_LS_STATUS_CLEAN : Fld := ⟨0xB00008, 16, 16⟩
def NUM_LS_STATUS_CUR_LOG2 : Fld := ⟨0xB00008, 0, 5⟩
def NUM_NF_FIRST : Fld := ⟨0xB00014, 0, 32⟩
def NUM_NF_FIRST_LEAF : Fld := ⟨0xB00014, 0, 16⟩
def NUM_NF_FIRST_TAG : Fld := ⟨0xB00014, 16, 12⟩
def NUM_NF_FIRST_VALID : Fld := ⟨0xB00014, 31, 1⟩
def NUM_NF_LEAVES_LEAVES : Fld := ⟨0xB00010, 0, 32⟩
def NUM_NORM_STEP_LO_STEP : Fld := ⟨0xB00070, 0, 32⟩
def NUM_OPT_NF_COUNT : Fld := ⟨0xB00018, 0, 32⟩
def NUM_TAG_AMAX_HIST_AMAX (page : Nat) : Fld := ⟨0xB00050 + regPage * page, 0, 32⟩
def NUM_TAG_AMAX_LAST_AMAX (page : Nat) : Fld := ⟨0xB00054 + regPage * page, 0, 32⟩
def NUM_TAG_CFG (page : Nat) : Fld := ⟨0xB00044 + regPage * page, 0, 32⟩
def NUM_TAG_CFG_ENABLE (page : Nat) : Fld := ⟨0xB00044 + regPage * page, 31, 1⟩
def NUM_TAG_CFG_E_INIT (page : Nat) : Fld := ⟨0xB00044 + regPage * page, 8, 8⟩
def NUM_TAG_CFG_FORMAT (page : Nat) : Fld := ⟨0xB00044 + regPage * page, 0, 4⟩
def NUM_TAG_CFG_HIST_LEN (page : Nat) : Fld := ⟨0xB00044 + regPage * page, 16, 7⟩
def NUM_TAG_NORM_G_SUMSQ (page : Nat) : Fld := ⟨0xB00064 + regPage * page, 0, 32⟩
def NUM_TAG_NORM_U_SUMSQ (page : Nat) : Fld := ⟨0xB00068 + regPage * page, 0, 32⟩
def NUM_TAG_NORM_W_SUMSQ (page : Nat) : Fld := ⟨0xB00060 + regPage * page, 0, 32⟩
def NUM_TAG_SAT_LO_SAT (page : Nat) : Fld := ⟨0xB00058 + regPage * page, 0, 32⟩
def NUM_TAG_SAT_THRESH (page : Nat) : Fld := ⟨0xB00048 + regPage * page, 0, 32⟩
def NUM_TAG_SAT_THRESH_THRESH (page : Nat) : Fld := ⟨0xB00048 + regPage * page, 0, 32⟩
def NUM_TAG_SCALE_CORR_CNT (page : Nat) : Fld := ⟨0xB0004C + regPage * page, 16, 16⟩
def NUM_TAG_SCALE_E (page : Nat) : Fld := ⟨0xB0004C + regPage * page, 0, 8⟩
def NUM_TAG_SEL_TAG : Fld := ⟨0xB00040, 0, 12⟩
def OPT_ELEM_OPS_LO_COUNT (n : Nat) : Fld := ⟨0x1000120 + 0x40000 * n, 0, 32⟩
def OPT_INT_STATUS_PARAM_ERR : Fld := ⟨0x1600430, 2, 1⟩
def OPT_INT_STATUS_PENDING_OVF : Fld := ⟨0x1600430, 4, 1⟩
def OPT_INT_STATUS_STAGE_WAIT : Fld := ⟨0x1600430, 5, 1⟩
def OPT_INT_STATUS_TAIL_ACK_FAIL : Fld := ⟨0x1600430, 0, 1⟩
def OPT_INT_STATUS_TAIL_RING_FULL : Fld := ⟨0x1600430, 6, 1⟩
def OPT_INT_STATUS_TAIL_TIMEOUT : Fld := ⟨0x1600430, 1, 1⟩
def OPT_OVF_STEP_LO_STEP (n : Nat) : Fld := ⟨0x1000130 + 0x40000 * n, 0, 32⟩
def OPT_PARAM_ERR_CAUSE : Fld := ⟨0x160042C, 28, 4⟩
def OPT_PARAM_ERR_TABLE : Fld := ⟨0x160042C, 0, 12⟩
def OPT_PENDING_ENTRIES (n : Nat) : Fld := ⟨0x1000128 + 0x40000 * n, 0, 21⟩
def OPT_ROWS_LO_COUNT (n : Nat) : Fld := ⟨0x1000108 + 0x40000 * n, 0, 32⟩
def OPT_STAGE_INIT_LINES (n : Nat) : Fld := ⟨0x1000138 + 0x40000 * n, 0, 32⟩
def OPT_STAGE_LINES_LINES (n : Nat) : Fld := ⟨0x100013C + 0x40000 * n, 0, 32⟩
def OPT_STAGE_WAIT_COUNT : Fld := ⟨0x1600428, 0, 32⟩
def OPT_T2_ROWS_LO_COUNT (n : Nat) : Fld := ⟨0x1000110 + 0x40000 * n, 0, 32⟩
def OPT_TAIL_ACK_STEP_LO_STEP : Fld := ⟨0x1600418, 0, 32⟩
def OPT_TAIL_ACK_TIMEOUT_LIMIT : Fld := ⟨0x1600408, 0, 32⟩
def OPT_TAIL_CFG_STALE_K : Fld := ⟨0x1600400, 0, 3⟩
def OPT_TAIL_CFG_TAIL_RINGS : Fld := ⟨0x1600400, 16, 5⟩
def OPT_TAIL_CTL : Fld := ⟨0x1600404, 0, 32⟩
def OPT_TAIL_CTL_DRAIN : Fld := ⟨0x1600404, 0, 1⟩
def OPT_TAIL_RECORDS_LO_COUNT : Fld := ⟨0x1600410, 0, 32⟩
def OPT_TAIL_ROWS_LO_COUNT (n : Nat) : Fld := ⟨0x1000118 + 0x40000 * n, 0, 32⟩
def OPT_TAIL_STALE_COUNT : Fld := ⟨0x1600424, 0, 32⟩
def OPT_TAIL_WAIT_COUNT : Fld := ⟨0x1600420, 0, 32⟩
def OPT_UNIT_STATUS_PENDING_OVF (n : Nat) : Fld := ⟨0x1000100 + 0x40000 * n, 2, 1⟩
def PWR_AVS_RETRY : Fld := ⟨0x100200, 0, 32⟩
def PWR_CAP_CAP : Fld := ⟨0x100300, 0, 16⟩
def PWR_CAP_CAP_MAX : Fld := ⟨0x100300, 16, 16⟩
def PWR_CLAMP_CFG_WINDOW : Fld := ⟨0x100324, 0, 11⟩
def PWR_CTL_STANDBY : Fld := ⟨0x100004, 0, 1⟩
def PWR_CTL_TRIP_CLEAR : Fld := ⟨0x100004, 1, 1⟩
def PWR_DOM_CTL : Fld := ⟨0x100008, 0, 32⟩
def PWR_DOM_CTL_EN : Fld := ⟨0x100008, 0, 20⟩
def PWR_DOM_STATE_CAUSE (k : Nat) : Fld := ⟨0x100040 + 4 * k, 8, 3⟩
def PWR_DOM_STATE_LAST_ERR (k : Nat) : Fld := ⟨0x100040 + 4 * k, 4, 4⟩
def PWR_DOM_STATE_PENDING_DISABLE (k : Nat) : Fld := ⟨0x100040 + 4 * k, 14, 1⟩
def PWR_DOM_STATE_PENDING_ENABLE (k : Nat) : Fld := ⟨0x100040 + 4 * k, 15, 1⟩
def PWR_DOM_STATE_STATE (k : Nat) : Fld := ⟨0x100040 + 4 * k, 0, 2⟩
def PWR_GATE_USEC : Fld := ⟨0x100214, 0, 32⟩
def PWR_INT_STATUS_CLAMP : Fld := ⟨0x100340, 3, 1⟩
def PWR_INT_STATUS_DOM_CHANGE : Fld := ⟨0x100340, 0, 1⟩
def PWR_INT_STATUS_DOM_REFUSED : Fld := ⟨0x100340, 1, 1⟩
def PWR_INT_STATUS_RAIL_FAULT : Fld := ⟨0x100340, 2, 1⟩
def PWR_INT_STATUS_THERM_WARN : Fld := ⟨0x100340, 4, 1⟩
def PWR_INT_STATUS_TRIP : Fld := ⟨0x100340, 5, 1⟩
def PWR_INT_STATUS_WAKE : Fld := ⟨0x100340, 6, 1⟩
def PWR_LEDGER_BAL_UJ : Fld := ⟨0x10030C, 0, 32⟩
def PWR_LEDGER_B_UJ : Fld := ⟨0x100308, 0, 32⟩
def PWR_LEDGER_OVER_COUNT : Fld := ⟨0x100208, 0, 32⟩
def PWR_LEDGER_SWAP_COUNT : Fld := ⟨0x10020C, 0, 32⟩
def PWR_LEDGER_WAIT_COUNT : Fld := ⟨0x100210, 0, 32⟩
def PWR_MEAS_AVG_W : Fld := ⟨0x100320, 16, 16⟩
def PWR_MEAS_INST_W : Fld := ⟨0x100320, 0, 16⟩
def PWR_RAIL_MEAS_DECIAMP (k : Nat) : Fld := ⟨0x10010C + 16 * k, 16, 16⟩
def PWR_RAIL_MEAS_MV (k : Nat) : Fld := ⟨0x10010C + 16 * k, 0, 16⟩
def PWR_RAIL_STATUS_FAULT (k : Nat) : Fld := ⟨0x100108 + 16 * k, 24, 2⟩
def PWR_RAIL_STATUS_MV (k : Nat) : Fld := ⟨0x100108 + 16 * k, 0, 16⟩
def PWR_RAIL_STATUS_STATE (k : Nat) : Fld := ⟨0x100108 + 16 * k, 29, 3⟩
def PWR_RAIL_TGT_MV (k : Nat) : Fld := ⟨0x100100 + 16 * k, 0, 16⟩
def PWR_RAIL_WIN_MAX_MV (k : Nat) : Fld := ⟨0x100104 + 16 * k, 16, 16⟩
def PWR_RAIL_WIN_MIN_MV (k : Nat) : Fld := ⟨0x100104 + 16 * k, 0, 16⟩
def PWR_RESERVE_WATTS : Fld := ⟨0x100304, 0, 16⟩
def PWR_STATUS : Fld := ⟨0x100000, 0, 32⟩
def PWR_STATUS_GATE : Fld := ⟨0x100000, 20, 5⟩
def PWR_STATUS_ON : Fld := ⟨0x100000, 0, 20⟩
def PWR_STATUS_STAGE : Fld := ⟨0x100000, 28, 2⟩
def PWR_STATUS_STANDBY : Fld := ⟨0x100000, 30, 1⟩
def PWR_STATUS_TRIP : Fld := ⟨0x100000, 31, 1⟩
def PWR_TEMP : Fld := ⟨0x100330, 0, 32⟩
def PWR_TEMP_HOT_SENSOR : Fld := ⟨0x100330, 16, 5⟩
def PWR_TEMP_TEMP : Fld := ⟨0x100330, 0, 16⟩
def PWR_VCLAMP_CNT : Fld := ⟨0x100204, 0, 32⟩
def PWR_WAKE_ALARM_EN : Fld := ⟨0x100350, 31, 1⟩
def PWR_WAKE_SET : Fld := ⟨0x100350, 0, 20⟩
def PWR_WAKE_TICK_LO_TICK : Fld := ⟨0x100358, 0, 32⟩
def RING_BASE_HI (n : Nat) : Fld := ⟨0x50000C + 0x40 * n, 0, 32⟩
def RING_BASE_LO (n : Nat) : Fld := ⟨0x500008 + 0x40 * n, 0, 32⟩
def RING_BATCH_ERR_CAUSE : Fld := ⟨0x540000, 28, 4⟩
def RING_BATCH_ERR_RING : Fld := ⟨0x540000, 0, 12⟩
def RING_CFG_CHANNEL (n : Nat) : Fld := ⟨0x500000 + 0x40 * n, 11, 7⟩
def RING_CFG_ENGINE (n : Nat) : Fld := ⟨0x500000 + 0x40 * n, 18, 5⟩
def RING_CFG_LOG2_ENTRIES (n : Nat) : Fld := ⟨0x500000 + 0x40 * n, 23, 5⟩
def RING_CFG_TYPE (n : Nat) : Fld := ⟨0x500000 + 0x40 * n, 28, 4⟩
def RING_CFG_VECTOR (n : Nat) : Fld := ⟨0x500000 + 0x40 * n, 0, 8⟩
def RING_CONS (n : Nat) : Fld := ⟨0x500014 + 0x40 * n, 0, 32⟩
def RING_CONS_PTR (n : Nat) : Fld := ⟨0x500014 + 0x40 * n, 0, 32⟩
def RING_CTL (n : Nat) : Fld := ⟨0x500018 + 0x40 * n, 0, 32⟩
def RING_CTL_EMPTY_INT (n : Nat) : Fld := ⟨0x500018 + 0x40 * n, 2, 1⟩
def RING_CTL_ENABLE (n : Nat) : Fld := ⟨0x500018 + 0x40 * n, 0, 1⟩
def RING_CTL_INT_EN (n : Nat) : Fld := ⟨0x500018 + 0x40 * n, 1, 1⟩
def RING_DROP (n : Nat) : Fld := ⟨0x50002C + 0x40 * n, 0, 32⟩
def RING_DROP_COUNT (n : Nat) : Fld := ⟨0x50002C + 0x40 * n, 0, 32⟩
def RING_INT_STATUS_BATCH_ERR : Fld := ⟨0x540004, 0, 1⟩
def RING_MOD_CLK (n : Nat) : Fld := ⟨0x50001C + 0x40 * n, 0, 24⟩
def RING_MOD_COUNT (n : Nat) : Fld := ⟨0x50001C + 0x40 * n, 24, 8⟩
def RING_PAIR_PAIR (n : Nat) : Fld := ⟨0x500004 + 0x40 * n, 0, 12⟩
def RING_PAIR_UNITS (n : Nat) : Fld := ⟨0x500004 + 0x40 * n, 15, 1⟩
def RING_PROD (n : Nat) : Fld := ⟨0x500010 + 0x40 * n, 0, 32⟩
def RING_PROD_PTR (n : Nat) : Fld := ⟨0x500010 + 0x40 * n, 0, 32⟩
def RING_STATUS_ACC_ERR (n : Nat) : Fld := ⟨0x500028 + 0x40 * n, 5, 1⟩
def RING_STATUS_DROP (n : Nat) : Fld := ⟨0x500028 + 0x40 * n, 2, 1⟩
def RING_STATUS_EMPTY (n : Nat) : Fld := ⟨0x500028 + 0x40 * n, 3, 1⟩
def RING_STATUS_FULL (n : Nat) : Fld := ⟨0x500028 + 0x40 * n, 4, 1⟩
def RING_STATUS_FULL_WAIT (n : Nat) : Fld := ⟨0x500028 + 0x40 * n, 1, 1⟩
def RING_STATUS_PTR_ERR (n : Nat) : Fld := ⟨0x500028 + 0x40 * n, 0, 1⟩
def RING_WB_HI (n : Nat) : Fld := ⟨0x500024 + 0x40 * n, 0, 32⟩
def RING_WB_LO (n : Nat) : Fld := ⟨0x500020 + 0x40 * n, 0, 32⟩
def SEC_IDENTITY_DATA (k : Nat) : Fld := ⟨0x2300010 + 4 * k, 0, 32⟩
def SEC_IMAGE_DIGEST_DATA (k : Nat) : Fld := ⟨0x2300040 + 4 * k, 0, 32⟩
def SEC_INT_STATUS_REVOKED : Fld := ⟨0x2300090, 1, 1⟩
def SEC_INT_STATUS_VERIFY_FAIL : Fld := ⟨0x2300090, 0, 1⟩
def SEC_REVOKE : Fld := ⟨0x2300080, 0, 32⟩
def SEC_STATUS : Fld := ⟨0x2300000, 0, 32⟩
def SEC_STATUS_KEY_SLOT : Fld := ⟨0x2300000, 0, 2⟩
def SEC_STATUS_PUF_OK : Fld := ⟨0x2300000, 31, 1⟩
def SEC_STATUS_REVOKED : Fld := ⟨0x2300000, 4, 4⟩
def SEC_VERIFY_FAIL : Fld := ⟨0x2300084, 0, 32⟩
def SPINE_BLOCK (k : Nat) : Fld := ⟨0xA00100 + 4 * k, 0, 32⟩
def SPINE_BLOCK_BASE (k : Nat) : Fld := ⟨0xA00100 + 4 * k, 0, 16⟩
def SPINE_BLOCK_LOG2_SIZE (k : Nat) : Fld := ⟨0xA00100 + 4 * k, 16, 5⟩
def SPINE_BLOCK_VALID (k : Nat) : Fld := ⟨0xA00100 + 4 * k, 31, 1⟩
def SPINE_COMMIT_TICK_LO : Fld := ⟨0xA00040, 0, 32⟩
def SPINE_COMMIT_TICK_LO_TICK : Fld := ⟨0xA00040, 0, 32⟩
def SPINE_CTL : Fld := ⟨0xA00004, 0, 32⟩
def SPINE_CTL_HALT_REQ : Fld := ⟨0xA00004, 1, 1⟩
def SPINE_CTL_MODE_REQ : Fld := ⟨0xA00004, 2, 1⟩
def SPINE_CTL_RUN : Fld := ⟨0xA00004, 0, 1⟩
def SPINE_DEFER_CNT_DEFERRED : Fld := ⟨0xA0001C, 0, 32⟩
def SPINE_INT_STATUS_COMMIT : Fld := ⟨0xA00030, 0, 1⟩
def SPINE_INT_STATUS_COMMIT_FAULT : Fld := ⟨0xA00030, 4, 1⟩
def SPINE_INT_STATUS_LEAF_MISMATCH : Fld := ⟨0xA00030, 2, 1⟩
def SPINE_INT_STATUS_LOAD_FAIL : Fld := ⟨0xA00030, 6, 1⟩
def SPINE_INT_STATUS_MODE_FAIL : Fld := ⟨0xA00030, 5, 1⟩
def SPINE_INT_STATUS_SKIP : Fld := ⟨0xA00030, 1, 1⟩
def SPINE_INT_STATUS_WDOG : Fld := ⟨0xA00030, 3, 1⟩
def SPINE_LEAF_CFG : Fld := ⟨0xA00010, 0, 32⟩
def SPINE_LEAF_CFG_LEAF_LOG2 : Fld := ⟨0xA00010, 0, 5⟩
def SPINE_LEAF_CFG_LEAF_SAMPLES : Fld := ⟨0xA00010, 16, 16⟩
def SPINE_LOAD_ERR : Fld := ⟨0xA00038, 0, 32⟩
def SPINE_LOAD_ERR_CAUSE : Fld := ⟨0xA00038, 28, 4⟩
def SPINE_LOAD_ERR_UNIT : Fld := ⟨0xA00038, 0, 24⟩
def SPINE_POOL0_IN_POOL : Fld := ⟨0xA00020, 0, 32⟩
def SPINE_POOL1_IN_POOL : Fld := ⟨0xA00024, 0, 32⟩
def SPINE_POOL2_IN_POOL : Fld := ⟨0xA00028, 0, 32⟩
def SPINE_SKIP_CNT_SKIPS : Fld := ⟨0xA00018, 0, 32⟩
def SPINE_STARVE_TICKS : Fld := ⟨0xA0003C, 0, 32⟩
def SPINE_STATUS : Fld := ⟨0xA00000, 0, 32⟩
def SPINE_STATUS_ADMIT_NEXT : Fld := ⟨0xA00000, 10, 1⟩
def SPINE_STATUS_LOADED : Fld := ⟨0xA00000, 11, 1⟩
def SPINE_STATUS_MODE : Fld := ⟨0xA00000, 8, 1⟩
def SPINE_STATUS_MODE_PEND : Fld := ⟨0xA00000, 9, 1⟩
def SPINE_STEP_HI_STEP : Fld := ⟨0xA0000C, 0, 32⟩
def SPINE_STEP_LO : Fld := ⟨0xA00008, 0, 32⟩
def SPINE_STEP_LO_STEP : Fld := ⟨0xA00008, 0, 32⟩
def SPINE_WDOG_LIMIT : Fld := ⟨0xA00014, 0, 32⟩
def SPINE_WMARK_LO_WMARK : Fld := ⟨0xA00048, 0, 32⟩
def TEST_ABANDON_COUNT : Fld := ⟨0x220002C, 0, 32⟩
def TEST_CFG_ENABLE : Fld := ⟨0x2200000, 31, 1⟩
def TEST_CFG_ITEMS : Fld := ⟨0x2200000, 0, 4⟩
def TEST_CORE_FAIL_COUNT : Fld := ⟨0x2200024, 0, 32⟩
def TEST_CORE_PASS_COUNT : Fld := ⟨0x2200020, 0, 32⟩
def TEST_FEED_WEAK : Fld := ⟨0x2200028, 0, 32⟩
def TEST_INT_STATUS_ITEM_FAIL : Fld := ⟨0x2200030, 1, 1⟩
def TEST_INT_STATUS_WINDOW_DONE : Fld := ⟨0x2200030, 0, 1⟩
def TEST_NEXT_LO : Fld := ⟨0x2200010, 0, 32⟩
def TEST_PERIOD : Fld := ⟨0x2200004, 0, 32⟩
def TEST_STATUS_IN_WINDOW : Fld := ⟨0x2200018, 31, 1⟩
def TEST_STATUS_NEXT_CORE : Fld := ⟨0x2200018, 8, 8⟩
def TEST_STATUS_WINDOWS : Fld := ⟨0x2200018, 0, 8⟩
def TEST_WINDOW : Fld := ⟨0x2200008, 0, 32⟩
def TIER_CARRIER_STATE : Fld := ⟨0x2000050, 0, 16⟩
def TIER_CMD : Fld := ⟨0x2000004, 0, 32⟩
def TIER_CMD_ADDR_LO_ADDR : Fld := ⟨0x2000010, 0, 32⟩
def TIER_CMD_HANDLE_HANDLE : Fld := ⟨0x200000C, 0, 32⟩
def TIER_CMD_ROW_HI_ROW : Fld := ⟨0x200001C, 0, 32⟩
def TIER_CMD_ROW_LO_ROW : Fld := ⟨0x2000018, 0, 32⟩
def TIER_CMD_STATUS_BUSY : Fld := ⟨0x2000008, 31, 1⟩
def TIER_CMD_STATUS_RESULT : Fld := ⟨0x2000008, 0, 8⟩
def TIER_DEMOTED_COUNT : Fld := ⟨0x2000064, 0, 32⟩
def TIER_DIR_LINES_LINES : Fld := ⟨0x2000030, 0, 32⟩
def TIER_DRAIN_KIND : Fld := ⟨0x2000054, 16, 1⟩
def TIER_DRAIN_LEFT_LO : Fld := ⟨0x2000058, 0, 32⟩
def TIER_DRAIN_QUEUED : Fld := ⟨0x2000054, 24, 4⟩
def TIER_DRAIN_STATE : Fld := ⟨0x2000054, 28, 4⟩
def TIER_DRAIN_TARGET : Fld := ⟨0x2000054, 0, 5⟩
def TIER_HOST_MISS_COUNT : Fld := ⟨0x2000078, 0, 32⟩
def TIER_INT_STATUS_CARRIER_CHANGE : Fld := ⟨0x2000080, 6, 1⟩
def TIER_INT_STATUS_CMD_DONE : Fld := ⟨0x2000080, 0, 1⟩
def TIER_INT_STATUS_CMD_FAIL : Fld := ⟨0x2000080, 1, 1⟩
def TIER_INT_STATUS_DRAIN_DONE : Fld := ⟨0x2000080, 4, 1⟩
def TIER_INT_STATUS_DRAIN_FAIL : Fld := ⟨0x2000080, 5, 1⟩
def TIER_INT_STATUS_NO_ROOM : Fld := ⟨0x2000080, 2, 1⟩
def TIER_INT_STATUS_PIN_FAIL : Fld := ⟨0x2000080, 3, 1⟩
def TIER_LOC_HI_CARRIER : Fld := ⟨0x2000024, 8, 2⟩
def TIER_LOC_HI_LINE_HI : Fld := ⟨0x2000024, 0, 4⟩
def TIER_LOC_HI_STATE : Fld := ⟨0x2000024, 6, 2⟩
def TIER_LOC_HI_TIER : Fld := ⟨0x2000024, 4, 2⟩
def TIER_LOC_HI_VERSION : Fld := ⟨0x2000024, 16, 16⟩
def TIER_LOC_LO_LINE_LO : Fld := ⟨0x2000020, 0, 32⟩
def TIER_MIG_RETRY_COUNT : Fld := ⟨0x2000068, 0, 32⟩
def TIER_NO_ROOM_COUNT : Fld := ⟨0x2000074, 0, 32⟩
def TIER_OBJ_NEXT_DECAY_LO (page : Nat) : Fld := ⟨0x2000120 + regPage * page, 0, 32⟩
def TIER_OBJ_SEL_NUMBER : Fld := ⟨0x2000100, 0, 14⟩
def TIER_OBJ_STATE (page : Nat) : Fld := ⟨0x2000104 + regPage * page, 0, 32⟩
def TIER_OBJ_T1_LO (page : Nat) : Fld := ⟨0x2000108 + regPage * page, 0, 32⟩
def TIER_OBJ_T2_LO (page : Nat) : Fld := ⟨0x2000110 + regPage * page, 0, 32⟩
def TIER_OBJ_TAIL (page : Nat) : Fld := ⟨0x2000118 + regPage * page, 0, 32⟩
def TIER_PROMOTED_COUNT : Fld := ⟨0x2000060, 0, 32⟩
def TIER_STATUS : Fld := ⟨0x2000000, 0, 32⟩
def TIER_STATUS_DIR_FULL : Fld := ⟨0x2000000, 4, 1⟩
def TIER_T1_FREE_LO : Fld := ⟨0x2000040, 0, 32⟩
def TIER_T1_RESERVE_LINES : Fld := ⟨0x2000034, 0, 32⟩
def TIER_T2_FREE_LO : Fld := ⟨0x2000048, 0, 32⟩
def TIER_TAIL_OVER_COUNT : Fld := ⟨0x2000070, 0, 32⟩
def TIER_TAIL_PROMOTED_COUNT : Fld := ⟨0x200006C, 0, 32⟩
def TIER_TAIL_RATE_SLOTS : Fld := ⟨0x2000038, 0, 32⟩
def TLNK_CFG_AUTO_JOIN : Fld := ⟨0xE00000, 31, 1⟩
def TLNK_C_CAP_LO_VALUE (n : Nat) : Fld := ⟨0xE00110 + 0x100 * n, 0, 32⟩
def TLNK_C_CRC_COUNT (n : Nat) : Fld := ⟨0xE00128 + 0x100 * n, 0, 32⟩
def TLNK_C_CTL (n : Nat) : Fld := ⟨0xE00104 + 0x100 * n, 0, 32⟩
def TLNK_C_CTL_MARGIN (n : Nat) : Fld := ⟨0xE00104 + 0x100 * n, 2, 1⟩
def TLNK_C_CTL_RETRAIN (n : Nat) : Fld := ⟨0xE00104 + 0x100 * n, 1, 1⟩
def TLNK_C_DUP_RESP_COUNT (n : Nat) : Fld := ⟨0xE00134 + 0x100 * n, 0, 32⟩
def TLNK_C_ERR_LINE_HI_LINE (n : Nat) : Fld := ⟨0xE0011C + 0x100 * n, 0, 32⟩
def TLNK_C_ERR_LINE_LO_LINE (n : Nat) : Fld := ⟨0xE00118 + 0x100 * n, 0, 32⟩
def TLNK_C_ID_LO_VALUE (n : Nat) : Fld := ⟨0xE00108 + 0x100 * n, 0, 32⟩
def TLNK_C_INT_STATUS_DEGRADED (n : Nat) : Fld := ⟨0xE00150 + 0x100 * n, 2, 1⟩
def TLNK_C_INT_STATUS_FAILED (n : Nat) : Fld := ⟨0xE00150 + 0x100 * n, 4, 1⟩
def TLNK_C_INT_STATUS_HELLO (n : Nat) : Fld := ⟨0xE00150 + 0x100 * n, 0, 1⟩
def TLNK_C_INT_STATUS_POISON (n : Nat) : Fld := ⟨0xE00150 + 0x100 * n, 3, 1⟩
def TLNK_C_INT_STATUS_QUIESCED (n : Nat) : Fld := ⟨0xE00150 + 0x100 * n, 5, 1⟩
def TLNK_C_INT_STATUS_SPARED (n : Nat) : Fld := ⟨0xE00150 + 0x100 * n, 1, 1⟩
def TLNK_C_MARGIN_RESULT (n : Nat) : Fld := ⟨0xE00120 + 0x100 * n, 0, 32⟩
def TLNK_C_POISON_COUNT (n : Nat) : Fld := ⟨0xE00130 + 0x100 * n, 0, 32⟩
def TLNK_C_RD_LINES_LO_COUNT (n : Nat) : Fld := ⟨0xE00140 + 0x100 * n, 0, 32⟩
def TLNK_C_REPLAY_COUNT (n : Nat) : Fld := ⟨0xE00124 + 0x100 * n, 0, 32⟩
def TLNK_C_STATUS_LINK (n : Nat) : Fld := ⟨0xE00100 + 0x100 * n, 29, 3⟩
def TLNK_C_STATUS_OUTSTANDING (n : Nat) : Fld := ⟨0xE00100 + 0x100 * n, 0, 13⟩
def TLNK_C_STATUS_RX_SPARE_USED (n : Nat) : Fld := ⟨0xE00100 + 0x100 * n, 27, 1⟩
def TLNK_C_STATUS_SPARE_BAD (n : Nat) : Fld := ⟨0xE00100 + 0x100 * n, 26, 1⟩
def TLNK_C_STATUS_TX_SPARE_USED (n : Nat) : Fld := ⟨0xE00100 + 0x100 * n, 28, 1⟩
def TLNK_C_STATUS_VERSION (n : Nat) : Fld := ⟨0xE00100 + 0x100 * n, 13, 8⟩
def TLNK_C_TIMEOUT_COUNT (n : Nat) : Fld := ⟨0xE0012C + 0x100 * n, 0, 32⟩
def TLNK_C_WR_LINES_LO_COUNT (n : Nat) : Fld := ⟨0xE00148 + 0x100 * n, 0, 32⟩
def TLNK_OUTAGE_LIMIT_TICKS : Fld := ⟨0xE00004, 0, 32⟩

end F

end Sys2Proof.Machine
end

