-- ==== Sys2Proof/Machine/Store.lean ====
section
/-! DEFINITION. Sparse plain data by key: a list of (key, value) pairs in one canonical form
(keys strictly rising, no entry equal to what an unlisted key reads as). The registers and the
memory of the model are such lists. -/

namespace Sys2Proof.Machine

/-- Sparse data by key. -/
abbrev Store (α : Type) := List (Nat × α)

/-- The value at a key; an unlisted key reads as `d k`. -/
def Store.get {α : Type} (d : Nat → α) : List (Nat × α) → Nat → α
  | [], k => d k
  | (k', v) :: r, k => if k' = k then v else Store.get d r k

/-- `m` without key `k`. -/
def Store.erase {α : Type} (k : Nat) : List (Nat × α) → List (Nat × α)
  | [] => []
  | (k', v) :: r => if k' = k then Store.erase k r else (k', v) :: Store.erase k r

/-- `m` with the pair put before the first larger key. -/
def Store.insert {α : Type} (k : Nat) (v : α) : List (Nat × α) → List (Nat × α)
  | [] => [(k, v)]
  | (k', v') :: r => if k < k' then (k, v) :: (k', v') :: r else (k', v') :: Store.insert k v r

/-- Write one key; writing what an unlisted key reads as removes the entry. -/
def Store.set {α : Type} [DecidableEq α] (d : Nat → α) (m : List (Nat × α)) (k : Nat) (v : α) :
    List (Nat × α) :=
  if v = d k then Store.erase k m else Store.insert k v (Store.erase k m)

/-- The canonical form from a lower bound on. -/
def Store.wfFrom {α : Type} [DecidableEq α] (d : Nat → α) : Nat → List (Nat × α) → Bool
  | _, [] => true
  | lo, (k, v) :: r => decide (lo ≤ k) && decide (v ≠ d k) && Store.wfFrom d (k + 1) r

/-- The canonical form: keys strictly rising, no entry at its unlisted value. -/
def Store.wf {α : Type} [DecidableEq α] (d : Nat → α) (m : List (Nat × α)) : Bool :=
  Store.wfFrom d 0 m

/-- Update the value at a key. -/
def Store.modify {α : Type} [DecidableEq α] (d : Nat → α) (m : List (Nat × α)) (k : Nat)
    (f : α → α) : List (Nat × α) :=
  Store.set d m k (f (Store.get d m k))

/-- Drop every entry whose key fails the test. -/
def Store.keep {α : Type} (p : Nat → Bool) (m : List (Nat × α)) : List (Nat × α) :=
  m.filter (fun e => p e.1)

end Sys2Proof.Machine
end

