-- ==== Sys2Proof/Machine/State.lean ====
section
/-! DEFINITION. The state of the T24 as a block: every register, buffer, queue, counter and mode
the spec gives it, and the queue of commands that wait. Everything is plain data. -/

namespace Sys2Proof.Machine

/-- One byte string the event log keeps: R364's header fields and R547's 48-byte body. -/
structure LogEntry where
  code : Nat
  severity : Nat
  source : Nat
  seq : Nat
  tick : Nat
  body : Bytes
  deriving DecidableEq, Repr

/-- An event passed to the fault policy (R543): its class, the tile, carrier or other unit it
concerns, and that tile or carrier where DRAIN applies. -/
structure FaultEv where
  cls : Nat
  unit : Nat
  deriving DecidableEq, Repr

/-- Output pins the spec names (R390, R389, R472, R501, R554, R514) (DESIGN CHOICE, log entry 150). -/
inductive Pin where
  | railEn (rail : Nat)
  | elsEn (engine feed : Nat)
  | thermtripN
  | smbAlertN
  | xspiRstN
  | smuCalTx
  deriving DecidableEq, Repr

/-- What the block emits, newest first: nothing inside the T24 reads it back. -/
inductive Out where
  /-- an MSI-X message (R437) -/
  | msix (vector : Nat) (addr data : Nat)
  /-- the completion of a BAR0 read (R9, R12) -/
  | readData (requester : Nat) (value : Word)
  /-- a BAR0 request completed with Unsupported Request (R14, R443) -/
  | unsupportedRequest
  /-- a pin driven to a level -/
  | pin (p : Pin) (level : Bool)
  /-- an AVSBus Voltage write with commit (R475, R476) -/
  | avsWrite (bus rail mv : Nat)
  /-- an AVSBus Status read (R476) -/
  | avsStatus (bus : Nat)
  /-- a DATA flit sent on a plane (R403) -/
  | flit (link : Nat) (bytes : Bytes)
  /-- a control record of R404 sent on a plane or carrier link -/
  | control (link : Nat) (record : Bytes)
  /-- a data flit or frame sent again (R396) -/
  | replay (link seq : Nat)
  /-- a command slot of R412 sent to a carrier -/
  | tierCmd (carrier : Nat) (op lines tag addr : Nat)
  /-- a CXL.mem response: one line, poison or not (R216, R432) -/
  | memData (bytes : Bytes) (poison : Bool)
  /-- completion of a CXL.mem write (R432) -/
  | memCmp
  /-- a line a stack controller returns to its reader, with detected status (R236, R243) -/
  | lineRead (tile line : Nat) (bytes : Bytes) (detected : Bool)
  /-- a BISnpInv for an HDM line (R433) -/
  | biSnp (line : Nat)
  /-- the answer to an H2D snoop: RspIHitI (R426) -/
  | rspIHitI
  /-- a CXL.cache request issued: its kind and host line (R426) -/
  | d2h (kind : Nat) (line : Nat)
  /-- an SMBus answer (R553) -/
  | smbus (bytes : Bytes)
  /-- a DOE response (R442) -/
  | doe (bytes : Bytes)
  /-- a frame of the SMU's calibration port (R571) -/
  | calPort (bytes : Bytes)
  deriving DecidableEq, Repr

/-- An allocated extent of lines of one stack or carrier (R206, R211). -/
structure Extent where
  place : Nat
  line : Nat
  len : Nat
  deriving DecidableEq, Repr

/-- An object of the tier manager (R201 to R209). `frames` are the (tile, first line) of its 2 MiB
frames (R206); `sketch` its hotness counters (R220). -/
structure TierObj where
  live : Bool := false
  gen : Nat := 0
  kind : Nat := 0
  ecc : Nat := 0
  allowed : Nat := 0
  pinTier : Nat := 0
  recLines : Nat := 0
  size : Nat := 0
  t3Base : Nat := 0
  hdmOff : Nat := 0
  hdmFirst : Nat := 0
  hdmRows : Nat := 0
  pinFirst : Nat := 0
  pinRows : Nat := 0
  promT1 : Nat := 0
  promT2 : Nat := 0
  demT1 : Nat := 0
  demT2 : Nat := 0
  decay : Nat := 0
  tailMax : Nat := 0
  nextDecay : Nat := 0
  tailCount : Nat := 0
  pinHeld : Bool := true
  frames : List (Nat × Nat) := []
  sketchAt : Option (Nat × Nat) := none
  sketch : Store Nat := []
  deriving DecidableEq, Repr

/-- One directory entry (R212). `tier` 1 or 2, `place` the tile or carrier, `state` 0 resident,
1 moving, 2 Bellwether (R233, TIER_LOC_HI). -/
structure DirEntry where
  obj : Nat
  row : Nat
  tier : Nat
  place : Nat
  line : Nat
  state : Nat
  version : Nat
  deriving DecidableEq, Repr

/-- A move of R226 whose switch a fence holds (R227): the entry's tag v0, the destination, and why the row is moved, as in
`WantMove`, 5 for a promotion of R156. -/
structure Move where
  obj : Nat
  row : Nat
  v0 : Nat
  tier : Nat
  place : Nat
  line : Nat
  fromT3 : Bool
  why : Nat
  deriving DecidableEq, Repr

/-- A row the tier manager is still to move: by a sweep down, a pin, an evacuation, a drain or the
emptying of T3 (R222 to R224, R229, R230, R232). `why` 0 demote, 1 pin, 2 evacuate, 3 drain, 4 recovery. -/
structure WantMove where
  obj : Nat
  row : Nat
  why : Nat
  deriving DecidableEq, Repr

/-- The tier manager (R201 to R233). A drain is (kind, target), kind 0 tile, 1 carrier. `allowance` is R228's, in
1/1,000 slot; `low` says that free space lies under the mark of R222; `recovering` that R232's move runs. -/
structure Tier where
  objs : Store TierObj := []
  dir : List DirEntry := []
  t1 : List Extent := []
  t2 : List Extent := []
  want : List WantMove := []
  moves : List Move := []
  drainNow : Option (Nat × Nat) := none
  drainQ : List (Nat × Nat) := []
  drainedTiles : List Nat := []
  allowance : Int := 800000000
  low : Bool := false
  recovering : Bool := false
  deriving DecidableEq, Repr

/-- A line held in a write-combining buffer with its byte mask (R250). -/
structure WcbEntry where
  line : Nat
  mask : Nat
  deriving DecidableEq, Repr

/-- One tile's memory controller beyond its registers (R234 to R262). `wcb` oldest first; `acc` the
accumulate cache, least recently accumulated first (R253); `patrol` the next line of a pass
(R246); `ceSince` corrected errors per physical die in the current pass (R255); `spare` the
logical die whose copy runs and its copy point (R256); `detected` detected errors per line in the
step (R245); `badTemps` samples without a valid reading, per die (R260); `bank` the next bank to refresh,
per channel (R259); `late` the lines whose lasting error their next reader meets (R251). -/
structure MemTile where
  wcb : List WcbEntry := []
  acc : List Nat := []
  patrol : Option Nat := none
  passDue : Bool := false
  periodLeft : Nat := 0
  ceSince : Store Nat := []
  copy : Option (Nat × Nat) := none
  detected : Store Nat := []
  badTemps : Store Nat := []
  bank : Store Nat := []
  halfRefresh : Bool := false
  late : List Nat := []
  deriving DecidableEq, Repr

/-- A ring's state beyond its registers (R356 to R358): entries since the last message, entries
discarded since the last one written, whether the delay of RING_MOD.CLK runs, and what waits for room. -/
structure RingSt where
  since : Nat := 0
  dropped : Nat := 0
  timing : Bool := false
  waiting : List Bytes := []
  deriving DecidableEq, Repr

/-- Channel states of R374. -/
inductive ChState where
  | disabled | idle | running | paused | retrying | halted
  deriving DecidableEq, Repr

/-- One DMA channel (R373 to R379): its state where it is none of DISABLED and IDLE, the chain's first descriptor, the one in
progress as an address and as its bytes (none where it has not been read; a PAGE_WALK's page list after them), the position
in it, descriptors reached, attempts on the failed line, the cause of a halt, a pause asked for while RETRYING, that a
chain is in progress, that its last descriptor has been carried out, and the units whose entries stand in its ring, oldest
first (R377). -/
structure Channel where
  st : ChState := .idle
  first : Nat := 0
  desc : Nat := 0
  cur : Bytes := []
  i0 : Nat := 0
  i1 : Nat := 0
  i2 : Nat := 0
  line : Nat := 0
  chain : Nat := 0
  attempts : Nat := 0
  cause : Nat := 0
  pauseReq : Bool := false
  live : Bool := false
  ended : Bool := false
  units : List Nat := []
  deriving DecidableEq, Repr

/-- One AVSBus voltage request (R476): the rail, the voltage sent and how often it has been sent. -/
structure AvsReq where
  rail : Nat
  mv : Nat
  tries : Nat
  deriving DecidableEq, Repr

/-- Power management beyond its registers (R471 to R502). `bal` the ledger balance in 1/256 µJ and `bWindow` the budget window open (R491);
`gTherm` R500's level; `samples` the power monitor's newest first, in 0.1 mW (R495). -/
structure Pwr where
  pgTries : Store Nat := []
  retryWait : List Nat := []
  avs : Store (List AvsReq) := []
  bal : Int := 0
  bWindow : Option Nat := none
  g : Nat := 0
  gTherm : Nat := 0
  samples : List Nat := []
  sinceChange : Nat := 0
  stage2 : Bool := false
  over16 : Nat := 0
  warn : Bool := false
  sensors : Store Int := []
  standbyReq : Bool := false
  wakeCause : Store Nat := []
  tripped : Bool := false
  deriving DecidableEq, Repr

/-- What AON holds from start-up (R15, R519, R536, R542): every RWL field and start value by BAR0
offset, the firmware in force per target, and the state of R542. -/
structure Boot where
  cfg : Store Nat := []
  loaded : List (Nat × Nat) := []
  locked : Bool := false
  imageVersion : Nat := 0
  imageDigest : Bytes := []
  fwCode : Store Bytes := []
  fwVersion : Store Nat := []
  startSet : Nat := 0
  retiredCores : List Nat := []
  spareMaps : Store Nat := []
  tileOut : List Nat := []
  laneMaps : Store Nat := []
  deviceRetired : Bool := false
  aonGood : Bool := true
  resetN : Bool := true
  deriving DecidableEq, Repr

/-- A firmware package pending for a target (R538). -/
structure FwPending where
  target : Nat
  version : Nat
  code : Bytes
  deriving DecidableEq, Repr

/-- Management beyond its registers: the event queue of R528, the AON log of R547 with its unread
marks (newest first), how many queued events stand before an overflow's own (R528, R543), the last SEC_REVOKE write (R535), pending firmware, the test window (R545),
the ticks since the last lockstep disagreement (R527), R9's shadows per requester. -/
structure Mgmt where
  evq : List FaultEv := []
  evLost : Option Nat := none
  aonLog : List (LogEntry × Bool) := []
  seq : Nat := 0
  lastRevoke : Option (Nat × Nat) := none
  fwPending : List FwPending := []
  testLeft : Nat := 0
  testNextCore : Store Nat := []
  testing : List Nat := []
  sinceMismatch : Option Nat := none
  alert : Bool := false
  shadows : List (Nat × Nat × Word) := []
  deriving DecidableEq, Repr
/-- The step phases of R28. -/
inductive Phase where
  | idle | admitting | compute | reduce | decide | commit | halted
  deriving DecidableEq, Repr

/-- STEP_STATE's encoding of a phase (R28). -/
def Phase.code : Phase → Nat
  | .idle => 0 | .admitting => 1 | .compute => 2 | .reduce => 3 | .decide => 4 | .commit => 5 | .halted => 6

/-- A work unit as its 64-byte descriptor gives it (R36), with its successors. `eligible` is the
mask dispatch uses (R377). -/
structure WorkUnit where
  kind : Nat := 1
  cls : Nat := 0
  flags : Nat := 0
  codeOff : Nat := 0
  leaf : Nat := 0
  stage : Nat := 0
  chunk : Nat := 0
  micro : Nat := 0
  depCount : Nat := 0
  energy : Nat := 0
  eligible : Nat := 0
  argPtr : Nat := 0
  succs : List Nat := []
  deriving DecidableEq, Repr

/-- A tensor table entry (R45). -/
structure Tensor where
  kind : Nat := 0
  format : Nat := 0
  reg : Nat := 0
  rowBytes : Nat := 0
  bytes : Nat := 0
  slots : Nat := 0
  addr : Nat := 0
  tag : Nat := 0
  deriving DecidableEq, Repr

/-- A program image as loaded (R43 to R46): its header, units, code sections (image offset, bytes),
tensors, pipeline table and binding table bytes, tag entries, digest and length. -/
structure Program where
  version : Nat := 0
  length : Nat := 0
  leafSamples : Nat := 1
  leafLog2 : Nat := 0
  units : List WorkUnit := []
  code : List (Nat × Bytes) := []
  tensors : List Tensor := []
  pipeline : Bytes := []
  bindings : List Bytes := []
  grow : Nat := 2000
  initLog2 : Nat := 16
  tags : List (Nat × Nat × Nat) := []
  digest : Bytes := []
  deriving DecidableEq, Repr

/-- Where a work unit stands in the step (R36, R39, R41, R100, R243); `ended` where its place has ended it and the spine
has not yet counted it finished. -/
inductive UnitSt where
  | waiting
  | running (place : Nat)
  | ended
  | done
  | held
  | recompute
  deriving DecidableEq, Repr

/-- A section of a batch (R361): kind, its FEATURE, SPACE or TENSOR number, unified address of its header, lines. -/
structure Section where
  kind : Nat
  id : Nat
  addr : Nat
  lines : Nat
  deriving DecidableEq, Repr

/-- A batch taken from a data input ring's head (R360, R361). -/
structure Batch where
  ring : Nat
  firstLeaf : Nat
  leaves : Nat
  watermark : Nat
  addr : Nat
  sections : List Section
  deriving DecidableEq, Repr

/-- A write that the write fence holds (R50): the line of the row, its byte mask and its 64 bytes. -/
structure Deferred where
  obj : Nat
  row : Nat
  line : Nat
  mask : Nat
  bytes : Bytes
  deriving DecidableEq, Repr

/-- A data flit or frame in a replay buffer (R397), with the times it has been sent (R396) and the whole message it is part
of (R408). -/
structure TxFlit where
  seq : Nat
  vc : Nat
  dst : Nat
  bytes : Bytes
  first : Bool
  last : Bool
  tries : Nat
  msg : Bytes
  deriving DecidableEq, Repr

/-- A partial message (R408). -/
structure Partial where
  src : Nat
  bytes : Bytes
  deriving DecidableEq, Repr

/-- The link layer of one plane or carrier link (R395 to R402, R404, R405). `wait` holds flits that
wait for credit or buffer room; `laneErrs` each lane's errors over the last 1,024 lane checks,
newest first; `failing` the failing receive lanes; `switching` the lane R400 replaces and whether
its LANE_SWITCH_ACK has come; `txDup` the lane sent on both fibres; `retrained` whether R399's step 3
has been done. -/
structure Link where
  txSeq : Nat := 0
  rxSeq : Nat := 0
  naking : Bool := false
  buf : List TxFlit := []
  wait : List TxFlit := []
  credit0 : Nat := 0
  credit1 : Nat := 0
  partials : List Partial := []
  laneErrs : Store (List Nat) := []
  failing : List Nat := []
  switching : Option (Nat × Bool) := none
  txDup : Option Nat := none
  retrained : Bool := false
  width4 : Bool := false
  blanked : Bool := false
  probing : Bool := false
  margin : Bool := false
  outage : Bool := false
  outageTicks : Nat := 0
  training : Bool := false
  deriving DecidableEq, Repr

/-- An outstanding tier tag (R412, R413, R415): `row` what a READ was issued for. -/
structure Tag where
  tag : Nat
  op : Nat
  lines : Nat
  addr : Nat
  tries : Nat
  poisons : Nat
  row : Option (Nat × Nat)
  deriving DecidableEq, Repr

/-- One tier carrier beyond its registers (R412 to R417). `tags` are outstanding, oldest first; `waiting` holds
commands not yet sent. -/
structure Carrier where
  tags : List Tag := []
  waiting : List Tag := []
  queue : Nat := 0
  id : Nat := 0
  helloBad : Bool := false
  quiesced : Bool := false
  deriving DecidableEq, Repr

/-- Optical safety (R389 to R394). `hold` is true while the 100 ms of R390 still run;
`opening` feeds (2 engine + feed) enabled less than 50 ms ago; `unsent` what waits for a plane, as (destination, VC, bytes),
oldest first (R407, R408). -/
structure Optics where
  interlock : Bool := false
  hold : Bool := false
  opening : List Nat := []
  unsent : List (Nat × Nat × Bytes) := []
  deriving DecidableEq, Repr

/-- A T24 request on CXL.cache not yet answered (R423, R426, R430). -/
structure D2H where
  kind : Nat
  line : Nat
  issued : Bool
  deriving DecidableEq, Repr

/-- A host request on CXL.mem that waits (R214, R433): `kind` 0 read, 1 write, 2 partial write, 3 invalidate. -/
structure HostReq where
  kind : Nat
  hpa : Nat
  mask : Nat
  data : Bytes
  deriving DecidableEq, Repr

/-- The host link beyond its registers (R421 to R443): requests on CXL.cache not yet answered, oldest first; the HDM lines
the host may hold, oldest first, and the BISnps outstanding with the times each was sent; host requests that wait; the
HDM decoder; whether CXL.cache and CXL.mem are enabled; open SPDM sessions; `outside` that the link has trained
outside R421. -/
structure HostLink where
  held : List HostReq := []
  outside : Bool := false
  d2h : List D2H := []
  snoop : List Nat := []
  bi : List (Nat × Nat) := []
  hdmBase : Nat := 0
  hdmSize : Nat := 0
  cacheEn : Bool := false
  memEn : Bool := false
  sessions : Nat := 0
  perstN : Bool := true
  subsysVendor : Nat := 0
  subsysId : Nat := 0
  serial : Nat := 0
  deriving DecidableEq, Repr
/-- The spine beyond its registers (R23 to R57). `units` is each unit's standing, unlisted ones
waiting; `headQ` units returned to the head of the ready queue (R41); `batches` those of the step
admitted or in progress and `admitOk` whether they passed their checks; `ahead` the step admitted
ahead (R30); `fence` the rows, and `fenceLines` the T1 lines, under the write fence (R50), with `deferred` the
writes it holds; the counters feed the telemetry entry (R365); `rerun` the finished units that R243 runs again, `recompLeft` the units
that wait for them, `waitGood` the units that wait until a line (tile, line) lies on good storage (R245), `failedOn` the (unit, core) pairs
of hardware errors in the step (R126); `action` the action of R48 that COMMIT has
reached; `modeAsk` that a write of MODE_REQ has yet to take effect (R54); `admitTick` the tick at which the step
entered ADMIT (R277). -/
structure Spine where
  prog : Option Program := none
  swap : Option Program := none
  units : Store UnitSt := []
  headQ : List Nat := []
  batches : List Batch := []
  admitOk : Bool := false
  ahead : Option (List Batch) := none
  fence : List (Nat × Nat) := []
  fenceLines : List Nat := []
  deferred : List Deferred := []
  wdog : Nat := 0
  wdogFired : Bool := false
  lastWmark : Nat := 0
  unitsDone : Nat := 0
  recomps : Nat := 0
  recompLeft : List (Nat × List Nat) := []
  rerun : List Nat := []
  waitGood : List (Nat × Nat × Nat) := []
  failedOn : List (Nat × Nat) := []
  energy : Nat := 0
  starve : Nat := 0
  defers : Nat := 0
  action : Nat := 0
  modeAsk : Bool := false
  admitTick : Nat := 0
  deriving DecidableEq, Repr


/-- An instruction in flight (R101): what it reads when it started, descriptors as their 32 bytes, none for an operand it
does not read. `outward` is XFER's DIR. -/
inductive FlightOp where
  | xfer (outward : Bool) (uni addr len : Nat)
  | mma (ta tb : Bool) (m n k : Nat) (dst a b acc : Bytes)
  | chain (count rows : Nat) (stages consts : List Nat) (dst x y z : Bytes)
  | s12 (desc : Bytes) (consts : List Nat)
  deriving DecidableEq, Repr

/-- An instruction in flight: its index in the unit, what it does, and the clk it takes (R110, R120, R124; 0 for XFER). -/
structure Flight where
  index : Nat
  op : FlightOp
  dur : Nat
  deriving DecidableEq, Repr

/-- A core beyond its registers (R96 to R101): the next instruction's byte offset in the image and index in the unit, A0
to A15, D0 to D31 (no bytes: invalid), C2 and C3, the loop stack, top first, as (index of the LOOP, iterations left), the
instructions in flight, oldest first, saturating casts by tag under R77 and in all (R80), the units held after XFER_ERR
(R100); `hwTest` that a hardware error asked for the self-test (R126). -/
structure CoreSt where
  pc : Nat := 0
  index : Nat := 0
  addr : Store Nat := []
  desc : Store Bytes := []
  c2 : Nat := 0
  c3 : Nat := 0
  loops : List (Nat × Nat) := []
  flight : List Flight := []
  sat77 : Store Nat := []
  satAll : Store Nat := []
  held : List Nat := []
  hwTest : Bool := false
  testFail : Bool := false
  deriving DecidableEq, Repr

/-- A Bellwether or default-row replica held on this device: its lines in T1 and, on its owner, its count
(R137, R155, R157). -/
structure BwRow where
  row : Nat
  tile : Nat
  line : Nat
  own : Bool
  count : Nat
  deriving DecidableEq, Repr

/-- A table (R130 to R133): its descriptor as ENABLE copied it, its sketch region (tile, line), its count-min sketch by
65,536 * line + column (R152), whether a decay has come since the last step (R156), and its replicas. -/
structure Table where
  on : Bool := false
  desc : Bytes := []
  sketchAt : Option (Nat × Nat) := none
  nextDecay : Nat := 0
  sketch : Store Nat := []
  decayed : Bool := false
  bw : List BwRow := []
  deriving DecidableEq, Repr

/-- A bag section as ADMIT took it (R138, R140): the first leaf of its batch, and each bag's (index, weight). -/
structure BagSec where
  table : Nat
  feature : Nat
  leaf : Nat
  weights : Bool
  bags : List (List (Nat × Nat))
  deriving DecidableEq, Repr

/-- A distinct row the step reads (R145 to R148): `src` 0 replica, 1 owned here, 2 owned elsewhere; `count` its
occurrences on this device; `ready` whether the staged copy `bytes` is there; `tag` the version tag recorded; `reads`
ticks it has waited for an acknowledgement (R193, R196). -/
structure Gather where
  table : Nat
  row : Nat
  src : Nat
  count : Nat
  ready : Bool
  bytes : Bytes
  tag : Nat
  waited : Nat
  deriving DecidableEq, Repr

/-- A node of a row's tree (R164, R169): FP32 elements and the non-finite flag. -/
structure RowNode where
  table : Nat
  row : Nat
  level : Nat
  index : Nat
  vec : List Nat
  nf : Bool
  deriving DecidableEq, Repr

/-- A staging line set of an owned row (R173): no root until it is formed. -/
structure Staged where
  table : Nat
  row : Nat
  root : Option (List Nat)
  nf : Bool
  deriving DecidableEq, Repr

/-- A change of the Bellwether set (R156, R157): the step whose COMMIT applies it. -/
structure BwChange where
  step : Nat
  table : Nat
  promote : Bool
  row : Nat
  deriving DecidableEq, Repr

/-- A request an owner has taken (R146): the member it came from. -/
structure Asked where
  member : Nat
  table : Nat
  row : Nat
  count : Nat
  deriving DecidableEq, Repr

/-- A record a tail ring still carries (R195). -/
structure TailPend where
  tile : Nat
  table : Nat
  row : Nat
  step : Nat
  deriving DecidableEq, Repr

/-- The sparse side of the step (chapters 4 and 5). `asked` the requests an owner has taken, `answered` the members it has
answered; `nodes` the row nodes held here; `staged` the reserved sets, `wantStage` the tiles whose reservations wait (R173);
`treesDone` the tiles whose owner trees are complete (R169); `bwRoots` the roots of replicated rows with their Flock-wide
counts; `nextBw` the Bellwether changes to come; `records` promoted rows' records that have arrived; `pend` the pending
sets of R195; `sentTo` and `ackTo` one more than the last step whose marker was sent, and that was acknowledged, per tail
ring; `ovf` one more than the overflow step of a tile in the fallback of R195; `params` the parameter set in force by table,
its 64 bytes and ROW_TAG, no bytes where its block failed (R180), `dense` the same by binding entry (R311); `faults` the
first faults of R170 as (table, row, level, index), `stopped` that a second one stopped REDUCE; `tailDrain` that R197
holds the spine. -/
structure Sparse where
  tables : Store Table := []
  bags : List BagSec := []
  aheadBags : List BagSec := []
  gathers : List Gather := []
  asked : List Asked := []
  answered : List Nat := []
  nodes : List RowNode := []
  staged : List Staged := []
  wantStage : List Nat := []
  treesDone : List Nat := []
  bwRoots : List (RowNode × Nat) := []
  nextBw : List BwChange := []
  records : List (Nat × Nat × Bytes) := []
  pend : List TailPend := []
  sentTo : Store Nat := []
  ackTo : Store Nat := []
  ovf : Store Nat := []
  params : Store Bytes := []
  dense : Store Bytes := []
  faults : List (Nat × Nat × Nat × Nat) := []
  stopped : Bool := false
  tailDrain : Bool := false
  deriving DecidableEq, Repr

/-- Numerics beyond their registers (R77 to R88): each tag's history of amaxes, newest first; the step's amax (FP32 bits,
-0 for none) and saturation count by tag; the leaves flagged non-finite in the step with the tag that flagged them, 4,096
where no tag did; `sums` the (tag, W, G, U) of R90 that action 5 reports. -/
structure Num where
  hist : Store (List Nat) := []
  amax : Store Nat := []
  sat : Store Nat := []
  nf : List (Nat × Nat) := []
  sums : List (Nat × Nat × Nat × Nat) := []
  deriving DecidableEq, Repr

/-- The job a device has joined (R315 to R320): its identifier, the Flock's size and the pipeline's, this device's
place and the ranks by index. -/
structure Job where
  id : Nat := 0
  f : Nat := 1
  p : Nat := 1
  index : Nat := 0
  stage : Nat := 0
  k : Nat := 0
  ranks : List Nat := []
  deriving DecidableEq, Repr

/-- A message already received (R325, R326). -/
structure Seen where
  ty : Nat
  step : Nat
  src : Nat
  seq : Nat
  last : Bool
  deriving DecidableEq, Repr

/-- A message sent, kept for a NACK (R325). -/
structure SentMsg where
  ty : Nat
  step : Nat
  dst : Nat
  seq : Nat
  bytes : Bytes
  deriving DecidableEq, Repr

/-- A node of the dense vector as far as it has arrived (R328, R329): its header's flag, amaxes and saturation counts once
`hdr`, and its lines in segments (first line, bytes), ascending. -/
structure DNode where
  level : Nat
  index : Nat
  hdr : Bool := false
  nf : Bool := false
  amax : Store Nat := []
  sat : Store Nat := []
  parts : List (Nat × Bytes) := []
  deriving DecidableEq, Repr

/-- A move of a leaf block (R335, R348, R349). -/
structure LeafMove where
  donor : Nat
  receiver : Nat
  base : Nat
  log2 : Nat
  step : Nat
  deriving DecidableEq, Repr

/-- A digest a referee holds (R341). -/
structure DigestAt where
  member : Nat
  block : Nat
  digest : Bytes
  deriving DecidableEq, Repr

/-- A sharded block's version as a member's gather of this step recorded it (R313). -/
structure ShardTag where
  member : Nat
  entry : Nat
  block : Nat
  tag : Nat
  deriving DecidableEq, Repr

/-- Collectives beyond their registers (chapter 10). `joining` the job a JOIN asks for with its digest, `joinMsgs` the digests
device (0, 0) has collected by place, `joinTicks` the ticks since its JOIN (R318); `blocks` each replica's leaf blocks
(log2, base) in ascending base, `moves` those still to take effect (R33, R349); `seen`, `bad` and `sent` of R325; `inbox`
messages of a step this device has not reached; `nodes` of the dense vector's tree, `passed` those sent on (R329); `root` that
the root has been delivered; `votes` by place, `voteTicks` the ticks since the first, `voted` that this device's vote is
sent; `hdr` the ROOT_HDR's payload; the two ticks of R334; `digests` this device's at the comparison step `digStep`, the
referee's `refs`, `judged`, `findings` (member, blocks, first block) and `tie`; `orders` it must serve as source (block,
member), `repairs` the blocks it awaits with the segments that have come (R345); `windows` by replica, newest first, with
`holdOff` one more than the step whose value does not enter (R347); `since` by place (R344); `version` of the sharded
blocks by 65,536 * entry + block, and the tags of the step's gathers (R313); `landed` the lines of stage messages that have
arrived, by (tensor, leaf, micro); `got` payloads of sets that are not complete yet, with their senders in `dst`. -/
structure Coll where
  job : Option Job := none
  joining : Option (Job × Bytes) := none
  joinMsgs : Store Bytes := []
  joinTicks : Nat := 0
  blocks : List (List (Nat × Nat)) := []
  moves : List LeafMove := []
  seen : List Seen := []
  bad : List (Nat × Nat × Nat × Nat) := []
  sent : List SentMsg := []
  inbox : List Bytes := []
  nodes : List DNode := []
  passed : List (Nat × Nat) := []
  root : Bool := false
  votes : Store Bytes := []
  voteTicks : Option Nat := none
  voted : Bool := false
  hdr : Option Bytes := none
  computeTick : Nat := 0
  readyTick : Nat := 0
  compareNext : Bool := false
  digStep : Option Nat := none
  digests : List Bytes := []
  refs : List DigestAt := []
  judged : Bool := false
  findings : List (Nat × Nat × Nat) := []
  tie : Bool := false
  orders : List (Nat × Nat) := []
  repairs : List (Nat × List (Nat × Bytes)) := []
  windows : Store (List Nat) := []
  holdOff : Store Nat := []
  since : Store Nat := []
  version : Store Nat := []
  tags : List ShardTag := []
  landed : List ((Nat × Nat × Nat) × Nat) := []
  got : List SentMsg := []
  deriving DecidableEq, Repr

/-- An entry of a history section as ADMIT took it (R273), with the leaf of its sample and its place in that leaf. -/
structure HistEntry where
  space : Nat
  leaf : Nat
  sample : Nat
  seq : Nat
  list : Nat
  events : Nat
  start : Nat
  reset : Bool
  deriving DecidableEq, Repr

/-- A slot reserved for a page the step produces (R276), and whether it has been written (R278). -/
structure HistPage where
  space : Nat
  list : Nat
  page : Nat
  slot : Nat
  written : Bool
  deriving DecidableEq, Repr

/-- The history cache beyond its registers and its lists in memory (chapter 8): by space the slots that lists hold, the step's
entries, its reserved slots, and whether ADMIT waits for slots (R276). -/
structure Hist where
  used : Store (List Nat) := []
  entries : List HistEntry := []
  pages : List HistPage := []
  waiting : Bool := false
  deriving DecidableEq, Repr

/-- A record kept for the delta stream (R449). -/
structure RowNote where
  obj : Nat
  row : Nat
  bytes : Bytes
  deriving DecidableEq, Repr

/-- A base generation in progress (R455 to R458): GEN, the tick of BASE_BEGIN, its interval in ticks, LINES, lines captured,
the highest capture step, the next row as (object, row), the next dense segment as (entry, segment), none of which is left
once `whole`. -/
structure BaseGen where
  gen : Nat
  began : Nat
  interval : Nat
  lines : Nat
  done : Nat := 0
  endStep : Nat := 0
  row : Option (Nat × Nat) := none
  seg : Option (Nat × Nat) := none
  whole : Bool := false
  deriving DecidableEq, Repr

/-- What RESTORE holds of one source (R466, R467): its old rank, that BASE_BEGIN and BASE_END came with END_STEP, the captures
of row ranges (table, first, last, step) and of dense segments (entry, segment, step) with the T each has reached, one more than the last STEP of its
delta, and that the delta has reached step R. -/
structure RestoreSrc where
  rank : Nat
  begun : Bool := false
  endStep : Option Nat := none
  rows : List (Nat × Nat × Nat × Nat) := []
  segs : List (Nat × Nat × Nat × Nat) := []
  last : Nat := 0
  reached : Bool := false
  deriving DecidableEq, Repr

/-- A restore in progress (R465 to R468): the resume step, the tick of BEGIN, that a delta extent has come, an error, the
sources, BASE_STATE's records with the step of their capture, the NUMERICS records by step, and s with the clean count at R. -/
structure Restore where
  resume : Nat
  began : Nat
  delta : Bool := false
  bad : Bool := false
  srcs : List RestoreSrc := []
  state : Option (Nat × Bytes) := none
  numerics : List (Nat × Bytes) := []
  scale : Option (Nat × Nat) := none
  deriving DecidableEq, Repr

/-- Checkpoints beyond their registers (chapter 14): where COMMIT and SKIP records end in the delta ring, as (producer pointer,
STEP), oldest first (R453); rows that left T3 and entered it, and rows host writes changed, since the last applied action 4
(R449); the generation in progress, the ones begun, when the previous one began and with which interval, that one is asked
for, that no generation has begun since a load or restore (R455), slots captured but not yet on the base ring, marked where they
hold a line of the snapshot buffer (R457), and that a COMMIT or SKIP record has been durable (R453). -/
structure Ckpt where
  marks : List (Nat × Nat) := []
  left : List RowNote := []
  entered : List RowNote := []
  written : List (Nat × Nat) := []
  run : Option BaseGen := none
  gens : Nat := 0
  began : Option (Nat × Nat) := none
  asked : Bool := false
  fresh : Bool := true
  snap : List (Bool × Bytes) := []
  durable : Bool := false
  restore : Option Restore := none
  deriving DecidableEq, Repr

/-- What nothing on the device clears: the fuses (R531, R535) and the SMU's calibration slots live
here; no reset reaches it. `revoked` bit s is slot s's revocation bit, `keyHash` the four fused
root key hashes, `seedOk` whether the PUF reconstructs its seed (R529), `edPub` the device's Ed25519
public key (DESIGN CHOICE, log entry 149). -/
structure Perm where
  revoked : Nat := 0
  keyHash : Store Bytes := []
  seedOk : Bool := true
  edPub : Bytes := []
  deriving DecidableEq, Repr

/-- The sealed measurement unit (R558 to R573). `powered` its supply, `sealOn` SMU_SEAL_N asserted; `uptime`
in crystal periods (R565); `acc` each channel's energy in the interval, in pJ, with the remainder of the last one
(R563); `flags` the interval's record flags (R567); `slots` the programmed calibration slots (R570);
`calSet` the set in use until the boundary (R571); `second` pJ since the last second and `power` the mean
power of the last second in 0.1 W; `store` the record store by slot (R569). -/
structure Smu where
  powered : Bool := false
  crystal : Bool := true
  sealOn : Bool := false
  session : Nat := 0
  seq : Nat := 0
  uptime : Nat := 0
  start : Nat := 0
  acc : Store Int := []
  energy : Nat := 0
  flags : Nat := 0
  sealOpens : Nat := 0
  applied : Nat := 0
  skipped : Nat := 0
  samples : Nat := 0
  lastStep : Option Nat := none
  gaps : Nat := 0
  tick : Nat := 0
  slots : List Bytes := []
  staged : Option Bytes := none
  calSet : Bytes := []
  second : Store Int := []
  power : Store Nat := []
  prev : Bytes := []
  store : Store Bytes := []
  deriving DecidableEq, Repr

/-- The Drone inputs and the tick value (R504 to R508). `hold` ticks still to hold (R507); `good`
consecutive good edges in holdover (R508), `armNew` an arming with no edge since (R506). -/
structure Drone where
  tick : Nat := 0
  isSet : Bool := false
  armed : Option Nat := none
  armNew : Bool := false
  lock : Nat := 0
  hold : Nat := 0
  good : Nat := 0
  deriving DecidableEq, Repr

/-- Everything of the T24 but its fuses, its sealed measurement unit, its Drone inputs and the queue of
commands. `regs` holds every BAR0 register by key (Machine/RegMap.lean); `mem` every byte of host
memory, stacked DRAM, carriers and core memory by key (Machine/Ops.lean); `poison` the poisoned lines
(R240, R242); `smuPath` the step messages on their way to the SMU (R560, R564); `free` counts free values used; `now` the tick value as the units read it. -/
structure Device where
  regs : Store Word := []
  mem : Store Byte := []
  poison : Store Bool := []
  free : Nat := 0
  now : Nat := 0
  out : List Out := []
  phase : Phase := .idle
  tier : Tier := {}
  tiles : Store MemTile := []
  rings : Store RingSt := []
  chans : Store Channel := []
  links : Store Link := []
  carriers : Store Carrier := []
  optics : Optics := {}
  host : HostLink := {}
  pwr : Pwr := {}
  boot : Boot := {}
  mgmt : Mgmt := {}
  spine : Spine := {}
  cores : Store CoreSt := []
  sparse : Sparse := {}
  num : Num := {}
  coll : Coll := {}
  hist : Hist := {}
  ckpt : Ckpt := {}
  smuPath : List (Nat × Bool × Nat) := []
  deriving DecidableEq, Repr

/-- The machine's state. `pending` is the queue of the commands that wait, first in, first out. -/
structure State where
  pending : List Instr := []
  perm : Perm := {}
  drone : Drone := {}
  smu : Smu := {}
  dev : Device := {}
  deriving DecidableEq, Repr

/-- Why the machine stops with a fault. -/
inductive Fault where
  /-- The spec says the address does not exist: raised by none of the present meanings, which take the
  access error the spec gives (R205). Safe. -/
  | noSuchAddress
  deriving DecidableEq, Repr

/-- Why a command has no meaning. -/
inductive Refusal where
  /-- Raised by an arm of exec for a command whose meaning is not written yet. Safe. -/
  | notModelled (mnemonic : String)
  deriving DecidableEq, Repr

/-- The T24 but for its fuses, SMU and Drone inputs right after reset source 1 (R513): every register at its
reset value (R16), IDLE in recovery mode (R28, R54), start-up at step 1 (R521), every domain but AON and SMU OFF
(R481), nothing in memory, in queues or on links (DESIGN CHOICE, log entry 148). -/
def Device.reset : Device := {}

/-- The machine right after reset source 1: DRONE_RESET_CAUSE.CAUSE records it (R513), everything else as
`Device.reset` has it (DESIGN CHOICE, log entry 149). -/
def State.reset : State := { dev := { Device.reset with regs := [(0x200040, 0x10000000#32)] } }

end Sys2Proof.Machine
end

