-- ==== Sys2Proof/Machine/Ops.lean ====
section
/-! DEFINITION. The named operations over registers and memory that every meaning uses: reading and
writing fields (R12, R18), bytes by address (R204, R205), what the block emits, free values. -/

namespace Sys2Proof.Machine

/-! ### Registers -/

/-- The register under a key. -/
def Device.reg (d : Device) (k : Nat) : Word := Store.get regReset d.regs k

/-- Set the register under a key. -/
def Device.setReg (d : Device) (k : Nat) (v : Word) : Device :=
  { d with regs := Store.set regReset d.regs k v }

/-- Bits [lo + w - 1 : lo] of a register value (R5). -/
def getBits (v : Word) (lo w : Nat) : Nat := v.toNat / 2 ^ lo % 2 ^ w

/-- A register value with bits [lo + w - 1 : lo] replaced (R5). -/
def putBits (v : Word) (lo w x : Nat) : Word :=
  BitVec.ofNat 32 (v.toNat % 2 ^ lo + x % 2 ^ w * 2 ^ lo + v.toNat / 2 ^ (lo + w) * 2 ^ (lo + w))

/-- Read a field. -/
def Device.rd (d : Device) (f : Fld) : Nat := getBits (d.reg f.key) f.lo f.w

/-- Write a field, leaving the register's other bits. -/
def Device.wr (d : Device) (f : Fld) (x : Nat) : Device :=
  d.setReg f.key (putBits (d.reg f.key) f.lo f.w x)

/-- Whether a one-bit field is 1. -/
def Device.flag (d : Device) (f : Fld) : Bool := d.rd f == 1

/-- An event counter: it saturates at all ones (R18). -/
def Device.inc (d : Device) (f : Fld) (n : Nat := 1) : Device :=
  d.wr f (min (d.rd f + n) (2 ^ f.w - 1))

/-- The high word's field of a 64-bit pair, at the next register (R9). -/
def Fld.hi (f : Fld) : Fld := { f with key := f.key + 4 }

/-- A 64-bit quantity in two consecutive registers (R9). -/
def Device.rd64 (d : Device) (f : Fld) : Nat := d.rd f + 2 ^ 32 * d.rd f.hi

/-- Write a 64-bit quantity into two consecutive registers (R9). -/
def Device.wr64 (d : Device) (f : Fld) (x : Nat) : Device :=
  (d.wr f (x % 2 ^ 32)).wr f.hi (x / 2 ^ 32)

/-- A 64-bit event counter: it saturates at all ones (R18). -/
def Device.inc64 (d : Device) (f : Fld) (n : Nat := 1) : Device :=
  d.wr64 f (min (d.rd64 f + n) (2 ^ 64 - 1))

/-! ### What the block emits, and free values -/

/-- Emit one thing. -/
def Device.emit (d : Device) (o : Out) : Device := { d with out := o :: d.out }

/-- A value the spec leaves open: nothing constrains it (DESIGN CHOICE, log entry 6). -/
def Device.fresh (d : Device) : Nat := Config.freeNat d.free

/-- Count one free value as used, so that the next is another (DESIGN CHOICE, log entry 6). -/
def Device.used (d : Device) : Device := { d with free := d.free + 1 }

/-! ### Memory by key

One address space holds every byte: host memory at its HPA, then the stacks, the carriers and core
memory, each region at a multiple of 2^64. An unlisted byte reads as 0 (DESIGN CHOICE, log entries 1 and 2). -/

/-- What an unlisted byte of memory reads as. -/
def memReset (_ : Nat) : Byte := 0

/-- The memory's canonical form. -/
def Memory.wf (m : Store Byte) : Bool := Store.wf memReset m

/-- The key of a byte of a stack: tile, line (R235), byte in the line. -/
def t1Key (tile line byte : Nat) : Nat := 2 ^ 64 + tile * 2 ^ 34 + line * 64 + byte

/-- The key of a byte of a carrier: carrier, line (R412), byte in the line. -/
def t2Key (carrier line byte : Nat) : Nat := 2 * 2 ^ 64 + carrier * 2 ^ 46 + line * 64 + byte

/-- The key of a byte of core memory (R93). -/
def coreKey (core addr : Nat) : Nat := 3 * 2 ^ 64 + core * 2 ^ 22 + addr

/-- Read one byte. -/
def Device.byte (d : Device) (k : Nat) : Byte := Store.get memReset d.mem k

/-- Write one byte. -/
def Device.setByte (d : Device) (k : Nat) (v : Byte) : Device :=
  { d with mem := Store.set memReset d.mem k v }

/-- `n` bytes from a key on. -/
def readMem (m : Store Byte) : Nat → Nat → Bytes
  | 0, _ => []
  | n + 1, k => Store.get memReset m k :: readMem m n (k + 1)

/-- Write bytes from a key on, in ascending order. -/
def writeMem (m : Store Byte) : Nat → Bytes → Store Byte
  | _, [] => m
  | k, b :: r => writeMem (Store.set memReset m k b) (k + 1) r

/-- Write one (address, byte) pair after another. -/
def writeCells (m : Store Byte) : List Host.Cell → Store Byte
  | [] => m
  | c :: r => writeCells (Store.set memReset m c.1 c.2) r

/-- What the host has written into its own memory by the time a command arrives (DESIGN CHOICE, log entry 1): only
keys below 2^52 are host physical addresses (R204). -/
def Device.hostWrites (d : Device) (cs : List Host.Cell) : Device :=
  { d with mem := writeCells d.mem (cs.filter (fun c => c.1 < 2 ^ 52)) }

/-- Whether the line that holds a byte key is poisoned (R240). -/
def Device.poisoned (d : Device) (k : Nat) : Bool := Store.get (fun _ => false) d.poison (k / 64)

/-- Set or clear a line's poison. -/
def Device.setPoison (d : Device) (k : Nat) (p : Bool) : Device :=
  { d with poison := Store.set (fun _ => false) d.poison (k / 64) p }

/-- The bytes a reader receives: every byte of a poisoned line is 0xFF (R242). -/
def Device.readKey (d : Device) : Nat → Nat → Bytes
  | 0, _ => []
  | n + 1, k => (if d.poisoned k then 0xFF else d.byte k) :: Device.readKey d n (k + 1)

/-- Clear the poison of every line that [k, k + n) covers whole (R240); `lines` bounds the lines. -/
def Device.unpoison (d : Device) (k n : Nat) : Nat → Device
  | 0 => d
  | f + 1 =>
    let l := (k + 63) / 64 + f
    let d := Device.unpoison d k n f
    if l * 64 + 64 ≤ k + n then d.setPoison (l * 64) false else d

/-- Write bytes from a key on; lines written whole lose their poison (R240). -/
def Device.writeKey (d : Device) (k : Nat) (b : Bytes) : Device :=
  { Device.unpoison d k b.length (b.length / 64 + 1) with mem := writeMem d.mem k b }

/-- Whether start-up has reached ready (R521, step 10). -/
def Device.ready (d : Device) : Bool := d.rd F.DRONE_START_STATUS_STATE == 1

/-- Whether R443 blocks the host's traffic: REQUIRE set and an IDE stream not secure. -/
def Device.ideBlocked (d : Device) : Bool :=
  d.flag F.HOST_IDE_POLICY_REQUIRE && !(d.flag F.HOST_STATUS_IDE_CM && d.flag F.HOST_STATUS_IDE_SEL)

/-- Whether BAR0 is decoded for the host (R14) and open (R443). -/
def Device.barOpen (d : Device) : Bool := d.ready && !d.ideBlocked

/-! ### Requests on CXL.cache -/

/-- Whether a request can be issued: the link trained within R421, CXL.cache enabled and IDE not in the way
(R422, R423, R443). -/
def Device.d2hOpen (d : Device) : Bool :=
  d.flag F.HOST_STATUS_LINK_UP && d.host.cacheEn && !d.ideBlocked

/-- One D2H request (R426): `kind` 0 RdCurr, 1 ItoMWr, 2 WOWrInv. It is issued, or waits unissued. Its
effect on memory is the same whenever it is issued (R423). -/
def Device.d2hOne (d : Device) (kind line : Nat) : Device :=
  let o := d.d2hOpen
  let d := { d with host := { d.host with d2h := d.host.d2h ++ [D2H.mk kind line o] } }
  let d := if kind = 0 then d.inc64 F.HOST_D2H_RD_LO_COUNT else d.inc64 F.HOST_D2H_WR_LO_COUNT
  if o then d.emit (.d2h kind line) else d

/-- The requests that `n` bytes of host memory take, one for each line (R426) (DESIGN CHOICE, log entry 141). -/
def Device.d2hSend (d : Device) (write : Bool) (hpa n : Nat) : Device :=
  (List.range (if n = 0 then 0 else (hpa + n - 1) / 64 - hpa / 64 + 1)).foldl (fun d i =>
    let l := hpa / 64 + i
    d.d2hOne (if !write then 0 else if hpa ≤ l * 64 ∧ l * 64 + 64 ≤ hpa + n then 1 else 2) l) d

/-! ### Per-unit state -/

/-- A tile's controller state. -/
def Device.tile (d : Device) (t : Nat) : MemTile := Store.get (fun _ => {}) d.tiles t
/-- Replace a tile's controller state. -/
def Device.setTile (d : Device) (t : Nat) (m : MemTile) : Device :=
  { d with tiles := Store.set (fun _ => {}) d.tiles t m }
/-- A ring's state beyond its registers. -/
def Device.ring (d : Device) (r : Nat) : RingSt := Store.get (fun _ => {}) d.rings r
/-- Replace a ring's state beyond its registers. -/
def Device.setRing (d : Device) (r : Nat) (x : RingSt) : Device :=
  { d with rings := Store.set (fun _ => {}) d.rings r x }
/-- Channel c of engine e (R373). -/
def Device.chan (d : Device) (e c : Nat) : Channel := Store.get (fun _ => {}) d.chans (e * 128 + c)
/-- Replace channel c of engine e. -/
def Device.setChan (d : Device) (e c : Nat) (x : Channel) : Device :=
  { d with chans := Store.set (fun _ => {}) d.chans (e * 128 + c) x }
/-- The link layer of plane l (0 to 7) or of carrier l - 8. -/
def Device.link (d : Device) (l : Nat) : Link := Store.get (fun _ => {}) d.links l
/-- Replace a link's state. -/
def Device.setLink (d : Device) (l : Nat) (x : Link) : Device :=
  { d with links := Store.set (fun _ => {}) d.links l x }
/-- A tier carrier's state. -/
def Device.carrier (d : Device) (c : Nat) : Carrier := Store.get (fun _ => {}) d.carriers c
/-- Replace a carrier's state. -/
def Device.setCarrier (d : Device) (c : Nat) (x : Carrier) : Device :=
  { d with carriers := Store.set (fun _ => {}) d.carriers c x }

/-- R250, R251: `n` bytes of a stack's line have been written: a whole line frees its entry of the write-combining buffer, a
part of one joins its entry or takes one, the oldest leaving a full buffer. -/
def Device.wcbNote (d : Device) (k n : Nat) : Device :=
  if k < 2 ^ 64 ∨ 2 ^ 65 ≤ k then d
  else
    let t := (k - 2 ^ 64) / 2 ^ 34
    let line := (k - 2 ^ 64) % 2 ^ 34 / 64
    let m := d.tile t
    let mask := (2 ^ n - 1) * 2 ^ (k % 64)
    let others := m.wcb.filter fun e => e.line ≠ line
    if 64 ≤ n then d.setTile t { m with wcb := others, late := m.late.filter (· ≠ line) }
    else if m.acc.contains line then d
    else
      match m.wcb.find? fun e => e.line = line with
      | some e =>
        if e.mask ||| mask = 2 ^ 64 - 1 then (d.setTile t { m with wcb := others }).setPoison k false
        else d.setTile t { m with wcb := m.wcb.map fun x => if x.line = line then { x with mask := x.mask ||| mask } else x }
      | none =>
        if m.wcb.length < 64 then d.setTile t { m with wcb := m.wcb ++ [WcbEntry.mk line mask] }
        else (d.setTile t { m with wcb := m.wcb.drop 1 ++ [WcbEntry.mk line mask] }).inc (F.MEM_WCB_FLUSH_COUNT t)

/-! ### Objects and unified addresses -/

/-- The object of a number; an unlisted number has never been used (R202). -/
def Device.obj (d : Device) (n : Nat) : TierObj := Store.get (fun _ => {}) d.tier.objs n

/-- Replace the object of a number. -/
def Device.setObj (d : Device) (n : Nat) (o : TierObj) : Device :=
  { d with tier := { d.tier with objs := Store.set (fun _ => {}) d.tier.objs n o } }

/-- The number of a handle (R202). -/
def handleNum (h : Nat) : Nat := h % 2 ^ 14
/-- The generation of a handle (R202). -/
def handleGen (h : Nat) : Nat := h / 2 ^ 14
/-- Whether a handle names a live object (R202). -/
def Device.handleLive (d : Device) (h : Nat) : Bool :=
  (d.obj (handleNum h)).live && (d.obj (handleNum h)).gen == handleGen h

/-- The key of a byte of a region object, through its frames (R206). -/
def TierObj.key (o : TierObj) (off : Nat) : Nat :=
  match o.frames[off / (Config.frameLines * 64)]? with
  | some (tile, line) => t1Key tile line (off % (Config.frameLines * 64))
  | none => 0

/-- SPACE of a unified address (R204). -/
def uniSpace (a : Nat) : Nat := bits a 63 60
/-- NUMBER of a unified address (R204). -/
def uniNum (a : Nat) : Nat := bits a 59 46
/-- OFFSET of a unified address (R204). -/
def uniOff (a : Nat) : Nat := bits a 45 0
/-- HPA of a unified address (R204). -/
def uniHpa (a : Nat) : Nat := bits a 51 0
/-- The unified address of an offset in an object (R204). -/
def uniOfObj (n off : Nat) : Nat := n * 2 ^ 46 + off
/-- The unified address of a host physical address (R204). -/
def uniOfHost (hpa : Nat) : Nat := 2 ^ 60 + hpa

/-- A DMA address window (R380): [base, limit). -/
def Device.window (d : Device) (n : Nat) : Nat × Nat :=
  let g := fun (lo hi : Fld) => d.rd lo / 4096 * 4096 + 2 ^ 32 * (d.rd hi % 2 ^ 20)
  (g (F.DMA_WIN_BASE_LO n) (F.DMA_WIN_BASE_HI n), g (F.DMA_WIN_LIMIT_LO n) (F.DMA_WIN_LIMIT_HI n))

/-- An access to host memory lies wholly within one window (R380). -/
def Device.inWindow (d : Device) (hpa n : Nat) : Bool :=
  (List.range 8).any fun i => let w := d.window i; w.1 ≤ hpa && hpa + n ≤ w.2 && w.1 < w.2

/-- Whether an access of `n` bytes at a unified address is no access error (R205). -/
def Device.uniOk (d : Device) (a n : Nat) : Bool :=
  if uniSpace a == 0 then
    let o := d.obj (uniNum a)
    o.live && o.kind != 1 && decide (uniOff a + n ≤ o.size * 64)
  else if uniSpace a == 1 then bits a 59 52 == 0 && d.inWindow (uniHpa a) n
  else false

/-- The key of the byte at a unified address (R204, R206). -/
def Device.uniKey (d : Device) (a : Nat) : Nat :=
  if uniSpace a == 0 then (d.obj (uniNum a)).key (uniOff a) else uniHpa a

/-- `n` bytes at a unified address, each through its own frame. -/
def Device.uniBytes (d : Device) : Nat → Nat → Bytes
  | 0, _ => []
  | n + 1, a =>
    (if d.poisoned (d.uniKey a) then 0xFF else d.byte (d.uniKey a)) :: Device.uniBytes d n (a + 1)

/-- Read at a unified address; none on an access error (R205). -/
def Device.uniRead (d : Device) (a n : Nat) : Option Bytes :=
  if d.uniOk a n then some (d.uniBytes n a) else none

/-- Write pieces of at most one line, each whole line clearing its poison (R240). -/
def Device.uniPut (d : Device) : Nat → Nat → Bytes → Device
  | 0, _, _ => d
  | f + 1, a, b =>
    if b.isEmpty then d
    else
      let n := 64 - a % 64
      let k := d.uniKey a
      Device.uniPut ((d.writeKey k (b.take n)).wcbNote k (b.take n).length) f (a + n) (b.drop n)

/-- Write at a unified address; none on an access error (R205). -/
def Device.uniWrite (d : Device) (a : Nat) (b : Bytes) : Option Device :=
  if d.uniOk a b.length then
    let d := d.uniPut (b.length / 64 + 2) a b
    some (if uniSpace a == 1 then d.d2hSend true (uniHpa a) b.length else d)
  else none

/-- The requests a read at a unified address makes of the host; none in SPACE 0 (R426). -/
def Device.uniAsk (d : Device) (a n : Nat) : Device :=
  if uniSpace a == 1 then d.d2hSend false (uniHpa a) n else d

/-! ### Domains -/

/-- Domain numbers of R480. -/
def domAon : Nat := 0
/-- The SMU domain. -/
def domSmu : Nat := 1
/-- The domain of core group g. -/
def domCg (g : Nat) : Nat := 2 + g
/-- The domain of MEM m. -/
def domMem (m : Nat) : Nat := 10 + m
/-- The domain of OPT n. -/
def domOpt (n : Nat) : Nat := 14 + n
/-- The HOST domain. -/
def domHost : Nat := 18
/-- The SPINE domain. -/
def domSpine : Nat := 19
/-- The domain of a core (12 cores to a group). -/
def domOfCore (c : Nat) : Nat := domCg (c / 12)
/-- The domain of a tile (6 tiles to a memory domain). -/
def domOfTile (t : Nat) : Nat := domMem (t / 6)

/-- A domain's state as R481 encodes it; AON and SMU read ON. -/
def Device.domState (d : Device) (n : Nat) : Nat :=
  if n < 2 then 2 else d.rd (F.PWR_DOM_STATE_STATE n)

/-- Whether a domain is ON (R481). -/
def Device.domOn (d : Device) (n : Nat) : Bool := d.domState n == 2

/-- Whether a domain's registers decode (R17): in STARTING, ON and STOPPING (DEDUCED, log entry 12). -/
def Device.decodes (d : Device) (n : Nat) : Bool := d.domState n != 0

/-- The domain that holds a register block (R17, R22). -/
def Block.domain : Block → Nat → Nat
  | .core, n => domOfCore n
  | .tile, n => domOfTile n
  | .dma, n => if n < 24 then domOfTile n else domSpine
  | .tlnk, _ | .carrier, _ => domOpt 3
  | .host, _ => domHost
  | .dmaShared, _ | .fabSafety, _ | .pwr, _ | .drone, _ | .mgmt, _ | .sec, _ | .test, _ => domAon
  | .smu, _ => domSmu
  | .spine, _ | .num, _ | .emb, _ | .optShared, _ | .tier, _ | .hist, _ | .coll, _
  | .ring, _ | .ringShared, _ | .fab, _ | .plane, _ => domSpine

/-- The source number of a block's interrupts and log entries (R436, R547). -/
def Block.source : Block → Nat → Nat
  | .spine, _ => 0
  | .num, _ => 1
  | .emb, _ => 2
  | .optShared, _ => 3
  | .tier, _ => 4
  | .hist, _ => 5
  | .coll, _ => 6
  | .ring, _ | .ringShared, _ => 7
  | .core, _ => 8
  | .tile, _ => 9
  | .dma, _ | .dmaShared, _ => 10
  | .fabSafety, _ => 11
  | .fab, _ | .plane, _ => 12
  | .tlnk, _ | .carrier, _ => 13
  | .host, _ => 14
  | .mgmt, _ => 15
  | .pwr, _ => 16
  | .sec, _ => 17
  | .test, _ => 18
  | .drone, _ => 19
  | .smu, _ => 20

/-- The outcome type of a meaning. -/
abbrev Result := Host.Outcome State Fault Refusal

/-- A command that acts on the T24's units alone: they read the tick value as it stands (`now`), and the
queue, the fuses, the SMU and the Drone inputs are left as they are. -/
def State.onDev (s : State) (f : Device → Device) : Result :=
  .next { s with dev := f { s.dev with now := s.drone.tick } }

end Sys2Proof.Machine
end

