-- ==== Sys2Proof/Machine/Flags.lean ====
section
/-! DEFINITION. Status bits and what follows from setting one: interrupt messages (R436, R437), the
rings the T24 produces (R354 to R358), the event log (R364, R547, R548) and the fault policy (R528,
R541 to R544). -/

namespace Sys2Proof.Machine

/-! ### Interrupts -/

/-- The vector of a source: field s of HOST_VEC (R436). -/
def Device.vector (d : Device) (s : Nat) : Nat :=
  getBits (d.reg (F.HOST_VEC (s / 4)).key) (8 * (s % 4)) 8

/-- The pending bit of a vector (R437, R444). -/
def pendBit (v : Nat) : Fld := { F.MSIX_PBA (v / 32) with lo := v % 32, w := 1 }

/-- Send a vector's message, or set its pending bit while it is masked (R437). -/
def Device.sendMsix (d : Device) (v : Nat) : Device :=
  if d.flag (F.MSIX_CTL_MASK v) then
    d.wr (pendBit v) 1
  else
    d.emit (.msix v (d.rd (F.MSIX_ADDR_LO v) + 2 ^ 32 * d.rd (F.MSIX_ADDR_HI v)) (d.rd (F.MSIX_DATA v)))

/-- The domain and source of the block that holds a register key. -/
def keySource (k : Nat) : Nat × Nat :=
  match RegMap.blockAt? (k % regPage) with
  | some (b, i) => (b.domain i, b.source i)
  | none => (domAon, 20)

/-- The enable bit of a status bit: every INT_EN register follows its INT_STATUS. -/
def Fld.enable (f : Fld) : Fld := { f with key := f.key + 4 }

/-- Hardware sets a status bit; a bit that goes from 0 to 1 with its enable set sends its source's message
unless the source's domain is off (R437). -/
def Device.raise (d : Device) (f : Fld) : Device :=
  if d.flag f then d
  else
    let ds := keySource f.key
    let d := d.wr f 1
    if d.flag f.enable && d.decodes ds.1 then d.sendMsix (d.vector ds.2) else d

/-! ### Rings -/

/-- Room in a ring the T24 produces: enabled and not full (R354, R357). -/
def Device.ringRoom (d : Device) (r : Nat) : Bool :=
  d.flag (F.RING_CTL_ENABLE r) &&
    decide ((d.rd (F.RING_PROD r) + 2 ^ 32 - d.rd (F.RING_CONS r)) % 2 ^ 32 <
      2 ^ d.rd (F.RING_CFG_LOG2_ENTRIES r))

/-- A ring that holds no entry (R354). -/
def Device.ringEmpty (d : Device) (r : Nat) : Bool := d.rd (F.RING_PROD r) == d.rd (F.RING_CONS r)

/-- Entry bytes of a ring TYPE (R353). -/
def entryBytes (ty : Nat) : Nat := if ty = 3 ∨ ty = 6 then 16 else 64

/-- The unified address of entry c of a ring (R354). -/
def Device.ringAddr (d : Device) (r c : Nat) : Nat :=
  d.rd (F.RING_BASE_LO r) + 2 ^ 32 * d.rd (F.RING_BASE_HI r) +
    c % 2 ^ d.rd (F.RING_CFG_LOG2_ENTRIES r) * entryBytes (d.rd (F.RING_CFG_TYPE r))

/-- The rings of a TYPE, in ascending number (R353): only a ring whose RING_CFG is not at its reset
value has a TYPE other than 0. -/
def Device.ringsOf (d : Device) (ty : Nat) : List Nat :=
  d.regs.filterMap fun e =>
    let rel := e.1 - 0x500000
    if 0x500000 ≤ e.1 ∧ e.1 < 0x540000 ∧ rel % 64 = 0 ∧ getBits e.2 28 4 = ty then some (rel / 64)
    else none

/-- RING_STATUS.FULL and EMPTY follow the pointers (R381). -/
def Device.ringFlags (d : Device) (r : Nat) : Device :=
  let n := (d.rd (F.RING_PROD r) + 2 ^ 32 - d.rd (F.RING_CONS r)) % 2 ^ 32
  (d.wr (F.RING_STATUS_EMPTY r) (b2n (n == 0))).wr (F.RING_STATUS_FULL r)
    (b2n (n == 2 ^ d.rd (F.RING_CFG_LOG2_ENTRIES r)))

/-- The TYPEs of rings the host consumes (R353). -/
def hostConsumes (ty : Nat) : Bool := ty == 3 || ty == 5 || ty == 7 || ty == 8 || ty == 10 || ty == 11

/-- The TYPEs of rings the host produces (R353). -/
def hostProduces (ty : Nat) : Bool := ty == 2 || ty == 4 || ty == 6 || ty == 9

/-- R358: the message of a ring the host consumes, once the entries since the last one reach COUNT. -/
def Device.ringSignal (d : Device) (r : Nat) : Device :=
  let x := d.ring r
  let n := x.since + 1
  if !hostConsumes (d.rd (F.RING_CFG_TYPE r)) then d
  else if d.flag (F.RING_CTL_INT_EN r) && decide (max 1 (d.rd (F.RING_MOD_COUNT r)) ≤ n) then
    (d.setRing r { x with since := 0, timing := false }).sendMsix (d.rd (F.RING_CFG_VECTOR r))
  else d.setRing r { x with since := n, timing := true }

/-- The write-back address of a ring, 0 for none (R356). -/
def Device.ringWb (d : Device) (r : Nat) : Nat :=
  d.rd (F.RING_WB_LO r) / 4 * 4 + 2 ^ 32 * d.rd (F.RING_WB_HI r)

/-- The pointer written back at RING_WB; true when the write-back was not made (R356). -/
def Device.ringWriteBack (d : Device) (r ptr : Nat) : Device × Bool :=
  if d.ringWb r == 0 then (d, false)
  else
    match d.uniWrite (d.ringWb r) (leBytes 4 ptr) with
    | some d' => (d', false)
    | none => (d, true)

/-- Put one entry into a ring with room: the entry, then the pointer, then the write-back, then the
message (R356). The second component says whether the entry was written, the third whether an
access failed. -/
def Device.ringPut (d : Device) (r : Nat) (e : Bytes) : Device × Bool × Bool :=
  let p := d.rd (F.RING_PROD r)
  match d.uniWrite (d.ringAddr r p) (padTo (entryBytes (d.rd (F.RING_CFG_TYPE r))) e) with
  | none => (d, false, true)
  | some d =>
    let d := d.wr (F.RING_PROD r) ((p + 1) % 2 ^ 32)
    let wb := d.ringWriteBack r ((p + 1) % 2 ^ 32)
    ((wb.1.ringFlags r).ringSignal r, true, wb.2)

/-- An entry discarded by a full, disabled or unreachable ring of TYPE 8, 10 or 11 (R357). -/
def Device.ringDrop (d : Device) (r : Nat) : Device :=
  ((d.inc (F.RING_DROP r)).wr (F.RING_STATUS_DROP r) 1).setRing r
    { d.ring r with dropped := (d.ring r).dropped + 1 }

/-! ### The event log and the fault policy -/

/-- SPINE_STEP (R57). -/
def Device.step64 (d : Device) : Nat := d.rd64 F.SPINE_STEP_LO

/-- The 64 bytes of an event log entry (R364, R547). -/
def LogEntry.bytes (e : LogEntry) : Bytes :=
  leBytes 2 e.code ++ leBytes 1 e.severity ++ leBytes 1 e.source ++ leBytes 4 e.seq ++
    leBytes 8 e.tick ++ padTo 48 e.body

/-- The action of a class: the value MGMT_POLICY holds (R543, R555). -/
def Device.policy (d : Device) (c : Nat) : Nat :=
  getBits (d.reg (F.MGMT_POLICY (c / 4)).key) (8 * (c % 4)) 2

/-- An event passed to the fault policy waits in the queue of 256; one that finds it full is dropped
and counted (R528) (DEDUCED, log entry 44) (DEDUCED, log entry 145). -/
def Device.passFault (d : Device) (c unit : Nat) : Device :=
  if d.mgmt.evq.length < 256 then
    let d := { d with mgmt := { d.mgmt with evq := d.mgmt.evq ++ [FaultEv.mk c unit] } }
    d.wr F.MGMT_STATUS_EVQ (min d.mgmt.evq.length 255)
  else
    let d := if d.mgmt.evLost.isNone then { d with mgmt := { d.mgmt with evLost := some d.mgmt.evq.length } } else d
    (d.inc F.MGMT_EVQ_DROP).raise F.MGMT_INT_STATUS_EVQ_DROP

/-- The body of R547. -/
def logBody (unit cause step addr : Nat) : Bytes :=
  leBytes 4 unit ++ leBytes 4 cause ++ leBytes 8 step ++ leBytes 8 addr ++ zeroBytes 24

/-- Keep an entry in AON, the newest 64 of them (R547); an unread entry of SEVERITY 2 or 3 asserts
SMB_ALERT_N (R554). -/
def Device.aonLog (d : Device) (e : LogEntry) : Device :=
  let d := { d with mgmt := { d.mgmt with aonLog := ((e, true) :: d.mgmt.aonLog).take 64 } }
  if 2 ≤ e.severity ∧ d.mgmt.alert = false then
    ({ d with mgmt := { d.mgmt with alert := true } }).emit (.pin .smbAlertN false)
  else d

/-- R357: a ring of the event log that has discarded entries takes one with their count first, with the next SEQ. -/
def Device.ringLost (d : Device) (r : Nat) : Device :=
  if (d.ring r).dropped = 0 then d
  else
    let lost : LogEntry := ⟨1, 0, 20, d.mgmt.seq % 2 ^ 32, d.now, padTo 48 (leBytes 4 (d.ring r).dropped)⟩
    let p := Device.ringPut { d with mgmt := { d.mgmt with seq := d.mgmt.seq + 1 } } r lost.bytes
    if p.2.1 then p.1.setRing r { p.1.ring r with dropped := 0 } else p.1

/-- One entry into one ring of the event log, discarded where it finds no room; whether an access failed (R357). -/
def Device.ringLog (d : Device) (r : Nat) (b : Bytes) : Device × Bool :=
  if !d.ringRoom r then (d.ringDrop r, false)
  else
    let d := d.ringLost r
    if !d.ringRoom r then (d.ringDrop r, false)
    else
      let p := d.ringPut r b
      (if p.2.1 then p.1 else p.1.ringDrop r, p.2.2)

/-- The next SEQ, and its entry into AON (R364, R547). -/
def Device.logHead (d : Device) (e : LogEntry) : Device :=
  Device.aonLog { d with mgmt := { d.mgmt with seq := d.mgmt.seq + 1 } } e

/-- Produce one entry with the next SEQ into the AON log and every event log ring. `fuel` bounds the
entries that report rings which could not be written (R357). -/
def Device.logFuel : Nat → Device → Nat → Nat → Nat → Bytes → Device
  | 0, d, _, _, _, _ => d
  | fuel + 1, d, code, sev, src, body =>
    let e : LogEntry := ⟨code, sev, src, d.mgmt.seq % 2 ^ 32, d.now, body⟩
    let d := d.logHead e
    (d.ringsOf 11).foldl (fun d r =>
      let q := d.ringLog r e.bytes
      if q.2 && !q.1.flag (F.RING_STATUS_ACC_ERR r) then
        let d := q.1.wr (F.RING_STATUS_ACC_ERR r) 1
        (Device.logFuel fuel d 0x0B02 (if d.policy 9 == 2 then 3 else 2) 7
          (logBody r 0 d.step64 (d.ringAddr r (d.rd (F.RING_PROD r))))).passFault 9 r
      else q.1) d

/-- Log an event (R364, R547, R548) (DEDUCED, log entry 43). -/
def Device.log (d : Device) (code sev src unit cause addr : Nat) : Device :=
  Device.logFuel ((d.ringsOf 11).length + 1) d code sev src (logBody unit cause d.step64 addr)

/-- The block's access-error entry: code 0x0002, information (R10 to R17, R548). -/
def Device.logAccess (d : Device) (off : Nat) : Device :=
  let s := match RegMap.blockAt? off with
    | some (b, i) => b.source i
    | none => 20
  d.log 2 0 s 0 0 off

/-- A lasting event's SEVERITY: 3 where its own rule halts, or its class's action halts or resets
(R547). -/
def Device.lastingSev (d : Device) (c : Nat) (halts : Bool) : Nat :=
  if halts || decide (2 ≤ d.policy c) then 3 else 2

/-- A lasting event: logged, then passed to the fault policy (R541, R543). -/
def Device.lasting (d : Device) (code src unit cause addr c target : Nat) (halts : Bool := false) : Device :=
  (d.log code (d.lastingSev c halts) src unit cause addr).passFault c target

/-- A step admitted ahead is dropped; its batch stays in its ring (R31, R57). -/
def Device.dropAhead (d : Device) : Device :=
  { d with
    spine := { d.spine with ahead := none }
    sparse := { d.sparse with aheadBags := [] } }.wr F.SPINE_STATUS_ADMIT_NEXT 0

/-- CKPT_STATUS and CKPT_GEN follow the generation and the restore (R470) (DEDUCED, log entry 114). -/
def Device.ckptView (d : Device) : Device :=
  let st := if d.ckpt.restore.isSome then 2 else if d.ckpt.run.isSome then 1 else 0
  (d.wr F.CKPT_STATUS_STATE st).wr F.CKPT_GEN_GEN ((d.ckpt.run.map (·.gen)).getD 0)

/-- R459: the generation in progress is abandoned (DEDUCED, log entry 122). -/
def Device.baseAbandon (d : Device) : Device :=
  if d.ckpt.run.isNone then d
  else ({ d with ckpt := { d.ckpt with run := none, snap := [] } }.ckptView).raise F.CKPT_INT_STATUS_BASE_ABANDON

/-- R57: a step admitted but not in COMPUTE is dropped; its batch stays in the ring (R31). A spine that thus stands still
abandons its base generation (R459). -/
def Device.dropStep (d : Device) : Device :=
  let d := d.dropAhead
  let d := if d.phase = .admitting then
      { d with
        phase := .idle
        spine := { d.spine with batches := [], admitOk := false }
        sparse := { d.sparse with bags := [] }
        hist := { d.hist with entries := [], pages := [], waiting := false } }
    else d
  if d.phase = .idle then d.baseAbandon else d

/-- The spine acts as if HALT_REQ were set: the bit sets (DEDUCED, log entry 13), a step not yet in COMPUTE is dropped (R57). -/
def Device.haltReq (d : Device) : Device := (d.wr F.SPINE_CTL_HALT_REQ 1).dropStep

/-! ### Entries the T24 produces for TYPE 1, 3, 5, 7, 8 and 10 -/

/-- An access that failed on a ring: ACC_ERR, and when it was clear a log entry and class 9 (R357). -/
def Device.ringAccErr (d : Device) (r : Nat) : Device :=
  if d.flag (F.RING_STATUS_ACC_ERR r) then d
  else
    (d.wr (F.RING_STATUS_ACC_ERR r) 1).lasting 0x0B02 7 r 0
      (d.ringAddr r (d.rd (F.RING_PROD r))) 9 r

/-- Produce one entry into a ring of TYPE 8 or 10: discarded where it finds no room (R357). -/
def Device.produceOrDrop (d : Device) (r : Nat) (e : Bytes) : Device :=
  if !d.ringRoom r then d.ringDrop r
  else
    let p := d.ringPut r e
    let d := if p.2.1 then p.1 else p.1.ringDrop r
    if p.2.2 then d.ringAccErr r else d

/-- Produce one entry into a ring of TYPE 1, 3, 5 or 7: it waits where it finds no room or another waits
before it (R357). -/
def Device.produceOrWait (d : Device) (r : Nat) (e : Bytes) : Device :=
  let wait := fun (d : Device) =>
    (d.wr (F.RING_STATUS_FULL_WAIT r) 1).setRing r
      { d.ring r with waiting := (d.ring r).waiting ++ [e] }
  if !(d.ring r).waiting.isEmpty || !d.ringRoom r then wait d
  else
    let p := d.ringPut r e
    if p.2.1 then (if p.2.2 then p.1.ringAccErr r else p.1)
    else ((p.1.setRing r { p.1.ring r with waiting := [e] }).ringAccErr r)

/-- Advance the consumer pointer of a ring the T24 consumes by one: the pointer, the write-back, and
the message of R358 when the ring has been emptied (R356, R358). -/
def Device.ringConsume (d : Device) (r : Nat) : Device :=
  let c := (d.rd (F.RING_CONS r) + 1) % 2 ^ 32
  let d := d.wr (F.RING_CONS r) c
  let wb := d.ringWriteBack r c
  let d := wb.1.ringFlags r
  let d := if wb.2 then d.ringAccErr r else d
  if hostProduces (d.rd (F.RING_CFG_TYPE r)) && d.flag (F.RING_CTL_EMPTY_INT r) && d.ringEmpty r then d.sendMsix (d.rd (F.RING_CFG_VECTOR r)) else d

/-- The entry at the head of a ring the T24 consumes; none where the ring is disabled or empty (R357). -/
def Device.ringHead (d : Device) (r : Nat) : Option Bytes :=
  if d.flag (F.RING_CTL_ENABLE r) && !d.ringEmpty r then
    d.uniRead (d.ringAddr r (d.rd (F.RING_CONS r))) (entryBytes (d.rd (F.RING_CFG_TYPE r)))
  else none

/-! ### Register writes of the host -/

/-- A BAR0 write or read that reaches its register: before ready or while IDE blocks it completes with
Unsupported Request (R14, R443); in a domain that is off it is discarded and logged (R17). -/
def Device.access (d : Device) (off : Nat) (f : Device → Device) : Device :=
  if !d.barOpen then d.emit .unsupportedRequest
  else if !d.decodes (keySource off).1 then d.logAccess off
  else f d

end Sys2Proof.Machine
end

