-- ==== Sys2Proof/Machine/SpineOps.lean ====
section
/-! DEFINITION. Operations of the spine and the mailbox that several families share: units returned to the
ready queue (R41), a lasting fault in COMMIT (R52), the end of a mailbox command (R438). -/

namespace Sys2Proof.Machine

/-! ### Units -/

/-- Where tile t's unit runs. -/
def placeTile (t : Nat) : Nat := 128 + t
/-- Where spine DMA engine e's unit runs. -/
def placeEngine (e : Nat) : Nat := 160 + e
/-- Where the spine's own units run. -/
def placeSpine : Nat := 200

/-- A unit's standing. -/
def Device.unitSt (d : Device) (u : Nat) : UnitSt := Store.get (fun _ => .waiting) d.spine.units u

/-- Change a unit's standing. -/
def Device.setUnit (d : Device) (u : Nat) (st : UnitSt) : Device :=
  { d with spine := { d.spine with units := Store.set (fun _ => .waiting) d.spine.units u st } }

/-- The unit in progress at a place. -/
def Device.unitAt (d : Device) (place : Nat) : Option Nat :=
  (d.spine.units.find? (fun e => e.2 = .running place)).map (·.1)

/-- A unit of the loaded program. -/
def Device.workUnit (d : Device) (u : Nat) : WorkUnit :=
  match d.spine.prog with
  | some p => p.units.getD u {}
  | none => {}

/-- A core is in the dispatch pool (R41, SPINE_POOL). -/
def Device.inPool (d : Device) (c : Nat) : Bool :=
  bit (d.rd (match c / 32 with
    | 0 => F.SPINE_POOL0_IN_POOL
    | 1 => F.SPINE_POOL1_IN_POOL
    | _ => F.SPINE_POOL2_IN_POOL)) (c % 32)

/-- A core enters or leaves the dispatch pool: its bit of SPINE_POOL and CORE_STATUS.IN_POOL (R41, R129). -/
def Device.setPool (d : Device) (c : Nat) (b : Bool) : Device :=
  let f := match c / 32 with
    | 0 => F.SPINE_POOL0_IN_POOL
    | 1 => F.SPINE_POOL1_IN_POOL
    | _ => F.SPINE_POOL2_IN_POOL
  (d.wr { f with lo := c % 32, w := 1 } (b2n b)).wr (F.CORE_STATUS_IN_POOL c) (b2n b)

/-! ### Cores between units -/

/-- A core beyond its registers. -/
def Device.core (d : Device) (c : Nat) : CoreSt := Store.get (fun _ => {}) d.cores c
/-- Replace a core's state. -/
def Device.setCore (d : Device) (c : Nat) (x : CoreSt) : Device :=
  { d with cores := Store.set (fun _ => {}) d.cores c x }

/-- Where a core without a unit stands: retired, out of its group's ON, in the self-test that waits for it (R126, R128), out of
the pool under DRAIN (R129), or in the pool. -/
def Device.coreIdle (d : Device) (c : Nat) : Device :=
  if d.boot.retiredCores.contains c then (d.setPool c false).wr (F.CORE_STATUS_STATE c) 5
  else if !d.domOn (domOfCore c) then d.setPool c false
  else if (d.core c).hwTest || d.flag (F.CORE_CTL_SELFTEST_REQ c) then (d.setPool c false).wr (F.CORE_STATUS_STATE c) 3
  else (d.setPool c (!d.flag (F.CORE_CTL_DRAIN c))).wr (F.CORE_STATUS_STATE c) 1

/-- A core's unit has ended, completed or not: nothing of it is in flight, and what waited for its end happens. -/
def Device.coreFree (d : Device) (c : Nat) : Device :=
  ((d.setReg (F.CORE_UNIT c).key 0).setCore c { d.core c with flight := [] }).coreIdle c

/-- The cores among the places of units. -/
def Device.coresOf (d : Device) (us : List Nat) : List Nat :=
  us.filterMap fun u => match d.unitSt u with
    | .running p => if p < Config.cores then some p else none
    | _ => none

/-- Units return to the head of the ready queue and run again from their start (R41). -/
def Device.requeue (d : Device) (us : List Nat) : Device :=
  let cs := d.coresOf us
  let d := us.foldl (fun d u => d.setUnit u .waiting) d
  cs.foldl Device.coreFree { d with spine := { d.spine with headQ := us ++ d.spine.headQ.filter (· ∉ us) } }

/-- The least number of a list and the rest, in ascending order: insertion. -/
def insertNat (x : Nat) : List Nat → List Nat
  | [] => [x]
  | y :: r => if x ≤ y then x :: y :: r else y :: insertNat x r

/-- A list of numbers in ascending order. -/
def sortNat (xs : List Nat) : List Nat := xs.foldr insertNat []

/-- R100: the units a core holds after XFER_ERR return, in ascending number. -/
def Device.requeueHeld (d : Device) (c : Nat) : Device :=
  (d.setCore c { d.core c with held := [] }).requeue (sortNat (d.core c).held)

/-! ### The ready queue -/

/-- Units of the loaded program. -/
def Device.unitCount (d : Device) : Nat := (d.spine.prog.map (·.units.length)).getD 0

/-- A unit counts as finished for its successors: it has finished, be it that R243 runs it again. -/
def Device.unitDone (d : Device) (u : Nat) : Bool := d.unitSt u = .done || d.spine.rerun.contains u

/-- The predecessors of a unit (R36). -/
def Device.preds (d : Device) (u : Nat) : List Nat :=
  (List.range d.unitCount).filter fun v => (d.workUnit v).succs.contains u

/-- R245: the line a unit waits for lies on good storage: its die has been spared, its copy point has passed the line, or the
line's frame has moved. -/
def Device.lineGood (d : Device) (tile line : Nat) : Bool :=
  d.rd (F.MEM_SPARE_STATE tile) == 2 && d.rd (F.MEM_SPARE_DIE tile) == line / 4 % 8 ||
    !(d.tier.objs.any fun e => e.2.live && e.2.frames.any fun f =>
        f.1 == tile && decide (f.2 ≤ line ∧ line < f.2 + Config.frameLines)) ||
    match (d.tile tile).copy with
    | some (die, p) => die == line / 4 % 8 && decide (line / 32 * 4 + line % 4 < p)
    | none => false

/-- A unit is ready (R36, R243, R245): a step is in progress past ADMIT, every predecessor has finished, and it waits for no
recomputation. -/
def Device.unitReady (d : Device) (u : Nat) : Bool :=
  (d.phase = .compute || d.phase = .reduce || d.phase = .decide || d.phase = .commit) &&
    match d.unitSt u with
    | .waiting => (d.preds u).all d.unitDone &&
        !(d.spine.recompLeft.any fun e => e.1 == u && !e.2.isEmpty) &&
        d.spine.waitGood.all fun w => w.1 != u || d.lineGood w.2.1 w.2.2
    | .recompute => (d.preds u).all fun v => !d.spine.rerun.contains v
    | _ => false

/-- The order of R39 as one number: STAGE, then LEAF, 65,536 for NO_LEAF, then MICRO, then the unit number. -/
def Device.unitKey (d : Device) (u : Nat) : Nat :=
  let w := d.workUnit u
  ((w.stage * 2 ^ 17 + (if bit w.flags 3 then 65536 else w.leaf)) * 2 ^ 16 + w.micro) * 2 ^ 24 + u

/-- The next ready unit that passes a test: those returned to the head first (R41), then those run again, by number
(R243), then by R39. -/
def Device.nextReady (d : Device) (p : Nat → Bool) : Option Nat :=
  let ok := fun u => p u && d.unitReady u
  match d.spine.headQ.find? ok with
  | some u => some u
  | none =>
    match (sortNat d.spine.rerun).find? (fun u => ok u && d.unitSt u == .recompute) with
    | some u => some u
    | none =>
      ((List.range d.unitCount).filter ok).foldl (fun b u => match b with
        | none => some u
        | some v => if d.unitKey u < d.unitKey v then some u else some v) none

/-- R492: a unit handed out is charged its ENERGY_TAG. -/
def Device.charge (d : Device) (u : Nat) : Device :=
  let e := (d.workUnit u).energy
  let b := d.pwr.bal - e
  { d with pwr := { d.pwr with bal := b }, spine := { d.spine with energy := d.spine.energy + e } }.wr
    F.PWR_LEDGER_BAL_UJ (ofInt 32 b)

/-- A unit is handed out to a place. -/
def Device.handOut (d : Device) (u place : Nat) : Device :=
  let d := d.setUnit u (.running place)
  { d with spine := { d.spine with headQ := d.spine.headQ.filter (· ≠ u) } }.charge u

/-- A place has ended its unit (R36); the spine counts it finished with UNIT_FINISH. -/
def Device.unitEnd (d : Device) (u : Nat) : Device := d.setUnit u .ended

/-! ### The mailbox -/

/-- Payload bytes 4n to 4n + 3 for every word of an output. -/
def Device.putPayload (d : Device) : Nat → Bytes → Device
  | 0, _ => d
  | f + 1, b =>
    if b.isEmpty then d
    else
      let d := Device.putPayload d f (b.drop 4)
      d.wr (F.HOST_MBOX_PAYLOAD_DATA (64 - f - 1)) (leNat (b.take 4))

/-- The first `n` bytes of the mailbox payload. -/
def Device.payload (d : Device) (n : Nat) : Bytes :=
  ((List.range 64).flatMap fun i => leBytes 4 (d.rd (F.HOST_MBOX_PAYLOAD_DATA i))).take n

/-- A mailbox command ends: output, RESULT and OUT_LEN, BUSY clears, then MBOX_DONE sets (R438). -/
def Device.mboxEnd (d : Device) (result : Nat) (out : Bytes) : Device :=
  let d := d.putPayload 64 (padTo (ceilTo 4 out.length) out)
  let d := (d.wr F.HOST_MBOX_STATUS_RESULT result).wr F.HOST_MBOX_STATUS_OUT_LEN out.length
  let d := (d.wr F.HOST_MBOX_STATUS_BUSY 0).wr F.HOST_MBOX_CMD_DOORBELL 0
  d.raise F.HOST_INT_STATUS_MBOX_DONE

/-! ### A lasting fault in COMMIT -/

/-- A LOAD_FIRMWARE ends: MGMT_SWAP, the status bit and the log tell (R538, R548, R555), then the mailbox. -/
def Device.fwEnd (d : Device) (target result cause : Nat) : Device :=
  let d := ((d.wr F.MGMT_SWAP_TARGET target).wr F.MGMT_SWAP_RESULT result).wr F.MGMT_SWAP_CAUSE cause
  let d := d.raise F.MGMT_INT_STATUS_SWAP
  let d := if result = 0 then d.log 0x0700 0 15 target 0 0 else d.log 0x0701 0 15 target result 0
  d.mboxEnd result []

/-- R538: in HALTED a pending package is discarded and its command ends with RESULT 4. -/
def Device.dropFirmware (d : Device) : Device :=
  d.mgmt.fwPending.foldl (fun d p => d.fwEnd p.target 4 0)
    (if d.mgmt.fwPending = [] then d
     else { d with mgmt := { d.mgmt with fwPending := [] } }.wr F.MGMT_STATUS_SWAP_PEND 0)

/-- R538: a target takes its package: its code is in force, held in AON (R539). Of the targets' own tasks the spec gives two
an effect outside the controller: a step admitted ahead is dropped, and SPDM sessions close (DESIGN CHOICE, log entry 86). -/
def Device.takePackage (d : Device) (p : FwPending) : Device :=
  let d := { d with boot := { d.boot with
    fwCode := Store.set (fun _ => []) d.boot.fwCode p.target p.code
    fwVersion := Store.set (fun _ => 0) d.boot.fwVersion p.target p.version } }
  let d := d.wr { F.MGMT_STATUS_FW_SWAPPED with lo := F.MGMT_STATUS_FW_SWAPPED.lo + p.target, w := 1 } 1
  let d := if p.target = 1 then d.dropAhead
    else if p.target = 5 then { d with host := { d.host with sessions := 0 } } else d
  d.fwEnd p.target 0 0

/-- R538: every pending package is taken, in ascending TARGET. -/
def Device.takeFirmware (d : Device) : Device :=
  if d.mgmt.fwPending = [] then d
  else
    let ps := d.mgmt.fwPending
    let d := { d with mgmt := { d.mgmt with fwPending := [] } }.wr F.MGMT_STATUS_SWAP_PEND 0
    (List.range 6).foldl (fun d t => (ps.filter (·.target = t)).foldl Device.takePackage d) d

/-- R538: at once while STEP_STATE is IDLE with RUN 0. -/
def Device.takeIfIdle (d : Device) : Device :=
  if d.phase = .idle ∧ d.flag F.SPINE_CTL_RUN = false then d.takeFirmware else d

/-- R52: the spine is HALTED, COMMIT_FAULT sets and no commit record is written; the base generation is abandoned (R459). -/
def Device.commitFault (d : Device) : Device :=
  let d := { d with phase := .halted }
  let d := d.raise F.SPINE_INT_STATUS_COMMIT_FAULT
  (d.log 0x0501 3 0 0 0 0).baseAbandon.dropFirmware

end Sys2Proof.Machine
end

