-- ==== Sys2Proof/Machine/RowOps.lean ====
section
/-! DEFINITION. Tables as their descriptors give them (R131, R135, R182), the hash functions over rows (R144,
R152, R220), sort tiles and owners (R144, R167). -/

namespace Sys2Proof.Machine

/-! ### Hashes -/

/-- mix64 (R144). -/
def mix64 (x : Nat) : Nat :=
  let x := x ^^^ (x / 2 ^ 33)
  let x := x * 0xFF51AFD7ED558CCD % 2 ^ 64
  let x := x ^^^ (x / 2 ^ 33)
  let x := x * 0xC4CEB9FE1A85EC53 % 2 ^ 64
  x ^^^ (x / 2 ^ 33)

/-- sort_slot (R144). -/
def sortSlot (t r : Nat) : Nat := mix64 (r ^^^ (t * 2 ^ 44)) / 2 ^ 32 % 96

/-- A sketch column with the salt of line `j`: sketch_col (R152) with j from 0, tier_col (R220) with j from 4. -/
def hashCol (n r j : Nat) : Nat :=
  mix64 (r ^^^ (n * 2 ^ 44) ^^^ ((j + 1) * 0x9E3779B97F4A7C15 % 2 ^ 64)) / 2 ^ 48

/-- The four counters of a row in a sketch, by 65,536 * line + column; `j0` 0 for R152, 4 for R220. -/
def sketchKeys (j0 n r : Nat) : List Nat := (List.range 4).map fun j => 65536 * j + hashCol n r (j + j0)

/-- A row's estimate: the least of its four counters (R152, R220). -/
def sketchEst (sk : Store Nat) (ks : List Nat) : Nat :=
  ks.foldl (fun m k => min m (Store.get (fun _ => 0) sk k)) 65535

/-- Add `n` to each of a row's counters, saturating at 65,535 (R153, R220). -/
def sketchAdd (sk : Store Nat) (ks : List Nat) (n : Nat) : Store Nat :=
  ks.foldl (fun sk k => Store.modify (fun _ => 0) sk k fun c => min (c + n) 65535) sk

/-- Shift every counter right by `n` bits (R154). -/
def sketchShift (sk : Store Nat) (n : Nat) : Store Nat :=
  (sk.map fun e => (e.1, e.2 / 2 ^ n)).filter fun e => e.2 ≠ 0

/-! ### Table descriptors -/

/-- ROWS (R131). -/
def dRows (b : Bytes) : Nat := u64At b 0
/-- OBJECT (R131). -/
def dObj (b : Bytes) : Nat := u32At b 8
/-- WIDTH (R131). -/
def dWidth (b : Bytes) : Nat := u16At b 0xC
/-- FORMAT (R131). -/
def dFormat (b : Bytes) : Nat := u8At b 0xE % 16
/-- OUT_FORMAT (R131). -/
def dOutFormat (b : Bytes) : Nat := u8At b 0xF % 16
/-- POOL (R132). -/
def dPool (b : Bytes) : Nat := u8At b 0x10
/-- POLICY.DEFAULT (R131). -/
def dDefault (b : Bytes) : Bool := bit (u8At b 0x11) 0
/-- POLICY.DEFAULT_TRAIN (R131). -/
def dTrain (b : Bytes) : Bool := bit (u8At b 0x11) 1
/-- POLICY.BW_ENABLE (R131). -/
def dBw (b : Bytes) : Bool := bit (u8At b 0x11) 2
/-- OUT_TAG (R131). -/
def dOutTag (b : Bytes) : Nat := u16At b 0x12 % 4096
/-- OPT (R178). -/
def dOpt (b : Bytes) : Nat := u8At b 0x14
/-- SHARD_KIND (R167). -/
def dShard (b : Bytes) : Nat := u8At b 0x15
/-- SHARD_PARAM (R167). -/
def dParam (b : Bytes) : Nat := u64At b 0x18
/-- OPT_PTR (R179). -/
def dOptPtr (b : Bytes) : Nat := u64At b 0x20
/-- DECAY_TICKS (R131). -/
def dDecay (b : Bytes) : Nat := u32At b 0x28
/-- PROMOTE (R131). -/
def dPromote (b : Bytes) : Nat := u16At b 0x2C
/-- DEMOTE (R131). -/
def dDemote (b : Bytes) : Nat := u16At b 0x2E
/-- BW_MAX (R131). -/
def dBwMax (b : Bytes) : Nat := u32At b 0x30

/-- ROW_LINES of a storage format and width; none for a format or width not accepted (R135). -/
def rowLines (fmt w : Nat) : Option Nat :=
  match fmt with
  | 0 => some (ceilDiv (4 * w) 64)
  | 1 | 2 => some (ceilDiv (2 * w) 64)
  | 5 => if w % 32 = 0 then some (ceilDiv (33 * w) 2048) else none
  | 10 => some (ceilDiv (w + 8) 64)
  | _ => none

/-- Optimiser state lines of a record (R182). -/
def stateLines (opt w : Nat) : Nat :=
  match opt with
  | 1 | 2 => 1 + ceilDiv w 16
  | 3 => 1
  | 4 | 5 => 1 + 2 * ceilDiv w 16
  | _ => 0

/-- ROW_LINES of a table. -/
def dRowLines (b : Bytes) : Nat := (rowLines (dFormat b) (dWidth b)).getD 0

/-- Lines of a row's record (R136). -/
def dRecLines (b : Bytes) : Nat := dRowLines b + stateLines (dOpt b) (dWidth b)

/-- A table's state. -/
def Device.table (d : Device) (t : Nat) : Table := Store.get (fun _ => {}) d.sparse.tables t

/-- Replace a table's state. -/
def Device.setTable (d : Device) (t : Nat) (x : Table) : Device :=
  { d with sparse := { d.sparse with tables := Store.set (fun _ => {}) d.sparse.tables t x } }

/-- The enabled table that names an object (R216); none where no table does. -/
def Device.tableOfObj (d : Device) (n : Nat) : Option Nat :=
  (d.sparse.tables.find? fun e => e.2.on ∧ handleNum (dObj e.2.desc) = n).map (·.1)

/-! ### Sort tiles and owners -/

/-- Entry i of the sort map (R144). -/
def Device.sortEntry (d : Device) (i : Nat) : Nat := getBits (d.reg (F.EMB_SORT_MAP (i / 4)).key) (8 * (i % 4)) 8

/-- Write entry i of the sort map. -/
def Device.setSortEntry (d : Device) (i t : Nat) : Device :=
  d.wr { F.EMB_SORT_MAP (i / 4) with lo := 8 * (i % 4), w := 8 } t

/-- The tile that sorts row r of table t (R144). -/
def Device.sortTile (d : Device) (t r : Nat) : Nat := d.sortEntry (sortSlot t r)

/-- F, the Flock's size: 1 without a job (R167). -/
def Device.flockSize (d : Device) : Nat := (d.coll.job.map (·.f)).getD 1
/-- This device's Flock index. -/
def Device.flockIndex (d : Device) : Nat := (d.coll.job.map (·.index)).getD 0

/-- The owner of row r of table t under a descriptor (R167). -/
def ownerOf (b : Bytes) (t r f : Nat) : Nat :=
  match dShard b with
  | 0 => r / dParam b
  | 1 => mix64 (r ^^^ (t * 2 ^ 44) ^^^ dParam b) / 2 ^ 32 * f / 2 ^ 32
  | _ => dParam b

/-- This device owns row r of table t. -/
def Device.owns (d : Device) (t r : Nat) : Bool :=
  (d.table t).on && ownerOf (d.table t).desc t r d.flockSize == d.flockIndex

/-- The replica of a row held here as a Bellwether or default row (R137, R157). -/
def Device.replica (d : Device) (t r : Nat) : Option BwRow := (d.table t).bw.find? (·.row = r)

end Sys2Proof.Machine
end

