-- ==== Sys2Proof/Machine/TierOps.lean ====
section
/-! DEFINITION. Operations of the tier manager that several families share: free lines (R211, R219), the
directory (R212, R213), records wherever they lie (R211), commands to carriers (R412 to R415), moves (R226, R227),
hotness (R219, R220), gathers (R221, R228), sweeps (R222). -/

namespace Sys2Proof.Machine

/-! ### Carriers -/

/-- A carrier's state as TIER_CARRIER encodes it (R233). -/
def Device.carrierState (d : Device) (c : Nat) : Nat := bits (d.rd F.TIER_CARRIER_STATE) (4 * c + 3) (4 * c)

/-- A carrier's state changes (R417, R233). -/
def Device.setCarrierState (d : Device) (c s : Nat) : Device :=
  if d.carrierState c = s then d
  else (d.wr { F.TIER_CARRIER_STATE with lo := 4 * c, w := 4 } s).raise F.TIER_INT_STATUS_CARRIER_CHANGE

/-- Carriers in service, in ascending number (R417). -/
def Device.carriersIn (d : Device) : List Nat := (List.range Config.carriers).filter fun c => d.carrierState c == 2

/-- A waiting command may be sent: the carrier's link is up and the carrier takes commands, a tag and a place in QUEUE are free, and no WRITE to
one of its lines is outstanding if it is a WRITE (R413, R416, R417). -/
def Device.t2Ready (d : Device) (c : Nat) (t : Tag) : Bool :=
  let x := d.carrier c
  (d.carrierState c == 2 || d.carrierState c == 3 || t.op == 5) && !(d.link (8 + c)).outage &&
    (d.rd (F.TLNK_C_STATUS_LINK c) == 2 || d.rd (F.TLNK_C_STATUS_LINK c) == 3) &&
    decide (x.tags.length < min 4096 x.queue ∧ (d.link (8 + c)).buf.length < 4096) &&
    !(t.op == 2 && x.tags.any fun u => u.op == 2 && decide (u.addr < t.addr + t.lines ∧ t.addr < u.addr + u.lines))

/-- The lowest free tag (DESIGN CHOICE, log entry 10). -/
def lowestTag (used : List Nat) : Nat := ((List.range 4096).find? fun t => t ∉ used).getD 0

/-- OUTSTANDING (R420). -/
def Device.t2Count (d : Device) (c : Nat) : Device := d.wr (F.TLNK_C_STATUS_OUTSTANDING c) (d.carrier c).tags.length

/-- Send the waiting commands of a carrier from the front while they may be sent, each in a frame of its own (R413, R416, R397;
DESIGN CHOICE, log entry 30). `fuel` bounds them. -/
def Device.t2Pump : Nat → Device → Nat → Device
  | 0, d, c => d.t2Count c
  | fuel + 1, d, c =>
    match (d.carrier c).waiting with
    | [] => d.t2Count c
    | t :: r =>
      if !d.t2Ready c t then d.t2Count c
      else
        let x := d.carrier c
        let t := { t with tag := lowestTag (x.tags.map (·.tag)), tries := 1 }
        let d := (d.setCarrier c { x with tags := x.tags ++ [t], waiting := r }).emit
          (.tierCmd c t.op t.lines t.tag t.addr)
        let k := d.link (8 + c)
        let f : TxFlit := { seq := k.txSeq, vc := 0, dst := 0, bytes := [], first := true, last := true, tries := 1, msg := [] }
        let d := d.setLink (8 + c) { k with buf := k.buf ++ [f], txSeq := (k.txSeq + 1) % 65536 }
        let d := if t.op = 1 then d.inc64 (F.TLNK_C_RD_LINES_LO_COUNT c) t.lines
          else if t.op = 2 then d.inc64 (F.TLNK_C_WR_LINES_LO_COUNT c) t.lines else d
        Device.t2Pump fuel d c

/-- READs (op 1) or WRITEs (op 2) of `n` lines, four lines at most to a command (R412). Their effect on the lines
is the same whenever they are sent (R413). -/
def Device.t2Req (d : Device) (c op line n : Nat) (row : Option (Nat × Nat)) : Device :=
  let ts := (List.range (ceilDiv n 4)).map fun i => Tag.mk 0 op (min 4 (n - 4 * i)) (line + 4 * i) 0 0 row
  let d := d.setCarrier c { d.carrier c with waiting := (d.carrier c).waiting ++ ts }
  Device.t2Pump (d.carrier c).waiting.length d c

/-! ### Free lines -/

/-- A tile that holds frames and records and pulls tile work: its stack in service (R257), not draining or drained
(R229). -/
def Device.tileServes (d : Device) (t : Nat) : Bool :=
  d.domOn (domOfTile t) && d.rd (F.MEM_STATUS_STATE t) == 1 && !d.flag (F.EMB_SLICE_STATUS_DRAINED t)

/-- Directory lines that lie on a tile: line i on tile i mod 24 (DESIGN CHOICE, log entry 10). -/
def Device.dirShare (d : Device) (t : Nat) : Nat := (d.rd F.TIER_DIR_LINES_LINES + 23 - t) / 24

/-- The lines of a stack below its share of the directory and its staging region, which lie at the top (DESIGN CHOICE, log entry 10). -/
def Device.stackTop (d : Device) (t : Nat) : Nat :=
  Config.stackLines - d.dirShare t - d.rd (F.OPT_STAGE_LINES_LINES t)

/-- Allocated lines of a place. -/
def usedLines (es : List Extent) (p : Nat) : Nat := es.foldl (fun n e => if e.place = p then n + e.len else n) 0

/-- Free lines of a stack. -/
def Device.t1Free (d : Device) (t : Nat) : Nat := d.stackTop t - usedLines d.tier.t1 t

/-- Free lines of a stack beyond TIER_T1_RESERVE (R219). -/
def Device.t1Beyond (d : Device) (t : Nat) : Nat := d.t1Free t - d.rd F.TIER_T1_RESERVE_LINES

/-- A carrier's capacity in lines (R416). -/
def Device.capacity (d : Device) (c : Nat) : Nat := d.rd64 (F.TLNK_C_CAP_LO_VALUE c)

/-- Free lines of a carrier. -/
def Device.t2Free (d : Device) (c : Nat) : Nat := d.capacity c - usedLines d.tier.t2 c

/-- The lowest line from `lo` on at which `n` free lines stand before the extents (line, length), given in ascending
order. -/
def gapFrom (n : Nat) : Nat → List (Nat × Nat) → Nat
  | lo, [] => lo
  | lo, (l, k) :: r => if lo + n ≤ l then lo else gapFrom n (max lo (l + k)) r

/-- Put an extent in its place: ascending by place and line. -/
def addExtent (e : Extent) : List Extent → List Extent
  | [] => [e]
  | x :: r => if e.place < x.place ∨ (e.place = x.place ∧ e.line < x.line) then e :: x :: r else x :: addExtent e r

/-- The lowest first line of `n` free lines of a place below `top`. -/
def findLines (es : List Extent) (p n top : Nat) : Option Nat :=
  let l := gapFrom n 0 ((es.filter (·.place = p)).map fun e => (e.line, e.len))
  if l + n ≤ top then some l else none

/-- Lines of a stack or carrier hold zero and no poison. -/
def Device.clearLines (d : Device) (key n : Nat) : Device :=
  { d with
    mem := Store.keep (fun k => !(decide (key ≤ k ∧ k < key + n * 64))) d.mem
    poison := Store.keep (fun l => !(decide (key / 64 ≤ l ∧ l < key / 64 + n))) d.poison }

/-- Allocate `n` lines of a stack, at the lowest place (DESIGN CHOICE, log entry 10). -/
def Device.alloc1 (d : Device) (t n : Nat) : Option (Nat × Device) :=
  (findLines d.tier.t1 t n (d.stackTop t)).map fun l =>
    (l, { d with tier := { d.tier with t1 := addExtent ⟨t, l, n⟩ d.tier.t1 } }.clearLines (t1Key t l 0) n)

/-- Allocate `n` lines of a carrier, at the lowest place (DESIGN CHOICE, log entry 10). -/
def Device.alloc2 (d : Device) (c n : Nat) : Option (Nat × Device) :=
  (findLines d.tier.t2 c n (d.capacity c)).map fun l =>
    (l, { d with tier := { d.tier with t2 := addExtent ⟨c, l, n⟩ d.tier.t2 } }.clearLines (t2Key c l 0) n)

/-- Free an extent of a stack. -/
def Device.free1 (d : Device) (t l : Nat) : Device :=
  { d with tier := { d.tier with t1 := d.tier.t1.filter fun e => ¬(e.place = t ∧ e.line = l) } }

/-- R133, R209: a table's or an object's sketch region is freed. -/
def Device.dropSketch (d : Device) (at? : Option (Nat × Nat)) : Device :=
  match at? with
  | some (i, l) => d.free1 i l
  | none => d

/-- Free an extent of a carrier. -/
def Device.free2 (d : Device) (c l : Nat) : Device :=
  { d with tier := { d.tier with t2 := d.tier.t2.filter fun e => ¬(e.place = c ∧ e.line = l) } }

/-- Tiles in service from tile `t` on, in rotation (R206). -/
def Device.tilesFrom (d : Device) (t : Nat) : List Nat :=
  ((List.range Config.tiles).map fun i => (t + i) % Config.tiles).filter d.tileServes

/-- R206: frames 0 to n - 1 of an object over the tiles in service, none where one finds no room. -/
def Device.allocFrames (d : Device) : Nat → Nat → Option (List (Nat × Nat) × Device)
  | _, 0 => some ([], d)
  | t, n + 1 =>
    match d.tilesFrom (t % Config.tiles) with
    | [] => none
    | a :: _ =>
      if d.t1Beyond a < Config.frameLines then none
      else
        match d.alloc1 a Config.frameLines with
        | none => none
        | some (l, d) => (Device.allocFrames d (a + 1) n).map fun r => ((a, l) :: r.1, r.2)

/-! ### The directory -/

/-- A row's directory entry. -/
def Device.dirEntry (d : Device) (n r : Nat) : Option DirEntry := d.tier.dir.find? fun e => e.obj = n ∧ e.row = r

/-- Replace a row's entry, or add it. -/
def Device.setEntry (d : Device) (e : DirEntry) : Device :=
  let dir := if (d.dirEntry e.obj e.row).isSome
    then d.tier.dir.map fun x => if x.obj = e.obj ∧ x.row = e.row then e else x
    else d.tier.dir ++ [e]
  { d with tier := { d.tier with dir := dir } }

/-- Remove a row's entry. -/
def Device.delEntry (d : Device) (n r : Nat) : Device :=
  { d with tier := { d.tier with dir := d.tier.dir.filter fun x => ¬(x.obj = n ∧ x.row = r) } }

/-- R212: whether a new entry finds a place in one of its two candidate lines. The spec does not give the hash: below
four entries none is full, at four to a line all are, between them it is a free value (DESIGN CHOICE, log entry 6). -/
def Device.dirRoom (d : Device) : Bool × Device :=
  let n := d.tier.dir.length
  if 4 * d.rd F.TIER_DIR_LINES_LINES ≤ n then (false, d)
  else if n < 4 then (true, d)
  else (d.fresh % 2 == 0, d.used)

/-- R212: an entry refused for full candidate lines. -/
def Device.dirRefused (d : Device) : Device := (d.wr F.TIER_STATUS_DIR_FULL 1).inc F.TIER_NO_ROOM_COUNT

/-- R213: the version tag of a row, 0 without an entry. -/
def Device.version (d : Device) (n r : Nat) : Nat := ((d.dirEntry n r).map (·.version)).getD 0

/-- R213: the tag increases by 1 modulo 2^16 at every write of a line of the record. -/
def Device.bumpVersion (d : Device) (n r : Nat) : Device :=
  match d.dirEntry n r with
  | some e => d.setEntry { e with version := (e.version + 1) % 2 ^ 16 }
  | none => d

/-! ### Records -/

/-- Where a row's record lies (R211): tier 1 and a stack line, tier 2 and a carrier line, tier 3 and a host address,
tier 0 for an unallocated row. -/
def Device.locate (d : Device) (n r : Nat) : Nat × Nat × Nat :=
  match d.dirEntry n r with
  | some e => (e.tier, e.place, e.line)
  | none =>
    let o := d.obj n
    if o.t3Base ≠ 0 then (3, 0, o.t3Base + r * o.recLines * 64) else (0, 0, 0)

/-- The key of the first byte of a place. -/
def locKey (l : Nat × Nat × Nat) : Nat :=
  match l.1 with
  | 1 => t1Key l.2.1 l.2.2 0
  | 2 => t2Key l.2.1 l.2.2 0
  | _ => l.2.2

/-- The commands that reading or writing `n` lines at a place takes on a tier link or the host link. -/
def Device.askLoc (d : Device) (l : Nat × Nat × Nat) (write : Bool) (n : Nat) (row : Option (Nat × Nat)) : Device :=
  match l.1 with
  | 2 => d.t2Req l.2.1 (if write then 2 else 1) l.2.2 n row
  | 3 => d.d2hSend write l.2.2 (n * 64)
  | _ => d

/-- The bytes of a record as a reader sees them; an unallocated row reads as zeros (R211) (DESIGN CHOICE, log entry 64). -/
def Device.record (d : Device) (n r : Nat) : Bytes :=
  let l := d.locate n r
  if l.1 = 0 then zeroBytes ((d.obj n).recLines * 64) else d.readKey ((d.obj n).recLines * 64) (locKey l)

/-- The bytes of a row where this device reads it: its replica, or its record (R145). -/
def Device.rowBytes (d : Device) (t r : Nat) : Bytes :=
  let n := handleNum (dObj (d.table t).desc)
  match d.replica t r with
  | some b => d.readKey ((d.obj n).recLines * 64) (t1Key b.tile b.line 0)
  | none => d.record n r

/-- Copy `n` lines with their poison: a line marked failed stays so (R229, R240). -/
def Device.copyLines (d : Device) (src dst n : Nat) : Device :=
  (List.range n).foldl (fun d i =>
    let p := d.poisoned (src + 64 * i)
    { d with mem := writeMem d.mem (dst + 64 * i) (readMem d.mem 64 (src + 64 * i)) }.setPoison (dst + 64 * i) p) d

/-! ### Back-invalidates -/

/-- R433: the tracked lines among `n` HDM lines from `line` on leave the snoop filter, with a BISnpInv each. -/
def Device.biSnoop (d : Device) (line n : Nat) : Device :=
  (d.host.snoop.filter fun l => decide (line ≤ l ∧ l < line + n)).foldl (fun d l =>
    { d with host := { d.host with
      snoop := d.host.snoop.filter (· ≠ l)
      bi := d.host.bi ++ [(l, 1)] } }.emit (.biSnp l) |>.inc F.HOST_BI_CNT_COUNT) d

/-- Bytes of an object's window (R215). -/
def TierObj.windowLen (o : TierObj) : Nat := o.hdmRows * o.recLines * 64

/-- The first HDM line of a row in its object's window (R215). -/
def Device.hdmLine (d : Device) (n r : Nat) : Option Nat :=
  let o := d.obj n
  if o.hdmRows ≠ 0 ∧ o.hdmFirst ≤ r ∧ r < o.hdmFirst + o.hdmRows then
    some ((o.hdmOff + (r - o.hdmFirst) * o.recLines * 64) / 64)
  else none

/-- R433: back-invalidate what the host may hold of a row. -/
def Device.biRow (d : Device) (n r : Nat) : Device :=
  match d.hdmLine n r with
  | some l => d.biSnoop l (d.obj n).recLines
  | none => d

/-- A row of which a BISnp is outstanding. -/
def Device.biBusy (d : Device) (n r : Nat) : Bool :=
  match d.hdmLine n r with
  | some l => d.host.bi.any fun b => decide (l ≤ b.1 ∧ b.1 < l + (d.obj n).recLines)
  | none => false

/-! ### Placement -/

/-- T3 can be used by an object (R219). -/
def Device.t3Usable (d : Device) (o : TierObj) : Bool :=
  !d.flag F.SPINE_STATUS_MODE && o.t3Base != 0 && d.rd F.OPT_TAIL_CFG_TAIL_RINGS != 0

/-- A tier an object may use now (R219). -/
def Device.usable (d : Device) (o : TierObj) (tier : Nat) : Bool :=
  bit o.allowed (tier - 1) && match tier with
    | 1 => true
    | 2 => !d.carriersIn.isEmpty
    | _ => d.t3Usable o

/-- A row lies in the pin range of its object (R207). -/
def TierObj.pinned (o : TierObj) (r : Nat) : Bool :=
  o.pinTier != 0 && decide (o.pinFirst ≤ r ∧ r < o.pinFirst + o.pinRows)

/-- R219: the target tier of a row under an estimate; 0 where no allowed tier can be used. -/
def Device.targetTier (d : Device) (n r est : Nat) : Nat :=
  let o := d.obj n
  if o.pinned r && (o.pinHeld || (d.locate n r).1 == o.pinTier) then o.pinTier
  else if o.promT1 ≤ est ∧ bit o.allowed 0 then 1
  else if o.promT2 ≤ est ∧ d.usable o 2 then 2
  else if d.usable o 3 then 3
  else if d.usable o 2 then 2
  else if d.usable o 1 then 1
  else 0

/-- The keys of a row in its object's sketch (R220). -/
def hotKeys (n r : Nat) : List Nat := sketchKeys 4 n r

/-- A row's hotness estimate (R220). -/
def Device.hotness (d : Device) (n r : Nat) : Nat := sketchEst (d.obj n).sketch (hotKeys n r)

/-- The stack of a row: its sort tile (R211); none while no enabled table names the object. -/
def Device.rowTile (d : Device) (n r : Nat) : Option Nat := (d.tableOfObj n).map fun t => d.sortTile t r

/-- Room for a row in a tier: the place, a line and the device with the lines taken. T1 only on the row's own stack
beyond the reserve (R219), T2 on the first carrier in service with room (R232), T3 in the host's array. -/
def Device.placeIn (d : Device) (n r tier : Nat) : Option (Nat × Nat × Device) :=
  let k := (d.obj n).recLines
  match tier with
  | 1 => match d.rowTile n r with
    | some t => if d.tileServes t && decide (k ≤ d.t1Beyond t) then (d.alloc1 t k).map fun x => (t, x.1, x.2) else none
    | none => none
  | 2 => d.carriersIn.findSome? fun c => (d.alloc2 c k).map fun x => (c, x.1, x.2)
  | 3 => some (0, (d.obj n).t3Base + r * k * 64, d)
  | _ => none

/-- A row that the tail rings still carry a record of (R187). -/
def Device.tailPending (d : Device) (t r : Nat) : Bool := d.sparse.pend.any fun e => e.table == t && e.row == r

/-- The fence holds a row (R50). -/
def Device.fenced (d : Device) (n r : Nat) : Bool := d.spine.fence.contains (n, r)

/-- The lines a record held are freed (R226, step 5). -/
def Device.freeLoc (d : Device) (l : Nat × Nat × Nat) : Device :=
  match l.1 with
  | 1 => d.free1 l.2.1 l.2.2
  | 2 => d.free2 l.2.1 l.2.2
  | _ => d

/-- Rows of an object in T1 and T2 (R233). -/
def Device.objCount (d : Device) (n tier : Nat) : Nat :=
  if (d.obj n).kind = 1 then (d.tier.dir.filter fun e => e.obj = n ∧ e.tier = tier ∧ e.state ≠ 2).length
  else if tier = 1 ∧ (d.obj n).live then (d.obj n).size else 0

/-- What the delta stream records of a move out of T3 or into it (R449). -/
def Device.noteMove (d : Device) (n r src tier : Nat) : Device :=
  let note := RowNote.mk n r (d.record n r)
  if src = 3 ∧ tier ≠ 3 then { d with ckpt := { d.ckpt with left := d.ckpt.left ++ [note] } }
  else if tier = 3 ∧ (src = 1 ∨ src = 2) then { d with ckpt := { d.ckpt with entered := d.ckpt.entered ++ [note] } }
  else d

/-- R226, steps 2 and 5, for a row whose lines at the destination are taken: copy, switch, free. -/
def Device.switchTo (d : Device) (n r tier place line : Nat) : Device :=
  let src := d.locate n r
  let k := (d.obj n).recLines
  let v := d.version n r
  let dst := (tier, place, line)
  let d := (d.askLoc src false k (some (n, r))).biRow n r
  let d := if src.1 = 0 then d else d.copyLines (locKey src) (locKey dst) k
  let d := d.askLoc dst true k (some (n, r))
  let d := d.noteMove n r src.1 tier
  let d := if tier = 3 then d.delEntry n r else d.setEntry ⟨n, r, tier, place, line, 0, v⟩
  let d := d.freeLoc src
  if src.1 = 0 ∨ src.1 = tier then d
  else if tier < src.1 then d.inc F.TIER_PROMOTED_COUNT else d.inc F.TIER_DEMOTED_COUNT

/-- Move a row to a tier, none where the tier has no room or the directory no place (R212, R226). -/
def Device.moveTo (d : Device) (n r tier : Nat) : Option Device :=
  let dr := if tier = 3 ∨ (d.dirEntry n r).isSome then (true, d) else d.dirRoom
  if !dr.1 then none
  else (dr.2.placeIn n r tier).map fun p => p.2.2.switchTo n r tier p.1 p.2.1

/-- R214: an unallocated row takes a zero-filled record in the tier R219 gives, or failing room there in a lower
usable one. None where no tier has room. -/
def Device.allocRow (d : Device) (n r : Nat) : Option Device :=
  let o := d.obj n
  ((d.targetTier n r (d.hotness n r) :: [1, 2].filter (d.usable o)).filter (· ≠ 3)).findSome? fun t => d.moveTo n r t

/-! ### Gathers -/

/-- R220: the owner counts a gathered row once in a step. -/
def Device.countHot (d : Device) (n r : Nat) : Device :=
  let o := d.obj n
  if o.sketchAt.isNone then d else d.setObj n { o with sketch := sketchAdd o.sketch (hotKeys n r) 1 }

/-- R221: a gather of a row below its target moves it there. A failure counts unless a tail record is pending. -/
def Device.gatherUp (d : Device) (t n r tier : Nat) : Device × Bool :=
  if (d.locate n r).1 ≤ tier ∨ tier = 0 then (d, false)
  else if d.tailPending t r then (d, false)
  else
    match d.moveTo n r tier with
    | some d => (d, true)
    | none => (d.inc F.TIER_NO_ROOM_COUNT, false)

/-- R228: a gather of an owned T3 row in service mode takes slots of the tail allowance; beyond it the row is moved
to the highest usable allowed tier with room (DESIGN CHOICE, log entry 66). -/
def Device.gatherTail (d : Device) (t n r width : Nat) : Device :=
  let o := d.obj n
  let slots : Int := ((1 + ceilDiv width 16) * 1000 : Nat)
  if d.tier.allowance < slots ∨ (o.tailMax ≠ 0 ∧ o.tailMax ≤ o.tailCount) then
    let up := if d.tailPending t r then none
      else ([1, 2].filter (d.usable o)).findSome? fun k => d.moveTo n r k
    match up with
    | some d => d.inc F.TIER_TAIL_PROMOTED_COUNT
    | none =>
      let d := d.setObj n { o with tailCount := o.tailCount + 1 }
      let d := { d with tier := { d.tier with allowance := d.tier.allowance - slots } }
      d.inc F.TIER_TAIL_OVER_COUNT
  else
    let d := d.setObj n { o with tailCount := o.tailCount + 1 }
    { d with tier := { d.tier with allowance := d.tier.allowance - slots } }

/-- A gather of an owned row by its owner (R219 to R221, R228), without its reading. -/
def Device.gatherPlace (d : Device) (t n r : Nat) : Device :=
  let d := d.countHot n r
  let g := d.gatherUp t n r (d.targetTier n r (d.hotness n r))
  if (g.1.locate n r).1 = 3 ∧ !d.flag F.SPINE_STATUS_MODE then
    g.1.gatherTail t n r (dWidth (d.table t).desc)
  else g.1

/-! ### Sweeps -/

/-- Rows the tier manager is to move, each once. -/
def Device.wantRow (d : Device) (n r why : Nat) : Device :=
  if d.tier.want.any fun w => w.obj = n ∧ w.row = r then
    { d with tier := { d.tier with want := d.tier.want.map fun w => if w.obj = n ∧ w.row = r ∧ w.why < why then ⟨n, r, why⟩ else w } }
  else { d with tier := { d.tier with want := d.tier.want ++ [⟨n, r, why⟩] } }

/-- A row a sweep passes over: pinned, fenced, a Bellwether entry, in a move (R222). -/
def Device.sweepSkips (d : Device) (e : DirEntry) : Bool :=
  (d.obj e.obj).pinned e.row || d.fenced e.obj e.row || e.state != 0

/-- The next lower usable allowed tier than `tier`; 0 for none (R222). -/
def Device.nextLower (d : Device) (o : TierObj) (tier : Nat) : Nat :=
  (([2, 3].filter fun t => tier < t && d.usable o t).head?).getD 0

/-- R222: the rows of an entry list whose estimate lies below its tier's demotion mark. -/
def Device.coldRows (d : Device) (es : List DirEntry) : List DirEntry :=
  es.filter fun e =>
    let o := d.obj e.obj
    !d.sweepSkips e && decide (d.hotness e.obj e.row < if e.tier = 1 then o.demT1 else o.demT2) &&
      d.nextLower o e.tier != 0

/-- R222: sweep an object after a decay. DIR_FULL starts anew. -/
def Device.sweepObj (d : Device) (n : Nat) : Device :=
  let d := d.wr F.TIER_STATUS_DIR_FULL 0
  (d.coldRows (d.tier.dir.filter (·.obj = n))).foldl (fun d e => d.wantRow e.obj e.row 0) d

/-- R223: a sweep of the pinned rows of an object into PIN_TIER. -/
def Device.sweepPins (d : Device) (n : Nat) : Device :=
  let o := d.obj n
  if o.pinTier = 0 ∨ o.pinRows = 0 then d
  else
    let d := d.setObj n { o with pinHeld := true }
    let rows := if o.t3Base ≠ 0 ∧ (d.tableOfObj n).isSome
      then (List.range o.pinRows).map (o.pinFirst + ·)
      else (d.tier.dir.filter fun e => e.obj = n ∧ o.pinned e.row).map (·.row)
    rows.foldl (fun d r =>
      if (d.locate n r).1 = o.pinTier ∨ (d.locate n r).1 = 0 ∨
          ((d.dirEntry n r).map (·.state)) = some 2 ∨
          !((d.tableOfObj n).map fun t => d.owns t r).getD true then d
      else d.wantRow n r 1) d

/-- Lines under which the free lines of a stack or of T2 call for a sweep (R222): a stack by its tile, T2 as 24. -/
def Device.lowPlaces (d : Device) : List Nat :=
  ((List.range Config.tiles).filter fun t => d.tileServes t && decide (d.t1Beyond t * 64 < Config.stackLines)) ++
    (if !d.carriersIn.isEmpty && decide ((d.carriersIn.map d.t2Free).sum * 64 < (d.carriersIn.map d.capacity).sum)
      then [24] else [])

/-- The place, as `lowPlaces` numbers them, of an entry. -/
def DirEntry.spaceOf (e : DirEntry) : Nat := if e.tier = 1 then e.place else 24

/-- R222: the further rows, in directory order, that a sweep for space demotes where the cold ones free too little:
those below their PROMOTE mark, until the place is no longer low. -/
def Device.spaceRows (d : Device) (p : Nat) (cold : List DirEntry) : List DirEntry :=
  let lines := fun (es : List DirEntry) => (es.map fun e => (d.obj e.obj).recLines).sum
  let free := if p < 24 then d.t1Beyond p else (d.carriersIn.map d.t2Free).sum
  let all := if p < 24 then Config.stackLines else (d.carriersIn.map d.capacity).sum
  let more := d.tier.dir.filter fun e =>
    let o := d.obj e.obj
    e.spaceOf = p && !cold.contains e && !d.sweepSkips e && d.nextLower o e.tier != 0 &&
      decide (d.hotness e.obj e.row < if e.tier = 1 then o.promT1 else o.promT2)
  (more.foldl (fun acc e => if (free + lines acc) * 64 < all then acc ++ [e] else acc)
    (cold.filter (·.spaceOf = p)))

/-- R222: the sweep for space, when the free lines of a stack or of T2 have fallen below 1/64. -/
def Device.sweepSpace (d : Device) : Device :=
  let low := d.lowPlaces
  if low.isEmpty then { d with tier := { d.tier with low := false } }
  else if d.tier.low then d
  else
    let d := { d.wr F.TIER_STATUS_DIR_FULL 0 with tier := { d.tier with low := true } }
    let cold := d.coldRows d.tier.dir
    (cold ++ low.flatMap fun p => d.spaceRows p cold).foldl (fun d e => d.wantRow e.obj e.row 0) d

/-! ### Drains -/

/-- Lines the current drain has still to move (R233): records, then frames, sketches and replicas on the stack. -/
def Device.drainLeft (d : Device) : Nat :=
  match d.tier.drainNow with
  | none => 0
  | some (k, t) =>
    if k = 0 then usedLines d.tier.t1 t
    else ((d.tier.dir.filter fun e => e.tier = 2 ∧ e.place = t).map fun e => (d.obj e.obj).recLines).sum

/-- R144: give every sort map entry of a tile, lowest first, to the tile in service with the fewest entries. -/
def Device.remapSort (d : Device) (t : Nat) : Device :=
  (List.range 96).foldl (fun d i =>
    if d.sortEntry i ≠ t then d
    else
      let count := fun u => ((List.range 96).filter fun j => d.sortEntry j == u).length
      match ((List.range Config.tiles).filter fun u => u ≠ t && d.tileServes u) with
      | [] => d
      | u :: us => d.setSortEntry i (us.foldl (fun b v => if count v < count b then v else b) u)) d

/-- R229, step 1, at the end of COMMIT or in IDLE; step 2's rows are then wanted. -/
def Device.drainRemap (d : Device) : Device :=
  match d.tier.drainNow with
  | some (0, t) =>
    if d.rd F.TIER_DRAIN_STATE ≠ 1 then d
    else
      let d := (d.wr (F.EMB_SLICE_STATUS_DRAINED t) 1).remapSort t
      let d := { d with tier := { d.tier with drainedTiles := d.tier.drainedTiles ++ [t] } }
      let d := d.wr F.TIER_DRAIN_STATE 2
      (d.tier.dir.filter fun e => e.tier = 1 ∧ e.place = t ∧ e.state ≠ 2).foldl (fun d e => d.wantRow e.obj e.row 3) d
  | _ => d

/-- In IDLE a tile drain's remapping happens at once (R229). -/
def Device.drainIfIdle (d : Device) : Device := if d.phase = .idle then d.drainRemap else d

/-- The rows on a carrier are wanted elsewhere (R230). -/
def Device.wantCarrier (d : Device) (c : Nat) : Device :=
  (d.tier.dir.filter fun e => e.tier = 2 ∧ e.place = c).foldl (fun d e => d.wantRow e.obj e.row 3) d

/-- A drain begins (R229 to R231). -/
def Device.drainBegin (d : Device) (k t : Nat) : Device :=
  let d := { d with tier := { d.tier with drainNow := some (k, t) } }
  let d := (d.wr F.TIER_DRAIN_KIND k).wr F.TIER_DRAIN_TARGET t
  if k = 0 then
    ((d.wr F.TIER_DRAIN_STATE 1).log 0x0205 0 4 t 0 0).drainIfIdle
  else ((d.wr F.TIER_DRAIN_STATE 2).setCarrierState t 3).wantCarrier t

/-- QUEUED follows the queue (R233). -/
def Device.drainQueue (d : Device) (q : List (Nat × Nat)) : Device :=
  { d with tier := { d.tier with drainQ := q } }.wr F.TIER_DRAIN_QUEUED q.length

/-- R231: a drain request for a target: RESULT 12 or 11, or 0 and it begins or waits. -/
def Device.drainRequest (d : Device) (k t : Nat) : Nat × Device :=
  let absent := if k = 0 then decide (Config.tiles ≤ t) || !(d.domOn (domOfTile t) && d.rd (F.MEM_STATUS_STATE t) == 1)
    else decide (Config.carriers ≤ t) || d.carrierState t != 2
  if absent ∨ d.tier.drainNow = some (k, t) ∨ (k, t) ∈ d.tier.drainQ ∨ (k = 0 ∧ t ∈ d.tier.drainedTiles) then (12, d)
  else if d.tier.drainNow.isNone then (0, d.drainBegin k t)
  else if 8 ≤ d.tier.drainQ.length then (11, d)
  else (0, d.drainQueue (d.tier.drainQ ++ [(k, t)]))

/-- The next queued drain starts (R231). -/
def Device.drainNext (d : Device) : Device :=
  match d.tier.drainQ with
  | [] => { d with tier := { d.tier with drainNow := none } }
  | (k, t) :: r => (d.drainQueue r).drainBegin k t

/-- Moves whose destination starts to drain or is gone are abandoned (R227). -/
def Device.abandonMoves (d : Device) (tier place : Nat) : Device :=
  let gone := d.tier.moves.filter fun m => m.tier = tier ∧ m.place = place
  gone.foldl (fun d m =>
    let d := d.freeLoc (m.tier, m.place, m.line)
    let d := if m.fromT3 then d.delEntry m.obj m.row
      else match d.dirEntry m.obj m.row with
        | some e => d.setEntry { e with state := 0 }
        | none => d
    d.wantRow m.obj m.row 0) { d with tier := { d.tier with moves := d.tier.moves.filter fun m => ¬(m.tier = tier ∧ m.place = place) } }

/-! ### What the registers show -/

/-- A tier manager command ends with a RESULT (R207 to R209, R231, R596): status, then CMD_DONE or CMD_FAIL. -/
def Device.tierResult (d : Device) (r : Nat) : Device :=
  let d := (d.wr F.TIER_CMD_STATUS_RESULT r).wr F.TIER_CMD_STATUS_BUSY 0
  d.raise (if r = 0 then F.TIER_INT_STATUS_CMD_DONE else F.TIER_INT_STATUS_CMD_FAIL)

/-- No owned row of any live object lies in T3 (R232): every owned row of an object with a T3 array has an entry. -/
def Device.t3Empty (d : Device) : Bool :=
  d.tier.objs.all fun e =>
    !e.2.live || e.2.t3Base == 0 ||
      match d.tableOfObj e.1 with
      | none => true
      | some t => (List.range (dRows (d.table t).desc)).all fun r => !d.owns t r || (d.dirEntry e.1 r).isSome

/-- Registers of the tier manager whose value is a view of its state (R233). -/
def Device.tierView (d : Device) (off : Nat) : Option Nat :=
  let n := d.rd F.TIER_OBJ_SEL_NUMBER
  let o := d.obj n
  let half := fun (f : Fld) (v : Nat) =>
    if off = f.key then some (v % 2 ^ 32) else if off = f.key + 4 then some (v / 2 ^ 32) else none
  let free1 := (((List.range Config.tiles).filter d.tileServes).map d.t1Beyond).sum
  let free2 := (d.carriersIn.map d.t2Free).sum
  if off = F.TIER_STATUS.key then
    some (d.rd F.TIER_STATUS_DIR_FULL * 16 + b2n d.t3Empty * 8 +
      b2n (d.tier.recovering || d.tier.want.any fun w => w.why = 2 ∨ w.why = 4) * 4 +
      b2n (d.tier.want.any fun w => w.why ≤ 1) * 2 + b2n d.tier.drainNow.isSome)
  else if off = (F.TIER_OBJ_STATE 0).key then
    some (b2n o.live * 2 ^ 31 + o.gen * 2 ^ 13 + o.allowed * 2 ^ 10 + o.ecc * 2 ^ 9 + o.kind)
  else if off = (F.TIER_OBJ_TAIL 0).key then some o.tailCount
  else
    [half F.TIER_T1_FREE_LO free1, half F.TIER_T2_FREE_LO free2, half F.TIER_DRAIN_LEFT_LO d.drainLeft,
      half (F.TIER_OBJ_T1_LO 0) (d.objCount n 1), half (F.TIER_OBJ_T2_LO 0) (d.objCount n 2),
      half (F.TIER_OBJ_NEXT_DECAY_LO 0) o.nextDecay].findSome? id

end Sys2Proof.Machine
end

