-- ==== Sys2Proof/Machine/LinkOps.lean ====
section
/-! DEFINITION. Light and its safety (R385 to R394), the link layer (R395 to R402), planes (R403 to R410), and what a
carrier's failure does (R415, R417). A link's number is the plane's, or 8 more than the carrier's. -/

namespace Sys2Proof.Machine

/-! ### Light -/

/-- The engines that hold a link's lanes (R385). -/
def linkEngines (l : Nat) : List Nat :=
  if l < 8 then ((List.range 9).map fun i => (9 * l + i) / 24).eraseDups else [3]

/-- Every engine of a link is ON (R385). -/
def Device.linkPowered (d : Device) (l : Nat) : Bool := (linkEngines l).all fun n => d.domOn (domOpt n)

/-- The link of a lane of an engine, none for a lane of no link (R385). -/
def laneLink (n lane : Nat) : Option Nat :=
  if n < 3 then some ((24 * n + lane) / 9) else some (8 + lane / 6)

/-- The feed condition of an engine and feed, 0 A and 1 B (R389). -/
def Device.feedMay (d : Device) (n f : Nat) : Bool :=
  d.optics.interlock && !d.optics.hold &&
    d.rd (if f = 0 then F.FAB_ENG_CTL_FEED_A_OFF n else F.FAB_ENG_CTL_FEED_B_OFF n) == 0 &&
    !d.flag (F.FAB_ENG_STATUS_OVER n) && (d.domState (domOpt n) == 1 || d.domState (domOpt n) == 2)

/-- FEED_A or FEED_B of FAB_ENG_STATUS. -/
def feedFld (n f : Nat) : Fld := if f = 0 then F.FAB_ENG_STATUS_FEED_A n else F.FAB_ENG_STATUS_FEED_B n
/-- FEED_A or FEED_B of FAB_ENG_POWER. -/
def powerFld (n f : Nat) : Fld := if f = 0 then F.FAB_ENG_POWER_FEED_A n else F.FAB_ENG_POWER_FEED_B n

/-- One feed follows R389's condition: its enable output, and what it reads. A feed just enabled reads in window, at a free
value of 17.0 to 21.0 dBm, until a command says otherwise (PRESUMED, log entry 29). -/
def Device.feedEnable (d : Device) (n f : Nat) : Device :=
  let on := d.feedMay n f
  let was := d.rd (feedFld n f) != 0
  if on == was then d
  else
    let d := d.emit (.pin (.elsEn n f) on)
    if on then
      let d := { d with optics := { d.optics with opening := d.optics.opening ++ [2 * n + f] } }
      ((d.wr (feedFld n f) 1).wr (powerFld n f) (1700 + d.fresh % 401)).used
    else
      let d := { d with optics := { d.optics with opening := d.optics.opening.filter (· ≠ 2 * n + f) } }
      (d.wr (feedFld n f) 0).wr (powerFld n f) 0x8000

/-- Drive the feed enables of an engine by R389's conditions. -/
def Device.feedEnables (d : Device) (n : Nat) : Device := (d.feedEnable n 0).feedEnable n 1

/-- Every engine's feed enables. -/
def Device.allFeeds (d : Device) : Device := (List.range Config.engines).foldl Device.feedEnables d

/-- The transmitter of a lane is blanked (R389 to R392, R416). -/
def Device.laneDark (d : Device) (n lane : Nat) : Bool :=
  !d.domOn (domOpt n) || !d.optics.interlock || d.optics.hold || d.flag (F.FAB_ENG_STATUS_OVER n) ||
    match laneLink n lane with
    | some l => (d.link l).blanked && !(d.link l).probing
    | none => true

/-- DARK and INTLK as FAB_ENG_STATUS shows them (R419). -/
def Device.opticsView (d : Device) (off : Nat) : Option Nat :=
  ((List.range Config.engines).find? fun n => off = (F.FAB_ENG_STATUS n).key).map fun n =>
    let dark := ((List.range 24).filter fun i => d.laneDark n i).foldl (fun a i => a + 2 ^ i) 0
    b2n d.optics.interlock * 2 ^ 31 + (d.reg off).toNat % 2 ^ 31 / 2 ^ 24 * 2 ^ 24 + dark

/-! ### The link layer -/

/-- Add to one of the counters of a link, FAB_PL on a plane and TLNK_C on a carrier's link. -/
def Device.linkInc (d : Device) (l : Nat) (pl tl : Nat → Fld) (n : Nat := 1) : Device :=
  if l < 8 then d.inc (pl l) n else d.inc (tl (l - 8)) n

/-- The ACK a link sends: the SEQ of the last data flit received good and in order (R395). -/
def Link.ack (k : Link) : Nat := (k.rxSeq + 65535) % 65536

/-- Entries a replay buffer holds (R397). -/
def replayMax : Nat := 4096

/-- The 256 bytes of a DATA flit (R403). -/
def flitBytes (t : TxFlit) (ack src : Nat) (replay : Bool) : Bytes :=
  let b := leBytes 1 1 ++ leBytes 1 t.vc ++ leBytes 1 (b2n t.first + 2 * b2n t.last + 4 * b2n replay) ++ leBytes 1 0 ++
    leBytes 2 t.seq ++ leBytes 2 ack ++ leBytes 2 t.dst ++ leBytes 2 src ++ leBytes 2 t.bytes.length ++ leBytes 2 0 ++
    padTo 232 t.bytes
  b ++ leBytes 8 (crc64 b)

/-- Send the waiting flits of a plane while credit and buffer room allow (R397, R405). `fuel` bounds them. -/
def Device.flitPump : Nat → Device → Nat → Device
  | 0, d, _ => d
  | fuel + 1, d, p =>
    let k := d.link p
    match k.wait with
    | [] => d
    | t :: r =>
      let c := if t.vc = 0 then k.credit0 else k.credit1
      if c = 0 ∨ replayMax ≤ k.buf.length ∨ !bit (d.rd F.FAB_PLANES_IN_SERVICE) p then d
      else
        let t := { t with seq := k.txSeq, tries := 1 }
        let k := { k with
          wait := r
          buf := k.buf ++ [t]
          txSeq := (k.txSeq + 1) % 65536
          credit0 := if t.vc = 0 then k.credit0 - 1 else k.credit0
          credit1 := if t.vc = 0 then k.credit1 else k.credit1 - 1 }
        let d := (d.setLink p k).emit (.flit p (flitBytes t k.ack (d.rd F.COLL_RANK_RANK) false))
        Device.flitPump fuel (d.inc64 (F.FAB_PL_FLITS_LO_COUNT p)) p

/-- The planes in service, in ascending number (R407). -/
def Device.planesUp (d : Device) : List Nat := (List.range Config.planes).filter fun p => bit (d.rd F.FAB_PLANES_IN_SERVICE) p

/-- Flits queued on a plane. -/
def Device.queued (d : Device) (p : Nat) : Nat := (d.link p).wait.length + (d.link p).buf.length

/-- R407: the plane for bytes to a rank on a VC; none where they must wait. A fabric send entry waits for its pair's earlier
flits on other planes. -/
def Device.choosePlane (d : Device) (dst vc : Nat) : Option Nat :=
  match d.planesUp with
  | [] => none
  | p :: ps =>
    if vc = 0 then some (ps.foldl (fun b q => if d.queued q < d.queued b then q else b) p)
    else
      let q := (p :: ps).getD ((d.rd F.COLL_RANK_RANK + dst) % (p :: ps).length) p
      if (List.range Config.planes).any fun o => o ≠ q ∧
          ((d.link o).wait ++ (d.link o).buf).any fun t => t.vc = 1 ∧ t.dst = dst
      then none else some q

/-- The flits of a message (R406). -/
def cutFlits (dst vc : Nat) (msg : Bytes) : List TxFlit :=
  let cs := chunks 232 msg
  (List.range cs.length).map fun i =>
    { seq := 0, vc := vc, dst := dst, bytes := cs.getD i [], first := i == 0, last := i + 1 == cs.length, tries := 0, msg := msg }

/-- R406, R407: send a message or entry, or keep it until a plane can take it. -/
def Device.sendMsg (d : Device) (dst vc : Nat) (msg : Bytes) : Device :=
  if d.optics.unsent.any fun e => e.1 = dst ∧ e.2.1 = vc then
    { d with optics := { d.optics with unsent := d.optics.unsent ++ [(dst, vc, msg)] } }
  else
    match d.choosePlane dst vc with
    | none => { d with optics := { d.optics with unsent := d.optics.unsent ++ [(dst, vc, msg)] } }
    | some p =>
      let ts := cutFlits dst vc msg
      let k := d.link p
      (d.setLink p { k with wait := k.wait ++ ts }).flitPump (k.wait.length + ts.length) p

/-- What waited for a plane is tried again, oldest first. -/
def Device.sendWaiting (d : Device) : Device :=
  let us := d.optics.unsent
  us.foldl (fun d e => d.sendMsg e.1 e.2.1 e.2.2) { d with optics := { d.optics with unsent := [] } }

/-- A message with RESEND set and its CRC anew (R323, R408). -/
def setResend (m : Bytes) : Bytes :=
  let m := sub m 0 1 ++ leBytes 1 (u8At m 1 ||| 4) ++ m.drop 2
  let z := m.take 0x3C ++ zeroBytes 4 ++ m.drop 0x40
  m.take 0x3C ++ leBytes 4 (crc32c z) ++ m.drop 0x40

/-- Flits up to a SEQ are acknowledged (R395, R396); what waited for buffer room or for a pair's flits goes on. -/
def Device.ackUpTo (d : Device) (l ack : Nat) : Device :=
  let k := d.link l
  if !(k.buf.any fun t => t.seq = ack) then d
  else
    let rest := (k.buf.dropWhile fun t => t.seq ≠ ack).drop 1
    let d := d.setLink l { k with buf := rest }
    if l < 8 then (d.flitPump k.wait.length l).sendWaiting else d.t2Pump (d.carrier (l - 8)).waiting.length (l - 8)

/-! ### Service -/

/-- Whether a device has joined a job (R410). -/
def Device.joined (d : Device) : Bool := d.coll.job.isSome

/-- R410: no plane in service halts the spine of a device that has joined a job. -/
def Device.noPlane (d : Device) : Device :=
  if d.planesUp.isEmpty && d.joined then (d.lasting 4 12 0 0 0 6 0 true).haltReq else d

/-- R408: a plane leaves service: every message with a flit unacknowledged or unsent on it goes out on other planes, those
partly sent with RESEND. Partial messages of the plane are dropped. -/
def Device.planeLeaves (d : Device) (p : Nat) : Device :=
  if !bit (d.rd F.FAB_PLANES_IN_SERVICE) p then d
  else
    let k := d.link p
    let open' := ((k.buf ++ k.wait).map fun t => (t.dst, t.vc, t.msg)).eraseDups
    let d := d.wr { F.FAB_PLANES_IN_SERVICE with lo := p, w := 1 } 0
    let d := d.setLink p { k with buf := [], wait := [], partials := [] }
    let d := d.raise (F.FAB_PL_INT_STATUS_OUT p)
    let d := open'.foldl (fun d e =>
      let sent := k.buf.any fun t => t.msg == e.2.2
      d.sendMsg e.1 e.2.1 (if sent && e.2.1 == 0 then setResend e.2.2 else e.2.2)) d
    d.noPlane

/-- The receive spare of a link is usable: not in use and not marked unusable (R399, R401). -/
def Device.spareUsable (d : Device) (l : Nat) : Bool :=
  if l < 8 then !d.flag (F.FAB_PL_STATUS_RX_SPARE_USED l) && !d.flag (F.FAB_PL_STATUS_SPARE_BAD l)
  else !d.flag (F.TLNK_C_STATUS_RX_SPARE_USED (l - 8)) && !d.flag (F.TLNK_C_STATUS_SPARE_BAD (l - 8))

/-- A control record of R404. -/
def ctlRecord (ty a1 a2 a4 : Nat) : Bytes := leBytes 1 ty ++ leBytes 1 a1 ++ leBytes 2 a2 ++ leBytes 4 a4 ++ zeroBytes 8

/-- STATE or LINK of a link (R419, R420). -/
def linkState (l : Nat) : Fld := if l < 8 then F.FAB_PL_STATUS_STATE l else F.TLNK_C_STATUS_LINK (l - 8)

/-- A link starts to retrain at a width (R399, R404). A plane reads retraining, a tier link training. -/
def Device.retrain (d : Device) (l : Nat) (four : Bool) (tell : Bool) : Device :=
  let k := d.link l
  let d := d.setLink l { k with training := true, width4 := four, switching := none }
  let d := if tell then d.emit (.control l (ctlRecord 5 (if four then 4 else if l < 8 then 8 else 5) 0 0)) else d
  d.wr (linkState l) (if l < 8 then 3 else 1)

/-- The spare lanes of a link as AON holds them (R542): 9 * (receive lane + 1) + (transmit lane + 1), 0 for none. -/
def Device.laneMap (d : Device) (l : Nat) : Nat := Store.get (fun _ => 0) d.boot.laneMaps l

/-- Keep a link's spare lanes in AON. -/
def Device.setLaneMap (d : Device) (l rx tx : Nat) : Device :=
  { d with boot := { d.boot with laneMaps := Store.set (fun _ => 0) d.boot.laneMaps l (9 * rx + tx) } }

/-- The spare lanes that AON holds show in the link's status (R542). -/
def Device.applyLanes (d : Device) (l : Nat) : Device :=
  let rx := d.laneMap l / 9
  let tx := d.laneMap l % 9
  if l < 8 then
    let d := (d.wr (F.FAB_PL_STATUS_RX_SPARE_USED l) (b2n (rx != 0))).wr (F.FAB_PL_STATUS_RX_SPARED l) (rx - 1)
    (d.wr (F.FAB_PL_STATUS_TX_SPARE_USED l) (b2n (tx != 0))).wr (F.FAB_PL_STATUS_TX_SPARED l) (tx - 1)
  else
    (d.wr (F.TLNK_C_STATUS_RX_SPARE_USED (l - 8)) (b2n (rx != 0))).wr (F.TLNK_C_STATUS_TX_SPARE_USED (l - 8)) (b2n (tx != 0))

/-- A margin sweep of a link's spare is abandoned (R546). -/
def Device.dropMargin (d : Device) (l : Nat) : Device :=
  if !(d.link l).margin then d
  else
    let d := d.setLink l { d.link l with margin := false }
    let d := d.wr (if l < 8 then F.FAB_PL_CTL_MARGIN l else F.TLNK_C_CTL_MARGIN (l - 8)) 0
    if d.mgmt.testing.contains (1000 + l) then
      { d with mgmt := { d.mgmt with testing := d.mgmt.testing.filter (· ≠ 1000 + l) } }.inc F.TEST_ABANDON_COUNT
    else d

/-! ### Carriers -/

/-- R230, R415, R417: a carrier fails: the records it holds are lost, their lines reading as poison, and the spine acts as
if HALT_REQ were set where it held any (R227, last row) (DEDUCED, log entry 63). -/
def Device.carrierFail (d : Device) (c : Nat) : Device :=
  if d.carrierState c == 5 then d
  else
    let lost := d.tier.dir.filter fun e => e.tier = 2 ∧ e.place = c
    let d := (d.setCarrierState c 5).raise (F.TLNK_C_INT_STATUS_FAILED c)
    let d := d.setCarrier c { d.carrier c with tags := [], waiting := [] }
    let d := (d.abandonMoves 2 c).t2Count c
    let d := lost.foldl (fun d e =>
      (List.range (d.obj e.obj).recLines).foldl (fun d i => d.setPoison (t2Key c (e.line + i) 0) true) d) d
    let d := if d.rd (F.TLNK_C_STATUS_LINK c) = 4 then
        ((d.setCarrier c {}).setLink (8 + c) {}).wr (F.TLNK_C_STATUS_LINK c) 0
      else d.setLink (8 + c) { d.link (8 + c) with outage := false }
    let d := d.lasting 0x0303 13 c 0 0 7 c (!lost.isEmpty)
    if lost.isEmpty then d else d.haltReq

/-- A tier link is lost or dark (R402, R417): commands wait where the carrier is in service or draining. -/
def Device.tierOutage (d : Device) (c : Nat) : Device :=
  let l := 8 + c
  let st := d.carrierState c
  if st = 2 ∨ st = 3 then
    if (d.link l).outage then d
    else
      let d := (d.setLink l { d.link l with outage := true, outageTicks := 0, training := false }).wr (linkState l) 4
      d.lasting 4 13 c 4 0 7 c
  else
    let d := (d.setLink l { d.link l with training := false, buf := [], wait := [] }).wr (linkState l) 0
    let d := if st = 1 ∨ (st = 4 ∧ (d.carrier c).quiesced) then d.setCarrierState c 0 else d
    if st = 4 ∧ !(d.carrier c).quiesced then d else d.setCarrier c {}

/-- R399, step 4: a fault that remains takes a plane out of service, and is an outage of a tier link (DEDUCED, log entry 69). -/
def Device.linkOut (d : Device) (l : Nat) : Device :=
  if l < 8 then
    let d := (d.setLink l { d.link l with training := false }).wr (linkState l) 5
    (d.lasting 0x0302 12 l 0 0 6 l).planeLeaves l
  else d.tierOutage (l - 8)

/-- R399: a failing lane or a lasting fault of a link. -/
def Device.linkFault (d : Device) (l : Nat) : Device :=
  let k := d.link l
  if k.training then d
  else
    match k.failing with
    | lane :: _ =>
      if k.width4 then d.linkOut l
      else if k.switching.isSome then d
      else if d.spareUsable l then
        let d := d.dropMargin l
        (d.setLink l { d.link l with switching := some (lane, false) }).emit (.control l (ctlRecord 3 lane 0 0))
      else d.retrain l true true
    | [] =>
      if k.retrained then d.linkOut l
      else (d.setLink l { k with retrained := true }).retrain l k.width4 true

/-- R396: every data flit from a SEQ on is sent again; one already sent 8 times makes the fault lasting. -/
def Device.replayFrom (d : Device) (l seq : Nat) : Device :=
  let k := d.link l
  let older := k.buf.takeWhile fun t => t.seq ≠ seq
  let again := k.buf.dropWhile fun t => t.seq ≠ seq
  if again.any fun t => 8 ≤ t.tries then d.linkFault l
  else
    let d := d.setLink l { k with buf := older ++ again.map fun t => { t with tries := t.tries + 1 } }
    let d := again.foldl (fun d t => d.emit (.replay l t.seq)) d
    if again.isEmpty then d else d.linkInc l F.FAB_PL_REPLAY_COUNT F.TLNK_C_REPLAY_COUNT again.length

/-- An engine leaves ON: the links whose lanes it holds leave service (R385). -/
def Device.engineOff (d : Device) (n : Nat) : Device :=
  ((List.range 12).filter fun l => (linkEngines l).contains n).foldl (fun d l =>
    if l < 8 then ((d.setLink l { d.link l with training := false }).wr (linkState l) 0).planeLeaves l
    else d.tierOutage (l - 8)) d

end Sys2Proof.Machine
end

