-- ==== Sys2Proof/Machine/PwrOps.lean ====
section
/-! DEFINITION. Power domains and rails (R471 to R490): what the commands of the power family share. -/

namespace Sys2Proof.Machine

/-! ### Rails -/

/-- The rails a domain needs (R480). -/
def domRails (n : Nat) : List Nat :=
  if n < 2 then []
  else if n < 6 then [0, 2]
  else if n < 10 then [1, 2]
  else if n < 14 then [2, 3, 5, 6, 7]
  else if n < 18 then [4, 8]
  else if n = 18 then [3, 4]
  else [3]

/-- The order in which rails rise (R472). -/
def railOrder : List Nat := [3, 2, 0, 1, 4, 8, 7, 6, 5]

/-- The hardware limits of a rail in mV (R471). -/
def railLimits (r : Nat) : Nat × Nat :=
  match r with
  | 0 | 1 => (600, 900)
  | 2 => (700, 950)
  | 3 => (650, 900)
  | 4 => (800, 1000)
  | 5 => (400, 600)
  | 6 => (1000, 1200)
  | 7 => (1700, 1900)
  | _ => (1100, 1350)

/-- The AVSBus bus of a rail (R471). -/
def railBus (r : Nat) : Nat := if r < 5 then 0 else 1
/-- The rail select of a rail on its bus (R471). -/
def railSelect (r : Nat) : Nat := if r < 5 then r else r - 5

/-- A rail's state as PWR_RAIL_STATUS encodes it (R503). -/
def Device.railSt (d : Device) (r : Nat) : Nat := d.rd (F.PWR_RAIL_STATUS_STATE r)

/-- The domains a rail serves. -/
def railDomains (r : Nat) : List Nat := (List.range Config.domains).filter fun n => (domRails n).contains r

/-- A domain's enable bit (R503). -/
def Device.domEn (d : Device) (n : Nat) : Bool := bit (d.rd F.PWR_DOM_CTL_EN) n

/-- Set or clear a domain's enable bit. -/
def Device.setEn (d : Device) (n : Nat) (b : Bool) : Device :=
  d.wr { F.PWR_DOM_CTL_EN with lo := n, w := 1 } (b2n b)

/-- Replace the requests of a bus (R476). -/
def Device.setAvs (d : Device) (bus : Nat) (q : List AvsReq) : Device :=
  { d with pwr := { d.pwr with avs := Store.set (fun _ => []) d.pwr.avs bus q } }

/-- Queue a voltage request (R476, R478, R479): clamped to the rail's window, replacing a waiting request of
the rail, started at once when the bus is free. -/
def Device.avsRequest (d : Device) (r mv : Nat) : Device :=
  let lo := d.rd (F.PWR_RAIL_WIN_MIN_MV r)
  let hi := d.rd (F.PWR_RAIL_WIN_MAX_MV r)
  let v := max lo (min mv hi)
  let d := if v = mv then d else d.inc F.PWR_VCLAMP_CNT
  let q := Store.get (fun _ => []) d.pwr.avs (railBus r)
  let req : AvsReq := ⟨r, v, 0⟩
  match q with
  | [] =>
    ({ d with pwr := { d.pwr with avs := Store.set (fun _ => []) d.pwr.avs (railBus r) [req] } }).emit
      (.avsWrite (railBus r) (railSelect r) v)
  | cur :: wait =>
    let wait := if wait.any (fun x => x.rail = r) then wait.map (fun x => if x.rail = r then req else x)
      else wait ++ [req]
    { d with pwr := { d.pwr with avs := Store.set (fun _ => []) d.pwr.avs (railBus r) (cur :: wait) } }

/-- The request in progress on a bus has ended: the next one that waits starts (R478). -/
def Device.avsNext (d : Device) (bus : Nat) : Device :=
  match Store.get (fun _ => []) d.pwr.avs bus with
  | [] => d
  | _ :: rest =>
    let d := { d with pwr := { d.pwr with avs := Store.set (fun _ => []) d.pwr.avs bus rest } }
    match rest with
    | [] => d
    | x :: _ => d.emit (.avsWrite bus (railSelect x.rail) x.mv)

/-- Raise the next rail of R472's order that an enabled domain needs, one at a time. -/
def Device.raiseRails (d : Device) : Device :=
  if railOrder.any (fun r => d.railSt r == 1 || d.railSt r == 2) then d
  else
    match railOrder.find? (fun r => d.railSt r == 0 &&
      (railDomains r).any (fun n => d.domEn n && (d.domState n == 0))) with
    | some r =>
      let d := { d with pwr := { d.pwr with pgTries := Store.set (fun _ => 0) d.pwr.pgTries r 0 } }
      (d.wr (F.PWR_RAIL_STATUS_STATE r) 1).emit (.pin (.railEn r) true)
    | none => d

/-! ### What a domain loses and what it is given back -/

/-- The RWL fields (and RING_CTL.ENABLE, R359) of a loaded configuration value, put into a register value
(R15). -/
def reloadFields (row : RegRow) (old val : Word) : Word :=
  row.flds.foldl (fun acc f =>
    if f.acc = .rwl ∨ (row.name = "RING_CTL" ∧ f.name = "ENABLE") then putBits acc f.lo f.w (getBits val f.lo f.w)
    else acc) old

/-- The management complex rewrites a domain's RWL fields from the configuration held in AON (R15). -/
def Device.reloadRwl (d : Device) (n : Nat) : Device :=
  d.boot.loaded.foldl (fun d e =>
    match RegMap.at? e.1 with
    | some a =>
      if a.blk.domain a.inst = n then
        d.setReg e.1 (reloadFields a.row (d.reg e.1) (BitVec.ofNat 32 e.2))
      else d
    | none => d) d

/-- The registers of a domain at their reset values (R16, R486). -/
def Device.resetRegs (d : Device) (n : Nat) : Device :=
  { d with regs := d.regs.filter fun e => (keySource e.1).1 != n }

/-- A tile's stack contents are gone (R486). -/
def Device.loseTile (d : Device) (t : Nat) : Device :=
  let lo := t1Key t 0 0
  let hi := t1Key (t + 1) 0 0
  { d with
    mem := d.mem.filter fun e => e.1 < lo || hi ≤ e.1
    poison := d.poison.filter fun e => e.1 < lo / 64 || hi / 64 ≤ e.1
    tiles := Store.set (fun _ => {}) d.tiles t {} }

/-- A core's memory is gone (R486). -/
def Device.loseCore (d : Device) (c : Nat) : Device :=
  { d with mem := d.mem.filter fun e => e.1 < coreKey c 0 || coreKey (c + 1) 0 ≤ e.1 }

/-- R376: an engine leaves ON: a chain in progress stops; its channel will be HALTED with cause 4 at the chain's first
descriptor. -/
def stopChans (e : Nat) (cs : Store Channel) : Store Channel :=
  cs.filterMap fun x =>
    let h : Channel := { st := .halted, cause := 4, first := x.2.first, desc := x.2.first, live := true }
    if x.1 / 128 ≠ e then some x else if x.2.live then some (x.1, h) else none

/-- Everything a domain held is lost (R486), its registers take their reset values (R16). -/
def Device.resetDomain (d : Device) (n : Nat) : Device :=
  let d := d.resetRegs n
  if n < 2 then d
  else if n < 10 then
    { (List.range 12).foldl (fun d i => d.loseCore ((n - 2) * 12 + i)) d with
      cores := d.cores.filter fun e => e.1 / 12 ≠ n - 2 }
  else if n < 14 then
    (List.range 6).foldl (fun d i =>
      let t := (n - 10) * 6 + i
      { d.loseTile t with chans := stopChans t d.chans }) d
  else if n < 18 then
    ((List.range 12).filter fun l => (linkEngines l).contains (n - 14)).foldl (fun d l =>
      if l < 8 then d.setLink l {}
      else
        let x := d.carrier (l - 8)
        let d := d.setCarrier (l - 8) { x with tags := [], waiting := x.tags ++ x.waiting }
        d.setLink l { outage := d.carrierState (l - 8) == 2 || d.carrierState (l - 8) == 3 }) d
  else if n = 18 then { d with host := { Device.reset.host with d2h := d.host.d2h, perstN := d.host.perstN } }
  else
    { d with
      phase := .idle
      tier := { Device.reset.tier with drainedTiles := d.tier.drainedTiles }
      rings := []
      chans := []
      spine := Device.reset.spine
      optics := { d.optics with unsent := [] }
      sparse := Device.reset.sparse
      num := Device.reset.num
      coll := Device.reset.coll
      hist := {}
      ckpt := {} }

/-! ### Starting and stopping -/

/-- The parent of a domain (R481). -/
def domParent (n : Nat) : Nat := if n < 18 then domSpine else domAon

/-- Every rail of a domain is up. -/
def Device.railsUp (d : Device) (n : Nat) : Bool := (domRails n).all fun r => d.railSt r == 3

/-- A rail of a domain is FAILED (R474). -/
def Device.railFailed (d : Device) (n : Nat) : Bool := (domRails n).any fun r => d.railSt r == 5

/-- A domain enters STARTING when it is enabled, its rails are up and its parent is ON; one whose parent
is not ON waits with PENDING_ENABLE (R481). Entering STARTING resets it and reloads its RWL fields
(R15, R16). Nothing starts while standby stops the domains (R489). -/
def Device.tryStart (d : Device) (n : Nat) : Device :=
  if d.domState n != 0 || !d.domEn n || d.pwr.standbyReq || d.pwr.tripped || d.railFailed n then d
  else if !d.domOn (domParent n) then d.wr (F.PWR_DOM_STATE_PENDING_ENABLE n) 1
  else if !d.railsUp n then d
  else
    let d := (d.resetDomain n).reloadRwl n
    let d := d.wr (F.PWR_DOM_STATE_STATE n) 1
    let d := d.wr (F.PWR_DOM_STATE_PENDING_ENABLE n) 0
    let d := d.wr (F.PWR_DOM_STATE_CAUSE n) (Store.get (fun _ => 0) d.pwr.wakeCause n)
    if 14 ≤ n ∧ n < 18 then d.feedEnables (n - 14) else d

/-- The order in which domains start (R490): SPINE, HOST, MEM, CG, OPT. -/
def startOrder : List Nat := [19, 18, 10, 11, 12, 13, 2, 3, 4, 5, 6, 7, 8, 9, 14, 15, 16, 17]

/-- After a change: every domain that can start does, then the next rail rises. -/
def Device.settle (d : Device) : Device := (startOrder.foldl Device.tryStart d).raiseRails

/-- A core of a group that leaves ON (R41, R546): out of the pool, the units it holds returned, its self-test abandoned. -/
def Device.stopCore (d : Device) (c : Nat) : Device :=
  let d := (d.setPool c false).requeueHeld c
  let d := if c ∈ d.mgmt.testing then
      { d with mgmt := { d.mgmt with testing := d.mgmt.testing.filter (· ≠ c) } }.inc F.TEST_ABANDON_COUNT
    else d
  let d := (d.wr (F.CORE_CTL_SELFTEST_REQ c) 0).setCore c { d.core c with hwTest := false, testFail := false }
  if (d.unitAt c).isSome then d.wr (F.CORE_STATUS_STATE c) 4
  else if d.rd (F.CORE_STATUS_STATE c) = 3 then d.wr (F.CORE_STATUS_STATE c) 1 else d

/-- The cores of a group leave the dispatch pool, with the units they hold (R41). `all` returns the units
in progress too (R485); otherwise those run on to their end or the drain limit (R484). -/
def Device.stopCores (d : Device) (g : Nat) (all : Bool) : Device :=
  let cs := (List.range 12).map fun i => g * 12 + i
  let d := cs.foldl Device.stopCore d
  if all then d.requeue (cs.filterMap d.unitAt) else d

/-- R266: a memory domain or SPINE leaves ON: every history space is disabled, its lists and slots are lost. As
SPINE does, a base generation is abandoned (R459). -/
def Device.loseSpaces (d : Device) (n : Nat) : Device :=
  let d := if n = domSpine then d.baseAbandon else d
  if (10 ≤ n ∧ n < 14) ∨ n = domSpine then { d with hist := {} }.wr F.HIST_STATUS_ENABLED 0 else d

/-- An orderly stop (R484): STOPPING, and the domain's cores take no further unit. -/
def Device.stopOrderly (d : Device) (n : Nat) : Device :=
  if d.domState n != 2 then d
  else
    let d := ((d.wr (F.PWR_DOM_STATE_STATE n) 3).wr { F.PWR_STATUS_ON with lo := n, w := 1 } 0).loseSpaces n
    if 2 ≤ n ∧ n < 10 then d.stopCores (n - 2) false
    else if 14 ≤ n ∧ n < 18 then (d.feedEnables (n - 14)).engineOff (n - 14)
    else d

/-- An emergency stop (R485): STOPPING at once, units in progress returned, pending requests cleared; a
CLASS 3 unit in progress makes it a lasting fault in COMMIT. The enable bit clears with it (DEDUCED, log entry 18). -/
def Device.stopEmergency (d : Device) (n err : Nat) : Device :=
  let d := (d.setEn n false).wr (F.PWR_DOM_STATE_LAST_ERR n) err
  let d := (d.wr (F.PWR_DOM_STATE_PENDING_ENABLE n) 0).wr (F.PWR_DOM_STATE_PENDING_DISABLE n) 0
  if d.domState n == 0 then d
  else
    let d := ((d.wr (F.PWR_DOM_STATE_STATE n) 3).wr { F.PWR_STATUS_ON with lo := n, w := 1 } 0).loseSpaces n
    if 2 ≤ n ∧ n < 10 then
      let us := ((List.range 12).map fun i => (n - 2) * 12 + i).filterMap d.unitAt
      let commit := us.any fun u => (d.workUnit u).cls == 3
      let d := d.stopCores (n - 2) true
      if commit then d.commitFault else d
    else if n = domSpine ∧ d.phase = .commit then d.commitFault
    else if 14 ≤ n ∧ n < 18 then (d.feedEnables (n - 14)).engineOff (n - 14)
    else d

/-- Every switchable domain (R480). -/
def switchable : List Nat := (List.range Config.domains).drop 2

/-- The next stops of standby, in the order OPT, CG, MEM, HOST, SPINE (R489). -/
def Device.standbyNext (d : Device) : Device :=
  if !d.pwr.standbyReq then d
  else
    let groups : List (List Nat) :=
      [[14, 15, 16, 17], [2, 3, 4, 5, 6, 7, 8, 9], [10, 11, 12, 13], [18], [19]]
    match groups.find? (fun g => g.any (fun n => d.domState n != 0)) with
    | some g => g.foldl Device.stopOrderly d
    | none =>
      if (List.range Config.rails).all (fun r => d.railSt r == 0 || d.railSt r == 5) then
        let d := { d with pwr := { d.pwr with standbyReq := false } }
        let d := d.wr F.PWR_CTL_STANDBY 0
        if switchable.any (fun n => d.flag (F.PWR_DOM_STATE_PENDING_ENABLE n)) then d.settle
        else d.wr F.PWR_STATUS_STANDBY 1
      else d

/-- A rail whose domains are all OFF starts to lower (R472). -/
def Device.lowerRails (d : Device) : Device :=
  (List.range Config.rails).foldl (fun d r =>
    if d.railSt r == 3 && (railDomains r).all (fun n => d.domState n == 0 && !d.domEn n) then
      d.wr (F.PWR_RAIL_STATUS_STATE r) 4
    else d) d

/-! ### Start-up failure and rail faults -/

/-- R522: start-up ends with a failure: the started domains but HOST stop, every rail but 3 and 4 is
lowered, HOST starts with reset values, and the cause shows in DRONE_START_STATUS. -/
def Device.startFail (d : Device) (cause err : Nat) : Device :=
  let d := (d.wr F.DRONE_START_STATUS_STATE 2).wr F.DRONE_START_STATUS_FAIL_CAUSE cause
  let d := d.wr F.DRONE_START_ERR err
  let d := (switchable.filter (· != 18)).foldl (fun d n =>
    (d.stopOrderly n).setEn n false) d
  let d := d.setEn 18 true
  d.lowerRails.settle

/-- R474: a lasting rail fault: FAILED until the whole device is reset, and the domains it names stop at
once. During start-up a fault of rail 2 to 7 ends start-up (R523). -/
def Device.railFault (d : Device) (r cause : Nat) : Device :=
  let d := (d.wr (F.PWR_RAIL_STATUS_STATE r) 5).wr (F.PWR_RAIL_STATUS_FAULT r) cause
  let d := (d.emit (.pin (.railEn r) false)).raise F.PWR_INT_STATUS_RAIL_FAULT
  let d := d.lasting 0x0401 16 r cause 0 8 r
  let doms := if r = 0 then [2, 3, 4, 5] else if r = 1 then [6, 7, 8, 9] else if r = 8 then [14, 15, 16, 17]
    else switchable
  let d := doms.foldl (fun d n => d.stopEmergency n 2) d
  if d.rd F.DRONE_START_STATUS_STATE = 0 ∧ 2 ≤ r ∧ r ≤ 7 then d.startFail 6 0 else d.settle

end Sys2Proof.Machine
end

