-- ==== Sys2Proof/Machine/Power.lean ====
section
/-! DEFINITION. The commands of power domains, rails, standby, the budget ledger, the clamp and the thermal
controls (R471 to R503). -/

namespace Sys2Proof.Machine

/-- The BAR0 offset of PWR_DOM_CTL. -/
def offDomCtl : Nat := F.PWR_DOM_CTL_EN.key

/-- One domain is enabled by a write (R474, R481, R482, R501). -/
def Device.enableDom (d : Device) (n cause : Nat) : Device :=
  if d.railFailed n || d.pwr.tripped then d.wr (F.PWR_DOM_STATE_LAST_ERR n) 4
  else
    let d := d.setEn n true
    let d := d.wr (F.PWR_DOM_STATE_PENDING_DISABLE n) 0
    let was := Store.get (fun _ => 0) d.pwr.wakeCause n
    let c := if was = 6 ∨ was = 7 then was else cause
    if d.domState n == 3 then
      { d.wr (F.PWR_DOM_STATE_PENDING_ENABLE n) 1 with
        pwr := { d.pwr with wakeCause := Store.set (fun _ => 0) d.pwr.wakeCause n 2 } }
    else if d.domState n == 0 then
      { d with pwr := { d.pwr with wakeCause := Store.set (fun _ => 0) d.pwr.wakeCause n c } }
    else d

/-- The enables written 1 that were 0 take effect, then what they let rise or start (R481, R472). -/
def Device.enableDoms (d : Device) (value : Nat) : Device :=
  ((switchable.filter (fun n => bit value n && !d.domEn n)).foldl (fun d n => d.enableDom n 1) d).settle

/-- R481: a write of PWR_DOM_CTL sets enable bits. Bits 1:0 ignore writes (DESIGN CHOICE, log entry 47). -/
def execDomainEnable (value : Nat) (s : State) : Result :=
  s.onDev fun d => d.access offDomCtl fun d => d.enableDoms value

/-- A tile holds a sort map entry, a frame, a record or a staging region (R483). -/
def Device.tileInUse (d : Device) (t : Nat) : Bool :=
  (List.range 96).any (fun i =>
    getBits (d.reg (F.EMB_SORT_MAP (i / 4)).key) (8 * (i % 4)) 8 == t) ||
  d.tier.t1.any (fun e => e.place == t) || d.rd (F.OPT_STAGE_LINES_LINES t) != 0

/-- R483: the cases in which a disable is refused. -/
def Device.disableRefused (d : Device) (n : Nat) : Bool :=
  if 10 ≤ n ∧ n < 14 then (List.range 6).any fun i => d.tileInUse ((n - 10) * 6 + i)
  else if n = 17 then (List.range 4).any fun c =>
    let st := getBits (d.reg F.TIER_CARRIER_STATE.key) (4 * c) 4
    st == 2 || st == 3
  else if n = 19 then ((List.range 18).drop 2).any fun m => d.domState m != 0
  else false

/-- One domain is disabled by a write (R482, R483, R484). -/
def Device.disableDom (d : Device) (n : Nat) : Device :=
  if d.disableRefused n then
    (d.wr (F.PWR_DOM_STATE_LAST_ERR n) 1).raise F.PWR_INT_STATUS_DOM_REFUSED
  else
    let d := (d.setEn n false).wr (F.PWR_DOM_STATE_PENDING_ENABLE n) 0
    if d.domState n == 1 then d.wr (F.PWR_DOM_STATE_PENDING_DISABLE n) 1
    else d.stopOrderly n

/-- The enables written 0 that were 1: each is refused (R483) or begins a stop (R484). -/
def Device.disableDoms (d : Device) (value : Nat) : Device :=
  (switchable.filter (fun n => !bit value n && d.domEn n)).foldl Device.disableDom d

/-- R483: a write of PWR_DOM_CTL clears enable bits. A stop of the SPINE domain abandons the base
generation with everything else it holds (R459, R486). -/
def execDomainDisable (value : Nat) (s : State) : Result :=
  s.onDev fun d => d.access offDomCtl fun d => d.disableDoms value

/-- A domain that finishes STOPPING: everything it held is lost, and it is OFF (R481, R486). -/
def Device.domainOff (d : Device) (n : Nat) : Device :=
  let d := d.resetDomain n
  let d := d.wr (F.PWR_DOM_STATE_STATE n) 0
  let d := d.raise F.PWR_INT_STATUS_DOM_CHANGE
  (d.lowerRails.settle).standbyNext

/-- Core group domain `n` still holds running units (R484). -/
def Device.groupBusy (d : Device) (n : Nat) : Bool :=
  decide (2 ≤ n ∧ n < 10) && (List.range 12).any fun i => (d.unitAt ((n - 2) * 12 + i)).isSome

/-- R481: STOPPING ends. A core group whose units still run is not there yet (R484). -/
def execDomainOff (domain : Nat) (s : State) : Result :=
  s.onDev fun d =>
    if domain < 2 ∨ 20 ≤ domain ∨ d.domState domain ≠ 3 ∨ d.groupBusy domain = true then d else d.domainOff domain

/-- The units running on core group domain `n`, but those of CLASS 3 (R484). -/
def Device.drained (d : Device) (n : Nat) : List Nat :=
  (((List.range 12).map fun i => (n - 2) * 12 + i).filterMap d.unitAt).filter fun u => (d.workUnit u).cls != 3

/-- R484: PWR_DRAIN_LIMIT expires in a stopping core group: units in progress return to the ready queue,
but those of CLASS 3 run to their end. -/
def execDrainLimitExpiry (domain : Nat) (s : State) : Result :=
  s.onDev fun d => if 2 ≤ domain ∧ domain < 10 ∧ d.domState domain = 3 then d.requeue (d.drained domain) else d

/-- Rail `r` is up: its target voltage is requested (R472). -/
def Device.railUp (d : Device) (r : Nat) : Device :=
  (d.wr (F.PWR_RAIL_STATUS_STATE r) 2).avsRequest r (d.rd (F.PWR_RAIL_TGT_MV r))

/-- R472: RAIL_PG_n asserts while the rail is being enabled: its target voltage is requested. -/
def execRailPowerGood (rail : Nat) (s : State) : Result :=
  s.onDev fun d => if rail < 9 ∧ d.railSt rail = 1 ∧ rail ∉ d.pwr.retryWait then d.railUp rail else d

/-- How often rail `r` was tried without power-good (R473). -/
def Device.pgTried (d : Device) (r : Nat) : Nat := Store.get (fun _ => 0) d.pwr.pgTries r

/-- A first failure to reach power-good: the enable deasserts for the wait (R473). -/
def Device.pgWait (d : Device) (r : Nat) : Device :=
  Device.emit { d with pwr := { d.pwr with
    pgTries := Store.set (fun _ => 0) d.pwr.pgTries r 1, retryWait := d.pwr.retryWait ++ [r] } } (.pin (.railEn r) false)

/-- R473: power-good absent 20 ms after the enable: one more try after 1 ms, then a lasting fault. -/
def execRailPgTimeout (rail : Nat) (s : State) : Result :=
  s.onDev fun d =>
    if rail < 9 ∧ d.railSt rail = 1 ∧ rail ∉ d.pwr.retryWait then
      if d.pgTried rail = 0 then d.pgWait rail else d.railFault rail 1
    else d

/-- The enable asserts once more (R473). -/
def Device.pgAgain (d : Device) (r : Nat) : Device :=
  Device.emit { d with pwr := { d.pwr with retryWait := d.pwr.retryWait.filter (· != r) } } (.pin (.railEn r) true)

/-- R473: the 1 ms wait has passed and the enable is asserted once more. -/
def execRailRetryWait (rail : Nat) (s : State) : Result :=
  s.onDev fun d => if rail ∈ d.pwr.retryWait then d.pgAgain rail else d

/-- R473, R474: RAIL_PG_n deasserts while the enable is asserted. -/
def execRailPgLost (rail : Nat) (s : State) : Result :=
  s.onDev fun d =>
    if rail < 9 ∧ (d.railSt rail = 2 ∨ d.railSt rail = 3 ∨ d.railSt rail = 4) then d.railFault rail 2 else d

/-- Rail `r` is lowered; a standby in progress goes on (R472, R489). -/
def Device.railDown (d : Device) (r : Nat) : Device :=
  (((d.wr (F.PWR_RAIL_STATUS_STATE r) 0).emit (.pin (.railEn r) false)).settle).standbyNext

/-- No rail later in the order of R472 still waits to be lowered. -/
def Device.lowersNext (d : Device) (r : Nat) : Bool :=
  ((railOrder.dropWhile (· != r)).drop 1).all fun r => d.railSt r != 4

/-- R472: 10 µs after its last domain reached OFF a rail is lowered, in the reverse of the order of rise. -/
def execRailLower (rail : Nat) (s : State) : Result :=
  s.onDev fun d => if rail < 9 ∧ d.railSt rail = 4 ∧ d.lowersNext rail = true then d.railDown rail else d

/-- A rail's target written; a rail that is up has it requested (R476). -/
def Device.railTarget (d : Device) (r value : Nat) : Device :=
  let d := d.wr (F.PWR_RAIL_TGT_MV r) value
  if d.railSt r = 3 then d.avsRequest r (value % 65536) else d

/-- R476, R479: a write of PWR_RAIL_TGT_n; it starts a request while the rail is up. -/
def execRailTargetWrite (rail value : Nat) (s : State) : Result :=
  s.onDev fun d =>
    if 9 ≤ rail then d else d.access (F.PWR_RAIL_TGT_MV rail).key fun d => d.railTarget rail value

/-- A request ends acknowledged (R476, R477): the voltage read back is shown, a retry is logged as
transient, and a rail that was being set is up. -/
def Device.avsDone (d : Device) (bus : Nat) (x : AvsReq) (mv : Nat) : Device :=
  let d := d.wr (F.PWR_RAIL_STATUS_MV x.rail) mv
  let d := if x.tries = 0 then d else d.log 0x0400 1 16 x.rail 0 0
  let d := if d.railSt x.rail = 2 then
      let d := if Store.get (fun _ => 0) d.pwr.pgTries x.rail = 0 then d else d.log 0x0400 1 16 x.rail 0 0
      d.wr (F.PWR_RAIL_STATUS_STATE x.rail) 3
    else d
  (d.avsNext bus).settle

/-- A request fails: sent again once in full, then a lasting rail fault (R477). -/
def Device.avsFail (d : Device) (bus : Nat) : Device :=
  match Store.get (fun _ => []) d.pwr.avs bus with
  | [] => d
  | x :: rest =>
    if x.tries = 0 then
      let d := d.setAvs bus ({ x with tries := 1 } :: rest)
      (d.inc F.PWR_AVS_RETRY).emit (.avsWrite bus (railSelect x.rail) x.mv)
    else (d.avsNext bus).railFault x.rail 3

/-- The requests of a bus, the one in progress first (R478). -/
def Device.avsQueue (d : Device) (bus : Nat) : List AvsReq := Store.get (fun _ => []) d.pwr.avs bus

/-- A Status read's answer for the request in progress, where there is one (R476). -/
def Device.avsHeard (d : Device) (bus : Nat) (q : List AvsReq) (vdone good : Bool) (mv : Nat) : Device :=
  match q with
  | [] => d
  | x :: _ =>
    let d := d.emit (.avsStatus bus)
    if !good then d.avsFail bus else if vdone then d.avsDone bus x mv else d

/-- R476: a Status read of the request in progress. `good` says that every response carried a SlaveAck of
success and a good CRC, `vdone` that the slave reports VDone, `mv` the voltage read back. -/
def execAvsStatusPoll (bus : Nat) (vdone good : Bool) (mv : Nat) (s : State) : Result :=
  s.onDev fun d => d.avsHeard bus (d.avsQueue bus) vdone good mv

/-- R477: 200 µs have passed without acknowledgement. -/
def execAvsTimeout (bus : Nat) (s : State) : Result := s.onDev fun d => d.avsFail bus

/-! ### Standby and wake -/

/-- Entry to standby (R489): refused while a step is in progress. -/
def Device.enterStandby (d : Device) : Device :=
  if d.phase ≠ .idle then d.raise F.PWR_INT_STATUS_DOM_REFUSED
  else
    let d := (d.wr F.PWR_CTL_STANDBY 1).wr F.PWR_DOM_CTL_EN 3
    ({ d with pwr := { d.pwr with standbyReq := true } }).standbyNext

/-- R489: a write of 1 to PWR_CTL.STANDBY. -/
def execStandby (s : State) : Result :=
  s.onDev fun d => d.access F.PWR_CTL_STANDBY.key Device.enterStandby

/-- R490: the device leaves standby with a cause; a wake during the stops sets PENDING_ENABLE of the
domains in SET (R482). -/
def Device.wake (d : Device) (cause : Nat) : Device :=
  let set := switchable.filter fun n => bit (d.rd F.PWR_WAKE_SET) n
  if d.flag F.PWR_STATUS_STANDBY then
    let d := (d.wr F.PWR_STATUS_STANDBY 0).raise F.PWR_INT_STATUS_WAKE
    (set.foldl (fun d n => d.enableDom n cause) d).settle
  else if d.pwr.standbyReq then
    let d := d.raise F.PWR_INT_STATUS_WAKE
    set.foldl (fun d n =>
      let d := (d.setEn n true).wr (F.PWR_DOM_STATE_PENDING_ENABLE n) 1
      { d with pwr := { d.pwr with wakeCause := Store.set (fun _ => 0) d.pwr.wakeCause n cause } }) d
  else d

/-- R490: a falling edge on WAKE_N. -/
def execWakeNEdge (s : State) : Result := s.onDev fun d => d.wake 3

/-- The wake alarm is enabled and its tick value reached (R490). -/
def Device.alarmDue (d : Device) : Bool := d.flag F.PWR_WAKE_ALARM_EN && decide (d.rd64 F.PWR_WAKE_TICK_LO_TICK ≤ d.now)

/-- R490: the tick value reaches PWR_WAKE_TICK with ALARM_EN 1. -/
def execWakeAlarm (s : State) : Result :=
  s.onDev fun d => if d.alarmDue then d.wake 5 else d

/-! ### Ledger, clamp, temperature -/

/-- B of R491 in 1/256 µJ. -/
def Device.budget (d : Device) : Nat :=
  (d.rd F.PWR_CAP_CAP - d.rd F.PWR_RESERVE_WATTS) * 1000 * 256

/-- The ledger registers show B and the signed balance (R503). -/
def Device.setBalance (d : Device) (b : Int) : Device :=
  ({ d with pwr := { d.pwr with bal := b } }).wr F.PWR_LEDGER_BAL_UJ (ofInt 32 b)

/-- A budget window's opening (R491): B, and the balance with the debt carried. -/
def Device.newWindow (d : Device) : Device :=
  (Device.wr { d with pwr := { d.pwr with bWindow := some (d.now / 1000) } } F.PWR_LEDGER_B_UJ d.budget).setBalance
    ((d.budget : Int) + min d.pwr.bal 0)

/-- R491: the budget window of the present tick opens once. Debt is carried, unspent energy is not. -/
def execBudgetWindow (s : State) : Result :=
  s.onDev fun d => if d.pwr.bWindow = some (d.now / 1000) then d else d.newWindow

/-- GATE and STAGE show the clamp and thermal levels (R496, R497). -/
def Device.showGate (d : Device) : Device :=
  (d.wr F.PWR_STATUS_GATE (max d.pwr.g d.pwr.gTherm)).wr F.PWR_STATUS_STAGE
    (if d.pwr.stage2 then 2 else if 0 < d.pwr.g then 1 else 0)

/-- The rails as sampled, in PWR_RAIL_MEAS (R495). -/
def Device.railsMeasured (d : Device) (decimA mv : List Nat) : Device :=
  (List.range 9).foldl (fun d r =>
    (d.wr (F.PWR_RAIL_MEAS_DECIAMP r) (decimA.getD r 0)).wr (F.PWR_RAIL_MEAS_MV r) (mv.getD r 0)) d

/-- Measured power, in units of 0.1 A times 1 mV: the sum of the nine products (R495). -/
def powerOf (decimA mv : List Nat) : Nat := ((List.range 9).map fun r => decimA.getD r 0 * mv.getD r 0).sum

/-- A, the mean of the samples, is above 1.05 × CAP (R495). -/
def overCap (cap : Nat) (ss : List Nat) : Bool := decide (21 * cap * ss.length * 10000 < 20 * ss.sum)

/-- A, the mean of the samples, is below CAP (R495). -/
def underCap (cap : Nat) (ss : List Nat) : Bool := decide (ss.sum < cap * ss.length * 10000)

/-- The gate level after an update (R495). -/
def gateNext (g since : Nat) (above below : Bool) : Nat :=
  if above then min (g + 1) 16 else if below ∧ 8 ≤ since + 1 then g - 1 else g

/-- The clamp's own state after an update with the samples `ss` (R495, R497). -/
def Pwr.clamp (p : Pwr) (cap w : Nat) (ss : List Nat) : Pwr :=
  let g := gateNext p.g p.sinceChange (overCap cap ss) (underCap cap ss)
  let ov := if overCap cap ss ∧ p.g = 16 then p.over16 + 1 else 0
  { p with
    samples := ss, g := g, sinceChange := if g = p.g then p.sinceChange + 1 else 0
    over16 := ov, stage2 := if underCap cap ss then false else p.stage2 || decide (w ≤ ov) }

/-- The clamp's next state shown and signalled (R495 to R499). -/
def Device.clampTo (d : Device) (p : Pwr) : Device :=
  let entered := p.stage2 && !d.pwr.stage2
  let rose := d.pwr.g = 0 ∧ 0 < p.g
  let d := { d with pwr := p }
  let d := if 0 < max d.pwr.g d.pwr.gTherm then d.inc F.PWR_GATE_USEC else d
  let d := if entered then d.log 0x0403 0 16 0 0 0 else d
  let d := if rose ∨ entered then d.raise F.PWR_INT_STATUS_CLAMP else d
  d.showGate

/-- The samples of the window, the newest first (R495). -/
def Device.sampled (d : Device) (p : Nat) : List Nat := (p :: d.pwr.samples).take (d.rd F.PWR_CLAMP_CFG_WINDOW)

/-- The newest measurement and the mean, in PWR_MEAS (R495). -/
def Device.powerShown (d : Device) (p : Nat) (ss : List Nat) : Device :=
  (d.wr F.PWR_MEAS_INST_W (p / 10000)).wr F.PWR_MEAS_AVG_W (ss.sum / (ss.length * 10000))

/-- One power sample taken: the measurements, then the clamp's update (R495). -/
def Device.powerSample (d : Device) (p : Nat) : Device :=
  let d := d.powerShown p (d.sampled p)
  d.clampTo (d.pwr.clamp (d.rd F.PWR_CAP_CAP) (d.rd F.PWR_CLAMP_CFG_WINDOW) (d.sampled p))

/-- R495 to R497: one sample of the power monitor: currents in 0.1 A and voltages in mV of the nine rails.
A is the mean of the last WINDOW samples, of those there are while there are fewer (DESIGN CHOICE, log entry 19). -/
def execPowerSample (decimA mv : List Nat) (s : State) : Result :=
  s.onDev fun d => (d.railsMeasured decimA mv).powerSample (powerOf decimA mv)

/-- The 32 sensors as read (R500). -/
def logicReadings (rs : List Int) : List Int := (List.range 32).map fun i => rs.getD i 0

/-- The hottest sensor, the lowest number on a tie. -/
def hotSensor (rs : List Int) : Nat := (List.range 32).foldl (fun b i => if rs.getD b 0 < rs.getD i 0 then i else b) 0

/-- The warn level: from 90 °C, until below 88 °C (R500); temperatures are in 1/16 °C (DEDUCED, log entry 55). -/
def warnNext (was : Bool) (t : Int) : Bool := if was then decide (88 * 16 ≤ t) else decide (90 * 16 ≤ t)

/-- The throttle level: from 100 °C, until below 97 °C (R500). -/
def throttleNext (was : Bool) (t : Int) : Bool := if was then decide (97 * 16 ≤ t) else decide (100 * 16 ≤ t)

/-- The thermal levels after a reading of `t` (R500). -/
def Pwr.heated (p : Pwr) (rs : List Int) (t : Int) : Pwr :=
  { p with
    warn := warnNext p.warn t, gTherm := if throttleNext (p.gTherm == 8) t then 8 else 0
    sensors := (List.range 32).foldl (fun m i => Store.set (fun _ => 0) m i (rs.getD i 0)) p.sensors }

/-- The sensors' readings taken: PWR_TEMP, the levels, and the warning when one is entered (R500). -/
def Device.logicTemps (d : Device) (rs : List Int) : Device :=
  let t := rs.getD (hotSensor rs) 0
  let p := d.pwr.heated rs t
  let entered := (p.warn && !d.pwr.warn) || (throttleNext (d.pwr.gTherm == 8) t && d.pwr.gTherm != 8)
  let d := { ((d.wr F.PWR_TEMP_TEMP (ofInt 16 t)).wr F.PWR_TEMP_HOT_SENSOR (hotSensor rs)) with pwr := p }
  (if entered then d.raise F.PWR_INT_STATUS_THERM_WARN else d).showGate

/-- R499, R500: the 32 logic sensors are sampled, in 1/16 °C. -/
def execLogicTempSample (readings : List Int) (s : State) : Result :=
  s.onDev fun d => d.logicTemps (logicReadings readings)

/-- The trip latched, and cause 6 noted for every switchable domain's next start (R501, R487). -/
def Device.tripLatch (d : Device) : Device :=
  { ((d.emit (.pin .thermtripN false)).wr F.PWR_STATUS_TRIP 1) with pwr := { d.pwr with
    tripped := true, wakeCause := switchable.foldl (fun m n => Store.set (fun _ => 0) m n 6) d.pwr.wakeCause } }

/-- The thermal trip (R501): the latch, its report, and the emergency stop of every switchable domain. -/
def Device.trip (d : Device) : Device :=
  switchable.foldl (fun d n => d.stopEmergency n 3) ((d.tripLatch.raise F.PWR_INT_STATUS_TRIP).log 0x0402 2 16 0 0 0)

/-- R501: the comparator: THERMTRIP_N asserts and every domain but AON and SMU stops. During start-up the
start set is kept for the time after TRIP_CLEAR (R524). -/
def execThermalTrip (s : State) : Result :=
  s.onDev fun d => d.trip

/-- The start set enters its enables again, and start-up resumes at step 6 (R513, R524). -/
def Device.resumeStep6 (d : Device) : Device :=
  let d := (d.wr F.DRONE_START_STATUS_STEP 6).wr F.DRONE_START_STATUS_STATE 0
  ((switchable.filter (fun n => bit d.boot.startSet n)).foldl (fun d n => d.setEn n true) d).settle

/-- The trip's latch released (R501). -/
def Device.tripFree (d : Device) : Device :=
  { ((d.emit (.pin .thermtripN true)).wr F.PWR_STATUS_TRIP 0) with pwr := { d.pwr with tripped := false } }

/-- The trip may be cleared: every sensor reads below 90 °C (R501). -/
def Device.coolNow (d : Device) : Bool := d.pwr.tripped && d.pwr.sensors.all (fun e => decide (e.2 < 90 * 16))

/-- TRIP_CLEAR (R501); during start-up, start-up then goes on. -/
def Device.tripClear (d : Device) : Device :=
  if !d.coolNow then d else if d.rd F.DRONE_START_STATUS_STATE = 0 then d.tripFree.resumeStep6 else d.tripFree

/-- R501: a write of 1 to PWR_CTL.TRIP_CLEAR, acted on only while every sensor reads below 90 °C. In
start-up it resumes at step 6 (R524). -/
def execTripClear (s : State) : Result :=
  s.onDev fun d =>
    if d.rd F.DRONE_START_STATUS_STATE = 1 then d.access F.PWR_CTL_TRIP_CLEAR.key Device.tripClear else d.tripClear

end Sys2Proof.Machine
end

