-- ==== Sys2Proof/Machine/ChanOps.lean ====
section
/-! DEFINITION. DMA channels as the registers show them (R373, R374, R383). -/

namespace Sys2Proof.Machine

/-- STATE of DMA_CH_STATE (R374). -/
def ChState.code : ChState → Nat
  | .disabled => 0 | .idle => 1 | .running => 2 | .paused => 3 | .retrying => 4 | .halted => 5

/-- The ring of TYPE 1 or 2 that names an engine and channel (R373). -/
def Device.chanRing (d : Device) (e c : Nat) : Option Nat :=
  (d.ringsOf 1 ++ d.ringsOf 2).find? fun r => d.rd (F.RING_CFG_ENGINE r) == e && d.rd (F.RING_CFG_CHANNEL r) == c

/-- A channel's state: without a chain it follows its ring's ENABLE (R374). -/
def Device.chanState (d : Device) (e c : Nat) : ChState :=
  match (d.chan e c).st with
  | .idle | .disabled =>
    match d.chanRing e c with
    | some r => if d.flag (F.RING_CTL_ENABLE r) then .idle else .disabled
    | none => .disabled
  | s => s

/-- The registers of engine n that show its channels (R383), at an offset of BAR0. -/
def Device.engView (d : Device) (n off : Nat) : Option Nat :=
  let c := d.rd (F.DMA_CH_SEL_CHANNEL n)
  let ch := d.chan n c
  let mine := d.chans.filter fun x => x.1 / 128 = n
  let count := fun (p : ChState → Bool) => (mine.filter fun x => p x.2.st).length
  let at' := fun (f : Fld) => off == f.key
  if at' (F.DMA_ENG_STATUS n) then
    some (count (· == .halted) * 256 + count (fun s => s == .running || s == .retrying))
  else if at' (F.DMA_CH_STATE n 0) then some ((d.chanState n c).code * 2 ^ 29 + (d.chanRing n c).getD 0)
  else if at' (F.DMA_CH_CTL n 0) then some (b2n ch.pauseReq)
  else if at' (F.DMA_CH_ERR n 0) then some (ch.cause * 2 ^ 28 + ch.attempts % 16 * 2 ^ 24)
  else if at' (F.DMA_CH_DESC_LO n 0) then some (ch.desc % 2 ^ 32)
  else if at' (F.DMA_CH_DESC_HI n 0) then some (ch.desc / 2 ^ 32)
  else if at' (F.DMA_CH_POS0 n 0) then some (ch.i1 * 65536 + ch.i0)
  else if at' (F.DMA_CH_POS1 n 0) then some (ch.i2 * 65536 + ch.line)
  else none

/-- The channel registers of every engine (R383). -/
def Device.dmaView (d : Device) (off : Nat) : Option Nat :=
  if 0x800000 ≤ off ∧ off < 0x9C0000 then d.engView ((off - 0x800000) / 0x10000) off else none

end Sys2Proof.Machine
end

