-- ==== Sys2Proof/Machine/HostRegs.lean ====
section
/-! DEFINITION. Register access by the host: writes and reads by access code (R8 to R19), interrupt
enables and the MSI-X table (R435 to R437). -/

namespace Sys2Proof.Machine

/-! ### Which copy a windowed register shows -/

/-- The page of an offset: the tag, table, object, space, member or channel that the block's select
register names (R92, R161, R233, R291, R351, R383); 0 for a register that is not windowed. -/
def Device.pageOf (d : Device) (off : Nat) : Nat :=
  match RegMap.at? off with
  | some a =>
    let o := a.row.off
    match a.blk with
    | .num => if 0x44 ≤ o ∧ o < 0x6C then d.rd F.NUM_TAG_SEL_TAG else 0
    | .emb => if 0x14 ≤ o ∧ o < 0x68 then d.rd F.EMB_TBL_SEL_TABLE else 0
    | .tier => if 0x104 ≤ o ∧ o < 0x128 then d.rd F.TIER_OBJ_SEL_NUMBER else 0
    | .hist => if 0x14 ≤ o ∧ o < 0x60 then d.rd F.HIST_SPACE_SEL_SPACE else 0
    | .coll => if 0x84 ≤ o ∧ o < 0x8C then d.rd F.COLL_MEMBER_SEL_INDEX else 0
    | .dma => if 0x24 ≤ o ∧ o < 0x44 then d.rd (F.DMA_CH_SEL_CHANNEL a.inst) else 0
    | _ => 0
  | none => 0

/-- The key that an offset reaches now. -/
def Device.keyOf (d : Device) (off : Nat) : Nat := off + regPage * d.pageOf off

/-! ### What a written value becomes -/

/-- Fields that store the nearer limit of their range: register, field, least, greatest (the Meaning
columns of R57, R92, R199, R233, R263, R351, R419, R420, R444, R470, R503, R525, R557). -/
def RegMap.limits : List (String × String × Nat × Nat) :=
  [("SPINE_WDOG", "LIMIT", 1000, 0xFFFFFFFF), ("NUM_LS_CFG", "GROW", 1, 65535),
   ("NUM_LS_CFG", "INIT_LOG2", 0, 24), ("OPT_TAIL_CFG", "STALE_K", 0, 4),
   ("OPT_TAIL_ACK_TIMEOUT", "LIMIT", 1000, 0xFFFFFFFF), ("TIER_TAIL_RATE", "SLOTS", 1000, 0xFFFFFFFF),
   ("TIER_MIG_RATE", "LINES", 1, 32), ("MEM_SPARE_RATE", "LINES", 1, 4),
   ("MEM_CE_THRESH", "COUNT", 1, 0xFFFFFFFF), ("MEM_WCB_AGE", "CLK", 64, 65535),
   ("COLL_DIGEST_CFG", "RETIRE_WIN", 1, 255), ("COLL_STRAG_CFG", "WINDOW", 4, 64),
   ("COLL_STRAG_CFG", "MOVES", 1, 4), ("COLL_STRAG_CFG", "THRESH", 10, 1000),
   ("COLL_VOTE_TIMEOUT", "TICKS", 1000, 0xFFFFFFFF)] ++
  [("FAB_CFG", "REPLAY_TIMEOUT", 1000, 65535), ("FAB_CFG", "LANE_ERR_THRESH", 1, 65535),
   ("FAB_REASM_TIMEOUT", "CLK", 7000, 0xFFFFFFFF), ("TLNK_CFG", "TAG_TIMEOUT", 7000, 0xFFFFFF),
   ("TLNK_OUTAGE_LIMIT", "TICKS", 1000, 0xFFFFFFFF), ("HOST_CPL_TIMEOUT", "CLK", 70000, 0xFFFFFFFF),
   ("CKPT_INTERVAL", "SECONDS", 600, 86400), ("PWR_DRAIN_LIMIT", "CLK", 7000, 0xFFFFFFFF),
   ("DRONE_SLIP_LIMIT", "TICKS", 1, 0xFFFFFFFF), ("TEST_PERIOD", "TICKS", 1000, 0xFFFFFFFF),
   ("TEST_WINDOW", "TICKS", 1000, 0xFFFFFFFF)]

/-- Registers some of whose written bits read as zero: register, first zero bit, zero bits (R161, R233,
R351, R381). -/
def RegMap.zeroBits : List (String × Nat × Nat) :=
  [("EMB_TDA_LO", 0, 6), ("TIER_CMD_ADDR_LO", 0, 6), ("COLL_CMD_ADDR_LO", 0, 6), ("RING_WB_LO", 0, 2),
   ("TIER_CMD_ROW_HI", 8, 24)]

/-- The value a field stores for a written one: the nearer limit of its range where it has one. CAP lies
under CAP_MAX (R503), a test window under its period (R546). -/
def Device.limitField (d : Device) (reg field : String) (x : Nat) : Nat :=
  if reg = "PWR_CAP" ∧ field = "CAP" then max 250 (min x (d.rd F.PWR_CAP_CAP_MAX))
  else
    let x := match RegMap.limits.find? (fun l => l.1 = reg ∧ l.2.1 = field) with
      | some l => max l.2.2.1 (min x l.2.2.2)
      | none => x
    if reg = "TEST_WINDOW" then min x (d.rd F.TEST_PERIOD) else x

/-- Actions each fault class allows, as MGMT_POLICY encodes them (R543). -/
def classAllows (c a : Nat) : Bool :=
  if a = 0 then true
  else if c = 0 ∨ c = 8 then a == 2 || a == 3
  else if c = 5 ∨ c = 7 then a == 1 || a == 2
  else if c = 10 ∨ c = 11 then a == 3
  else if c ≤ 12 then a == 2
  else false

/-- MGMT_POLICY stores a value a class does not allow as LOG (R555). Classes above 12 do not exist. -/
def policyStored (n v : Nat) : Nat :=
  (List.range 4).foldl (fun acc i =>
    let a := v / 2 ^ (8 * i) % 4
    acc + (if classAllows (4 * n + i) a then a else 0) * 2 ^ (8 * i)) 0

/-- One field after a write of `x` to it while hardware sets the bits `hw` (R12, R13, R14). -/
def fieldAfter (acc : Access) (locked : Bool) (old x hw : Nat) : Nat :=
  match acc with
  | .ro | .wo | .rc => old
  | .rw => x
  | .rwl => if locked then old else x
  | .w1c => old - (old &&& x) ||| hw
  | .w1s => old ||| x

/-- The register value after a write of `v` (R12): every field by its access code, reserved bits 0. -/
def Device.afterWrite (d : Device) (row : RegRow) (old v hw : Word) : Word :=
  row.flds.foldl (fun acc f =>
    putBits acc f.lo f.w
      (fieldAfter f.acc d.boot.locked (getBits old f.lo f.w) (d.limitField row.name f.name (getBits v f.lo f.w))
        (getBits hw f.lo f.w))) 0

/-- Whether a written bit differs from a locked RWL field (R14). -/
def Device.rwlDiffers (d : Device) (row : RegRow) (old v : Word) : Bool :=
  d.boot.locked && row.flds.any fun f => f.acc = .rwl ∧ getBits old f.lo f.w ≠ getBits v f.lo f.w

/-- Writes that their register refuses in the present state: ignored and logged (R92, R161, R199,
R291, R438). -/
def Device.writeRefused (d : Device) (name : String) : Bool :=
  if name = "NUM_LS_CFG" ∨ name = "EMB_TDA_LO" ∨ name = "EMB_TDA_HI" then
    d.phase ≠ .idle
  else if name = "HIST_SPACE_OBJ" ∨ name = "HIST_SPACE_GEOM" ∨ name = "HIST_SPACE_LISTS" ∨
      name = "HIST_SPACE_PAGES" ∨ name = "HIST_SPACE_TAG" ∨ name = "HIST_SPACE_REFRESH" ∨
      name = "HIST_SPACE_FREE" then
    decide (d.phase ≠ .idle) || bit (d.rd F.HIST_STATUS_ENABLED) (d.rd F.HIST_SPACE_SEL_SPACE)
  else if name = "HOST_MBOX_PAYLOAD" then d.flag F.HOST_MBOX_STATUS_BUSY
  else false

/-- The interrupt enable registers (R437), whose writes are a command of their own. -/
def RegMap.intEn : List String :=
  ["SPINE_INT_EN", "NUM_INT_EN", "CORE_INT_EN", "EMB_INT_EN", "OPT_INT_EN", "TIER_INT_EN", "MEM_INT_EN",
   "HIST_INT_EN", "COLL_INT_EN", "RING_INT_EN", "DMA_ENG_INT_EN", "FAB_SAFETY_INT_EN", "FAB_PL_INT_EN",
   "TLNK_C_INT_EN", "HOST_INT_EN", "CKPT_INT_EN", "PWR_INT_EN", "DRONE_INT_EN", "MGMT_INT_EN", "SEC_INT_EN",
   "TEST_INT_EN"]

/-- Registers whose writes are commands of their own (spec/opcode_table.json); R12's general write
leaves them to those. -/
def RegMap.ownRow : List String :=
  ["SPINE_CTL", "SPINE_STEP_LO", "SPINE_STEP_HI", "NUM_LS_CTL", "NUM_TAG_CFG", "NUM_TAG_SAT_THRESH",
   "CORE_CTL", "EMB_TBL_CMD", "OPT_TAIL_CTL", "TIER_CMD", "HIST_CMD", "COLL_CMD", "RING_PROD", "RING_CONS",
   "RING_CTL", "DMA_CH_CTL", "FAB_ENG_CTL", "FAB_PL_CTL", "TLNK_C_CTL", "HOST_CTL", "HOST_MBOX_CMD",
   "PWR_CTL", "PWR_DOM_CTL", "PWR_RAIL_TGT", "SEC_REVOKE"] ++
  RegMap.intEn

/-- The command registers whose OP field the general write still answers for, when the OP is reserved:
register, lowest bit of OP, width, the values a command of its own takes (R11, R596). -/
def RegMap.cmdOps : List (String × Nat × Nat × List Nat) :=
  [("EMB_TBL_CMD", 30, 2, [1, 2, 3]), ("TIER_CMD", 28, 4, [1, 2, 3, 4, 5, 6]),
   ("HIST_CMD", 28, 4, [1, 2, 3, 4]), ("COLL_CMD", 28, 4, [1, 2, 3, 4])]

/-- Opcodes of the mailbox (R439). -/
def mboxOps : List Nat := [0x01, 0x10, 0x20, 0x21, 0x30, 0x40, 0x41]

/-- A write of HOST_MBOX_CMD that no command of its own answers for: ignored and logged while BUSY, stored
without DOORBELL, RESULT 1 for an opcode that does not exist (R438, R439). -/
def Device.mboxPlain (d : Device) (v : Nat) : Device :=
  if d.flag F.HOST_MBOX_STATUS_BUSY then d.logAccess F.HOST_MBOX_CMD.key
  else if bit v 31 ∧ bits v 15 0 ∈ mboxOps then d
  else
    let d := (d.wr F.HOST_MBOX_CMD_IN_LEN (bits v 24 16)).wr F.HOST_MBOX_CMD_OPCODE (bits v 15 0)
    if bit v 31 then d.mboxEnd 1 [] else d

/-- A write of one aligned 32-bit word at an offset (R8 to R14). -/
def Device.writeWord (d : Device) (off : Nat) (v hw : Word) : Device :=
  match RegMap.at? off with
  | none => d.logAccess off
  | some a =>
    if a.blk = .smu then d.logAccess off
    else
      match RegMap.cmdOps.find? (fun c => c.1 = a.row.name) with
      | some c =>
        let op := getBits v c.2.1 c.2.2.1
        if op = 0 ∨ op ∈ c.2.2.2 then d
        else if a.row.name = "TIER_CMD" then
          (if d.flag F.TIER_CMD_STATUS_BUSY then d.logAccess off else d.tierResult 1)
        else d.logAccess off
      | none =>
        if a.row.name = "HOST_MBOX_CMD" then d.mboxPlain v.toNat
        else if a.row.name ∈ RegMap.ownRow then d
        else if d.writeRefused a.row.name then d.logAccess off
        else
          let k := d.keyOf off
          let old := d.reg k
          let v' : Word := match RegMap.zeroBits.find? (fun z => z.1 = a.row.name) with
            | some z => putBits v z.2.1 z.2.2 0
            | none => v
          let new := if a.row.name = "MGMT_POLICY" then BitVec.ofNat 32 (policyStored a.idx v'.toNat)
            else d.afterWrite a.row old v' hw
          let new := if a.row.name = "OPT_TAIL_CFG" ∧ d.phase ≠ .idle then putBits new 0 3 (getBits old 0 3)
            else new
          let new := if a.row.name = "MEM_CTL" then putBits new 0 2 (getBits old 0 2) else new
          let log := d.rwlDiffers a.row old v' ||
            (a.row.name = "MGMT_POLICY" && decide (policyStored a.idx v'.toNat ≠ v'.toNat)) ||
            (a.row.name = "OPT_TAIL_CFG" && decide (d.phase ≠ .idle))
          let d := d.setReg k new
          if log then d.logAccess off else d

/-- R12: a write of a register with no command of its own. `bytes` is the write's width: 4 or 8 aligned
bytes, anything else being discarded and logged (R10); `hw` the W1C bits hardware sets in the same clk
(R13) (DESIGN CHOICE, log entry 45). -/
def execRegisterWrite (off bytes value hw : Nat) (s : State) : Result :=
  s.onDev fun d =>
    d.access off fun d =>
      if bytes = 4 ∧ off % 4 = 0 then d.writeWord off (BitVec.ofNat 32 value) (BitVec.ofNat 32 hw)
      else if bytes = 8 ∧ off % 8 = 0 then
        (d.writeWord off (BitVec.ofNat 32 value) (BitVec.ofNat 32 hw)).writeWord (off + 4)
          (BitVec.ofNat 32 (value / 2 ^ 32)) (BitVec.ofNat 32 (hw / 2 ^ 32))
      else d.logAccess off

/-! ### Reads -/

/-- HOST_INT_SRC (R444): bit s while some status register of source s holds a set bit whose enable is
set. Status registers not at 0 are listed, so the listed ones are all there are. -/
def Device.intSources (d : Device) : Nat :=
  d.regs.foldl (fun acc e =>
    match RegMap.at? (e.1 % regPage) with
    | some a =>
      if a.row.flds.any (fun f => f.acc = .w1c) ∧ a.blk ≠ .ring ∧
          (e.2 &&& d.reg (e.1 + 4)) ≠ 0 ∧ a.blk.source a.inst < 20 then
        acc ||| 2 ^ a.blk.source a.inst
      else acc
    | none => acc) 0

/-- R461: the interval of base generations in force, in seconds. -/
def Device.interval (d : Device) : Nat :=
  let c := d.rd F.CKPT_COST_SECONDS
  let m := d.rd F.CKPT_MTBF_SECONDS
  if d.flag F.CKPT_CTL_ADAPT && c != 0 && m != 0 then max 600 (min (isqrt (2 * c * m)) 86400)
  else d.rd F.CKPT_INTERVAL_SECONDS

/-- The value a read of a device register returns (R8 to R17): 0 at an offset no register occupies, and
the member registers 0 away from the job root (R351). -/
def Device.readWord (d : Device) (off : Nat) : Word :=
  let k := d.keyOf off
  if off = F.SPINE_STATUS.key then putBits (d.reg k) 0 3 d.phase.code
  else if off = F.CKPT_EFFECTIVE.key then BitVec.ofNat 32 d.interval
  else if off = F.HOST_INT_SRC.key then BitVec.ofNat 32 d.intSources
  else if (off = (F.COLL_MEMBER_MEAN 0).key ∨ off = (F.COLL_MEMBER_STATE 0).key) ∧ !d.flag F.COLL_STATUS_JOB_ROOT
  then 0
  else if RegMap.at? off = none then 0
  else if (d.opticsView off).isSome then BitVec.ofNat 32 ((d.opticsView off).getD 0)
  else if (d.tierView off).isSome then BitVec.ofNat 32 ((d.tierView off).getD 0)
  else if (d.dmaView off).isSome then BitVec.ofNat 32 ((d.dmaView off).getD 0)
  else
    match RegMap.at? off with
    | some a =>
      if a.row.flds.any (fun f => f.acc = .wo) then
        a.row.flds.foldl (fun w f => if f.acc = .wo then putBits w f.lo f.w 0 else w) (d.reg k)
      else d.reg k
    | none => 0

end Sys2Proof.Machine
end

