-- ==== Sys2Proof/Machine/Float.lean ====
section
/-! DEFINITION. The number formats and the arithmetic of 02_numerics.md: exact values, the one
rounding of each operation (R64, R67), the reference reduction order (R68 to R74). Values of a format are
held as the bits they are stored as. -/

namespace Sys2Proof.Machine

/-- An exact value: NaN, an infinity, or (-1)^neg * m * 2^e. A zero keeps its sign. -/
inductive Exact where
  | nan
  | inf (neg : Bool)
  | fin (neg : Bool) (m : Nat) (e : Int)
  deriving DecidableEq, Repr

/-- How a rounding goes: to nearest even (R64), or toward an infinity (R62 only). -/
inductive Rnd where
  | rne | up | down
  deriving DecidableEq, Repr

/-- A binary format: mantissa bits, exponent bits, bias, and whether its all-ones exponent holds
infinities and NaNs (R58). -/
structure Fmt where
  mb : Nat
  eb : Nat
  bias : Nat
  ieee : Bool
  deriving DecidableEq, Repr

/-- FP32 (R58). -/
def fp32 : Fmt := ⟨23, 8, 127, true⟩
/-- BF16 (R58). -/
def bf16 : Fmt := ⟨7, 8, 127, true⟩
/-- FP16 (R58). -/
def fp16 : Fmt := ⟨10, 5, 15, true⟩
/-- E4M3 (R58): no infinity; 0x7F is NaN. -/
def e4m3 : Fmt := ⟨3, 4, 7, false⟩
/-- E5M2 (R58). -/
def e5m2 : Fmt := ⟨2, 5, 15, true⟩
/-- E3M2 elements (R58). -/
def e3m2 : Fmt := ⟨2, 3, 3, false⟩
/-- E2M3 elements (R58). -/
def e2m3 : Fmt := ⟨3, 2, 1, false⟩
/-- E2M1 elements (R58). -/
def e2m1 : Fmt := ⟨1, 2, 1, false⟩

/-- The least exponent of a unit in the last place. -/
def Fmt.qmin (f : Fmt) : Int := 1 - (f.bias : Int) - f.mb

/-- The canonical NaN's bits (R58, R60). -/
def Fmt.nanBits (f : Fmt) : Nat :=
  if f.ieee then (2 ^ f.eb - 1) * 2 ^ f.mb + 2 ^ (f.mb - 1) else 2 ^ (f.eb + f.mb) - 1

/-- The bits of +infinity. -/
def Fmt.infBits (f : Fmt) : Nat := (2 ^ f.eb - 1) * 2 ^ f.mb

/-- The bits of the largest finite value. In E4M3 the all-ones code is NaN; FP6 and FP4 elements have
no NaN code (R61). -/
def Fmt.maxBits (f : Fmt) : Nat :=
  if f.ieee then f.infBits - 1
  else if f.eb = 4 then 2 ^ (f.eb + f.mb) - 2
  else 2 ^ (f.eb + f.mb) - 1

/-- The sign bit's place. -/
def Fmt.sign (f : Fmt) : Nat := 2 ^ (f.eb + f.mb)

/-- The value that bits of a format read as (R59, R60). -/
def Fmt.dec (f : Fmt) (b : Nat) : Exact :=
  let neg := b / f.sign % 2 == 1
  let ex := b / 2 ^ f.mb % 2 ^ f.eb
  let mn := b % 2 ^ f.mb
  if f.ieee && ex == 2 ^ f.eb - 1 then (if mn == 0 then .inf neg else .nan)
  else if !f.ieee && f.eb == 4 && b % f.sign == f.sign - 1 then .nan
  else if ex == 0 then .fin neg mn f.qmin
  else .fin neg (2 ^ f.mb + mn) (f.qmin + (ex : Int) - 1)

/-- m * 2^-s rounded to an integer (R64; directed only inside R62). `neg` is the value's sign. -/
def shiftRound (r : Rnd) (neg : Bool) (m s : Nat) : Nat :=
  let q := m / 2 ^ s
  let rem := m % 2 ^ s
  match r with
  | .rne => if 2 * rem > 2 ^ s ∨ (2 * rem = 2 ^ s ∧ q % 2 = 1) then q + 1 else q
  | .up => if rem ≠ 0 ∧ neg = false then q + 1 else q
  | .down => if rem ≠ 0 ∧ neg = true then q + 1 else q

/-- A finite magnitude rounded into a format, as the bits of its magnitude: a code above `maxBits` stands for
an overflow. -/
def Fmt.roundMag (f : Fmt) (r : Rnd) (neg : Bool) (m : Nat) (e : Int) : Nat :=
  if m = 0 then 0
  else
    let q := max ((Nat.log2 m : Int) + e - f.mb) f.qmin
    let n := if q ≤ e then m * 2 ^ (e - q).toNat else shiftRound r neg m (q - e).toNat
    let step := (q - f.qmin).toNat
    if n < 2 ^ f.mb then n
    else if n < 2 ^ (f.mb + 1) then step * 2 ^ f.mb + n
    else (step + 1) * 2 ^ f.mb + n / 2

/-- Narrow an exact value under IEEE 754 (R65): overflow gives an infinity. -/
def Fmt.enc (f : Fmt) (x : Exact) (r : Rnd := .rne) : Nat :=
  match x with
  | .nan => f.nanBits
  | .inf neg => f.infBits + (if neg then f.sign else 0)
  | .fin neg m e =>
    let b := f.roundMag r neg m e
    let b := if b ≤ f.maxBits then b
      else if (r == .up && neg) || (r == .down && !neg) then f.maxBits else f.infBits
    b + (if neg then f.sign else 0)

/-- A saturating cast (R66): the bits, and whether it counts as a saturation. -/
def Fmt.sat (f : Fmt) (x : Exact) : Nat × Bool :=
  match x with
  | .nan | .inf _ => (f.nanBits, false)
  | .fin neg m e =>
    let b := f.roundMag .rne neg m e
    let s := if neg then f.sign else 0
    if b ≤ f.maxBits then (b + s, false) else (f.maxBits + s, true)

/-! ### Exact arithmetic -/

/-- The signed mantissa of a finite value at exponent `e0 ≤ e`. -/
def Exact.at (neg : Bool) (m : Nat) (e e0 : Int) : Int :=
  let v : Int := (m * 2 ^ (e - e0).toNat : Nat)
  if neg then -v else v

/-- A signed mantissa back to a value; an exact zero is `+0` (R69). -/
def Exact.ofInt (v e : Int) : Exact := .fin (decide (v < 0)) v.natAbs e

/-- Is NaN. -/
def Exact.isNan : Exact → Bool
  | .nan => true
  | _ => false

/-- Is finite. -/
def Exact.isFin : Exact → Bool
  | .fin _ _ _ => true
  | _ => false

/-- Is a zero of either sign. -/
def Exact.isZero : Exact → Bool
  | .fin _ m _ => m == 0
  | _ => false

/-- Negate. -/
def Exact.neg : Exact → Exact
  | .nan => .nan
  | .inf s => .inf (!s)
  | .fin s m e => .fin (!s) m e

/-- Magnitude. -/
def Exact.abs : Exact → Exact
  | .nan => .nan
  | .inf _ => .inf false
  | .fin _ m e => .fin false m e

/-- Times 2^k, exactly. -/
def Exact.scale (x : Exact) (k : Int) : Exact :=
  match x with
  | .fin s m e => .fin s m (e + k)
  | _ => x

/-- Exact product; 0 times an infinity is NaN (R69). -/
def Exact.mul (x y : Exact) : Exact :=
  match x, y with
  | .nan, _ | _, .nan => .nan
  | .inf s, .inf t => .inf (s != t)
  | .inf s, .fin t m _ | .fin t m _, .inf s => if m = 0 then .nan else .inf (s != t)
  | .fin s m e, .fin t n g => .fin (s != t) (m * n) (e + g)

/-- Exact sum. An exact zero is +0 unless both operands are -0 (R69). -/
def Exact.add (x y : Exact) : Exact :=
  match x, y with
  | .nan, _ | _, .nan => .nan
  | .inf s, .inf t => if s = t then .inf s else .nan
  | .inf s, .fin _ _ _ | .fin _ _ _, .inf s => .inf s
  | .fin s m e, .fin t n g =>
    let e0 := min e g
    let v := Exact.at s m e e0 + Exact.at t n g e0
    if v = 0 then .fin (m == 0 && n == 0 && s && t) 0 0 else Exact.ofInt v e0

/-- Exact difference. -/
def Exact.sub (x y : Exact) : Exact := x.add y.neg

/-- The exact sum of terms, starting from the identity -0 (R69). -/
def Exact.sum (ts : List Exact) : Exact := ts.foldl Exact.add (.fin true 0 0)

/-- Quotient, exact enough that one rounding to 60 bits or fewer is correct: `guard` bits and a sticky
bit below the quotient. -/
def Exact.div (x y : Exact) : Exact :=
  match x, y with
  | .nan, _ | _, .nan => .nan
  | .inf _, .inf _ => .nan
  | .inf s, .fin t _ _ => .inf (s != t)
  | .fin s _ _, .inf t => .fin (s != t) 0 0
  | .fin s m e, .fin t n g =>
    if n = 0 then (if m = 0 then .nan else .inf (s != t))
    else
      let k := 64 + Nat.log2 n
      let q := m * 2 ^ k / n
      let r := m * 2 ^ k % n
      .fin (s != t) (2 * q + (if r = 0 then 0 else 1)) (e - g - k - 1)

/-- Square root, exact enough for one rounding to 60 bits or fewer (R67). -/
def Exact.sqrt (x : Exact) : Exact :=
  match x with
  | .nan => .nan
  | .inf s => if s then .nan else .inf false
  | .fin s m e =>
    if m = 0 then .fin s 0 0
    else if s then .nan
    else
      let k : Nat := if e % 2 = 0 then 128 else 129
      let r := isqrt (m * 2 ^ k)
      .fin false (2 * r + (if r * r = m * 2 ^ k then 0 else 1)) ((e - k) / 2 - 1)

/-- x < y for values that are not NaN. -/
def Exact.lt (x y : Exact) : Bool :=
  match x, y with
  | .nan, _ | _, .nan => false
  | .inf s, .inf t => s && !t
  | .inf s, .fin _ _ _ => s
  | .fin _ _ _, .inf t => !t
  | .fin s m e, .fin t n g =>
    let e0 := min e g
    decide (Exact.at s m e e0 < Exact.at t n g e0)

/-- The IEEE 754 minimum: NaN if either is; -0 below +0. -/
def Exact.min (x y : Exact) : Exact :=
  if x.isNan || y.isNan then .nan
  else if x.lt y then x else if y.lt x then y
  else match x with
    | .fin true _ _ => x
    | _ => y

/-- The IEEE 754 maximum: NaN if either is; -0 below +0. -/
def Exact.max (x y : Exact) : Exact :=
  if x.isNan || y.isNan then .nan
  else if x.lt y then y else if y.lt x then x
  else match x with
    | .fin true _ _ => y
    | _ => x

/-- Floor of log2 of a positive finite magnitude. -/
def Exact.floorLog2 : Exact → Int
  | .fin _ m e => (Nat.log2 m : Int) + e
  | _ => 0

/-- The least c with |x| ≤ 2^c, for a positive finite x (R77). -/
def Exact.ceilLog2 : Exact → Int
  | .fin _ m e => if m = 2 ^ Nat.log2 m then (Nat.log2 m : Int) + e else (Nat.log2 m : Int) + e + 1
  | _ => 0

/-- x rounded to an integer, ties to even (R62). -/
def Exact.rneInt : Exact → Int
  | .fin s m e =>
    let v : Int := if 0 ≤ e then (m * 2 ^ e.toNat : Nat) else (shiftRound .rne s m (-e).toNat : Nat)
    if s then -v else v
  | _ => 0

/-! ### FP32 operations (R67): each rounds once -/

/-- Decode FP32 bits. -/
def d32 (b : Nat) : Exact := fp32.dec b
/-- FP32 add. -/
def f32Add (a b : Nat) : Nat := fp32.enc ((d32 a).add (d32 b))
/-- FP32 subtract. -/
def f32Sub (a b : Nat) : Nat := fp32.enc ((d32 a).sub (d32 b))
/-- FP32 multiply. -/
def f32Mul (a b : Nat) : Nat := fp32.enc ((d32 a).mul (d32 b))
/-- FP32 divide. -/
def f32Div (a b : Nat) : Nat := fp32.enc ((d32 a).div (d32 b))
/-- FP32 square root. -/
def f32Sqrt (a : Nat) : Nat := fp32.enc (d32 a).sqrt
/-- FP32 fused multiply-add a * b + c, rounded once. -/
def f32Fma (a b c : Nat) : Nat := fp32.enc (((d32 a).mul (d32 b)).add (d32 c))
/-- FP32 of an integer. -/
def f32OfInt (v : Int) : Nat := fp32.enc (Exact.ofInt v 0)
/-- An FP32 value that is NaN or infinite (R86). -/
def f32NonFinite (a : Nat) : Bool := !(d32 a).isFin
/-- FP32 +1. -/
def f32One : Nat := 0x3F800000
/-- FP32 -0, the start of a running sum (R68, R72, R74). -/
def f32NegZero : Nat := 0x80000000
/-- FP32 canonical NaN (R58). -/
def f32Nan : Nat := 0x7FC00000
/-- FP32 largest finite value. -/
def f32Max : Nat := 0x7F7FFFFF
/-- FP32 of FP16 bits, exactly (R63). -/
def f32OfF16 (b : Nat) : Nat := fp32.enc (fp16.dec b)
/-- FP16 of FP32 bits (R65). -/
def f16OfF32 (b : Nat) : Nat := fp16.enc (d32 b)
/-- FP32 times 2^k, rounded once. -/
def f32Scale (a : Nat) (k : Int) : Nat := fp32.enc ((d32 a).scale k)

/-! ### Reductions -/

/-- R68, steps 2 to 4: groups of 32 terms, each sum exact and rounded once, added in ascending order.
`fuel` bounds the groups. -/
def reduceGroups : Nat → Nat → List Exact → Nat
  | 0, r, _ => r
  | f + 1, r, ts =>
    if ts.isEmpty then r
    else reduceGroups f (f32Add r (fp32.enc (Exact.sum (ts.take 32)))) (ts.drop 32)

/-- The reduction of R68 from an accumulate-into value, -0 where the operation names none. -/
def reduce (c : Nat) (ts : List Exact) : Nat := reduceGroups (ts.length / 32 + 1) c ts

/-- R73: a tree node from its children, an absent child leaving the other unchanged. -/
def nodeAdd (l r : Option (List Nat)) : Option (List Nat) :=
  match l, r with
  | some a, some b => some (List.zipWith f32Add a b)
  | some a, none => some a
  | none, b => b

/-- R74: a sequential prefix sum; `starts` the first index of every segment. -/
def prefixSum (starts : List Nat) (xs : List Nat) : List Nat :=
  (xs.foldl (fun (p : List Nat × Nat × Nat) x =>
    let prev := if p.2.2 = 0 ∨ p.2.2 ∈ starts then f32NegZero else p.2.1
    let v := f32Add prev x
    (v :: p.1, v, p.2.2 + 1)) ([], f32NegZero, 0)).1.reverse

/-! ### Formats by code (R58) -/

/-- The element format of a FORMAT code: plain formats 0x0 to 0x4 and the element formats of 0x5 to
0x9 and 0xB (R58). -/
def fmtOf (code : Nat) : Fmt :=
  match code with
  | 0 => fp32
  | 1 => bf16
  | 2 => fp16
  | 3 | 5 | 11 => e4m3
  | 4 | 6 => e5m2
  | 7 => e3m2
  | 8 => e2m3
  | _ => e2m1

/-- Bits of one element of a format (R58). -/
def fmtBits (code : Nat) : Nat :=
  match code with
  | 0 => 32
  | 1 | 2 => 16
  | 7 | 8 => 6
  | 9 => 4
  | _ => 8

/-- Elements that share a scale, 0 for a format without block scales (R61). -/
def blockSize (code : Nat) : Nat := if 5 ≤ code ∧ code ≤ 9 then 32 else if code = 11 then 64 else 0

/-- A scaled element (R61, R63): its code under a scale byte. -/
def decScaled (code x b : Nat) : Exact :=
  if x = 255 then .nan
  else
    match (fmtOf code).dec b with
    | .fin s m e => .fin s m (e + (x : Int) - 127)
    | _ => .nan

/-- emax of R81. -/
def emaxOf (code : Nat) : Int :=
  match code with
  | 5 | 11 => 8
  | 6 => 15
  | 7 => 4
  | _ => 2

/-- One block cast of R81: the scale byte, the element codes, the saturations counted. -/
def castBlock (code : Nat) (vs : List Exact) : Nat × List Nat × Nat :=
  if vs.any (fun v => !v.isFin) then (255, vs.map (fun _ => (fmtOf code).nanBits), 0)
  else
    let m := vs.foldl (fun a v => Exact.max a v.abs) (.fin false 0 0)
    if m.isZero then (0, vs.map (fun v => ((fmtOf code).sat v).1), 0)
    else
      let k := max (m.floorLog2 - emaxOf code) (-127)
      let cs := vs.map fun v => (fmtOf code).sat (v.scale (-k))
      ((k + 127).toNat, cs.map (·.1), (cs.filter (·.2)).length)

/-- R62: an INT8 row's elements, SCALE and OFFSET from FP32 bits. -/
def int8Encode (vs : List Nat) : List Nat × Nat × Nat :=
  let xs := vs.map d32
  if xs.any (fun v => !v.isFin) then (vs.map (fun _ => 0), f32Nan, f32Nan)
  else
    let lo := xs.foldl Exact.min (.inf false)
    let hi := xs.foldl Exact.max (.inf true)
    let up := fun (x : Exact) => fp32.enc x .up
    let q255 : Exact := .fin false 255 0
    let rng := up (hi.sub lo)
    let scale :=
      if d32 rng = .inf false then
        up ((d32 (up (hi.div q255))).sub (d32 (fp32.enc (lo.div q255) .down)))
      else up ((d32 rng).div q255)
    let scale := if (d32 scale).isZero then f32One else scale
    let qs := xs.map fun x =>
      let t := d32 (fp32.enc ((d32 (fp32.enc (x.sub lo))).div (d32 scale)))
      let u : Int := match t with
        | .inf _ => 255
        | t => max 0 (min 255 t.rneInt)
      ofInt 8 (u - 128)
    (qs, scale, fp32.enc lo)

/-- R62: an INT8 element read back, fma(SCALE, q + 128, OFFSET) rounded once. -/
def int8Read (scale offset q : Nat) : Nat :=
  fp32.enc (((d32 scale).mul (Exact.ofInt (toInt 8 q + 128) 0)).add (d32 offset))

/-- R77: the exponent of a tag from its history (FP32 bits). -/
def scaleExp (hist : List Nat) (format eInit : Nat) : Int :=
  let a := hist.foldl (fun a x => Exact.max a (d32 x)) (.fin false 0 0)
  if a.isZero then toInt 8 eInit
  else max (-127) (min 127 ((if format = 3 then 8 else 15) - a.ceilLog2 - 1))

/-- Pack element codes of w bits each, the first at the lowest bits, into bytes. -/
def packBits (w : Nat) (cs : List Nat) : Bytes :=
  leBytes ((w * cs.length + 7) / 8) (cs.reverse.foldl (fun acc c => acc * 2 ^ w + c % 2 ^ w) 0)

/-- Element `i` of a packed array of w-bit elements. -/
def elemAt (w : Nat) (b : Bytes) (i : Nat) : Nat :=
  leNat (sub b (i * w / 8) ((w + 7) / 8 + 1)) / 2 ^ (i * w % 8) % 2 ^ w

end Sys2Proof.Machine
end

