-- ==== Sys2Proof/Machine/NumOps.lean ====
section
/-! DEFINITION. Tags and the loss scale (R77 to R91): exponents, histories, the step's figures, non-finite flags,
norms. -/

namespace Sys2Proof.Machine

/-- A tag's history, newest first. -/
def Device.tagHist (d : Device) (t : Nat) : List Nat := Store.get (fun _ => []) d.num.hist t

/-- Whether a tag scales its casts: enabled, with FORMAT 0x3 or 0x4 (R80). -/
def Device.tagOn (d : Device) (t : Nat) : Bool :=
  d.flag (F.NUM_TAG_CFG_ENABLE t) && (d.rd (F.NUM_TAG_CFG_FORMAT t) == 3 || d.rd (F.NUM_TAG_CFG_FORMAT t) == 4)

/-- The exponent in force for a tag (R77, R80). -/
def Device.tagExp (d : Device) (t : Nat) : Int := toInt 8 (d.rd (F.NUM_TAG_SCALE_E t))

/-- R77, R80: the exponent and the history's maximum follow the history and the configuration. -/
def Device.tagUpdate (d : Device) (t : Nat) : Device :=
  let h := d.tagHist t
  let e := if d.tagOn t then ofInt 8 (scaleExp h (d.rd (F.NUM_TAG_CFG_FORMAT t)) (d.rd (F.NUM_TAG_CFG_E_INIT t))) else 0
  let a := h.foldl (fun a x => if (d32 a).lt (d32 x) then x else a) 0
  (d.wr (F.NUM_TAG_SCALE_E t) e).wr (F.NUM_TAG_AMAX_HIST_AMAX t) a

/-- Replace a tag's history, cut to HIST_LEN entries. -/
def Device.setHist (d : Device) (t : Nat) (h : List Nat) : Device :=
  let h := h.take (d.rd (F.NUM_TAG_CFG_HIST_LEN t))
  { d with num := { d.num with hist := Store.set (fun _ => []) d.num.hist t h } }

/-- The larger of two amaxes; -0 is the identity (R78). -/
def amaxOf (a b : Nat) : Nat := fp32.enc (Exact.max (d32 a) (d32 b))

/-- The step's amax of a tag so far; -0 for none (R78). -/
def Device.stepAmax (d : Device) (t : Nat) : Nat := Store.get (fun _ => f32NegZero) d.num.amax t
/-- The step's saturation count of a tag so far (R78). -/
def Device.stepSat (d : Device) (t : Nat) : Nat := Store.get (fun _ => 0) d.num.sat t

/-- Saturating casts of a tag in every format and step (R80). -/
def Device.countSat (d : Device) (t n : Nat) : Device := if n = 0 then d else d.inc64 (F.NUM_TAG_SAT_LO_SAT t) n

/-- R78: casts under R77 with a tag enter the step's amax and saturation count. -/
def Device.noteCast (d : Device) (t amax sats : Nat) : Device :=
  { d with num := { d.num with
    amax := Store.modify (fun _ => f32NegZero) d.num.amax t (amaxOf amax)
    sat := Store.modify (fun _ => 0) d.num.sat t (· + sats) } }

/-- R86: a leaf's non-finite flag, with the tag that flags it (4,096 for none). -/
def Device.flagLeaf (d : Device) (leaf tag : Nat) : Device :=
  if (leaf, tag) ∈ d.num.nf then d else { d with num := { d.num with nf := d.num.nf ++ [(leaf, tag)] } }

/-- Any leaf of this device flagged in the step (R86). -/
def Device.anyNf (d : Device) : Bool := !d.num.nf.isEmpty

/-- The distinct leaves of this device flagged in the step (R88). -/
def Device.nfLeaves (d : Device) : List Nat := (d.num.nf.map (·.1)).eraseDups

/-- R79 for one tag whose step figures are the Flock's. -/
def Device.tagCommit (d : Device) (t amax sats : Nat) : Device :=
  if !d.tagOn t || amax == f32NegZero then d
  else if f32NonFinite amax then
    (((d.wr (F.NUM_TAG_AMAX_LAST_AMAX t) amax).inc F.NUM_AMAX_NF_COUNT).raise F.NUM_INT_STATUS_AMAX_NF)
  else
    let d := d.wr (F.NUM_TAG_AMAX_LAST_AMAX t) amax
    if sats ≤ d.rd (F.NUM_TAG_SAT_THRESH_THRESH t) then (d.setHist t (amax :: d.tagHist t)).tagUpdate t
    else
      let v := f32Add amax amax
      let v := if f32NonFinite v then f32Max else v
      let d := (d.setHist t (List.replicate (d.rd (F.NUM_TAG_CFG_HIST_LEN t)) v)).tagUpdate t
      (d.inc (F.NUM_TAG_SCALE_CORR_CNT t)).raise F.NUM_INT_STATUS_SAT_CORR

/-- R84: the loss scale after a step. -/
def Device.lossScale (d : Device) (skipped : Bool) : Device :=
  let s := d.rd F.NUM_LS_STATUS_CUR_LOG2
  let n := d.rd F.NUM_LS_STATUS_CLEAN
  if skipped then
    let d := d.wr F.NUM_LS_STATUS_CLEAN 0
    if s = 0 then (d.inc F.NUM_LS_FLOOR_CNT_FLOOR).raise F.NUM_INT_STATUS_LS_FLOOR
    else d.wr F.NUM_LS_STATUS_CUR_LOG2 (s - 1)
  else if n + 1 < d.rd F.NUM_LS_CFG_GROW then d.wr F.NUM_LS_STATUS_CLEAN (n + 1)
  else (d.wr F.NUM_LS_STATUS_CUR_LOG2 (min (s + 1) 24)).wr F.NUM_LS_STATUS_CLEAN 0

/-- R85: s and the clean count start anew. -/
def Device.lossStart (d : Device) : Device :=
  (d.wr F.NUM_LS_STATUS_CUR_LOG2 (d.rd F.NUM_LS_CFG_INIT_LOG2)).wr F.NUM_LS_STATUS_CLEAN 0

/-- R88 at a step's end. The tag of a leaf that no tag flagged is a free value (DESIGN CHOICE, log entry 6). -/
def Device.nfReport (d : Device) (skipped : Bool) : Device :=
  let d := d.inc F.NUM_NF_LEAVES_LEAVES d.nfLeaves.length
  if !skipped then d
  else
    match d.nfLeaves with
    | [] => d.setReg F.NUM_NF_FIRST.key 0
    | l :: ls =>
      let leaf := ls.foldl min l
      let tag := ((d.num.nf.filter (·.1 = leaf)).map (·.2)).foldl min 4096
      let t := if tag = 4096 then d.fresh % 4096 else tag
      let d := if tag = 4096 then d.used else d
      ((d.wr F.NUM_NF_FIRST_VALID 1).wr F.NUM_NF_FIRST_TAG t).wr F.NUM_NF_FIRST_LEAF leaf

/-- The step's figures start anew. -/
def Device.numClear (d : Device) : Device := { d with num := { d.num with amax := [], sat := [], nf := [] } }

/-- A sum of squares formed exactly and rounded once (R90). -/
def sumSquares (xs : List Exact) : Nat := fp32.enc (Exact.sum (.fin false 0 0 :: xs.map fun x => x.mul x))

/-- R90: report a tag's norms. -/
def Device.norms (d : Device) (t w g u : Nat) : Device :=
  ((d.wr (F.NUM_TAG_NORM_W_SUMSQ t) w).wr (F.NUM_TAG_NORM_G_SUMSQ t) g).wr (F.NUM_TAG_NORM_U_SUMSQ t) u

end Sys2Proof.Machine
end

