-- ==== Sys2Proof/Machine/Trans.lean ====
section
/-! DEFINITION. The functions of R116 and R117 that the Chanter rounds once. EXP, EXP2, LOG, LOG2, TANH and SIGMOID are
computed in fixed point with 256 fraction bits and an odd last bit for the part cut off, so that the one rounding to FP32 sees
on which side of a tie the exact value lies (DEDUCED, log entry 27). -/

namespace Sys2Proof.Machine

/-- Fraction bits of the fixed point. -/
def fxBits : Nat := 256

/-- 1 in fixed point. -/
def fxOne : Int := 2 ^ 256

/-- The product of two fixed-point numbers. -/
def fxMul (a b : Int) : Int := a * b / fxOne

/-- A finite value with an exponent of -256 or more in fixed point. -/
def fxOf (x : Exact) : Int :=
  match x with
  | .fin s m e =>
    let v : Int := if 0 ≤ e + 256 then (m * 2 ^ (e + 256).toNat : Nat) else (m / 2 ^ (-(e + 256)).toNat : Nat)
    if s then -v else v
  | _ => 0

/-- The sum of t^(2i+1) / (2i+1) from term i on: atanh of |t| ≤ 1/3. `p` is t^(2i+1). -/
def atanhFrom (t2 : Int) : Nat → Nat → Int → Int
  | 0, _, _ => 0
  | f + 1, i, p => p / (2 * i + 1 : Nat) + atanhFrom t2 f (i + 1) (fxMul p t2)

/-- ln 2 = 2 atanh(1/3). -/
def fxLn2 : Int := 2 * atanhFrom (fxOne / 9) 90 0 (fxOne / 3)

/-- The sum of r^i / i! from term i on; `p` is r^i / i!. -/
def expFrom (r : Int) : Nat → Nat → Int → Int
  | 0, _, _ => 0
  | f + 1, i, p => p + expFrom r f (i + 1) (fxMul p r / (i + 1 : Nat))

/-- e^v for a fixed-point v, as an exact value with an odd last bit: v = k ln 2 + r. -/
def expFx (v : Int) : Exact :=
  let k := v / fxLn2
  let r := v - k * fxLn2
  .fin false (2 * (expFrom r 80 0 fxOne).toNat + 1) (k - 257)

/-- ln x for a positive finite x that is not 1, in fixed point. -/
def lnFx (x : Exact) : Int :=
  match x with
  | .fin _ m e =>
    let l := Nat.log2 m
    let z : Int := (m : Int) * fxOne / 2 ^ l
    let t := (z - fxOne) * fxOne / (z + fxOne)
    2 * atanhFrom (fxMul t t) 90 0 t + ((l : Int) + e) * fxLn2
  | _ => 0

/-- A fixed-point number as an exact value with an odd last bit. -/
def fxExact (v : Int) : Exact := .fin (decide (v < 0)) (2 * v.natAbs + 1) (-257)

/-- The value 1 of a sign. -/
def exactOne (neg : Bool) : Exact := .fin neg 1 0

/-- x < a for a whole number a. -/
def Exact.ltInt (x : Exact) (a : Int) : Bool := x.lt (Exact.ofInt a 0)

/-- A finite value is the whole number it returns; none otherwise. -/
def Exact.whole : Exact → Option Int
  | .fin s m e =>
    if m = 0 then some 0
    else
      let v : Option Nat := if 0 ≤ e then some (m * 2 ^ e.toNat)
        else if m % 2 ^ (-e).toNat = 0 then some (m / 2 ^ (-e).toNat) else none
      v.map fun n => if s then -(n : Int) else n
  | _ => none

/-- EXP (R116). -/
def exactExp (x : Exact) : Exact :=
  match x with
  | .nan => .nan
  | .inf s => if s then .fin false 0 0 else .inf false
  | .fin _ m _ =>
    if m = 0 then exactOne false
    else if (Exact.ofInt 100 0).lt x then .inf false
    else if x.ltInt (-120) then .fin false 0 0
    else expFx (fxOf x)

/-- EXP2 (R116): exact at whole numbers. -/
def exactExp2 (x : Exact) : Exact :=
  match x with
  | .nan => .nan
  | .inf s => if s then .fin false 0 0 else .inf false
  | .fin _ _ _ =>
    if (Exact.ofInt 200 0).lt x then .inf false
    else if x.ltInt (-200) then .fin false 0 0
    else match x.whole with
      | some k => .fin false 1 k
      | none =>
        let v := fxOf x
        let k := v / fxOne
        (expFx (fxMul (v - k * fxOne) fxLn2)).scale k

/-- LOG (R116). -/
def exactLog (x : Exact) : Exact :=
  match x with
  | .nan => .nan
  | .inf s => if s then .nan else .inf false
  | .fin s m _ =>
    if m = 0 then .inf true
    else if s then .nan
    else if x.whole = some 1 then .fin false 0 0
    else fxExact (lnFx x)

/-- LOG2 (R116): exact at powers of two. -/
def exactLog2 (x : Exact) : Exact :=
  match x with
  | .nan => .nan
  | .inf s => if s then .nan else .inf false
  | .fin s m e =>
    if m = 0 then .inf true
    else if s then .nan
    else if m = 2 ^ Nat.log2 m then Exact.ofInt ((Nat.log2 m : Int) + e) 0
    else fxExact (lnFx x * fxOne / fxLn2)

/-- TANH (R116): (1 - q) / (1 + q) with q = e^(-2|x|); below 2^-20 the rounding of x less a third of its cube, whose
value lies just below x. -/
def exactTanh (x : Exact) : Exact :=
  match x with
  | .nan => .nan
  | .inf s => exactOne s
  | .fin s m e =>
    if m = 0 then x
    else if (Exact.ofInt 20 0).lt x.abs then exactOne s
    else if x.abs.lt (.fin false 1 (-40)) then .fin s (m * 2 ^ 64 - 1) (e - 64)
    else
      let q := expFx (-2 * fxOf x.abs)
      let y := ((exactOne false).sub q).div ((exactOne false).add q)
      if s then y.neg else y

/-- SIGMOID (R116), one rounding of 1 / (1 + e^-x). -/
def exactSigmoid (x : Exact) : Exact :=
  match x with
  | .nan => .nan
  | .inf s => if s then .fin false 0 0 else exactOne false
  | .fin s m _ =>
    if m = 0 then .fin false 1 (-1)
    else if x.ltInt (-120) then .fin false 0 0
    else if (Exact.ofInt 60 0).lt x then exactOne false
    else
      let q := expFx (-(fxOf x.abs))
      if s then q.div ((exactOne false).add q) else (exactOne false).div ((exactOne false).add q)

/-- RSQRT (R116): from the integer square root of 2^k / m, which is exact where m divides it and the root is whole. -/
def exactRsqrt (x : Exact) : Exact :=
  match x with
  | .nan => .nan
  | .inf s => if s then .nan else .fin false 0 0
  | .fin s m e =>
    if m = 0 then .inf s
    else if s then .nan
    else
      let m := if e % 2 = 0 then m else 2 * m
      let h := e / 2
      let r := isqrt (2 ^ 280 / m)
      .fin false (2 * r + (if r * r * m = 2 ^ 280 then 0 else 1)) (-140 - h - 1)

end Sys2Proof.Machine
end

