-- ==== Sys2Proof/Machine/OptOps.lean ====
section
/-! DEFINITION. Rows as values (R135, R184), optimiser parameter blocks (R179, R180), optimiser state (R182) and the
optimisers themselves (R183). -/

namespace Sys2Proof.Machine

/-! ### Rows -/

/-- The WIDTH elements of a row's lines as FP32 (R62, R63, R135). -/
def rowValues (fmt w : Nat) (b : Bytes) : List Nat :=
  match fmt with
  | 5 => (List.range w).map fun i => fp32.enc (decScaled 5 (u8At b (w + i / 32)) (u8At b i))
  | 10 => (List.range w).map fun i => int8Read (u32At b 0) (u32At b 4) (u8At b (8 + i))
  | f => (List.range w).map fun i => fp32.enc ((fmtOf f).dec (elemAt (fmtBits f) b i))

/-- FP32 elements narrowed to a row's lines, with the saturations counted (R62, R64 to R66, R81, R135). -/
def rowEncode (fmt w : Nat) (vs : List Nat) : Bytes × Nat :=
  let lines := ((rowLines fmt w).getD 0) * 64
  match fmt with
  | 5 =>
    let bs := (List.range (w / 32)).map fun i => castBlock 5 (((vs.drop (32 * i)).take 32).map d32)
    (padTo lines ((bs.flatMap fun b => b.2.1.map fun c => BitVec.ofNat 8 c) ++ bs.map fun b => BitVec.ofNat 8 b.1),
      (bs.map fun b => b.2.2).sum)
  | 10 =>
    let e := int8Encode vs
    (padTo lines (leBytes 4 e.2.1 ++ leBytes 4 e.2.2 ++ e.1.map fun c => BitVec.ofNat 8 c), 0)
  | f => (padTo lines (packBits (fmtBits f) (vs.map fun v => (fmtOf f).enc (d32 v))), 0)

/-- FP32 values as little-endian bytes. -/
def f32Bytes (vs : List Nat) : Bytes := vs.flatMap (leBytes 4)

/-- `n` FP32 values at a byte offset. -/
def f32sAt (b : Bytes) (off n : Nat) : List Nat := (List.range n).map fun i => u32At b (off + 4 * i)

/-! ### Parameter blocks (R179) -/

/-- A value at or above +0 and below 1 (R179). -/
def inUnit (x : Nat) : Bool := !((d32 x).lt (.fin false 0 0)) && (d32 x).lt (exactOne false)

/-- The causes of OPT_PARAM_ERR that one parameter set gives (R179, R199). NESTEROV has no effect under another OPT (log
entry 33). -/
def setCauses (opt : Nat) (s : Bytes) : List Nat :=
  [(decide (1 < u32At s 0x1C) || !zeros s 0x20 32, 1), (f32NonFinite (u32At s 8) || f32NonFinite (u32At s 0x18), 2),
   (f32NonFinite (u32At s 0x14) || (d32 (u32At s 0x14)).lt (.fin false 0 0), 3),
   ((opt == 1 || opt == 4 || opt == 5) && !inUnit (u32At s 0xC), 4),
   ((opt == 4 || opt == 5) && !inUnit (u32At s 0x10), 5)].filterMap fun e => if e.1 then some e.2 else none

/-- The cause of a failing parameter block, the lowest; 0 where it holds (R179, R180) (DEDUCED, log entry 83). -/
def paramCause (opt ptr : Nat) (b : Bytes) : Nat :=
  let cs := (if !zeros b 2 62 || ptr % 64 ≠ 0 then [1] else []) ++ setCauses opt (sub b 0x40 64) ++
    setCauses opt (sub b 0x80 64) ++ (if 4096 ≤ u16At b 0 then [6] else [])
  cs.foldl min 7 % 7

/-- The set in force at a step (R180). -/
def setInForce (step : Nat) (b : Bytes) : Bytes :=
  let f0 := u64At b 0x40
  let f1 := u64At b 0x80
  if f1 ≤ step ∧ (f0 ≤ f1 ∨ step < f0) then sub b 0x80 64 else sub b 0x40 64

/-- A table's or binding's parameter block as DECIDE reads it: the set in force and ROW_TAG (R180), or a cause (DEDUCED, log entry 131). -/
def Device.readParams (d : Device) (opt ptr step : Nat) : Except Nat Bytes :=
  match d.uniRead ptr 192 with
  | none => .error 7
  | some b => if paramCause opt ptr b = 0 then .ok (setInForce step b ++ sub b 0 2) else .error (paramCause opt ptr b)

/-- ROW_TAG of what `readParams` returns. -/
def paramTag (p : Bytes) : Nat := u16At p 64 % 4096

/-! ### Optimisers (R183) -/

/-- A step of Adam's bias correction: 1 - beta^t as R183 forms it. -/
def biasOf (beta t : Nat) : Nat :=
  let lb := fp32.enc (exactLog2 (d32 beta))
  f32Sub f32One (fp32.enc (exactExp2 (d32 (f32Mul (f32OfInt t) lb))))

/-- One element: the new w, m and v from the old ones and g (R183). `bias` holds b1 and b2, `denom` row-wise Adagrad's d. -/
def optElem (opt : Nat) (p : Bytes) (bias : Nat × Nat) (denom : Nat) (w m v g : Nat) : Nat × Nat × Nat :=
  let lr := u32At p 8
  let beta1 := u32At p 0xC
  let beta2 := u32At p 0x10
  let eps := u32At p 0x14
  let wd := u32At p 0x18
  match opt with
  | 0 => (f32Sub w (f32Mul lr (f32Fma wd w g)), m, v)
  | 1 =>
    let gd := f32Fma wd w g
    let m := f32Fma beta1 m gd
    let u := if bit (u32At p 0x1C) 0 then f32Fma beta1 m gd else m
    (f32Sub w (f32Mul lr u), m, v)
  | 2 =>
    let v := f32Fma g g v
    (f32Sub w (f32Div (f32Mul lr g) (f32Add (f32Sqrt v) eps)), m, v)
  | 3 => (f32Sub w (f32Div (f32Mul lr g) denom), m, v)
  | 4 | 5 =>
    let gd := if opt = 4 then f32Fma wd w g else g
    let m := f32Fma beta1 m (f32Mul (f32Sub f32One beta1) gd)
    let v := f32Fma beta2 v (f32Mul (f32Sub f32One beta2) (f32Mul gd gd))
    let u := f32Div (f32Div m bias.1) (f32Add (f32Sqrt (f32Div v bias.2)) eps)
    let u := if opt = 5 then f32Fma wd w u else u
    (f32Sub w (f32Mul lr u), m, v)
  | _ => (w, m, v)

/-- Optimiser state of W elements: the header's LAST_STEP, T and G2, and the arrays (R182). -/
structure OptState where
  last : Nat
  t : Nat
  g2 : Nat
  m : List Nat
  v : List Nat
  deriving DecidableEq, Repr

/-- The state after one update of a whole row or parameter, and its new values (R183). -/
def optApply (opt : Nat) (p : Bytes) (step : Nat) (w g : List Nat) (x : OptState) : List Nat × OptState :=
  let t := min (x.t + 1) (2 ^ 24)
  let bias := if opt = 4 ∨ opt = 5 then (biasOf (u32At p 0xC) t, biasOf (u32At p 0x10) t) else (0, 0)
  let q := reduce f32NegZero (g.map fun a => (d32 a).mul (d32 a))
  let g2 := if opt = 3 then f32Add x.g2 (f32Div q (f32OfInt w.length)) else x.g2
  let denom := f32Add (f32Sqrt g2) (u32At p 0x14)
  let es := (List.range w.length).map fun i =>
    optElem opt p bias denom (w.getD i 0) (x.m.getD i 0) (x.v.getD i 0) (g.getD i 0)
  (es.map (·.1), { last := step, t := t, g2 := g2, m := es.map (·.2.1), v := es.map (·.2.2) })

/-- Optimiser state from the lines after a row (R182). -/
def unpackState (opt w : Nat) (b : Bytes) : OptState :=
  let a := ceilDiv w 16 * 64
  { last := u64At b 0, t := u32At b 8, g2 := u32At b 0xC
    m := if opt = 1 ∨ opt = 4 ∨ opt = 5 then f32sAt b 64 w else []
    v := if opt = 2 then f32sAt b 64 w else if opt = 4 ∨ opt = 5 then f32sAt b (64 + a) w else [] }

/-- Optimiser state as lines (R182). -/
def packState (opt w : Nat) (x : OptState) : Bytes :=
  let arr := fun (vs : List Nat) => padTo (ceilDiv w 16 * 64) (f32Bytes vs)
  let hdr := leBytes 8 x.last ++ leBytes 4 x.t ++ leBytes 4 (if opt = 3 then x.g2 else 0) ++ zeroBytes 48
  match opt with
  | 1 => hdr ++ arr x.m
  | 2 => hdr ++ arr x.v
  | 3 => hdr
  | 4 | 5 => hdr ++ arr x.m ++ arr x.v
  | _ => []

/-- Values that are NaN or infinite although every input of their element was finite (R89). -/
def optNonFinite (w g : List Nat) (x : OptState) (w' : List Nat) (x' : OptState) : Nat :=
  let fin := fun i => !(f32NonFinite (w.getD i 0) || f32NonFinite (g.getD i 0) || f32NonFinite (x.m.getD i 0) ||
    f32NonFinite (x.v.getD i 0) || f32NonFinite x.g2)
  ((List.range w.length).map fun i =>
    if fin i then ([w'.getD i 0, x'.m.getD i 0, x'.v.getD i 0].filter f32NonFinite).length else 0).sum +
    (if f32NonFinite x'.g2 && !f32NonFinite x.g2 && g.all (fun a => !f32NonFinite a) then 1 else 0)

/-- Element-operations of one row update (R178, R198). -/
def optCost (opt w : Nat) (p : Bytes) : Nat :=
  match opt with
  | 0 => 3 * w
  | 1 => (if bit (u32At p 0x1C) 0 then 5 else 4) * w
  | 2 => 12 * w
  | 3 => 7 * w + 10
  | 4 | 5 => 25 * w + 12
  | _ => 0

/-! ### Norms of a commit (R90) -/

/-- The sums of squares W, G and U of one tag so far, exact. -/
structure NormSum where
  tag : Nat
  w : Exact
  g : Exact
  u : Exact
  deriving DecidableEq, Repr

/-- Values whose squares join a sum. -/
def addSquares (a : Exact) (xs : List Nat) : Exact := xs.foldl (fun a x => a.add ((d32 x).mul (d32 x))) a

/-- An update's elements join the sums of its tag. -/
def normAdd (ns : List NormSum) (tag : Nat) (w g old : List Nat) : List NormSum :=
  let z : Exact := .fin false 0 0
  let n := (ns.find? (·.tag = tag)).getD ⟨tag, z, z, z⟩
  let n := { n with w := addSquares n.w w, g := addSquares n.g g, u := addSquares n.u (List.zipWith f32Sub w old) }
  ns.filter (·.tag ≠ tag) ++ [n]

end Sys2Proof.Machine
end

