-- ==== Sys2Proof/Machine/CollOps.lean ====
section
/-! DEFINITION. Collective messages (R323 to R326), places in a job (R316, R330), and the dense vector's tree (R327 to
R331). -/

namespace Sys2Proof.Machine

/-! ### Places in the job -/

/-- The rank of device (p, i) (R317). -/
def Job.rank (j : Job) (p i : Nat) : Nat := j.ranks.getD (p * j.f + i) 0

/-- The rank of a member of this device's Flock. -/
def Device.memberRank (d : Device) (i : Nat) : Nat :=
  match d.coll.job with
  | some j => j.rank j.stage i
  | none => d.rd F.COLL_RANK_RANK

/-- The member of this device's Flock with a rank. -/
def Device.memberOf (d : Device) (rank : Nat) : Nat :=
  ((List.range d.flockSize).find? fun i => d.memberRank i == rank).getD 0

/-- The members of the Flock but this device. -/
def Device.others (d : Device) : List Nat := (List.range d.flockSize).filter (· ≠ d.flockIndex)

/-- The place p * F + i of this device in its job. -/
def Device.place (d : Device) : Nat :=
  match d.coll.job with
  | some j => j.stage * j.f + j.index
  | none => 0

/-- Devices of the job (R316). -/
def Device.jobSize (d : Device) : Nat := (d.coll.job.map fun j => j.f * j.p).getD 1

/-- The rank at a place of the job. -/
def Device.placeRank (d : Device) (q : Nat) : Nat := (d.coll.job.map fun j => j.ranks.getD q 0).getD (d.rd F.COLL_RANK_RANK)

/-- The leaf blocks of replica i in the present step, as (log2, base). -/
def Device.blocksOf (d : Device) (i : Nat) : List (Nat × Nat) := d.coll.blocks.getD i []

/-- The replica that owns a leaf. -/
def Device.leafOwner (d : Device) (leaf : Nat) : Nat :=
  ((List.range d.coll.blocks.length).find? fun i =>
    (d.blocksOf i).any fun b => decide (b.2 ≤ leaf ∧ leaf < b.2 + 2 ^ b.1)).getD 0

/-- i_root: the Flock index of the devices that own leaf 0 (R329). -/
def Device.rootIndex (d : Device) : Nat := d.leafOwner 0

/-- This device is its stage's root (R329). -/
def Device.isStageRoot (d : Device) : Bool := d.rootIndex == d.flockIndex

/-- This device is the job root, (0, i_root) (R334). -/
def Device.isJobRoot (d : Device) : Bool := d.isStageRoot && (d.coll.job.map (·.stage)).getD 0 == 0

/-- The members that position q of a broadcast tree over n places forwards to, by their distance from the root (R330). -/
def treeChildren (q n : Nat) : List Nat := [2 * q + 1, 2 * q + 2].filter (· < n)

/-! ### Sending -/

/-- A message's header, but for its CRC (R323). -/
def msgHeader (ty flags src dst lines step job : Nat) (args : Bytes) (seq : Nat) : Bytes :=
  leBytes 1 ty ++ leBytes 1 flags ++ leBytes 2 src ++ leBytes 2 dst ++ leBytes 2 lines ++ leBytes 8 step ++ leBytes 8 job ++
    padTo 32 args ++ leBytes 4 seq

/-- A whole message (R323). -/
def msgBytes (hdr payload : Bytes) : Bytes := hdr ++ leBytes 4 (crc32c (hdr ++ zeroBytes 4 ++ payload)) ++ payload

/-- JOB_ID of the job, or of the one being joined. -/
def Device.jobId (d : Device) : Option Nat :=
  match d.coll.job with
  | some j => some j.id
  | none => d.coll.joining.map (·.1.id)

/-- Send one message to a rank; SEQ counts those of its TYPE and STEP to that rank (R323). It is kept for a NACK. -/
def Device.sendColl (d : Device) (ty flags dst step : Nat) (args payload : Bytes) : Device :=
  let p := padTo (ceilTo 64 payload.length) payload
  let seq := (d.coll.sent.filter fun m => m.ty = ty ∧ m.step = step ∧ m.dst = dst).length
  let m := msgBytes (msgHeader ty flags (d.rd F.COLL_RANK_RANK) dst (p.length / 64) step (d.jobId.getD 0) args seq) p
  ({ d with coll := { d.coll with sent := d.coll.sent ++ [SentMsg.mk ty step dst seq m] } }).sendMsg dst 0 m

/-- Send messages of one TYPE, one for each payload, the last with LAST where `last` says so (R326). -/
def Device.sendParts (d : Device) (ty dst step : Nat) (ps : List (Bytes × Bytes)) (last : Bool) : Device :=
  (List.range ps.length).foldl (fun d i =>
    let p := ps.getD i ([], [])
    d.sendColl ty (b2n (last && i + 1 == ps.length)) dst step p.1 p.2) d

/-- Send a set of messages of one TYPE, the last with LAST; one with no lines stands for none (R326). -/
def Device.sendSet (d : Device) (ty dst step : Nat) (ps : List (Bytes × Bytes)) : Device :=
  if ps.isEmpty then d.sendColl ty 1 dst step [] [] else d.sendParts ty dst step ps true

/-- Payload bytes of one message at most (R323). -/
def maxPayload : Nat := 65536

/-- A string of entries packed into payloads, each entry whole in one (R323). -/
def packPayloads (es : List Bytes) : List Bytes :=
  es.foldl (fun ps e =>
    match ps.reverse with
    | [] => [e]
    | p :: r => if p.length + e.length ≤ maxPayload then (r.reverse) ++ [p ++ e] else ps ++ [e]) []

/-- Payloads without arguments. -/
def bare (ps : List Bytes) : List (Bytes × Bytes) := ps.map fun p => ([], p)

/-- Lines sent in segments: the arguments of the segment that begins at a line, and its bytes. -/
def segments (args : Nat → Bytes) (b : Bytes) : List (Bytes × Bytes) :=
  let cs := chunks maxPayload b
  (List.range cs.length).map fun i => (args (1024 * i), cs.getD i [])

/-! ### Receiving -/

/-- A message's TYPE. -/
def mTy (m : Bytes) : Nat := u8At m 0
/-- LAST (R323). -/
def mLast (m : Bytes) : Bool := bit (u8At m 1) 0
/-- NONFINITE (R323). -/
def mNf (m : Bytes) : Bool := bit (u8At m 1) 1
/-- SRC. -/
def mSrc (m : Bytes) : Nat := u16At m 2
/-- LINES. -/
def mLines (m : Bytes) : Nat := u16At m 6
/-- STEP. -/
def mStep (m : Bytes) : Nat := u64At m 8
/-- SEQ. -/
def mSeq (m : Bytes) : Nat := u32At m 0x38
/-- The payload. -/
def mPayload (m : Bytes) : Bytes := m.drop 64

/-- The argument bytes that a TYPE uses (R324). -/
def argBytes (ty : Nat) : List (Nat × Nat) :=
  match ty with
  | 0x01 => [(0x18, 1), (0x1A, 2), (0x1C, 4)]
  | 0x02 => [(0x18, 1), (0x1A, 2)]
  | 0x07 => [(0x18, 2), (0x20, 8)]
  | 0x08 | 0x0D | 0x0F => [(0x18, 4), (0x1C, 4)]
  | 0x09 => [(0x18, 4), (0x1C, 4), (0x20, 4)]
  | 0x0A => [(0x18, 2), (0x1A, 2), (0x1C, 4), (0x20, 4)]
  | 0x10 => [(0x18, 1), (0x1C, 4)]
  | _ => []

/-- Unused argument bytes are zero (R323). -/
def argsOk (m : Bytes) : Bool :=
  (List.range 32).all fun i =>
    (argBytes (mTy m)).any (fun a => decide (a.1 ≤ 0x18 + i ∧ 0x18 + i < a.1 + a.2)) || u8At m (0x18 + i) == 0

/-- The payload's zero fields and reserved values (R324, R334, R335). -/
def payloadOk (m : Bytes) : Bool :=
  let p := mPayload m
  let es := chunks 16 p
  match mTy m with
  | 0x03 => es.all fun e => zeros e 2 2
  | 0x06 => es.all fun e => decide (u8At e 2 ≤ 2) && zeros e 3 5
  | 0x0B => decide (u8At p 0 < 16) && zeros p 0x20 32
  | 0x0C => decide (u8At p 0 < 4) && decide (u8At p 1 ≤ 2) && decide (u8At p 5 ≤ 4) && zeros p 6 2 && zeros p 0x28 24
  | 0x0E => es.all fun e => zeros e 8 8
  | _ => true

/-- R325: the CAUSE of a message that fails a check, 0 for none. -/
def Device.msgCause (d : Device) (m : Bytes) : Nat :=
  let z := m.take 0x3C ++ zeroBytes 4 ++ m.drop 0x40
  if u32At m 0x3C ≠ crc32c z then 1
  else if u16At m 4 % 4096 ≠ d.rd F.COLL_RANK_RANK then 2
  else if some (u64At m 0x10) ≠ d.jobId then 3
  else if mStep m + 1 < d.step64 ∨ d.step64 + 1 < mStep m then 4
  else if mTy m = 0 ∨ 0x11 < mTy m ∨ 8 ≤ u8At m 1 ∨ 4096 ≤ mSrc m ∨ 4096 ≤ u16At m 4 ∨ 1024 < mLines m ∨
      (mPayload m).length ≠ 64 * mLines m ∨ !argsOk m ∨ !payloadOk m then 5
  else 0

/-- A NACK for a message (R324, R325). -/
def Device.sendNack (d : Device) (ty src step seq : Nat) : Device :=
  d.sendColl 0x10 0 src step (leBytes 1 ty ++ zeroBytes 3 ++ leBytes 4 seq) []

/-- R325: a failing message is discarded; the first time it is asked for again, the second time the fault is lasting. -/
def Device.badMsg (d : Device) (m : Bytes) (cause : Nat) : Device :=
  let id := (mTy m, mStep m, mSrc m, mSeq m)
  if id ∈ d.coll.bad then
    let d := ((d.wr F.COLL_MSG_ERR_CAUSE cause).wr F.COLL_MSG_ERR_TYPE (mTy m)).wr F.COLL_MSG_ERR_SRC (mSrc m % 4096)
    let d := (d.raise F.COLL_INT_STATUS_MSG_FAULT).lasting 0x0504 6 (mSrc m % 4096) cause 0 10 0 true
    d.haltReq
  else
    ({ d with coll := { d.coll with bad := d.coll.bad ++ [id] } }).sendNack (mTy m) (mSrc m % 4096) (mStep m) (mSeq m)

/-- R324: a message is noted as received. -/
def Device.seenMsg (d : Device) (ty : Nat) (m : Bytes) : Device :=
  { d with coll := { d.coll with seen := d.coll.seen ++ [Seen.mk ty (mStep m) (mSrc m) (mSeq m) (mLast m)] } }

/-- R324: whether a message of the same type, step, source and sequence number has been received. -/
def Device.hasSeen (d : Device) (ty : Nat) (m : Bytes) : Bool :=
  d.coll.seen.any fun s => s.ty = ty ∧ s.step = mStep m ∧ s.src = mSrc m ∧ s.seq = mSeq m

/-- R325: a message of a TYPE arrives and `h` takes it. Nothing happens where this device is in no job and joins none, or the
message has another TYPE (DESIGN CHOICE, log entry 4). -/
def Device.receive (d : Device) (ty : Nat) (m : Bytes) (h : Device → Device) : Device :=
  if mTy m ≠ ty ∨ d.jobId = none ∨ m.length < 64 ∨ !d.domOn domSpine then d
  else
    let c := d.msgCause m
    if c ≠ 0 then d.badMsg m c
    else if ty ≠ 5 ∧ d.hasSeen ty m then
      d.inc F.COLL_MSG_DUP_COUNT
    else
      h (d.seenMsg ty m)

/-- A step is past ADMIT. -/
def Device.inStep (d : Device) : Bool :=
  d.phase = .compute || d.phase = .reduce || d.phase = .decide || d.phase = .commit

/-- R324: a message of a step that this device has not reached waits. -/
def Device.keepMsg (d : Device) (m : Bytes) : Device := { d with coll := { d.coll with inbox := d.coll.inbox ++ [m] } }

/-- A message of the step in progress is taken; one of a step this device has not reached waits (DEDUCED, log entry 34). -/
def Device.atStep (d : Device) (m : Bytes) (h : Device → Device) : Device :=
  if d.step64 = mStep m ∧ d.inStep then h d
  else if d.step64 ≤ mStep m then d.keepMsg m
  else d

/-- R326: the set of messages of a TYPE and STEP from a rank is complete. -/
def Device.setComplete (d : Device) (ty step src : Nat) : Bool :=
  let ss := d.coll.seen.filter fun s => s.ty = ty ∧ s.step = step ∧ s.src = src
  ss.any fun l => l.last && (List.range l.seq).all fun i => ss.any (·.seq = i)

/-- The lowest SEQ of a set that has not come. -/
def Device.missingSeq (d : Device) (ty step src : Nat) : Nat :=
  let ss := d.coll.seen.filter fun s => s.ty = ty ∧ s.step = step ∧ s.src = src
  ((List.range (ss.length + 1)).find? fun i => !ss.any (·.seq = i)).getD 0

/-! ### The dense vector (R327) -/

/-- PARAM, BYTES, GRAD, STATE and OPT_PTR of a binding entry (R309). -/
def bParam (e : Bytes) : Nat := u64At e 0
/-- BYTES. -/
def bBytes (e : Bytes) : Nat := u64At e 8
/-- GRAD. -/
def bGrad (e : Bytes) : Nat := u64At e 0x10
/-- STATE. -/
def bState (e : Bytes) : Nat := u64At e 0x18
/-- OPT_PTR. -/
def bOptPtr (e : Bytes) : Nat := u64At e 0x20
/-- TAG. -/
def bTag (e : Bytes) : Nat := u16At e 0x28 % 4096
/-- OPT. -/
def bOpt (e : Bytes) : Nat := u8At e 0x2A
/-- SHARDED. -/
def bSharded (e : Bytes) : Bool := bit (u8At e 0x2B) 0

/-- The binding table of the loaded program. -/
def Device.bindings (d : Device) : List Bytes := (d.spine.prog.map (·.bindings)).getD []

/-- The enabled tables, in ascending number. -/
def Device.tablesOn (d : Device) : List (Nat × Table) := d.sparse.tables.filter (·.2.on)

/-- The rows of section B: for each enabled table the default row, then each Bellwether row in ascending number, with its
width (R327). -/
def Device.bwRows (d : Device) : List (Nat × Nat × Nat) :=
  d.tablesOn.flatMap fun e =>
    let n := dRows e.2.desc
    (n :: sortNat ((e.2.bw.map (·.row)).filter (· ≠ n))).map fun r => (e.1, r, dWidth e.2.desc)

/-- Lines of a row entry of section B. -/
def bwEntryLines (w : Nat) : Nat := 1 + ceilDiv w 16

/-- Bytes of section D. -/
def Device.denseBytes (d : Device) : Nat := (d.bindings.map bBytes).sum

/-- Lines of the dense vector. -/
def Device.vectorLines (d : Device) : Nat :=
  d.denseBytes / 64 + (d.bwRows.map fun e => bwEntryLines e.2.2).sum

/-- The node of a row at (level, index) from the nodes held, its non-finite flag with it (R73, R87). -/
def rowTree (t r : Nat) : List RowNode → Nat → Nat → Option (List Nat × Bool)
  | ns, 0, i => (ns.find? fun n => n.table = t ∧ n.row = r ∧ n.level = 0 ∧ n.index = i).map fun n => (n.vec, n.nf)
  | ns, l + 1, i =>
    match ns.find? fun n => n.table = t ∧ n.row = r ∧ n.level = l + 1 ∧ n.index = i with
    | some n => some (n.vec, n.nf)
    | none =>
      if ns.isEmpty then none
      else
        let half := fun j => ns.filter fun n => decide (n.level ≤ l ∧ n.index / 2 ^ (l - n.level) = j)
        match rowTree t r (half (2 * i)) l (2 * i), rowTree t r (half (2 * i + 1)) l (2 * i + 1) with
        | some a, some b =>
          let v := List.zipWith f32Add a.1 b.1
          some (v, a.2 || b.2 || v.any f32NonFinite)
        | some a, none => some a
        | none, b => b

/-- One row entry of section B (R327). -/
def bwEntry (t r w : Nat) (x : Option (List Nat × Bool)) (count : Nat) : Bytes :=
  leBytes 8 r ++ leBytes 2 t ++ leBytes 1 (match x with
    | some v => 1 + 2 * b2n v.2
    | none => 0) ++ leBytes 1 0 ++ leBytes 4 count ++ zeroBytes 48 ++
    padTo (ceilDiv w 16 * 64) (match x with
    | some v => f32Bytes v.1
    | none => [])

/-- Two row entries of section B joined (R73, R328). -/
def bwJoin (w : Nat) (a b : Bytes) : Bytes :=
  let pa := bit (u8At a 0xA) 0
  let pb := bit (u8At b 0xA) 0
  let count := min (u32At a 0xC + u32At b 0xC) 0xFFFFFFFF
  let val := fun (e : Bytes) => (f32sAt e 64 w, bit (u8At e 0xA) 1)
  let x : Option (List Nat × Bool) :=
    if pa && pb then
      let v := List.zipWith f32Add (val a).1 (val b).1
      some (v, (val a).2 || (val b).2 || v.any f32NonFinite)
    else if pa then some (val a) else if pb then some (val b) else none
  bwEntry (u16At a 8) (u64At a 0) w x count

/-- Section B joined row by row. -/
def bJoin : List Nat → Bytes → Bytes → Bytes
  | [], _, _ => []
  | w :: r, a, b =>
    let n := bwEntryLines w * 64
    bwJoin w (a.take n) (b.take n) ++ bJoin r (a.drop n) (b.drop n)

/-- Some row entry of section B is flagged. -/
def bFlagged : List Nat → Bytes → Bool
  | [], _ => false
  | w :: r, a => bit (u8At a 0xA) 1 || bFlagged r (a.drop (bwEntryLines w * 64))

/-- The lines of a node that has arrived whole: its segments one after another without a gap. -/
def DNode.whole (n : DNode) : Bytes :=
  n.parts.foldl (fun b p => if b.length = 64 * p.1 then b ++ p.2 else b) []

/-- A node with its header and every line. -/
def Device.nodeWhole (d : Device) (n : DNode) : Bool := n.hdr && n.whole.length == d.vectorLines * 64

/-- A segment put in its place, ascending by first line. -/
def addPart (p : Nat × Bytes) : List (Nat × Bytes) → List (Nat × Bytes)
  | [] => [p]
  | q :: r => if p.1 < q.1 then p :: q :: r else if p.1 = q.1 then p :: r else q :: addPart p r

/-- Two nodes joined into their parent (R328). -/
def Device.joinNodes (d : Device) (a b : DNode) : DNode :=
  let n := d.denseBytes
  let x := a.whole
  let y := b.whole
  let ds := List.zipWith f32Add (f32sAt x 0 (n / 4)) (f32sAt y 0 (n / 4))
  let ws := d.bwRows.map (·.2.2)
  let bs := bJoin ws (x.drop n) (y.drop n)
  { level := a.level + 1, index := a.index / 2, hdr := true
    nf := a.nf || b.nf || ds.any f32NonFinite || bFlagged ws bs
    amax := (a.amax.map (·.1) ++ b.amax.map (·.1)).foldl (fun m t =>
      Store.set (fun _ => f32NegZero) m t
        (amaxOf (Store.get (fun _ => f32NegZero) a.amax t) (Store.get (fun _ => f32NegZero) b.amax t))) []
    sat := (a.sat.map (·.1) ++ b.sat.map (·.1)).foldl (fun m t =>
      Store.set (fun _ => 0) m t (min (Store.get (fun _ => 0) a.sat t + Store.get (fun _ => 0) b.sat t) 0xFFFFFFFF)) []
    parts := [(0, f32Bytes ds ++ bs)] }

/-- A node held here. -/
def Device.dnode (d : Device) (l i : Nat) : Option DNode := d.coll.nodes.find? fun n => n.level = l ∧ n.index = i

/-- Replace a node. -/
def Device.setNode (d : Device) (n : DNode) : Device :=
  { d with coll := { d.coll with nodes := d.coll.nodes.filter (fun m => ¬(m.level = n.level ∧ m.index = n.index)) ++ [n] } }

/-- NODE_HDR's payload (R324). -/
def hdrPayload (n : DNode) : Bytes :=
  ((List.range 4096).flatMap fun t => leBytes 4 (Store.get (fun _ => f32NegZero) n.amax t)) ++
    (List.range 4096).flatMap fun t => leBytes 4 (Store.get (fun _ => 0) n.sat t)

/-- LEVEL, INDEX and SEGMENT (R324). -/
def nodeArgs (l i seg : Nat) : Bytes := leBytes 1 l ++ leBytes 1 0 ++ leBytes 2 i ++ leBytes 4 seg

/-- Send a node to a rank: its header, then its lines (R329). `lines` are (first line, bytes); `last` says whether the
header, and whether the last line message, are the last of their TYPE to that rank in the step (R326). -/
def Device.sendNode (d : Device) (dst : Nat) (n : DNode) (lines : List (Nat × Bytes)) (last : Bool × Bool) : Device :=
  let d := d.sendColl 2 (b2n last.1 + 2 * b2n n.nf) dst d.step64 (nodeArgs n.level n.index 0) (hdrPayload n)
  d.sendParts 1 dst d.step64 (lines.flatMap fun p =>
    segments (fun s => nodeArgs n.level n.index (p.1 + s)) p.2) last.2

/-- k of the step. -/
def Device.leafLog (d : Device) : Nat := d.rd F.SPINE_LEAF_CFG_LEAF_LOG2

/-- The FP32 root of each binding entry as (entry, first byte of section D). -/
def Device.entryOffsets (d : Device) : List (Bytes × Nat) :=
  (d.bindings.foldl (fun (p : List (Bytes × Nat) × Nat) e => (p.1 ++ [(e, p.2)], p.2 + bBytes e)) ([], 0)).1

/-- Bytes of a shard block (R312). -/
def shardBytes : Nat := 4194304

/-- R313: a write to a sharded parameter increases the version tags of the blocks it touches. -/
def Device.bumpShards (d : Device) (a n : Nat) : Device :=
  let es := d.bindings
  (List.range es.length).foldl (fun d i =>
    let e := es.getD i []
    if !bSharded e || decide (bParam e + bBytes e ≤ a ∨ a + n ≤ bParam e) then d
    else
      let lo := (a - bParam e) / shardBytes
      let hi := (min (a + n) (bParam e + bBytes e) - bParam e - 1) / shardBytes
      { d with coll := { d.coll with version := (List.range (hi + 1 - lo)).foldl (fun v k =>
          Store.modify (fun _ => 0) v (65536 * i + lo + k) fun x => (x + 1) % 65536) d.coll.version } }) d

/-- The part of a root's section D that a member stores: (first byte of section D, bytes, address), a sharded entry's blocks
only where it owns them (R312, R330). -/
def Device.rootRanges (d : Device) (member : Nat) : List (Nat × Nat × Nat) :=
  d.entryOffsets.flatMap fun e =>
    if bSharded e.1 then
      ((List.range (ceilDiv (bBytes e.1) shardBytes)).filter fun b => b % d.flockSize = member).map fun b =>
        (e.2 + b * shardBytes, min shardBytes (bBytes e.1 - b * shardBytes), bGrad e.1 + b * shardBytes)
    else [(e.2, bBytes e.1, bGrad e.1)]

/-- The lines of the root that go down the broadcast tree, as (first line, lines): those of replicated entries, and section B
(R330). -/
def Device.treeRanges (d : Device) : List (Nat × Nat) :=
  (d.entryOffsets.filter fun e => !bSharded e.1).map (fun e => (e.2 / 64, bBytes e.1 / 64)) ++
    [(d.denseBytes / 64, d.vectorLines - d.denseBytes / 64)]

/-- The lines of the root that go straight to a member: its blocks of sharded entries (R312, R330). -/
def Device.shardRanges (d : Device) (member : Nat) : List (Nat × Nat) :=
  (d.entryOffsets.filter fun e => bSharded e.1).flatMap fun e =>
    ((List.range (ceilDiv (bBytes e.1) shardBytes)).filter fun b => b % d.flockSize = member).map fun b =>
      ((e.2 + b * shardBytes) / 64, min shardBytes (bBytes e.1 - b * shardBytes) / 64)

/-- Lines [l, l + k) of a node from its segments; none where one has not come. `fuel` bounds the segments. -/
def DNode.lines (n : DNode) : Nat → Nat → Nat → Option Bytes
  | 0, _, k => if k = 0 then some [] else none
  | fuel + 1, l, k =>
    if k = 0 then some []
    else
      match n.parts.find? fun p => decide (p.1 ≤ l ∧ l < p.1 + p.2.length / 64) with
      | none => none
      | some p =>
        let m := min k (p.1 + p.2.length / 64 - l)
        (DNode.lines n fuel (l + m) (k - m)).map (sub p.2 ((l - p.1) * 64) (m * 64) ++ ·)

/-- The bytes of some lines of a node. -/
def DNode.range (n : DNode) (r : Nat × Nat) : Option Bytes := n.lines (n.parts.length + 1) r.1 r.2

/-- Ranges of a node with their bytes. -/
def DNode.ranges (n : DNode) (rs : List (Nat × Nat)) : List (Nat × Bytes) := rs.map fun r => (r.1, (n.range r).getD [])

/-- Rows' roots from section B, with their counts (R330, R331). -/
def bRoots (k : Nat) : List (Nat × Nat × Nat) → Bytes → List (RowNode × Nat)
  | [], _ => []
  | (t, r, w) :: es, b =>
    let n := bwEntryLines w * 64
    (if bit (u8At b 0xA) 0 then [(⟨t, r, k, 0, f32sAt b 64 w, bit (u8At b 0xA) 1⟩, u32At b 0xC)] else []) ++
      bRoots k es (b.drop n)

/-- A root that has arrived: section D of this member's entries to their GRAD ranges, section B staged (R330). The step's
figures are the root's (R78). -/
def Device.takeRoot (d : Device) (n : DNode) : Device :=
  let d := (d.rootRanges d.flockIndex).foldl (fun d x =>
    (d.uniWrite x.2.2 ((n.range (x.1 / 64, x.2.1 / 64)).getD [])).getD d) d
  let b := (n.range (d.denseBytes / 64, d.vectorLines - d.denseBytes / 64)).getD []
  { d with
    sparse := { d.sparse with bwRoots := bRoots d.leafLog d.bwRows b }
    num := { d.num with amax := n.amax, sat := n.sat }
    coll := { d.coll with root := true, passed := (n.level, n.index) :: d.coll.passed } }

/-- The broadcast children of this device for its stage's root, as members (R330). -/
def Device.stageChildren (d : Device) : List Nat :=
  let f := d.flockSize
  (treeChildren ((d.flockIndex + f - d.rootIndex) % f) f).map fun q => (q + d.rootIndex) % f

/-- R330: pass the root's tree lines on to this device's broadcast children. -/
def Device.passRoot (d : Device) (n : DNode) : Device :=
  d.stageChildren.foldl (fun d m =>
    d.sendNode (d.memberRank m) n (n.ranges d.treeRanges) (true, !d.isStageRoot || (d.shardRanges m).isEmpty)) d

/-- The stage root delivers the root (R330). -/
def Device.deliverRoot (d : Device) (n : DNode) : Device :=
  let d := (d.takeRoot n).passRoot n
  d.others.foldl (fun d m =>
    d.sendParts 1 (d.memberRank m) d.step64 ((n.ranges (d.shardRanges m)).flatMap fun p =>
      segments (fun s => nodeArgs n.level n.index (p.1 + s)) p.2) true) d

/-- R330: a member takes its root once all it needs of it has come, and passes it on. -/
def Device.rootTry (d : Device) : Device :=
  match d.dnode d.leafLog 0 with
  | some n =>
    if d.isStageRoot || d.coll.root || !n.hdr ||
        !((d.treeRanges ++ d.shardRanges d.flockIndex).all fun r => (n.range r).isSome) then d
    else (d.takeRoot n).passRoot n
  | none => d

/-- Trailing zero bits of a leaf index. -/
def lowBit (v : Nat) : Nat := ((List.range 17).find? fun i => bit v i).getD 16

/-- The replica that a block's node goes to when its parent's first leaf is another device's (R329). -/
def Device.upTo (d : Device) (base : Nat) : Nat := d.leafOwner (base - 2 ^ lowBit base)

/-- The nodes this device sends up to a member in a step, as their first leaves (R326, R329). -/
def Device.upTotal (d : Device) (m : Nat) : List Nat :=
  ((d.blocksOf d.flockIndex).map (·.2)).filter fun b => b != 0 && d.upTo b == m

/-- R329: pass a node to the member that forms its parent. -/
def Device.passUp (d : Device) (n : DNode) (m : Nat) : Device :=
  let sent := (d.upTotal m).filter fun b => d.coll.passed.contains (lowBit b, b / 2 ^ lowBit b)
  let last := sent.length + 1 == (d.upTotal m).length && !d.stageChildren.contains m
  ({ d with coll := { d.coll with passed := (n.level, n.index) :: d.coll.passed } }).sendNode (d.memberRank m) n
    [(0, n.whole)] (last, last)

/-- R26, R329: join whole siblings into their parents, and pass on a node whose parent's first leaf another device owns.
`fuel` bounds the levels. -/
def Device.growTree : Nat → Device → Device
  | 0, d => d
  | fuel + 1, d =>
    let k := d.leafLog
    let ready := d.coll.nodes.filter fun n => d.nodeWhole n && !d.coll.passed.contains (n.level, n.index)
    match ready.find? fun n => n.level = k with
    | some n => if d.coll.root || !d.isStageRoot then d else d.deliverRoot n
    | none =>
      let up := fun (n : DNode) => d.leafOwner (n.index / 2 * 2 ^ (n.level + 1))
      match ready.find? fun n => up n != d.flockIndex ||
        (n.index % 2 == 0 && ready.any fun m => m.level = n.level ∧ m.index = n.index + 1) with
      | none => d
      | some n =>
        if up n ≠ d.flockIndex then Device.growTree fuel (d.passUp n (up n))
        else
          match d.dnode n.level (n.index + 1) with
          | none => d
          | some m =>
            let p := d.joinNodes n m
            Device.growTree fuel ({ d with coll := { d.coll with
              passed := (n.level, n.index) :: (m.level, m.index) :: d.coll.passed } }.setNode p)

/-- The levels and nodes a device can form in one go. -/
def Device.growAll (d : Device) : Device := d.growTree (64 * (d.leafLog + 1) + 4)

end Sys2Proof.Machine
end

