-- ==== Sys2Proof/Machine/DigestOps.lean ====
section
/-! DEFINITION. Replica digests (R339 to R346): the replicated region, its blocks, comparison, repair. -/

namespace Sys2Proof.Machine

/-! ### The replicated region (R339) -/

/-- A piece of the replicated region: bytes at a unified address, or at a key of the stacks. -/
structure Piece where
  uni : Bool
  at0 : Nat
  len : Nat
  deriving DecidableEq, Repr

/-- Bytes of a binding entry's STATE (R182, R311). -/
def stateBytes (e : Bytes) : Nat :=
  match bOpt e with
  | 1 | 2 => 64 + bBytes e
  | 4 | 5 => 64 + 2 * bBytes e
  | _ => 0

/-- Section D: each replicated entry's PARAM, then its STATE. -/
def Device.regionD (d : Device) : List Piece :=
  (d.bindings.filter fun e => !bSharded e).flatMap fun e =>
    [⟨true, bParam e, bBytes e⟩, ⟨true, bState e, stateBytes e⟩]

/-- Section B: the record of each row of section B of the dense vector. -/
def Device.regionB (d : Device) : List Piece :=
  d.bwRows.map fun x =>
    match d.replica x.1 x.2.1 with
    | some b => ⟨false, t1Key b.tile b.line 0, dRecLines (d.table x.1).desc * 64⟩
    | none => ⟨false, 0, dRecLines (d.table x.1).desc * 64⟩

/-- Bytes of a section. -/
def pieceLen (ps : List Piece) : Nat := (ps.map (·.len)).sum

/-- A block of the region: whether it lies in section B, its first byte there and its bytes. -/
structure RegionBlock where
  secB : Bool
  off : Nat
  len : Nat
  deriving DecidableEq, Repr

/-- Blocks of a section of `n` bytes. -/
def blocksOfLen (secB : Bool) (n : Nat) : List RegionBlock :=
  (List.range (ceilDiv n shardBytes)).map fun i => ⟨secB, i * shardBytes, min shardBytes (n - i * shardBytes)⟩

/-- The blocks of the region, numbered through both sections. -/
def Device.regionBlocks (d : Device) : List RegionBlock :=
  blocksOfLen false (pieceLen d.regionD) ++ blocksOfLen true (pieceLen d.regionB)

/-- The parts of a section's pieces that bytes [off, off + len) take, each with its first byte among them. -/
def cutPieces : List Piece → Nat → Nat → List (Piece × Nat)
  | [], _, _ => []
  | p :: r, off, len =>
    if p.len ≤ off then cutPieces r (off - p.len) len
    else if len = 0 then []
    else
      let n := min len (p.len - off)
      (⟨p.uni, p.at0 + off, n⟩, 0) :: (cutPieces r 0 (len - n)).map fun x => (x.1, x.2 + n)

/-- The pieces of a block. -/
def Device.blockPieces (d : Device) (b : RegionBlock) : List (Piece × Nat) :=
  cutPieces (if b.secB then d.regionB else d.regionD) b.off b.len

/-- A block's bytes. -/
def Device.blockBytes (d : Device) (b : RegionBlock) : Bytes :=
  (d.blockPieces b).flatMap fun x =>
    if x.1.uni then (d.uniRead x.1.at0 x.1.len).getD [] else d.readKey x.1.len x.1.at0

/-- Write a block (R345). -/
def Device.putBlock (d : Device) (b : RegionBlock) (bytes : Bytes) : Device :=
  (d.blockPieces b).foldl (fun d x =>
    let y := sub bytes x.2 x.1.len
    if x.1.uni then (d.uniWrite x.1.at0 y).getD d else d.writeKey x.1.at0 y) d

/-- R340: a block's digest. -/
def Device.blockDigest (d : Device) (i : Nat) (b : RegionBlock) : Bytes :=
  padTo 16 (Config.shake 128 (leBytes 8 i ++ leBytes 8 b.len ++ d.blockBytes b) 16)

/-- The digests of every block. -/
def Device.allDigests (d : Device) : List Bytes :=
  let bs := d.regionBlocks
  (List.range bs.length).map fun i => d.blockDigest i (bs.getD i ⟨false, 0, 0⟩)

/-! ### Comparison (R341 to R343) -/

/-- R341: a comparison takes place at the COMMIT of step `n`. -/
def Device.compares (d : Device) (n : Nat) : Bool :=
  let i := d.rd F.COLL_DIGEST_CFG_INTERVAL
  decide (1 < d.flockSize) && (d.coll.compareNext || (i != 0 && n % i == i - 1))

/-- The blocks whose referee is a member. -/
def Device.refereeBlocks (d : Device) (m : Nat) : List Nat :=
  (List.range d.coll.digests.length).filter fun b => b % d.flockSize == m

/-- A comparison runs whose digests this device has taken. -/
def Device.comparing (d : Device) : Bool := d.coll.digStep.isSome && !d.coll.digests.isEmpty

/-- R341, step 2: digests go to their referees; one message holds those of blocks `first`, `first + F` and so on (log entry
38). -/
def Device.sendDigests (d : Device) : Device :=
  if !d.comparing then d
  else
    let own := (d.refereeBlocks d.flockIndex).map fun b => DigestAt.mk d.flockIndex b (d.coll.digests.getD b [])
    let d := { d with coll := { d.coll with refs := d.coll.refs ++ own } }
    d.others.foldl (fun d m =>
      let bs := d.refereeBlocks m
      let gs := (List.range (ceilDiv bs.length 4096)).map fun i => (bs.drop (4096 * i)).take 4096
      d.sendParts 0xD (d.memberRank m) d.step64 (gs.map fun g =>
        (leBytes 4 (g.headD 0) ++ leBytes 4 g.length, g.flatMap fun b => d.coll.digests.getD b [])) true) d

/-- The rows of section B once the changes that take effect with this step's COMMIT stand (R157). -/
def Device.bwRowsNext (d : Device) : List (Nat × Nat × Nat) :=
  let now := d.sparse.nextBw.filter (·.step = d.step64)
  d.tablesOn.flatMap fun e =>
    let n := dRows e.2.desc
    let rows := (e.2.bw.map (·.row)).filter (· ≠ n)
    let rows := rows.filter fun r => !now.any fun c => !c.promote && c.table == e.1 && c.row == r
    let new := (now.filter fun c => c.promote && c.table == e.1 && !rows.contains c.row).map (·.row)
    (n :: sortNat (rows ++ new)).map fun r => (e.1, r, dWidth e.2.desc)

/-- What stands where in section B: (table, row, first byte). -/
def Device.layout (d : Device) : Nat → List (Nat × Nat × Nat) → List (Nat × Nat × Nat)
  | _, [] => []
  | o, x :: r => (x.1, x.2.1, o) :: Device.layout d (o + dRecLines (d.table x.1).desc * 64) r

/-- R346: the layout of a section B block changes with this step's COMMIT. -/
def Device.layoutChanges (d : Device) (b : RegionBlock) : Bool :=
  let part := fun (xs : List (Nat × Nat × Nat)) => xs.filter fun x =>
    decide (x.2.2 < b.off + b.len ∧ b.off < x.2.2 + dRecLines (d.table x.1).desc * 64)
  b.secB && (part (d.layout 0 d.bwRows) != part (d.layout 0 d.bwRowsNext))

/-- The digest that more than F / 2 members hold of a block. -/
def majority (f : Nat) (rs : List DigestAt) : Option Bytes :=
  (rs.find? fun r => decide (f < 2 * (rs.filter (·.digest = r.digest)).length)).map (·.digest)

/-- What a referee finds: a tie, the (member, block) pairs in the minority with their source, blocks whose repair is
abandoned. -/
structure Verdict where
  tie : Bool := false
  minority : List (Nat × Nat × Nat) := []
  abandoned : Nat := 0
  deriving DecidableEq, Repr

/-- R342, R343, R346: judge one block. -/
def Device.judgeBlock (d : Device) (v : Verdict) (b : Nat) : Verdict :=
  let rs := d.coll.refs.filter (·.block = b)
  match majority d.flockSize rs with
  | none => { v with tie := true }
  | some g =>
    let bad := (rs.filter fun r => r.digest ≠ g).map (·.member)
    let src := ((List.range d.flockSize).find? fun m => rs.any fun r => r.member = m ∧ r.digest = g).getD 0
    if bad.isEmpty then v
    else if d.layoutChanges (d.regionBlocks.getD b ⟨false, 0, 0⟩) then { v with abandoned := v.abandoned + 1 }
    else { v with minority := v.minority ++ bad.map fun m => (m, b, src) }

/-- A REPAIR_ORDER entry (R324). -/
def orderEntry (x : Nat × Nat × Nat) : Bytes :=
  leBytes 4 x.2.1 ++ leBytes 2 x.1 ++ leBytes 2 x.2.2 ++ zeroBytes 8

/-- R342, R345: this device is told of a minority member, a block and its source, as a source or as that member. -/
def Device.takeOrder (d : Device) (x : Nat × Nat × Nat) : Device :=
  let d := if x.2.2 = d.flockIndex then { d with coll := { d.coll with orders := d.coll.orders ++ [(x.2.1, x.1)] } } else d
  if x.1 ≠ d.flockIndex then d
  else
    ({ d with coll := { d.coll with repairs := d.coll.repairs ++ [(x.2.1, [])] } }.wr F.COLL_STATUS_REPAIR_PEND 1).raise
      F.COLL_INT_STATUS_MINORITY

/-- R342: orders to a member, or to this device itself. -/
def Device.sendOrders (d : Device) (v : Verdict) : Device :=
  (List.range d.flockSize).foldl (fun d m =>
    let xs := v.minority.filter fun x => x.1 = m ∨ x.2.2 = m
    if xs.isEmpty then d
    else if m = d.flockIndex then xs.foldl Device.takeOrder d
    else d.sendSet 0xE (d.memberRank m) d.step64 (bare (packPayloads (xs.map orderEntry)))) d

/-- The findings of a verdict: (member, blocks, first block) (R334). -/
def findingsOf (v : Verdict) : List (Nat × Nat × Nat) :=
  (sortNat (v.minority.map (·.1)).eraseDups).map fun m =>
    let bs := sortNat ((v.minority.filter (·.1 = m)).map (·.2.1))
    (m, bs.length, bs.headD 0)

/-- R342: a referee judges its blocks once every member's digests of them have come. -/
def Device.judge (d : Device) : Device :=
  let bs := d.refereeBlocks d.flockIndex
  if !d.comparing || d.coll.judged ||
      !(bs.isEmpty || d.others.all fun m => d.setComplete 0xD d.step64 (d.memberRank m)) then d
  else
    let v := bs.foldl d.judgeBlock {}
    let d := d.inc F.COLL_REPAIR_ABANDON_COUNT v.abandoned
    { d with coll := { d.coll with judged := true, tie := v.tie, findings := findingsOf v } }.sendOrders v

/-- This device has nothing left to judge in the step (R334). -/
def Device.judgedAll (d : Device) : Bool := !d.comparing || d.coll.judged

/-! ### Repair (R345) -/

/-- Send the blocks ordered of this source, as they stand after the COMMIT of step `n`. -/
def Device.sendRepairs (d : Device) (n : Nat) : Device :=
  let os := d.coll.orders
  let d := { d with coll := { d.coll with orders := [] } }
  os.foldl (fun d o =>
    let b := d.blockBytes (d.regionBlocks.getD o.1 ⟨false, 0, 0⟩)
    let last := (os.reverse.find? (·.2 = o.2)) == some o
    (d.sendParts 0xF (d.memberRank o.2) n (segments (fun s => leBytes 4 o.1 ++ leBytes 4 s) b) last).inc
      F.COLL_REPAIR_SENT_COUNT) d

/-- A block's bytes from the segments that have come; none until all have (R345). -/
def RegionBlock.joined (b : RegionBlock) (parts : List (Nat × Bytes)) : Option Bytes :=
  ({ level := 0, index := 0, parts := parts } : DNode).range (0, b.len / 64)

/-- A block whose bytes have all come is repaired (R345). -/
def Device.repairWhole (d : Device) (i : Nat) (b : RegionBlock) (x : Bytes) : Device :=
  let d := { d with coll := { d.coll with repairs := d.coll.repairs.filter (·.1 ≠ i) } }
  let d := (d.putBlock b x).inc F.COLL_MINORITY_COUNT
  let d := d.wr F.COLL_STATUS_REPAIR_PEND (b2n !d.coll.repairs.isEmpty)
  d.log 0x0505 1 6 i 0 0

/-- The segments of a block that has not come whole are kept. -/
def Device.repairKeep (d : Device) (i : Nat) (parts : List (Nat × Bytes)) : Device :=
  { d with coll := { d.coll with repairs := d.coll.repairs.map fun r => if r.1 = i then (i, parts) else r } }

/-- A segment of a repair has come; `x` is the whole block where it is complete. -/
def Device.repairTake (d : Device) (i : Nat) (parts : List (Nat × Bytes)) (b : RegionBlock) (x : Option Bytes) : Device :=
  match x with
  | none => d.repairKeep i parts
  | some x => d.repairWhole i b x

/-- R345, steps 1 to 3: a block of which every segment has come is written. -/
def Device.repairBlock (d : Device) (i : Nat) (parts : List (Nat × Bytes)) : Device :=
  let b := d.regionBlocks.getD i ⟨false, 0, 0⟩
  d.repairTake i parts b (b.joined parts)

/-- R345: bytes that an awaited repair will write. -/
def Device.repairHolds (d : Device) (uni : Bool) (a n : Nat) : Bool :=
  d.coll.repairs.any fun r => (d.blockPieces (d.regionBlocks.getD r.1 ⟨false, 0, 0⟩)).any fun x =>
    x.1.uni == uni && decide (x.1.at0 < a + n ∧ a < x.1.at0 + x.1.len)

end Sys2Proof.Machine
end

