-- ==== Sys2Proof/Machine/CoreWord.lean ====
section
/-! DEFINITION. The instruction words of a core: reading them (R98, R106, R112, R113) and writing them. -/

namespace Sys2Proof.Machine

/-- A core instruction with its fields as its words hold them (R98, R106, R112). -/
inductive CoreInstr where
  | nop
  | endUnit
  | ldodr (dd addr : Nat)
  | seta (an value : Nat)
  | adda (an value : Nat)
  | setc (sel value : Nat)
  | xfer (an dir addr len : Nat)
  | addodr (dd off : Nat)
  | loop (count back : Nat)
  | fence
  | mma (dst a b acc ta tb accEn m n k : Nat)
  | vchain (dst x y z count rows c0 c1 stages : Nat)
  | s12 (addr : Nat)
  deriving DecidableEq, Repr

/-- The opcode of a word (R98). -/
def wordOpcode (w : Nat) : Nat := bits w 127 120

/-- The fields of an instruction from its first word and, for a VCHAIN, its second (R98, R106, R112); none for a reserved
opcode. -/
def decodeWord (w w1 : Nat) : Option CoreInstr :=
  match wordOpcode w with
  | 0x00 => some .nop
  | 0x01 => some .endUnit
  | 0x02 => some (.ldodr (bits w 119 115) (bits w 95 80))
  | 0x03 => some (.seta (bits w 119 116) (bits w 63 0))
  | 0x04 => some (.adda (bits w 119 116) (bits w 63 0))
  | 0x05 => some (.setc (bits w 119 119) (bits w 31 0))
  | 0x06 => some (.xfer (bits w 119 116) (bits w 115 115) (bits w 95 80) (bits w 79 64))
  | 0x07 => some (.addodr (bits w 119 115) (bits w 95 80))
  | 0x08 => some (.loop (bits w 95 80) (bits w 79 64))
  | 0x09 => some .fence
  | 0x10 => some (.mma (bits w 119 115) (bits w 114 110) (bits w 109 105) (bits w 104 100) (bits w 99 99) (bits w 98 98)
      (bits w 97 97) (bits w 95 80) (bits w 79 64) (bits w 63 48))
  | 0x20 => some (.vchain (bits w 119 115) (bits w 114 110) (bits w 109 105) (bits w 104 100) (bits w 95 83) (bits w 82 67)
      (bits w 63 32) (bits w 31 0) (bits w1 127 0))
  | 0x28 => some (.s12 (bits w 95 80))
  | _ => none

/-- The first word of an instruction: its opcode and fields, every other bit zero (R98, R106, R112). -/
def encodeWord : CoreInstr → Nat
  | .nop => 0
  | .endUnit => 0x01 * 2 ^ 120
  | .ldodr dd addr => 0x02 * 2 ^ 120 + dd * 2 ^ 115 + addr * 2 ^ 80
  | .seta an v => 0x03 * 2 ^ 120 + an * 2 ^ 116 + v
  | .adda an v => 0x04 * 2 ^ 120 + an * 2 ^ 116 + v
  | .setc sel v => 0x05 * 2 ^ 120 + sel * 2 ^ 119 + v
  | .xfer an dir addr len => 0x06 * 2 ^ 120 + an * 2 ^ 116 + dir * 2 ^ 115 + addr * 2 ^ 80 + len * 2 ^ 64
  | .addodr dd off => 0x07 * 2 ^ 120 + dd * 2 ^ 115 + off * 2 ^ 80
  | .loop count back => 0x08 * 2 ^ 120 + count * 2 ^ 80 + back * 2 ^ 64
  | .fence => 0x09 * 2 ^ 120
  | .mma dst a b acc ta tb accEn m n k =>
    0x10 * 2 ^ 120 + dst * 2 ^ 115 + a * 2 ^ 110 + b * 2 ^ 105 + acc * 2 ^ 100 + ta * 2 ^ 99 + tb * 2 ^ 98 + accEn * 2 ^ 97 +
      m * 2 ^ 80 + n * 2 ^ 64 + k * 2 ^ 48
  | .vchain dst x y z count rows c0 c1 _ =>
    0x20 * 2 ^ 120 + dst * 2 ^ 115 + x * 2 ^ 110 + y * 2 ^ 105 + z * 2 ^ 100 + count * 2 ^ 83 + rows * 2 ^ 67 + c0 * 2 ^ 32 + c1
  | .s12 addr => 0x28 * 2 ^ 120 + addr * 2 ^ 80

/-- The second word of an instruction; only a VCHAIN has one (R98). -/
def encodeWord1 : CoreInstr → Nat
  | .vchain _ _ _ _ _ _ _ _ stages => stages
  | _ => 0

/-- Words of an instruction with an opcode (R98). -/
def opcodeWords (op : Nat) : Nat := if op = 0x20 then 2 else 1

/-- Every field of an instruction lies within the bits that R98, R106 and R112 give it. -/
def CoreInstr.fits : CoreInstr → Bool
  | .nop | .endUnit | .fence => true
  | .ldodr dd addr => decide (dd < 32 ∧ addr < 65536)
  | .seta an v | .adda an v => decide (an < 16 ∧ v < 2 ^ 64)
  | .setc sel v => decide (sel < 2 ∧ v < 2 ^ 32)
  | .xfer an dir addr len => decide (an < 16 ∧ dir < 2 ∧ addr < 65536 ∧ len < 65536)
  | .addodr dd off => decide (dd < 32 ∧ off < 65536)
  | .loop count back => decide (count < 65536 ∧ back < 65536)
  | .mma dst a b acc ta tb accEn m n k =>
    decide (dst < 32 ∧ a < 32 ∧ b < 32 ∧ acc < 32 ∧ ta < 2 ∧ tb < 2 ∧ accEn < 2 ∧ m < 65536 ∧ n < 65536 ∧ k < 65536)
  | .vchain dst x y z count rows c0 c1 stages =>
    decide (dst < 32 ∧ x < 32 ∧ y < 32 ∧ z < 32 ∧ count < 8192 ∧ rows < 65536 ∧ c0 < 2 ^ 32 ∧ c1 < 2 ^ 32 ∧ stages < 2 ^ 128)
  | .s12 addr => decide (addr < 65536)

/-! ### Stage words (R113 to R115) -/

/-- OP of a stage word. -/
def stOp (w : Nat) : Nat := bits w 15 10
/-- S1 of a stage word. -/
def stS1 (w : Nat) : Nat := bits w 9 7
/-- S2 of a stage word. -/
def stS2 (w : Nat) : Nat := bits w 6 4
/-- S3 of a stage word. -/
def stS3 (w : Nat) : Nat := bits w 3 1

/-- Operands an OP uses; none for a reserved OP (R115). -/
def opArity (op : Nat) : Option Nat :=
  match op with
  | 0x00 => some 0
  | 0x01 | 0x02 | 0x03 | 0x04 | 0x06 | 0x07 | 0x14 | 0x15 | 0x24 => some 2
  | 0x05 | 0x13 => some 3
  | 0x08 | 0x09 | 0x0A | 0x0B | 0x0C | 0x0D | 0x0E | 0x0F | 0x10 | 0x11 | 0x12 | 0x16 | 0x20 | 0x21 | 0x22 | 0x23 => some 1
  | _ => none

/-- The cost of an OP in element-operations per element (R115). -/
def opCost (op : Nat) : Nat :=
  if op = 0 then 0 else if op = 4 ∨ (0x0A ≤ op ∧ op ≤ 0x12) then 4 else 1

/-- Reduction and scan OPs (R114). -/
def opLast (op : Nat) : Bool := 0x20 ≤ op && op ≤ 0x24

/-- SUM, SUMSQ and AMAX write one element per row (R119). -/
def opReduces (op : Nat) : Bool := 0x20 ≤ op && op ≤ 0x22

/-- The stage words of a chain up to its END (R114). -/
def stagesOf (ws : List Nat) : List Nat := ws.takeWhile fun w => stOp w ≠ 0

/-- The eight stage words of a VCHAIN's second word (R112). -/
def stageWords (w1 : Nat) : List Nat := (List.range 8).map fun i => bits w1 (16 * i + 15) (16 * i)

/-- The selects that a stage's operands use. -/
def stSelects (w : Nat) : List Nat := [stS1 w, stS2 w, stS3 w].take ((opArity (stOp w)).getD 0)

/-- R597, CAUSE 3: bit 0 of a stage word set, or a select for an operand that its OP does not use. -/
def stageZero (w : Nat) : Bool :=
  bit w 0 || match opArity (stOp w) with
    | some n => ([stS1 w, stS2 w, stS3 w].drop n).any (· ≠ 0)
    | none => false

/-- R597, CAUSE 8: a sequence that breaks R113 or R114. -/
def stageSequence (ws : List Nat) : Bool :=
  let ss := stagesOf ws
  ss.isEmpty || (ws.drop ss.length).any (· ≠ 0) ||
    (stSelects (ss.headD 0)).contains 0 || ss.dropLast.any fun w => opLast (stOp w)

end Sys2Proof.Machine
end

