-- ==== Sys2Proof/Machine/Operands.lean ====
section
/-! DEFINITION. Operand descriptors of core instructions (R102 to R105): their fields, the elements they name, the rows
written through them (R63 to R66, R77, R81) and the figures a written value enters (R78, R80, R111). -/

namespace Sys2Proof.Machine

/-- Bytes of core memory (R93). -/
def coreMemory : Nat := 3145728

/-- BASE (R102). -/
def oBase (b : Bytes) : Nat := u16At b 0
/-- SCALE_BASE. -/
def oScaleBase (b : Bytes) : Nat := u16At b 2
/-- ROWS. -/
def oRows (b : Bytes) : Nat := u16At b 4
/-- COLS. -/
def oCols (b : Bytes) : Nat := u16At b 6
/-- ROW_STRIDE. -/
def oStride (b : Bytes) : Nat := u32At b 8
/-- FORMAT. -/
def oFormat (b : Bytes) : Nat := u8At b 0xC % 16
/-- FLAGS.SCALED (R103). -/
def oScaled (b : Bytes) : Bool := bit (u8At b 0xD) 0
/-- FLAGS.ROW_BCAST (R104). -/
def oRowB (b : Bytes) : Bool := bit (u8At b 0xD) 1
/-- FLAGS.COL_BCAST (R104). -/
def oColB (b : Bytes) : Bool := bit (u8At b 0xD) 2
/-- TAG. -/
def oTag (b : Bytes) : Nat := u16At b 0xE % 4096
/-- SCALE_STRIDE. -/
def oScaleStride (b : Bytes) : Nat := u32At b 0x10

/-- A reserved field of a descriptor is not zero (R102). -/
def oReserved (b : Bytes) : Bool :=
  decide (u8At b 0xC / 16 ≠ 0 ∨ u8At b 0xD / 8 ≠ 0 ∨ u16At b 0xE / 4096 ≠ 0) || !zeros b 0x14 12

/-- Packed bytes of `n` elements of a format. -/
def packedBytes (f n : Nat) : Nat := (fmtBits f * n + 7) / 8

/-- The byte ranges that `r` rows of `c` elements take, scales included (R102, R104). -/
def operandRanges (b : Bytes) (r c : Nat) : List (Nat × Nat) :=
  let r := if oRowB b then min 1 r else r
  let c := if oColB b then min 1 c else c
  (List.range r).flatMap fun i =>
    (oBase b * 64 + i * oStride b, packedBytes (oFormat b) c) ::
      (if blockSize (oFormat b) = 0 then []
       else [(oScaleBase b * 64 + i * oScaleStride b, ceilDiv c (blockSize (oFormat b)))])

/-- Element (i, j) of an operand as an exact value, scales included (R61, R63, R103, R104). -/
def Device.operandElem (d : Device) (c : Nat) (b : Bytes) (i j : Nat) : Exact :=
  let f := oFormat b
  let i := if oRowB b then 0 else i
  let j := if oColB b then 0 else j
  let w := fmtBits f
  let at0 := oBase b * 64 + i * oStride b + j * w / 8
  let code := leNat (readMem d.mem ((w + 7) / 8 + 1) (coreKey c at0)) / 2 ^ (j * w % 8) % 2 ^ w
  if blockSize f = 0 then
    let v := (fmtOf f).dec code
    if oScaled b then v.scale (-(d.tagExp (oTag b))) else v
  else
    decScaled f (d.byte (coreKey c (oScaleBase b * 64 + i * oScaleStride b + j / blockSize f))).toNat code

/-- Element (i, j) of an operand widened to FP32 (R63). -/
def Device.operandF32 (d : Device) (c : Nat) (b : Bytes) (i j : Nat) : Nat := fp32.enc (d.operandElem c b i j)

/-- The figures of values written with a tag: the amax of those cast under R77 (FP32 bits, -0 for none), how many of
those saturated, how many saturating casts in all, and whether a value written in FP16 or FP32 is NaN or infinite. -/
structure Figures where
  tag : Nat
  amax : Nat
  sats : Nat
  all : Nat
  nf : Bool
  deriving DecidableEq, Repr

/-- FP32 values narrowed to a format without block scales: the codes and how many saturated (R64 to R66). -/
def narrow (f : Nat) (vs : List Exact) : List Nat × Nat :=
  if f = 3 ∨ f = 4 then
    let cs := vs.map (fmtOf f).sat
    (cs.map (·.1), (cs.filter (·.2)).length)
  else (vs.map fun v => (fmtOf f).enc v, 0)

/-- One row of FP32 values written through a destination descriptor: the bytes by core memory address, and the figures
(R64 to R66, R77, R78, R81, R111). -/
def Device.writeRow (d : Device) (b : Bytes) (i : Nat) (vs : List Nat) : List (Nat × Bytes) × Figures :=
  let f := oFormat b
  let row := oBase b * 64 + i * oStride b
  let xs := vs.map d32
  if blockSize f = 0 then
    let scaled := oScaled b && d.tagOn (oTag b)
    let r := narrow f (if oScaled b then xs.map (·.scale (d.tagExp (oTag b))) else xs)
    let nf := (f == 0 || f == 2) && r.1.any fun v => !((fmtOf f).dec v).isFin
    ([(row, packBits (fmtBits f) r.1)],
      ⟨oTag b, if scaled then vs.foldl (fun a v => amaxOf a (fp32.enc (d32 v).abs)) f32NegZero else f32NegZero,
        if scaled then r.2 else 0, r.2, nf⟩)
  else
    let n := blockSize f
    let bs := (List.range (ceilDiv vs.length n)).map fun k => castBlock f ((xs.drop (n * k)).take n)
    ([(row, packBits (fmtBits f) (bs.flatMap (·.2.1))),
      (oScaleBase b * 64 + i * oScaleStride b, bs.map fun x => BitVec.ofNat 8 x.1)],
      ⟨oTag b, f32NegZero, 0, (bs.map (·.2.2)).sum, false⟩)

end Sys2Proof.Machine
end

