-- ==== Sys2Proof/Machine/CoreOps.lean ====
section
/-! DEFINITION. What core instructions compute: the checks of R597, the matrix product (R107), Chanter chains (R112 to R119)
and S12 chains (R121 to R123), each as the bytes it leaves in core memory and the figures of R111. -/

namespace Sys2Proof.Machine

/-! ### Legality (R597) -/

/-- The CAUSE recorded of the faults found: the first in R597's order; 0 for none. -/
def firstCause (fs : List Nat) : Nat := ([12, 1, 9, 3, 8, 7, 6, 5, 4, 2].find? fs.contains).getD 0

/-- A fault number where a condition holds. -/
def faultIf (b : Bool) (c : Nat) : List Nat := if b then [c] else []

/-- The faults of a descriptor of which an instruction reads or writes `r` rows of `c` elements (R93, R102, R104, R105).
`ok` lists the formats accepted (DEDUCED, log entry 75). -/
def descFaults (b : Bytes) (r c : Nat) (ok : List Nat) (dst : Bool) : List Nat :=
  if b.isEmpty then [4]
  else
    let r' := if oRowB b then 1 else r
    let c' := if oColB b then 1 else c
    faultIf (oReserved b) 4 ++ faultIf (!ok.contains (oFormat b)) 4 ++
      faultIf (oScaled b && oFormat b != 3 && oFormat b != 4) 4 ++
      faultIf (decide (oRows b < r' ∨ oCols b < c')) 4 ++
      faultIf ((operandRanges b r c).any fun x => decide (coreMemory < x.1 + x.2)) 5 ++
      faultIf (dst && (oRowB b || oColB b)) 2 ++
      faultIf (decide (oStride b % 64 ≠ 0 ∨ oStride b < packedBytes (oFormat b) (oCols b))) 2 ++
      faultIf (decide (blockSize (oFormat b) = 0) && (oScaleBase b != 0 || oScaleStride b != 0)) 2

/-- The formats of an MX block. -/
def isMx (f : Nat) : Bool := 5 ≤ f && f ≤ 9

/-- Formats an MMA accepts for A and B (R108). -/
def mmaSources : List Nat := [1, 2, 3, 4, 5, 6, 7, 8, 9, 11]
/-- Formats an MMA accepts for C and D (R108). -/
def mmaResults : List Nat := [0, 1, 2, 3, 4, 11]
/-- Formats a chain accepts (R119). -/
def chainFormats : List Nat := [0, 1, 2, 3, 4, 5, 6, 7, 8, 9, 11]

/-- The faults of an MMA (R105 to R109). -/
def mmaFaults (ta tb accEn : Bool) (m n k : Nat) (dst a b acc : Bytes) : List Nat :=
  faultIf (decide (m = 0 ∨ n = 0 ∨ k = 0)) 4 ++
    descFaults a (if ta then k else m) (if ta then m else k) mmaSources false ++
    descFaults b (if tb then n else k) (if tb then k else n) mmaSources false ++
    (if accEn then descFaults acc m n mmaResults false else []) ++
    descFaults dst m n mmaResults true ++
    faultIf (!a.isEmpty && isMx (oFormat a) && (ta || decide (k % 32 ≠ 0))) 6 ++
    faultIf (!b.isEmpty && isMx (oFormat b) && (!tb || decide (k % 32 ≠ 0))) 6 ++
    faultIf (!dst.isEmpty && oFormat dst == 11 && decide (n % 64 ≠ 0)) 6

/-- The faults of a list of stage words (R113 to R115, R597). -/
def stageFaults (ws : List Nat) : List Nat :=
  faultIf (ws.any stageZero) 3 ++ faultIf (stageSequence ws) 8 ++
    faultIf (ws.any fun w => (opArity (stOp w)).isNone) 2

/-- Whether some stage of a chain selects a source. -/
def selects (ws : List Nat) (s : Nat) : Bool := (stagesOf ws).any fun w => (stSelects w).contains s

/-- A chain whose last stage is SUM, SUMSQ or AMAX (R119). -/
def chainReduces (ws : List Nat) : Bool := opReduces (stOp ((stagesOf ws).getLast?.getD 0))

/-- The faults of a VCHAIN (R112 to R119). -/
def chainFaults (count rows : Nat) (ws : List Nat) (dst x y z : Bytes) : List Nat :=
  let red := chainReduces ws
  stageFaults ws ++
    faultIf (decide (count = 0 ∨ 4096 < count ∨ rows = 0)) 2 ++
    (if selects ws 1 then descFaults x rows count chainFormats false else []) ++
    (if selects ws 2 then descFaults y rows count chainFormats false else []) ++
    (if selects ws 3 then descFaults z rows count chainFormats false else []) ++
    descFaults dst rows (if red then 1 else count) chainFormats true ++
    faultIf (!dst.isEmpty && red && (isMx (oFormat dst) || oFormat dst == 11)) 6 ++
    faultIf (!dst.isEmpty && !red && isMx (oFormat dst) && decide (count % 32 ≠ 0)) 6 ++
    faultIf (!dst.isEmpty && !red && oFormat dst == 11 && decide (count % 64 ≠ 0)) 6

/-! ### The matrix product -/

/-- clk per K index in halves (R108). -/
def formatCost (f : Nat) : Nat := if f = 1 ∨ f = 2 then 4 else if f = 9 then 1 else 2

/-- The duration of an MMA (R110). -/
def mmaClk (m n k fa fb : Nat) : Nat :=
  ceilDiv m 128 * ceilDiv n 64 * ceilDiv (k * max (formatCost fa) (formatCost fb)) 2 + 40

/-- The FP32 results of an MMA by row (R107): each one reduction under R68 (DEDUCED, log entry 72). -/
def Device.mmaRows (d : Device) (c : Nat) (ta tb : Bool) (m n k : Nat) (a b acc : Bytes) : List (List Nat) :=
  let A := (List.range m).map fun i => (List.range k).map fun j =>
    if ta then d.operandElem c a j i else d.operandElem c a i j
  let B := (List.range n).map fun j => (List.range k).map fun i =>
    if tb then d.operandElem c b j i else d.operandElem c b i j
  (List.range m).map fun i => (List.range n).map fun j =>
    reduce (if acc.isEmpty then f32NegZero else d.operandF32 c acc i j)
      (List.zipWith Exact.mul (A.getD i []) (B.getD j []))

/-! ### Stage operations -/

/-- a > 0. -/
def f32Pos (a : Nat) : Bool := (Exact.fin false 0 0).lt (d32 a)

/-- One element operation of R115 on FP32 bits (R67, R116, R117). -/
def stageOp (op a b c : Nat) : Nat :=
  let x := d32 a
  let y := d32 b
  let z := d32 c
  fp32.enc <| match op with
  | 0x01 => x.add y
  | 0x02 => x.sub y
  | 0x03 => x.mul y
  | 0x04 => x.div y
  | 0x05 => (x.mul y).add z
  | 0x06 => Exact.min x y
  | 0x07 => Exact.max x y
  | 0x08 => x.neg
  | 0x09 => x.abs
  | 0x0A => x.sqrt
  | 0x0B => exactRsqrt x
  | 0x0C => (exactOne false).div x
  | 0x0D => exactExp x
  | 0x0E => exactExp2 x
  | 0x0F => exactLog x
  | 0x10 => exactLog2 x
  | 0x11 => exactTanh x
  | 0x12 => exactSigmoid x
  | 0x13 => if x.isNan then .nan else if f32Pos a then y else z
  | 0x14 => if y.lt x then exactOne false else .fin false 0 0
  | 0x15 => if !x.isNan && !y.isNan && !x.lt y && !y.lt x then exactOne false else .fin false 0 0
  | _ => if x.isNan then .nan else if f32Pos a then x else .fin false 0 0

/-- A reduction or scan over a row (R118): `as` the first operand's values, `bs` the second's. -/
def rowOp (op : Nat) (as bs : List Nat) : List Nat :=
  match op with
  | 0x20 => [reduce f32NegZero (as.map d32)]
  | 0x21 => [reduce f32NegZero (as.map fun a => (d32 a).mul (d32 a))]
  | 0x22 => [fp32.enc (as.foldl (fun m a => Exact.max m (d32 a).abs) (.fin false 0 0))]
  | 0x23 => prefixSum [] as
  | _ => prefixSum ((List.range bs.length).filter fun i => !(d32 (bs.getD i 0)).isZero) as

/-- The values an operand select names over a row of `n` elements: P, X, Y, Z or a constant (R113). -/
def selectRow (n : Nat) (p x y z consts : List Nat) (s : Nat) : List Nat :=
  match s with
  | 0 => p
  | 1 => x
  | 2 => y
  | 3 => z
  | k => List.replicate n (consts.getD (k - 4) 0)

/-- One row through a chain: the sources' FP32 values and C0 to C3. -/
def chainRow (n : Nat) (ws x y z consts : List Nat) : List Nat :=
  (stagesOf ws).foldl (fun p w =>
    let v := selectRow n p x y z consts
    let ar := (opArity (stOp w)).getD 0
    let as := v (stS1 w)
    let bs := if 2 ≤ ar then v (stS2 w) else as
    let cs := if 3 ≤ ar then v (stS3 w) else as
    if opLast (stOp w) then rowOp (stOp w) as bs
    else (List.range n).map fun i => stageOp (stOp w) (as.getD i 0) (bs.getD i 0) (cs.getD i 0)) []

/-- The sum of the stages' costs (R115). -/
def stageCost (ws : List Nat) : Nat := ((stagesOf ws).map fun w => opCost (stOp w)).sum

/-- The duration of a VCHAIN (R120). -/
def chainClk (rows count : Nat) (ws : List Nat) : Nat := rows * ceilDiv count 64 * stageCost ws + 24

/-- The FP32 results of a VCHAIN by row (R119). -/
def Device.chainRows (d : Device) (c count rows : Nat) (ws consts : List Nat) (x y z : Bytes) : List (List Nat) :=
  (List.range rows).map fun r =>
    let src := fun (b : Bytes) => if b.isEmpty then [] else (List.range count).map fun i => d.operandF32 c b r i
    chainRow count ws (src x) (src y) (src z) consts

/-! ### S12 descriptors (R121, R122) -/

/-- The stage words of an S12 descriptor. -/
def s12Stages (b : Bytes) : List Nat := (List.range (u8At b 1)).map fun i => u16At b (4 + 2 * i)
/-- COUNT of a dimension. -/
def s12Count (b : Bytes) (i : Nat) : Nat := u16At b (0x14 + 2 * i)
/-- BASE of X, Y or D (0, 1, 2). -/
def s12Base (b : Bytes) (o : Nat) : Nat := u16At b (0xC + 2 * o)
/-- FORMAT of X, Y or D. -/
def s12Format (b : Bytes) (o : Nat) : Nat := bits (u16At b 0x12) (4 * o + 3) (4 * o)
/-- STRIDE of X, Y or D in a dimension, in elements. -/
def s12Stride (b : Bytes) (o i : Nat) : Int := toInt 16 (u16At b (0x20 + 8 * o + 2 * i))
/-- D_TAG. -/
def s12Tag (b : Bytes) : Nat := u16At b 0x1C % 4096

/-- The byte address of an element of X, Y or D. -/
def s12Addr (b : Bytes) (o : Nat) (ix : Nat × Nat × Nat × Nat) : Int :=
  (s12Base b o * 64 : Nat) + ((ix.1 : Int) * s12Stride b o 0 + (ix.2.1 : Int) * s12Stride b o 1 +
    (ix.2.2.1 : Int) * s12Stride b o 2 + (ix.2.2.2 : Int) * s12Stride b o 3) * (fmtBits (s12Format b o) / 8 : Nat)

/-- The indices (i1, i2, i3) of an S12 descriptor, i1 innermost. -/
def s12Outer (b : Bytes) : List (Nat × Nat × Nat) :=
  (List.range (s12Count b 3)).flatMap fun i3 => (List.range (s12Count b 2)).flatMap fun i2 =>
    (List.range (s12Count b 1)).map fun i1 => (i1, i2, i3)

/-- The elements of X, Y or D along dimension 0 that an S12 chain touches. -/
def s12Inner (b : Bytes) (o : Nat) : Nat := if o = 2 ∧ chainReduces (s12Stages b) then 1 else s12Count b 0

/-- The least and the greatest byte address of X, Y or D that an S12 chain touches, the last byte past it. -/
def s12Span (b : Bytes) (o : Nat) : Int × Int :=
  let n := fun i => if i = 0 then s12Inner b o else s12Count b i
  let step := fun i => ((n i : Int) - 1) * s12Stride b o i * (fmtBits (s12Format b o) / 8 : Nat)
  let lo := ((List.range 4).map fun i => min (step i) 0).sum
  let hi := ((List.range 4).map fun i => max (step i) 0).sum
  ((s12Base b o * 64 : Nat) + lo, (s12Base b o * 64 : Nat) + hi + (fmtBits (s12Format b o) / 8 : Nat))

/-- Whether an S12 stage word keeps R122's operations and selects. -/
def s12StageOk (w : Nat) : Bool :=
  decide (1 ≤ stOp w ∧ stOp w ≤ 0x16 ∨ 0x20 ≤ stOp w ∧ stOp w ≤ 0x23) && (stSelects w).all fun s => [0, 1, 2, 4, 5].contains s

/-- Whether an S12 descriptor breaks R121 or R122 (R597, CAUSE 9). -/
def s12Bad (b : Bytes) : Bool :=
  let ws := s12Stages b
  let all4 := (List.range 4).map fun i => u16At b (4 + 2 * i)
  decide (u8At b 0 ≠ 0x12 ∨ u8At b 1 = 0 ∨ 4 < u8At b 1) || !zeros b 2 2 || (all4.drop (u8At b 1)).any (· ≠ 0) ||
    ws.any (fun w => !s12StageOk w) || !(stageFaults ws).isEmpty ||
    decide (u16At b 0x12 / 2 ^ 12 ≠ 0) || (List.range 3).any (fun o => decide (4 < s12Format b o)) ||
    (List.range 4).any (fun i => decide (s12Count b i = 0)) || decide (u16At b 0x1C / 4096 ≠ 0) || !zeros b 0x1E 2 ||
    (List.range 3).any fun o =>
      (o == 2 || selects ws (o + 1)) && (decide ((s12Span b o).1 < 0) || decide ((coreMemory : Int) < (s12Span b o).2))

/-- The duration of an S12CHAIN (R124). -/
def s12Clk (b : Bytes) : Nat :=
  s12Count b 1 * s12Count b 2 * s12Count b 3 * (ceilDiv (s12Count b 0) 64 * stageCost (s12Stages b) + 16) + 24

/-- The byte ranges of X, Y or D that an S12 chain touches. -/
def s12Ranges (b : Bytes) (o : Nat) : List (Nat × Nat) :=
  (s12Outer b).flatMap fun j => (List.range (s12Inner b o)).map fun i =>
    ((s12Addr b o (i, j)).toNat, fmtBits (s12Format b o) / 8)

/-- An FP32 value of X or Y of an S12 descriptor. -/
def Device.s12Elem (d : Device) (c : Nat) (b : Bytes) (o : Nat) (ix : Nat × Nat × Nat × Nat) : Nat :=
  let f := s12Format b o
  fp32.enc ((fmtOf f).dec (leNat (readMem d.mem (fmtBits f / 8) (coreKey c (s12Addr b o ix).toNat))))

/-- The results of an S12 chain: (byte address, FP32 value) of each element of D. -/
def Device.s12Results (d : Device) (c : Nat) (b : Bytes) (consts : List Nat) : List (Nat × Nat) :=
  let ws := s12Stages b
  let n := s12Count b 0
  (s12Outer b).flatMap fun j =>
    let row := fun o => if selects ws (o + 1) then (List.range n).map fun i => d.s12Elem c b o (i, j) else []
    let vs := chainRow n ws (row 0) (row 1) [] consts
    (List.range vs.length).map fun i => ((s12Addr b 2 (i, j)).toNat, vs.getD i 0)

/-! ### What an instruction in flight reads and writes (R101) -/

/-- The bytes of core memory an instruction in flight reads. -/
def FlightOp.reads : FlightOp → List (Nat × Nat)
  | .xfer out _ addr len => if out then [(addr * 64, len * 64)] else []
  | .mma ta tb m n k _ a b acc =>
    operandRanges a (if ta then k else m) (if ta then m else k) ++
      operandRanges b (if tb then n else k) (if tb then k else n) ++
      (if acc.isEmpty then [] else operandRanges acc m n)
  | .chain count rows _ _ _ x y z =>
    [x, y, z].flatMap fun b => if b.isEmpty then [] else operandRanges b rows count
  | .s12 b _ => ([0, 1].filter fun o => selects (s12Stages b) (o + 1)).flatMap (s12Ranges b)

/-- The bytes of core memory an instruction in flight writes. -/
def FlightOp.writes : FlightOp → List (Nat × Nat)
  | .xfer out _ addr len => if out then [] else [(addr * 64, len * 64)]
  | .mma _ _ m n _ dst _ _ _ => operandRanges dst m n
  | .chain count rows ws _ dst _ _ _ => operandRanges dst rows (if chainReduces ws then 1 else count)
  | .s12 b _ => s12Ranges b 2

/-- Two lists of byte ranges share a byte. -/
def rangesMeet (xs ys : List (Nat × Nat)) : Bool :=
  xs.any fun x => ys.any fun y => decide (x.1 < y.1 + y.2 ∧ y.1 < x.1 + x.2 ∧ x.2 ≠ 0 ∧ y.2 ≠ 0)

/-- R101: an instruction that reads and writes these bytes waits for one in flight. -/
def Device.mustWait (d : Device) (c : Nat) (reads writes : List (Nat × Nat)) : Bool :=
  (d.core c).flight.any fun f =>
    rangesMeet (reads ++ writes) f.op.writes || rangesMeet writes f.op.reads

end Sys2Proof.Machine
end

