-- ==== Sys2Proof/Machine/MemOps.lean ====
section
/-! DEFINITION. A stack's controller (R234 to R262): error correction, recomputation, die sparing, the
write-combining buffer, the accumulate cache. -/

namespace Sys2Proof.Machine

/-! ### Lines and dies -/

/-- The region object whose frame holds a line (R206). -/
def Device.lineObj (d : Device) (tile line : Nat) : Option Nat :=
  (d.tier.objs.find? fun e => e.2.live && e.2.frames.any fun f =>
    f.1 == tile && decide (f.2 ≤ line ∧ line < f.2 + Config.frameLines)).map (·.1)

/-- The ECC class a line is decoded under (R238). -/
def Device.lineClass (d : Device) (tile line : Nat) : Nat :=
  match d.lineObj tile line with
  | some n => (d.obj n).ecc
  | none => 0

/-- The logical die of a line (R235). -/
def lineDie (line : Nat) : Nat := line / 4 % 8

/-- The physical die that serves a logical die (R256): the spare once it has replaced it. -/
def Device.physDie (d : Device) (tile die : Nat) : Nat :=
  if d.rd (F.MEM_SPARE_STATE tile) = 2 ∧ d.rd (F.MEM_SPARE_DIE tile) = die then 8 else die

/-- Record the last lasting or detected error (R263). -/
def Device.errLine (d : Device) (tile line : Nat) : Device :=
  ((d.wr (F.MEM_ERR_LINE_VALID tile) 1).wr (F.MEM_ERR_LINE_CLASS tile) (d.lineClass tile line)).wr
    (F.MEM_ERR_LINE_LINE tile) line

/-- Lines of a die (R256). -/
def Device.spareBegin (d : Device) (tile die cause : Nat) : Device :=
  let d := ((d.wr (F.MEM_SPARE_STATE tile) 1).wr (F.MEM_SPARE_DIE tile) die).wr (F.MEM_SPARE_CAUSE tile) cause
  let d := d.wr (F.MEM_SPARE_LEFT_LINES tile) Config.dieLines
  let d := d.setTile tile { d.tile tile with copy := some (die, 0) }
  (d.raise (F.MEM_INT_STATUS_SPARE_START tile)).log 0x0202 0 9 tile cause 0

/-- R255: start die sparing of a logical die. Without a usable spare NO_SPARE sets, the event passes to the fault
policy, and the tile is drained, whatever its class's action (R544). -/
def Device.spareStart (d : Device) (tile die cause : Nat) : Device :=
  if d.rd (F.MEM_SPARE_STATE tile) = 0 then d.spareBegin tile die cause
  else
    ((d.raise (F.MEM_INT_STATUS_NO_SPARE tile)).lasting 4 9 tile cause 0 5 tile |>.drainRequest 0 tile).2

/-- R239, R255: a corrected error on a line's die. -/
def Device.countCE (d : Device) (tile line : Nat) : Device :=
  let die := lineDie line
  let p := d.physDie tile die
  let d := d.inc (F.MEM_DIE_CE_COUNT tile p)
  let n := Store.get (fun _ => 0) (d.tile tile).ceSince p + 1
  let d := d.setTile tile { d.tile tile with ceSince := Store.set (fun _ => 0) (d.tile tile).ceSince p n }
  if n = d.rd (F.MEM_CE_THRESH_COUNT tile) then d.spareStart tile die 1 else d

/-- R241, steps 1 to 4: a lasting error of a line, which keeps its data symbols. -/
def Device.lastingLine (d : Device) (tile line : Nat) : Device :=
  let d := (d.setPoison (t1Key tile line 0) true).inc (F.MEM_UE_CNT_COUNT tile)
  let d := (d.errLine tile line).raise (F.MEM_INT_STATUS_UE tile)
  let d := d.lasting 0x0200 9 tile 0 line 5 tile true
  (d.spareStart tile (lineDie line) 2).haltReq

/-! ### Decoding -/

/-- How a codeword with `n` damaged symbols decodes (R238). -/
inductive Decoded where
  | good
  | corrected
  | failed
  | wrong
  deriving DecidableEq, Repr

/-- R238: beyond the symbols a class guarantees, a free value says whether the error is found. -/
def Device.decodeLine (d : Device) (cls n : Nat) : Decoded × Device :=
  if n = 0 then (.good, d)
  else if cls = 0 then
    if n = 1 then (.corrected, d) else if n = 2 then (.failed, d)
    else (if d.fresh % 2 = 0 then .failed else .wrong, d.used)
  else if n ≤ 3 then (.failed, d)
  else (if d.fresh % 2 = 0 then .failed else .wrong, d.used)

/-- Damaged symbols among the 36 of a codeword (R237). -/
def badCount (bad : List Nat) : Nat := (bad.filter (· < 36)).eraseDups.length

/-- The bytes of a line as its reader sees them (DEDUCED, log entry 97). -/
def Device.lineBytes (d : Device) (tile line : Nat) : Bytes := d.readKey 64 (t1Key tile line 0)

/-- Hand a line to its reader, where there is one: patrol has none. -/
def Device.giveLine (d : Device) (giv : Bool) (tile line : Nat) (detected : Bool) : Device :=
  if !giv then d else d.emit (.lineRead tile line (d.lineBytes tile line) detected)

/-- Hand wrong bytes to the reader: an error that passed undetected (R238). -/
def Device.giveWrong (d : Device) (giv : Bool) (tile line : Nat) : Device :=
  if !giv then d.used else (d.emit (.lineRead tile line (leBytes 64 d.fresh) false)).used

/-- R241: the read of a class 0 line that failed to decode once. -/
def Device.secondRead (d : Device) (giv : Bool) (tile line : Nat) (bad2 : List Nat) : Device :=
  let r := d.decodeLine 0 (badCount bad2)
  match r.1 with
  | .failed => (r.2.lastingLine tile line).giveLine giv tile line true
  | .wrong => r.2.giveWrong giv tile line
  | .corrected => ((r.2.log 0x0206 1 9 tile 0 line).countCE tile line).giveLine giv tile line false
  | .good => (r.2.log 0x0206 1 9 tile 0 line).giveLine giv tile line false

/-- A class 0 read (R239, R241, R242). -/
def Device.read0 (d : Device) (giv : Bool) (tile line : Nat) (bad1 bad2 : List Nat) : Device :=
  if line ∈ (d.tile tile).late then
    let d := d.setTile tile { d.tile tile with late := (d.tile tile).late.filter (· ≠ line) }
    (d.lastingLine tile line).giveLine giv tile line true
  else if d.poisoned (t1Key tile line 0) then d.giveLine giv tile line true
  else
    let r := d.decodeLine 0 (badCount bad1)
    match r.1 with
    | .good => r.2.giveLine giv tile line false
    | .corrected => (r.2.countCE tile line).giveLine giv tile line false
    | .failed => r.2.secondRead giv tile line bad2
    | .wrong => r.2.giveWrong giv tile line

/-! ### Recomputation (R243 to R245) -/

/-- The finished forward units of the step that share a unit's LEAF and MICRO (R243, step 2). -/
def Device.forwardOf (d : Device) (u : Nat) : List Nat :=
  let w := d.workUnit u
  (d.spine.units.filter fun e =>
    let v := d.workUnit e.1
    e.2 = .done ∧ v.leaf = w.leaf ∧ v.micro = w.micro ∧ bit v.flags 0 = false ∧ bit v.flags 3 = false ∧ e.1 ≠ u).map (·.1)

/-- R243: the unit ends without completing and waits at the head of the ready queue until the forward units of its
LEAF and MICRO have run again. -/
def Device.recompute (d : Device) (tile u : Nat) : Device :=
  let us := d.forwardOf u
  let d := d.requeue [u]
  let d := us.foldl (fun d v => d.setUnit v .recompute) d
  let d := { d with spine := { d.spine with
    rerun := d.spine.rerun ++ us
    recompLeft := d.spine.recompLeft ++ [(u, us)]
    recomps := d.spine.recomps + 1 } }
  let d := d.inc (F.MEM_RECOMP_CNT_COUNT tile)
  (d.raise (F.MEM_INT_STATUS_DETECTED tile)).log 0x0201 1 9 tile 0 u

/-- A detected error of a class 1 line (R243, R245). -/
def Device.detected (d : Device) (tile line : Nat) (reader : Reader) : Device :=
  let n := Store.get (fun _ => 0) (d.tile tile).detected line + 1
  let count := fun (d : Device) =>
    let d := d.setTile tile { d.tile tile with detected := Store.set (fun _ => 0) (d.tile tile).detected line n }
    (d.inc (F.MEM_DET_CNT_COUNT tile)).errLine tile line
  match reader with
  | .move => (d.setPoison (t1Key tile line 0) true).giveLine true tile line true
  | .unit u =>
    if bit (d.workUnit u).flags 3 || decide (3 ≤ n) then
      ((count d).raise (F.MEM_INT_STATUS_DETECTED tile) |>.lastingLine tile line).giveLine true tile line true
    else
      let d := count d
      let d := if n = 2 then d.spareStart tile (lineDie line) 2 else d
      let d := if n = 2 then { d with spine := { d.spine with waitGood := d.spine.waitGood ++ [(u, tile, line)] } } else d
      (d.recompute tile u).emit (.lineRead tile line [] true)
  | _ =>
    ((count d).raise (F.MEM_INT_STATUS_DETECTED tile) |>.lastingLine tile line).giveLine true tile line true

/-- A class 1 read (R238, R243). -/
def Device.read1 (d : Device) (tile line : Nat) (reader : Reader) (bad1 : List Nat) : Device :=
  if d.poisoned (t1Key tile line 0) then d.detected tile line reader
  else
    let r := d.decodeLine 1 (badCount bad1)
    match r.1 with
    | .failed => r.2.detected tile line reader
    | .wrong => r.2.giveWrong true tile line
    | _ => r.2.giveLine true tile line false

/-! ### The write-combining buffer and the accumulate cache -/

/-- A line leaves the write-combining buffer. -/
def Device.dropWcb (d : Device) (tile line : Nat) : Device :=
  d.setTile tile { d.tile tile with wcb := (d.tile tile).wcb.filter (·.line ≠ line) }

/-- R251: flush an entry by read-modify-write. A read that fails lastingly, or is a detected error, leaves the merged
line poisoned, and its next reader meets the error. -/
def Device.flushWcb (d : Device) (tile line : Nat) (bad : List Nat) : Device :=
  let d := (d.dropWcb tile line).inc (F.MEM_WCB_FLUSH_COUNT tile)
  let c := d.lineClass tile line
  let r := d.decodeLine c (badCount bad)
  match r.1 with
  | .failed =>
    let d := r.2.setPoison (t1Key tile line 0) true
    if c = 0 then d.setTile tile { d.tile tile with late := (d.tile tile).late ++ [line] } else d
  | .corrected => r.2.countCE tile line
  | _ => r.2

/-- The bytes of `data` under a byte mask laid over a line (R250). -/
def Device.maskWrite (d : Device) (tile line mask : Nat) (data : Bytes) : Device :=
  { d with mem := (List.range 64).foldl (fun m i =>
      if bit mask i then Store.set memReset m (t1Key tile line i) (data.getD i 0) else m) d.mem }

/-- A full-line write (R240): POISON clears unless a move keeps it; the write-combining entry is freed (R251). -/
def Device.fullWrite (d : Device) (tile line : Nat) (data : Bytes) (keep : Bool) : Device :=
  let d := d.dropWcb tile line
  let d := d.setTile tile { d.tile tile with late := (d.tile tile).late.filter (· ≠ line) }
  ({ d with mem := writeMem d.mem (t1Key tile line 0) (padTo 64 data) }).setPoison (t1Key tile line 0) keep

/-- All 64 bytes of a line. -/
def fullMask : Nat := 2 ^ 64 - 1

/-- A partial write (R250, R251, R253). -/
def Device.partialWrite (d : Device) (tile line mask : Nat) (data : Bytes) (bad : List Nat) : Device :=
  if mask % 2 ^ 64 = fullMask then d.fullWrite tile line data false
  else if line ∈ (d.tile tile).acc then d.maskWrite tile line mask data
  else
    match (d.tile tile).wcb.find? (·.line = line) with
    | some e =>
      let d := d.maskWrite tile line mask data
      if e.mask ||| mask % 2 ^ 64 = fullMask then (d.dropWcb tile line).setPoison (t1Key tile line 0) false
      else
        d.setTile tile { d.tile tile with
          wcb := (d.tile tile).wcb.map fun x => if x.line = line then { x with mask := x.mask ||| mask % 2 ^ 64 } else x }
    | none =>
      let d := match (d.tile tile).wcb with
        | e :: _ => if 64 ≤ (d.tile tile).wcb.length then d.flushWcb tile e.line bad else d
        | [] => d
      let d := d.maskWrite tile line mask data
      d.setTile tile { d.tile tile with wcb := (d.tile tile).wcb ++ [⟨line, mask % 2 ^ 64⟩] }

/-- R253: a line becomes the most recently accumulated; beyond MEM_ACC_LINES the least recent goes to the DRAM. -/
def Device.touchAcc (d : Device) (tile line : Nat) : Device :=
  let cap := d.rd (F.MEM_ACC_LINES_LINES tile)
  if cap = 0 then d
  else
    let acc := (d.tile tile).acc.filter (· ≠ line)
    if acc.length < cap then d.setTile tile { d.tile tile with acc := acc ++ [line] }
    else (d.setTile tile { d.tile tile with acc := acc.drop 1 ++ [line] }).inc (F.MEM_ACC_EVICT_COUNT tile)

/-- The 16 FP32 values of a line (R252). -/
def lineF32 (b : Bytes) : List Nat := (List.range 16).map fun i => u32At b (4 * i)

/-- R252: an accumulate-write. POISON stays as it is (R240). -/
def Device.accumulate (d : Device) (tile line : Nat) (data : Bytes) (first : Bool) (leaf : Nat) (unitDma : Bool) : Device :=
  let d := if (d.tile tile).wcb.any (·.line = line) then d.flushWcb tile line [] else d
  let vs := lineF32 (padTo 64 data)
  let new := if first then vs else List.zipWith f32Add (lineF32 (d.lineBytes tile line)) vs
  let d := { d with mem := writeMem d.mem (t1Key tile line 0) (new.flatMap (leBytes 4)) }
  let d := d.touchAcc tile line
  if unitDma && new.any f32NonFinite then d.flagLeaf leaf 4096 else d

/-! ### Waiting -/

/-- R248: the bound of a priority class in clk. -/
def classBound (c : Nat) : Nat :=
  match c with
  | 0 => 256
  | 1 => 1024
  | 2 => 4096
  | _ => 32768

/-- R249: a request that waited its class's bound has aged (DESIGN CHOICE, log entry 60). -/
def Device.aged (d : Device) (tile cls waited : Nat) : Device :=
  if classBound cls ≤ waited then d.inc (F.MEM_AGED_COUNT tile (min cls 3)) else d

/-- A stack takes requests: its domain on and its dies trained (R257). -/
def Device.stackUp (d : Device) (tile line : Nat) : Bool :=
  decide (tile < Config.tiles ∧ line < Config.stackLines) && d.domOn (domOfTile tile) && d.rd (F.MEM_STATUS_STATE tile) == 1

end Sys2Proof.Machine
end

