-- ==== Sys2Proof/Machine/TestOps.lean ====
section
/-! DEFINITION. Self-tests of cores (R126 to R128) and the CORE item of a test window (R545, R546). -/

namespace Sys2Proof.Machine

/-- A self-test of a core is running: its own, or the start self-test (R41, R128). -/
def Device.coreTesting (d : Device) (c : Nat) : Bool :=
  d.rd (F.CORE_STATUS_STATE c) == 3 || d.rd (F.CORE_STATUS_STATE c) == 0

/-- R128: a self-test request: ignored while a test runs or for a retired core; otherwise the core finishes its unit and
leaves the pool. -/
def Device.selftestRequest (d : Device) (c : Nat) : Device :=
  if d.boot.retiredCores.contains c || (d.coreTesting c && !d.flag (F.CORE_CTL_SELFTEST_REQ c)) then
    d.wr (F.CORE_CTL_SELFTEST_REQ c) 0
  else
    let d := d.wr (F.CORE_CTL_SELFTEST_REQ c) 1
    if (d.unitAt c).isSome then d.wr (F.CORE_STATUS_STATE c) 4
    else if d.coreTesting c then d
    else d.coreIdle c

/-- The next core of a group's rotation: from where the last window stopped, retired cores skipped (R545, R546). -/
def Device.nextTestCore (d : Device) (g : Nat) : Option Nat :=
  let from' := Store.get (fun _ => 0) d.mgmt.testNextCore g
  ((List.range 12).map fun i => g * 12 + (from' + i) % 12).find? fun c => !d.boot.retiredCores.contains c

/-- TEST_STATUS.NEXT_CORE: the next core of the lowest-numbered group in ON (R557). -/
def Device.showNextCore (d : Device) : Device :=
  match (List.range 8).find? fun g => d.domOn (domCg g) with
  | some g => d.wr F.TEST_STATUS_NEXT_CORE ((d.nextTestCore g).getD 0)
  | none => d

/-- R545, R546: start the next core test of a group, unless the window is shut, the item is off, a COMMIT runs, or a core
of the group is under test. -/
def Device.testGroup (d : Device) (g : Nat) : Device :=
  if !d.flag F.TEST_STATUS_IN_WINDOW || !bit (d.rd F.TEST_CFG_ITEMS) 0 || !d.domOn (domCg g) || d.phase = .commit ||
      d.mgmt.testing.any (fun c => c / 12 == g) then d
  else
    match d.nextTestCore g with
    | none => d
    | some c =>
      let d := { d with mgmt := { d.mgmt with
        testing := d.mgmt.testing ++ [c]
        testNextCore := Store.set (fun _ => 0) d.mgmt.testNextCore g ((c + 1) % 12) } }
      (d.selftestRequest c).showNextCore

/-- Every group's next core test. -/
def Device.testGroups (d : Device) : Device := (List.range 8).foldl Device.testGroup d

/-- A test item failed (R557; DEDUCED, log entry 28). -/
def Device.itemFail (d : Device) (unit : Nat) : Device :=
  (d.raise F.TEST_INT_STATUS_ITEM_FAIL).log 0x0801 0 18 unit 0 0

/-- A core's self-test that a window asked for has ended; the group's next one follows while the window is open. -/
def Device.windowTested (d : Device) (c : Nat) (pass : Bool) : Device :=
  if !d.mgmt.testing.contains c then d
  else
    let d := { d with mgmt := { d.mgmt with testing := d.mgmt.testing.filter (· ≠ c) } }
    let d := if pass then d.inc F.TEST_CORE_PASS_COUNT else (d.inc F.TEST_CORE_FAIL_COUNT).itemFail c
    d.testGroup (c / 12)

end Sys2Proof.Machine
end

