-- ==== Sys2Proof/Machine/CoreUnits.lean ====
section
/-! DEFINITION. The commands of the cores: taking units (R39, R42, R96), issuing and completing instructions (R98 to R124),
errors and self-tests (R125 to R128), CORE_CTL (R129). -/

namespace Sys2Proof.Machine

/-! ### Taking a unit -/

/-- Kinds of units that run on a core (R37). -/
def coreKind (k : Nat) : Bool := k = 1 || k = 2 || k = 6 || k = 7

/-- A core of a group may take a unit: its kind, ELIGIBLE (R39), and it has not failed on it (R126). -/
def Device.coreMay (d : Device) (c u : Nat) : Bool :=
  coreKind (d.workUnit u).kind && bit (d.workUnit u).eligible (c / 12) && !d.spine.failedOn.contains (u, c)

/-- What a core that asks for work does under R42 and R492: the unit it takes and whether in place of a CLASS 0 unit, or
beyond the balance; none where it waits (DEDUCED, log entry 80). -/
def Device.pick (d : Device) (c : Nat) : Option (Nat × Bool × Bool) :=
  match d.nextReady (d.coreMay c) with
  | none => none
  | some u =>
    let w := d.workUnit u
    if w.cls ≠ 0 ∨ (w.energy : Int) ≤ d.pwr.bal then some (u, false, false)
    else if toInt 32 (d.rd F.PWR_LEDGER_B_UJ) ≤ d.pwr.bal then some (u, false, true)
    else (d.nextReady fun v => d.coreMay c v && (d.workUnit v).cls == 1).map fun v => (v, true, false)

/-- The batch of the step that carries a leaf (R45). -/
def Device.batchOf (d : Device) (leaf : Nat) : Option Batch :=
  d.spine.batches.find? fun b => decide (b.firstLeaf ≤ leaf ∧ leaf < b.firstLeaf + b.leaves)

/-- The unified address of sample 0 of a leaf in an INPUT tensor's dense section (R45). -/
def Device.inputRow (d : Device) (tensor rowBytes leaf : Nat) : Option Nat :=
  match d.batchOf leaf with
  | some b => (b.sections.find? fun s => s.kind = 3 ∧ s.id = tensor).map fun s =>
      s.addr + 64 + (leaf - b.firstLeaf) * ((d.spine.prog.map (·.leafSamples)).getD 1) * rowBytes
  | none => none

/-- The address registers of a unit at its start (R45, R96). -/
def Device.startAddrs (d : Device) (u : Nat) : Store Nat :=
  let w := d.workUnit u
  let ts := (d.spine.prog.map (·.tensors)).getD []
  let a0 := Store.set (fun _ => 0) [] 0 w.argPtr
  if bit w.flags 3 then a0
  else (List.range ts.length).foldl (fun m t =>
    let x := ts.getD t {}
    if x.kind = 1 ∧ x.reg ≠ 0 then
      match d.inputRow t x.rowBytes w.leaf with
      | some a => Store.set (fun _ => 0) m x.reg a
      | none => m
    else m) a0

/-- R96: a core starts a unit. -/
def Device.startUnit (d : Device) (c u : Nat) : Device :=
  let x : CoreSt := { pc := (d.workUnit u).codeOff * 16, addr := d.startAddrs u,
                      held := (d.core c).held, hwTest := (d.core c).hwTest, testFail := (d.core c).testFail }
  let d := (d.handOut u c).setCore c x
  ((d.wr (F.CORE_UNIT_VALID c) 1).wr (F.CORE_UNIT_UNIT c) u).wr (F.CORE_STATUS_STATE c) 2

/-- R39, R42: a core without a unit takes the next ready unit of its group. -/
def execCoreTakeUnit (core : Nat) (s : State) : Result :=
  s.onDev fun d =>
    if !(decide (core < Config.cores) && d.inPool core && (d.unitAt core).isNone && d.rd (F.CORE_STATUS_STATE core) == 1)
    then d
    else
      match d.pick core with
      | none => d
      | some (u, swapped, passed) =>
        let d := d.startUnit core u
        let d := if swapped then d.inc F.PWR_LEDGER_SWAP_COUNT else d
        if passed then d.inc F.PWR_LEDGER_OVER_COUNT else d

/-- Kinds of units that run on a tile (R37). -/
def tileKind (k : Nat) : Bool := k = 3 || k = 4 || k = 5

/-- R39: a tile pulls the next ready tile unit that names it. -/
def execTileTakeUnit (tile : Nat) (s : State) : Result :=
  s.onDev fun d =>
    if !(decide (tile < Config.tiles) && d.tileServes tile && (d.unitAt (placeTile tile)).isNone) then d
    else
      match d.nextReady fun u => tileKind (d.workUnit u).kind && bit (d.workUnit u).eligible tile with
      | none => d
      | some u => d.handOut u (placeTile tile)

/-! ### A unit's end -/

/-- The leaf a unit's figures go to (R111). -/
def Device.figureLeaf (d : Device) (u : Nat) : Nat :=
  if bit (d.workUnit u).flags 3 then d.rd (F.SPINE_BLOCK_BASE 0) else (d.workUnit u).leaf

/-- The saturating casts of a unit that has run through are counted, once however often it runs (R80, R111, R244) (DEDUCED, log entry 76). -/
def Device.countCasts (d : Device) (c u : Nat) : Device :=
  if d.spine.rerun.contains u then d
  else
    let x := d.core c
    let d := x.sat77.foldl (fun d e => d.noteCast e.1 f32NegZero e.2) d
    x.satAll.foldl (fun d e => d.countSat e.1 e.2) d

/-- R36: a finished unit makes its successors ready; one that R243 ran again no longer holds back those that wait for it. -/
def execUnitFinish (unit : Nat) (s : State) : Result :=
  s.onDev fun d =>
    if d.unitSt unit ≠ .ended then d
    else
      let again := d.spine.rerun.contains unit
      let d := d.setUnit unit .done
      { d with spine := { d.spine with
        unitsDone := if again then d.spine.unitsDone else d.spine.unitsDone + 1
        rerun := d.spine.rerun.filter (· ≠ unit)
        recompLeft := d.spine.recompLeft.map fun e => (e.1, e.2.filter (· ≠ unit)) } }

/-- The first and second word at a byte offset of the image; the second only where it lies in the CODE section of the
first (R97). None where no CODE section holds the first. -/
def Device.fetch (d : Device) (pc : Nat) : Option (Nat × Option Nat) :=
  match d.spine.prog with
  | none => none
  | some p =>
    (p.code.find? fun s => decide (s.1 ≤ pc ∧ pc + 16 ≤ s.1 + s.2.length)).map fun s =>
      (leNat (sub s.2 (pc - s.1) 16),
        if pc + 32 ≤ s.1 + s.2.length then some (leNat (sub s.2 (pc - s.1 + 16) 16)) else none)

/-- R125: an illegal instruction ends its unit, which is held. Its casts so far count (R80) (DEDUCED, log entry 77). -/
def Device.illegal (d : Device) (c u cause : Nat) : Device :=
  let d := d.countCasts c u
  let d := ((d.wr (F.CORE_ERR_CAUSE c) cause).wr (F.CORE_ERR_INDEX c) (d.core c).index).wr (F.CORE_ERR_UNIT_UNIT c) u
  let d := (d.setUnit u .held).coreFree c
  (d.raise (F.CORE_INT_STATUS_ILLEGAL c)).lasting 0x0100 8 c cause 0 4 c

/-- An instruction of `n` words has issued. -/
def Device.advance (d : Device) (c n : Nat) : Device :=
  let x := d.core c
  d.setCore c { x with pc := x.pc + 16 * n, index := x.index + 1 }

/-- A core issues the instruction at its pointer when it has opcode `op`: nothing happens where no unit is in progress or
another opcode stands there (DESIGN CHOICE, log entry 4); a word outside its CODE section or a reserved opcode is illegal (R125, R597)
(DEDUCED, log entry 74). -/
def Device.issue (d : Device) (c op : Nat) (f : Device → Nat → CoreInstr → Device) : Device :=
  match d.unitAt c with
  | none => d
  | some u =>
    match d.fetch (d.core c).pc with
    | none => d.illegal c u 12
    | some (w, w1) =>
      match decodeWord w (w1.getD 0) with
      | none => d.illegal c u 1
      | some i =>
        if wordOpcode w ≠ op then d
        else if op = 0x20 ∧ w1 = none then d.illegal c u 12
        else f d u i

/-- R597, CAUSE 3: a bit of a first word that its opcode gives as zero is set. -/
def Device.wordZero (d : Device) (c : Nat) (i : CoreInstr) : List Nat :=
  match d.fetch (d.core c).pc with
  | some (w, _) => faultIf (w != encodeWord i) 3
  | none => []

/-- An instruction is illegal for the first of its faults, or runs. -/
def Device.checked (d : Device) (c u : Nat) (faults : List Nat) (f : Device → Device) : Device :=
  if faults.isEmpty then f d else d.illegal c u (firstCause faults)

/-- Descriptor register n: its 32 bytes, none where invalid (R96). -/
def Device.descReg (d : Device) (c n : Nat) : Bytes := Store.get (fun _ => []) (d.core c).desc n

/-- Address register n. -/
def Device.addrReg (d : Device) (c n : Nat) : Nat := Store.get (fun _ => 0) (d.core c).addr n

/-- Constants C0 to C3 of a chain. -/
def Device.constants (d : Device) (c c0 c1 : Nat) : List Nat := [c0, c1, (d.core c).c2, (d.core c).c3]

/-- An instruction starts and stays in flight until its completion (R101). -/
def Device.start (d : Device) (c words : Nat) (op : FlightOp) (dur : Nat) : Device :=
  let x := d.core c
  (d.setCore c { x with flight := x.flight ++ [⟨x.index, op, dur⟩] }).advance c words

/-- R95: corrected errors of core memory are written back and counted (DEDUCED, log entry 78). -/
def Device.coreCorrected (d : Device) (c n : Nat) : Device := if n = 0 then d else d.inc (F.CORE_CE_CNT_COUNT c) n

/-! ### Instructions -/

/-- R98: NOP. -/
def execNop (core : Nat) (s : State) : Result :=
  s.onDev fun d => d.issue core 0x00 fun d u i => d.checked core u (d.wordZero core i) fun d => d.advance core 1

/-- R98: END, once nothing is in flight. -/
def execEndUnit (core : Nat) (s : State) : Result :=
  s.onDev fun d => d.issue core 0x01 fun d u i =>
    d.checked core u (d.wordZero core i) fun d =>
      if !(d.core core).flight.isEmpty then d
      else (((d.countCasts core u).inc64 (F.CORE_UNITS_LO_UNITS core)).unitEnd u).coreFree core

/-- R98, R102: LDODR. -/
def execLdodr (core : Nat) (s : State) : Result :=
  s.onDev fun d => d.issue core 0x02 fun d u i =>
    match i with
    | .ldodr dd addr =>
      d.checked core u (d.wordZero core i ++ faultIf (decide (coreMemory < addr * 64 + 32)) 5) fun d =>
        if d.mustWait core [(addr * 64, 32)] [] then d
        else
          let x := d.core core
          (d.setCore core { x with
            desc := Store.set (fun _ => []) x.desc dd (readMem d.mem 32 (coreKey core (addr * 64))) }).advance core 1
    | _ => d

/-- R98: SETA. -/
def execSeta (core : Nat) (s : State) : Result :=
  s.onDev fun d => d.issue core 0x03 fun d u i =>
    match i with
    | .seta an v => d.checked core u (d.wordZero core i) fun d =>
        (d.setCore core { d.core core with addr := Store.set (fun _ => 0) (d.core core).addr an v }).advance core 1
    | _ => d

/-- R98: ADDA, modulo 2^64. -/
def execAdda (core : Nat) (s : State) : Result :=
  s.onDev fun d => d.issue core 0x04 fun d u i =>
    match i with
    | .adda an v => d.checked core u (d.wordZero core i) fun d =>
        (d.setCore core { d.core core with
          addr := Store.set (fun _ => 0) (d.core core).addr an ((d.addrReg core an + v) % 2 ^ 64) }).advance core 1
    | _ => d

/-- R98: SETC. -/
def execSetc (core : Nat) (s : State) : Result :=
  s.onDev fun d => d.issue core 0x05 fun d u i =>
    match i with
    | .setc sel v => d.checked core u (d.wordZero core i) fun d =>
        let x := d.core core
        (d.setCore core (if sel = 0 then { x with c2 := v } else { x with c3 := v })).advance core 1
    | _ => d

/-- R100: XFER starts. -/
def execXfer (core : Nat) (s : State) : Result :=
  s.onDev fun d => d.issue core 0x06 fun d u i =>
    match i with
    | .xfer an dir addr len =>
      d.checked core u (d.wordZero core i ++ faultIf (decide (coreMemory < (addr + len) * 64)) 5 ++
          faultIf (decide (len = 0 ∨ 49152 < len)) 2) fun d =>
        let op := FlightOp.xfer (dir == 1) (d.addrReg core an) addr len
        if d.mustWait core op.reads op.writes then d else d.start core 1 op 0
    | _ => d

/-- R98: ADDODR: BASE wraps modulo 2^16. -/
def execAddodr (core : Nat) (s : State) : Result :=
  s.onDev fun d => d.issue core 0x07 fun d u i =>
    match i with
    | .addodr dd off =>
      let b := d.descReg core dd
      d.checked core u (d.wordZero core i ++ faultIf b.isEmpty 4) fun d =>
        let x := d.core core
        (d.setCore core { x with
          desc := Store.set (fun _ => []) x.desc dd (leBytes 2 (oBase b + off) ++ b.drop 2) }).advance core 1
    | _ => d

/-- The byte offset of the instruction `n` after the one at `pc` (R99). -/
def Device.walk (d : Device) : Nat → Nat → Nat
  | 0, pc => pc
  | n + 1, pc =>
    match d.fetch pc with
    | some (w, _) => Device.walk d n (pc + 16 * opcodeWords (wordOpcode w))
    | none => pc

/-- R99: what an arrival at a LOOP does once the loop stack holds its entry at the top. -/
def Device.loopTurn (d : Device) (c u back : Nat) (left : Nat) (rest : List (Nat × Nat)) : Device :=
  let x := d.core c
  if left = 0 then (d.setCore c { x with loops := rest }).advance c 1
  else
    d.setCore c { x with
      loops := (x.index, left - 1) :: rest
      index := x.index - back
      pc := d.walk (x.index - back) ((d.workUnit u).codeOff * 16) }

/-- R99: LOOP. The entry on top belongs to this LOOP where it has arrived here before. -/
def execLoopEnd (core : Nat) (s : State) : Result :=
  s.onDev fun d => d.issue core 0x08 fun d u i =>
    match i with
    | .loop count back =>
      let x := d.core core
      let again : Bool := match x.loops with
        | (k, _) :: _ => k == x.index
        | [] => false
      d.checked core u (d.wordZero core i ++ faultIf (decide (count = 0 ∨ x.index < back) || (!again && decide (4 ≤ x.loops.length))) 7 ++
          faultIf (decide (back = 0)) 2) fun d =>
        match again, x.loops with
        | true, (_, left) :: rest => d.loopTurn core u back left rest
        | _, _ => d.loopTurn core u back (count - 1) x.loops
    | _ => d

/-- R98: FENCE: issue waits until every earlier instruction has completed. -/
def execFence (core : Nat) (s : State) : Result :=
  s.onDev fun d => d.issue core 0x09 fun d u i =>
    d.checked core u (d.wordZero core i) fun d => if !(d.core core).flight.isEmpty then d else d.advance core 1

/-- R106 to R110: MMA starts. -/
def execMma (core corrected : Nat) (s : State) : Result :=
  s.onDev fun d => d.issue core 0x10 fun d u i =>
    match i with
    | .mma dst a b acc ta tb accEn m n k =>
      let x := fun n => d.descReg core n
      d.checked core u (d.wordZero core i ++ mmaFaults (ta == 1) (tb == 1) (accEn == 1) m n k (x dst) (x a) (x b) (x acc)) fun d =>
        let op := FlightOp.mma (ta == 1) (tb == 1) m n k (x dst) (x a) (x b) (if accEn = 1 then x acc else [])
        if d.mustWait core op.reads op.writes then d
        else (d.start core 1 op (mmaClk m n k (oFormat (x a)) (oFormat (x b)))).coreCorrected core corrected
    | _ => d

/-- R112 to R120: VCHAIN starts. -/
def execVchain (core corrected : Nat) (s : State) : Result :=
  s.onDev fun d => d.issue core 0x20 fun d u i =>
    match i with
    | .vchain dst x y z count rows c0 c1 stages =>
      let ws := stageWords stages
      let r := fun n => d.descReg core n
      d.checked core u (d.wordZero core i ++ chainFaults count rows ws (r dst) (r x) (r y) (r z)) fun d =>
        let src := fun k n => if selects ws k then r n else []
        let op := FlightOp.chain count rows ws (d.constants core c0 c1) (r dst) (src 1 x) (src 2 y) (src 3 z)
        if d.mustWait core op.reads op.writes then d
        else (d.start core 2 op (chainClk rows count ws)).coreCorrected core corrected
    | _ => d

/-- R121 to R124: S12CHAIN starts. -/
def execS12chain (core : Nat) (s : State) : Result :=
  s.onDev fun d => d.issue core 0x28 fun d u i =>
    match i with
    | .s12 addr =>
      let outside := decide (coreMemory < addr * 64 + 64)
      if !outside && d.mustWait core [(addr * 64, 64)] [] then d
      else
        let b := readMem d.mem 64 (coreKey core (addr * 64))
        d.checked core u (d.wordZero core i ++ faultIf outside 5 ++ faultIf (!outside && s12Bad b) 9) fun d =>
          let op := FlightOp.s12 b (d.constants core (u32At b 0x38) (u32At b 0x3C))
          if d.mustWait core op.reads op.writes then d else d.start core 1 op (s12Clk b)
    | _ => d

/-! ### Completions -/

/-- An XFER. -/
def FlightOp.isXfer : FlightOp → Bool
  | .xfer _ _ _ _ => true
  | _ => false
/-- An MMA. -/
def FlightOp.isMma : FlightOp → Bool
  | .mma _ _ _ _ _ _ _ _ _ => true
  | _ => false
/-- A VCHAIN. -/
def FlightOp.isChain : FlightOp → Bool
  | .chain _ _ _ _ _ _ _ _ => true
  | _ => false
/-- An S12CHAIN. -/
def FlightOp.isS12 : FlightOp → Bool
  | .s12 _ _ => true
  | _ => false

/-- The oldest instruction in flight that passes a test, and the others. -/
def Device.oldest (d : Device) (c : Nat) (p : Flight → Bool) : Option (Flight × List Flight) :=
  match (d.core c).flight.find? p with
  | some f => some (f, (d.core c).flight.erase f)
  | none => none

/-- R78, R86, R111: the figures of written values (DEDUCED, log entry 79). -/
def Device.figures (d : Device) (c u : Nat) (g : Figures) : Device :=
  let w := d.workUnit u
  let d := if g.nf && bit w.flags 0 then d.flagLeaf (d.figureLeaf u) g.tag else d
  let d := if g.amax = f32NegZero then d else d.noteCast g.tag g.amax 0
  let x := d.core c
  d.setCore c { x with
    sat77 := Store.modify (fun _ => 0) x.sat77 g.tag (· + g.sats)
    satAll := Store.modify (fun _ => 0) x.satAll g.tag (· + g.all) }

/-- Bytes written into core memory. -/
def Device.putCore (d : Device) (c : Nat) (ws : List (Nat × Bytes)) : Device :=
  { d with mem := ws.foldl (fun m w => writeMem m (coreKey c w.1) w.2) d.mem }

/-- Rows of FP32 values written through a destination descriptor, with their figures. -/
def Device.putRows (d : Device) (c u : Nat) (dst : Bytes) (rows : List (List Nat)) : Device :=
  ((List.range rows.length).map fun i => d.writeRow dst i (rows.getD i [])).foldl (fun d r =>
    (d.putCore c r.1).figures c u r.2) d

/-- One element written by an S12 chain, with its figures (R111, R122). -/
def Device.putS12 (d : Device) (c u : Nat) (b : Bytes) (e : Nat × Nat) : Device :=
  let f := s12Format b 2
  let r := narrow f [d32 e.2]
  let v := r.1.headD 0
  let nf := (f == 0 || f == 2) && !((fmtOf f).dec v).isFin
  (d.putCore c [(e.1, leBytes (fmtBits f / 8) v)]).figures c u ⟨s12Tag b, f32NegZero, 0, r.2, nf⟩

/-- The result of an instruction in flight reaches core memory. -/
def Device.finishOp (d : Device) (c u : Nat) (op : FlightOp) : Device :=
  match op with
  | .xfer _ _ _ _ => d
  | .mma ta tb m n k dst a b acc => d.putRows c u dst (d.mmaRows c ta tb m n k a b acc)
  | .chain count rows ws consts dst x y z => d.putRows c u dst (d.chainRows c count rows ws consts x y z)
  | .s12 b consts => (d.s12Results c b consts).foldl (fun d e => d.putS12 c u b e) d

/-- An instruction of a kind completes: its clk, its result (DEDUCED, log entry 73). -/
def Device.complete (d : Device) (c : Nat) (p : FlightOp → Bool) (clk : Fld) : Device :=
  match d.unitAt c, d.oldest c (fun f => p f.op) with
  | some u, some (f, rest) =>
    let d := d.setCore c { d.core c with flight := rest }
    (d.finishOp c u f.op).inc64 clk f.dur
  | _, _ => d

/-- R107, R110, R111: the oldest MMA in flight writes its last result. -/
def execMmaComplete (core : Nat) (s : State) : Result :=
  s.onDev fun d => d.complete core FlightOp.isMma (F.CORE_MMA_CLK_LO_CLK core)

/-- R115 to R120: the oldest VCHAIN in flight writes its last result. -/
def execVchainComplete (core : Nat) (s : State) : Result :=
  s.onDev fun d => d.complete core FlightOp.isChain (F.CORE_VEC_CLK_LO_CLK core)

/-- R122 to R124: the oldest S12CHAIN in flight writes its last result. -/
def execS12chainComplete (core : Nat) (s : State) : Result :=
  s.onDev fun d => d.complete core FlightOp.isS12 (F.CORE_VEC_CLK_LO_CLK core)

/-- R100: an XFER that failed after its retries ends the unit, which the core holds. -/
def Device.xferFail (d : Device) (c u index addr : Nat) : Device :=
  let d := ((d.wr (F.CORE_ERR_CAUSE c) 10).wr (F.CORE_ERR_INDEX c) index).wr (F.CORE_ERR_UNIT_UNIT c) u
  let d := d.setCore c { d.core c with held := (d.core c).held ++ [u] }
  let d := (d.setUnit u .held).coreFree c
  (d.raise (F.CORE_INT_STATUS_XFER_ERR c)).lasting 0x0103 8 c 10 addr 4 c

/-- R243: the first line of a read that is a detected error: a poisoned line of a class 1 object, as tile and line. -/
def Device.detectedLine (d : Device) (uni len : Nat) : Option (Nat × Nat) :=
  if uniSpace uni ≠ 0 ∨ (d.obj (uniNum uni)).ecc ≠ 1 then none
  else
    (((List.range len).map fun i => d.uniKey (uni + 64 * i)).find? d.poisoned).map fun k =>
      ((k - 2 ^ 64) / 2 ^ 34, (k - 2 ^ 64) % 2 ^ 34 / 64)

/-- R50: the T1 lines that a GATHER unit reads come under the write fence. -/
def Device.fenceRead (d : Device) (u uni len : Nat) : Device :=
  if !bit (d.workUnit u).flags 2 || uniSpace uni != 0 then d
  else
    let ls := ((List.range len).map fun i => d.uniKey (uni + 64 * i) / 64).filter fun l => l ∉ d.spine.fenceLines
    { d with spine := { d.spine with fenceLines := d.spine.fenceLines ++ ls } }

/-- R100: the lines of an XFER move; none of them where the address is an access error (R205). -/
def Device.xferMove (d : Device) (c u : Nat) (out : Bool) (uni addr len : Nat) : Option Device :=
  if out then (d.uniWrite uni (readMem d.mem (len * 64) (coreKey c (addr * 64)))).map fun d => d.bumpShards uni (len * 64)
  else (d.uniRead uni (len * 64)).map fun b =>
    ((d.putCore c [(addr * 64, b)]).uniAsk uni (len * 64)).fenceRead u uni len

/-- An earlier XFER still in flight touches the same unified addresses, and one of the two writes them (R101). -/
def xferOrdered (earlier : List Flight) (out : Bool) (uni len : Nat) : Bool :=
  earlier.all fun f => match f.op with
    | .xfer o a _ l => !(o || out) || !rangesMeet [(uni, len * 64)] [(a, l * 64)]
    | _ => true

/-- R100, R378: the XFER that is instruction `index` of its unit completes after `fails` failed tries of one of its
lines, or has failed for good (DESIGN CHOICE, log entry 146). -/
def execXferComplete (core index fails : Nat) (s : State) : Result :=
  s.onDev fun d =>
    match d.unitAt core, d.oldest core (fun f => f.index == index && f.op.isXfer) with
    | some u, some (⟨_, .xfer out uni addr len, _⟩, rest) =>
      if !xferOrdered ((d.core core).flight.takeWhile fun f => f.index ≠ index) out uni len then d
      else if !out && bit (d.workUnit u).flags 2 && d.repairHolds true uni (len * 64) then d
      else if !d.uniOk uni (len * 64) || decide (d.rd F.DMA_XFER_RETRY_RETRY < fails) then d.xferFail core u index uni
      else
        match (if out then none else d.detectedLine uni len) with
        | some (tile, line) => d.detected tile line (.unit u)
        | none =>
          match (d.setCore core { d.core core with flight := rest }).xferMove core u out uni addr len with
          | some d => if fails = 0 then d else d.log 0x0B00 1 8 core 0 uni
          | none => d
    | _, _ => d

/-! ### Errors, self-tests and CORE_CTL -/

/-- R126: a hardware error ends the unit in progress: it returns, or is held where it has failed on another core before. -/
def Device.hwUnit (d : Device) (c u : Nat) : Device :=
  let x := d.core c
  let index := ((x.flight.head?).map (·.index)).getD x.index
  let d := ((d.wr (F.CORE_ERR_CAUSE c) 11).wr (F.CORE_ERR_INDEX c) index).wr (F.CORE_ERR_UNIT_UNIT c) u
  if d.spine.failedOn.any fun e => e.1 = u ∧ e.2 ≠ c then
    ((d.setUnit u .held).coreFree c).lasting 4 8 c 11 u 4 c
  else { d with spine := { d.spine with failedOn := d.spine.failedOn ++ [(u, c)] } }.requeue [u]

/-- R126: what a hardware error ends on a core: the unit in progress, or the core's idling. -/
def Device.hwStops (d : Device) (core : Nat) : Device :=
  match d.unitAt core with
  | some u => d.hwUnit core u
  | none => d.coreIdle core

/-- R126: an uncorrectable error of core memory, or a parity error in the array or the Chanter. -/
def execCoreHwError (core : Nat) (s : State) : Result :=
  s.onDev fun d =>
    if !(decide (core < Config.cores) && d.domOn (domOfCore core)) || d.boot.retiredCores.contains core then d
    else
      let d := d.inc (F.CORE_UE_CNT_COUNT core)
      if d.coreTesting core then d.setCore core { d.core core with testFail := true }
      else
        ((d.raise (F.CORE_INT_STATUS_HW_ERR core)).setCore core { d.core core with hwTest := true }).hwStops core

/-- A failed self-test retires the core (R126, R127). -/
def Device.retireCore (d : Device) (c : Nat) : Device :=
  let d := { d with boot := { d.boot with retiredCores := d.boot.retiredCores ++ [c] } }
  let d := (d.requeueHeld c).coreIdle c
  (d.raise (F.CORE_INT_STATUS_RETIRED c)).lasting 0x0102 8 c 0 0 4 c

/-- R41, R126, R128: a self-test ends. -/
def execCoreSelftestEnd (core : Nat) (pass : Bool) (s : State) : Result :=
  s.onDev fun d =>
    if !(decide (core < Config.cores) && d.domOn (domOfCore core) && d.coreTesting core) then d
    else
      let x := d.core core
      let pass := pass && !x.testFail
      let d := (d.inc (F.CORE_SELFTEST_RUNS core)).wr (F.CORE_SELFTEST_RESULT core) (if pass then 1 else 2)
      let d := (d.wr (F.CORE_CTL_SELFTEST_REQ core) 0).setCore core { x with hwTest := false, testFail := false }
      let d := d.raise (F.CORE_INT_STATUS_SELFTEST_DONE core)
      let d := if !pass then d.retireCore core
        else if x.hwTest then (d.coreIdle core).log 0x0101 1 8 core 11 0 else d.coreIdle core
      d.windowTested core pass

/-- R128: a write of 1 to CORE_CTL.SELFTEST_REQ. -/
def execSelftestReq (core : Nat) (s : State) : Result :=
  s.onDev fun d =>
    if Config.cores ≤ core then d
    else d.access (F.CORE_CTL core).key fun d =>
      if d.domOn (domOfCore core) then d.selftestRequest core else d.logAccess (F.CORE_CTL core).key

/-- R100: a write of 1 to CORE_CTL.REQUEUE. -/
def execCoreRequeue (core : Nat) (s : State) : Result :=
  s.onDev fun d =>
    if Config.cores ≤ core then d
    else d.access (F.CORE_CTL core).key fun d => (d.requeueHeld core).wr (F.CORE_CTL_REQUEUE core) 0

/-- R129: a write of CORE_CTL.DRAIN. -/
def execCoreDrain (core : Nat) (drain : Bool) (s : State) : Result :=
  s.onDev fun d =>
    if Config.cores ≤ core then d
    else d.access (F.CORE_CTL core).key fun d =>
      let d := d.wr (F.CORE_CTL_DRAIN core) (b2n drain)
      if d.coreTesting core || d.boot.retiredCores.contains core || !d.domOn (domOfCore core) then d
      else if (d.unitAt core).isSome then d.wr (F.CORE_STATUS_STATE core) (if drain then 4 else 2)
      else d.coreIdle core

end Sys2Proof.Machine
end

