-- ==== Sys2Proof/Machine/HostMemOps.lean ====
section
/-! DEFINITION. The host's side of the row space: CXL.mem accesses through the HDM range (R215 to R218, R432,
R433) and requests on CXL.cache (R423, R426). -/

namespace Sys2Proof.Machine

/-! ### CXL.cache -/

/-- R423: requests that wait unissued are issued, in order. -/
def Device.d2hReissue (d : Device) : Device :=
  if !d.d2hOpen then d
  else
    let outs := (d.host.d2h.filter (!·.issued)).map fun r => Out.d2h r.kind r.line
    { d with
      host := { d.host with d2h := d.host.d2h.map fun r => { r with issued := true } }
      out := outs.reverse ++ d.out }

/-- The first request of a line leaves the list. -/
def dropD2H (line : Nat) : List D2H → List D2H
  | [] => []
  | r :: rs => if r.line = line ∧ r.issued then rs else r :: dropD2H line rs

/-- An issued request of a line. -/
def Device.d2hHas (d : Device) (line : Nat) : Bool := d.host.d2h.any fun r => r.line == line && r.issued

/-! ### Rows behind HDM lines -/

/-- The object, row and line of the record that an HDM offset reaches (R215). -/
def Device.hdmRow (d : Device) (off : Nat) : Option (Nat × Nat × Nat) :=
  (d.tier.objs.find? fun e =>
    e.2.live && e.2.hdmRows != 0 && decide (e.2.hdmOff ≤ off ∧ off < e.2.hdmOff + e.2.windowLen)).map fun e =>
      let rel := off - e.2.hdmOff
      let b := e.2.recLines * 64
      (e.1, e.2.hdmFirst + rel / b, rel % b / 64)

/-- Where a host access to a row of an object lands: a replica's or the record's place, none where this device does not
hold the row (R216). -/
def Device.hostLoc (d : Device) (n r : Nat) : Option (Nat × Nat × Nat) :=
  match d.tableOfObj n with
  | none => none
  | some t =>
    match d.replica t r with
    | some b => some (1, b.tile, b.line)
    | none => if d.owns t r then some (d.locate n r) else none

/-- Line `l` of a record at a place. -/
def locLine (loc : Nat × Nat × Nat) (l : Nat) : Nat × Nat × Nat :=
  if loc.1 = 3 then (3, 0, loc.2.2 + 64 * l) else (loc.1, loc.2.1, loc.2.2 + l)

/-- R216: a refused access: counted and logged; a read returns zeros marked as poison (DEDUCED, log entry 49). -/
def Device.hostRefused (d : Device) (kind hpa : Nat) (src : Nat) : Device :=
  let d := (d.inc F.TIER_HOST_MISS_COUNT).log 3 0 src 0 0 hpa
  if kind = 0 then d.emit (.memData (zeroBytes 64) true) else d.emit .memCmp

/-- R433: the host may now hold a line; the oldest entry is back-invalidated first when the filter is full. -/
def Device.track (d : Device) (line : Nat) : Device :=
  if line ∈ d.host.snoop then d
  else
    let d := match d.host.snoop with
      | o :: _ => if 131072 ≤ d.host.snoop.length then d.biSnoop o 1 else d
      | [] => d
    { d with host := { d.host with snoop := d.host.snoop ++ [line] } }

/-- R432: a host read of a line of a held row. -/
def Device.hostRead (d : Device) (n r l off : Nat) (loc : Nat × Nat × Nat) : Device :=
  let p := locLine loc l
  let d := d.askLoc p false 1 (some (n, r))
  let bytes := if p.1 = 0 then zeroBytes 64 else d.readKey 64 (locKey p)
  let poison := p.1 != 0 && p.1 != 3 && d.poisoned (locKey p)
  let d := (d.inc64 F.HOST_MEM_RD_LO_COUNT).track (off / 64)
  d.emit (.memData bytes poison)

/-- Bytes of a line under a mask put at a place: through the stack's controller, the tier link or CXL.cache (R218,
R250, R414). -/
def Device.putLine (d : Device) (p : Nat × Nat × Nat) (mask : Nat) (data : Bytes) (row : Nat × Nat) : Device :=
  match p.1 with
  | 1 => d.partialWrite p.2.1 p.2.2 mask data []
  | _ =>
    let full := mask % 2 ^ 64 == fullMask
    let d := if p.1 = 2 ∧ !full then d.t2Req p.2.1 1 p.2.2 1 (some row) else d
    let k := locKey p
    let m := (List.range 64).foldl (fun m i =>
      if bit mask i then Store.set memReset m (k + i) (data.getD i 0) else m) d.mem
    let d := { d with mem := m }
    let d := if full then d.setPoison k false else d
    if p.1 = 2 then d.t2Req p.2.1 2 p.2.2 1 (some row)
    else d.d2hOne (if full then 1 else 2) (p.2.2 / 64)

/-- R50: a write to a fenced row is held and counted. -/
def Device.deferWrite (d : Device) (n r l mask : Nat) (data : Bytes) : Device :=
  let w : Deferred := ⟨n, r, l, mask, data⟩
  { d with spine := { d.spine with deferred := d.spine.deferred ++ [w], defers := d.spine.defers + 1 } }.inc
    F.SPINE_DEFER_CNT_DEFERRED

/-- A host write has changed a row (R449). -/
def Device.noteWrite (d : Device) (n r : Nat) : Device :=
  if d.ckpt.written.contains (n, r) then d else { d with ckpt := { d.ckpt with written := d.ckpt.written ++ [(n, r)] } }

/-- R432: a MemInv takes the line out of the snoop filter and completes. -/
def Device.invLine (d : Device) (line : Nat) : Device :=
  ({ d with host := { d.host with snoop := d.host.snoop.filter (· ≠ line) } }).emit .memCmp

/-- R434: a request waits for a back-invalidate's answer. -/
def Device.holdReq (d : Device) (q : HostReq) : Device := { d with host := { d.host with held := d.host.held ++ [q] } }

/-- R213, R216: a host write of a line of a held row lands in its current tier, or waits for the fence, or waits for
room for an unallocated row (R214). -/
def Device.hostWrite (d : Device) (q : HostReq) (n r l : Nat) (loc : Nat × Nat × Nat) : Device :=
  if d.fenced n r then (d.deferWrite n r l q.mask q.data).inc64 F.HOST_MEM_WR_LO_COUNT |>.emit .memCmp
  else if loc.1 = 0 then
    match d.allocRow n r with
    | none =>
      (d.holdReq q).raise F.TIER_INT_STATUS_NO_ROOM
    | some d =>
      (((d.putLine (locLine (d.locate n r) l) q.mask q.data (n, r)).bumpVersion n r).noteWrite n r).inc64 F.HOST_MEM_WR_LO_COUNT
        |>.emit .memCmp
  else
    (((d.putLine (locLine loc l) q.mask q.data (n, r)).bumpVersion n r).noteWrite n r).inc64 F.HOST_MEM_WR_LO_COUNT |>.emit .memCmp

/-- R432: a request at line `l` of a row takes effect where the row lies. -/
def Device.hostServe (d : Device) (q : HostReq) (n r l off : Nat) (loc : Nat × Nat × Nat) : Device :=
  match q.kind with
  | 0 => d.hostRead n r l off loc
  | 3 => d.invLine (off / 64)
  | _ => d.hostWrite q n r l loc

/-- A host request on CXL.mem at an HDM offset (R216, R432, R433). -/
def Device.hostReq (d : Device) (q : HostReq) : Device :=
  let off := (q.hpa - d.host.hdmBase) / 64 * 64
  if d.ideBlocked then d.hostRefused q.kind q.hpa 14
  else if d.host.bi.any (·.1 = off / 64) then d.holdReq q
  else
    match d.hdmRow off with
    | none => d.hostRefused q.kind q.hpa 4
    | some (n, r, l) =>
      match d.hostLoc n r with
      | none => d.hostRefused q.kind q.hpa 4
      | some loc => d.hostServe q n r l off loc

/-- Requests that waited are taken again, in order; those that must still wait stay. -/
def Device.heldRun (d : Device) : Device :=
  d.host.held.foldl Device.hostReq { d with host := { d.host with held := [] } }

/-- A host request reaches the T24: the link up, CXL.mem enabled, the decoder committed and the address in its range
(R421 to R423, R431). -/
def Device.hdmHit (d : Device) (hpa : Nat) : Bool :=
  d.flag F.HOST_STATUS_LINK_UP && d.host.memEn && d.flag F.HOST_STATUS_HDM_COMMITTED &&
    decide (d.host.hdmBase ≤ hpa ∧ hpa < d.host.hdmBase + d.host.hdmSize)

end Sys2Proof.Machine
end

