-- ==== Sys2Proof/Machine/Tier.lean ====
section
/-! DEFINITION. The commands of the tier manager (R201 to R233, R596). -/

namespace Sys2Proof.Machine

/-- A TIER_CMD write: ignored and logged while BUSY (R233). -/
def State.tierCmd (s : State) (f : Device → Device) : Result :=
  s.onDev fun d => d.access F.TIER_CMD.key fun d =>
    if d.flag F.TIER_CMD_STATUS_BUSY then d.logAccess F.TIER_CMD.key else f d

/-! ### Object descriptors -/

/-- The object a descriptor describes (R207). -/
def objOfDesc (b : Bytes) : TierObj :=
  { kind := u8At b 0, ecc := u8At b 1, allowed := u8At b 2, pinTier := u8At b 3, recLines := u16At b 4
    size := u64At b 8, t3Base := u64At b 0x10, hdmOff := u64At b 0x18, hdmFirst := u64At b 0x20
    hdmRows := u64At b 0x28, pinFirst := u64At b 0x30, pinRows := u32At b 0x38, promT1 := u16At b 0x3C
    promT2 := u16At b 0x3E, demT1 := u16At b 0x40, demT2 := u16At b 0x42, decay := u32At b 0x44
    tailMax := u32At b 0x48 }

/-- HDM_OFFSET of an object without a window (R207). -/
def noWindow : Nat := 0xFFFFFFFFFFFFFFFF

/-- Bytes of the HDM range: the committed size, else the largest a decoder takes (R431; DEDUCED, log entry 23). -/
def Device.hdmRange (d : Device) : Nat := if d.flag F.HOST_STATUS_HDM_COMMITTED then d.host.hdmSize else 2 ^ 43

/-- The window overlaps that of another live object (R208). -/
def Device.windowClash (d : Device) (self : Option Nat) (o : TierObj) : Bool :=
  d.tier.objs.any fun e =>
    e.2.live && self != some e.1 && e.2.hdmRows != 0 &&
      decide (o.hdmOff < e.2.hdmOff + e.2.windowLen ∧ e.2.hdmOff < o.hdmOff + o.windowLen)

/-- R208: the HDM fields of a TABLE break their rules. -/
def Device.hdmBad (d : Device) (self : Option Nat) (o : TierObj) : Bool :=
  if o.hdmOff = noWindow then o.hdmFirst != 0 || o.hdmRows != 0
  else
    o.hdmOff % 4096 != 0 || o.hdmRows == 0 || decide (o.size < o.hdmFirst + o.hdmRows) ||
      decide (d.hdmRange < o.hdmOff + o.windowLen) || d.windowClash self o

/-- R207: thresholds and DECAY_TICKS of a TABLE out of their ranges. -/
def TierObj.thresholdsBad (o : TierObj) : Bool :=
  o.promT1 == 0 || o.promT2 == 0 || decide (o.promT1 < o.promT2 ∨ o.promT1 ≤ o.demT1 ∨ o.promT2 ≤ o.demT2) ||
    (o.decay != 0 && decide (o.decay < 1000))

/-- R208: every RESULT a descriptor meets. -/
def Device.descFaults (d : Device) (self : Option Nat) (b : Bytes) : List Nat :=
  let o := objOfDesc b
  let table := o.kind == 1
  [(!zeros b 6 2 || !zeros b 0x4C 52 || decide (8 ≤ o.allowed), 1),
   (o.kind == 0 || decide (5 < o.kind) || decide (1 < o.ecc) || (o.ecc == 1 && decide (o.kind ≤ 3)), 2),
   (if table then
      o.allowed == 0 || bit o.allowed 2 != (o.t3Base != 0) || o.t3Base % 64 != 0 || decide (2 < o.pinTier) ||
        (o.pinTier != 0 && !bit o.allowed (o.pinTier - 1)) || decide (o.size < o.pinFirst + o.pinRows)
    else o.allowed != 1 || o.pinTier != 0 || o.pinFirst != 0 || o.pinRows != 0 || o.t3Base != 0, 3),
   (if table then o.thresholdsBad
    else o.promT1 != 0 || o.promT2 != 0 || o.demT1 != 0 || o.demT2 != 0 || o.decay != 0 || o.tailMax != 0, 4),
   (if table then d.hdmBad self o else o.hdmOff != 0 || o.hdmFirst != 0 || o.hdmRows != 0, 5),
   (if table then decide (o.size < 2 ∨ 2 ^ 40 + 1 < o.size ∨ o.recLines = 0 ∨ 193 < o.recLines)
    else decide (o.size = 0 ∨ 2 ^ 40 < o.size) || o.recLines != 0, 16)].filterMap fun e => if e.1 then some e.2 else none

/-- The lowest of the RESULTs met (R208); 0 for none. -/
def lowest (l : List Nat) : Nat := match l with
  | [] => 0
  | a :: r => r.foldl min a

/-- The descriptor at TIER_CMD_ADDR; none on an access error (R207, R208). -/
def Device.objDesc (d : Device) : Option Bytes := d.uniRead (d.rd64 F.TIER_CMD_ADDR_LO_ADDR) 128

/-- The requests reading the descriptor makes of the host. -/
def Device.askObjDesc (d : Device) : Device := d.uniAsk (d.rd64 F.TIER_CMD_ADDR_LO_ADDR) 128

/-! ### CREATE, DESTROY, SET_POLICY -/

/-- More than one tier allowed (R220). -/
def manyTiers (allowed : Nat) : Bool := decide (1 < (([0, 1, 2].filter fun i => bit allowed i).length))

/-- R220: the sketch of a TABLE object whose ALLOWED names more than one tier: 8,192 lines of one stack. -/
def Device.giveSketch (d : Device) (n : Nat) (o : TierObj) : Option (TierObj × Device) :=
  if o.kind ≠ 1 ∨ !manyTiers o.allowed ∨ o.sketchAt.isSome then some (o, d)
  else
    (d.tilesFrom (n % Config.tiles)).findSome? fun t =>
      (d.alloc1 t 8192).map fun x => ({ o with sketchAt := some (t, x.1) }, x.2)

/-- R206: the frames of a region object. -/
def Device.giveFrames (d : Device) (n : Nat) (o : TierObj) : Option (TierObj × Device) :=
  if o.kind = 1 then some (o, d)
  else (d.allocFrames n (ceilDiv o.size Config.frameLines)).map fun x => ({ o with frames := x.1 }, x.2)

/-- The lowest free object number (R202). -/
def Device.freeNumber (d : Device) : Option Nat := (List.range 16384).find? fun n => !(d.obj n).live

/-- R207, R220: object `n` as a descriptor makes it: live, of the next generation, its first decay one period away. -/
def Device.newObj (d : Device) (n : Nat) (b : Bytes) : TierObj :=
  { objOfDesc b with
    live := true
    gen := ((d.obj n).gen + 1) % 2 ^ 18
    nextDecay := if (objOfDesc b).decay = 0 then 0 else d.now + (objOfDesc b).decay }

/-- R207: CREATE answers with the object's handle, or for want of room. -/
def Device.created (d : Device) (n : Nat) (r : Option (TierObj × Device)) : Device :=
  match r with
  | none => d.tierResult 7
  | some (o, e) => ((e.setObj n o).wr F.TIER_CMD_HANDLE_HANDLE (o.gen * 2 ^ 14 + n)).sweepSpace.tierResult 0

/-- R202, R206: the object is given its number, generation, frames and sketch. -/
def Device.create (d : Device) (b : Bytes) : Device :=
  match d.freeNumber with
  | none => d.tierResult 6
  | some n =>
    d.created n ((d.giveFrames n (d.newObj n b)).bind fun x => x.2.giveSketch n x.1)

/-- R206 to R209: CREATE. `hostWrites` is what the host has written by then. -/
def execCreateObj (hostWrites : List Host.Cell) (s : State) : Result :=
  s.tierCmd fun d =>
    let d := d.hostWrites hostWrites
    if d.phase ≠ .idle then d.tierResult 10
    else
      match d.objDesc with
      | none => d.tierResult 15
      | some b =>
        let r := lowest (d.descFaults none b)
        if r ≠ 0 then d.askObjDesc.tierResult r else d.askObjDesc.create b

/-- A unified address names an object (R204). -/
def addrNames (n a : Nat) : Bool := uniSpace a == 0 && a != 0 && uniNum a == n

/-- An enabled table or the loaded program names an object (R209). -/
def Device.objInUse (d : Device) (n : Nat) : Bool :=
  (d.tableOfObj n).isSome || match d.spine.prog with
    | none => false
    | some p =>
      p.units.any (fun u => addrNames n u.argPtr) || p.tensors.any (fun t => t.kind == 2 && uniNum t.addr == n) ||
        p.bindings.any fun b => addrNames n (u64At b 0) || addrNames n (u64At b 0x10) || addrNames n (u64At b 0x18)

/-- R209: no directory entry, wanted move or move under way names object `n` any more. -/
def Device.forgetObj (d : Device) (n : Nat) : Device :=
  { d with tier := { d.tier with
    dir := d.tier.dir.filter (·.obj ≠ n)
    want := d.tier.want.filter (·.obj ≠ n)
    moves := d.tier.moves.filter (·.obj ≠ n) } }

/-- R209: what stays of an object once it is destroyed. -/
def TierObj.gone (o : TierObj) : TierObj := { gen := o.gen, kind := o.kind, ecc := o.ecc, allowed := o.allowed }

/-- R209: an object's frames, records, sketch and directory entries are freed. -/
def Device.destroy (d : Device) (n : Nat) : Device :=
  let e := (d.tier.dir.filter (·.obj = n)).foldl (fun d e => d.freeLoc (e.tier, e.place, e.line)) d
  let e := (d.obj n).frames.foldl (fun d f => d.free1 f.1 f.2) e
  ((e.dropSketch (d.obj n).sketchAt).forgetObj n).setObj n (d.obj n).gone

/-- R209: DESTROY. -/
def execDestroyObj (s : State) : Result :=
  s.tierCmd fun d =>
    let h := d.rd F.TIER_CMD_HANDLE_HANDLE
    if d.phase ≠ .idle then d.tierResult 10
    else if !d.handleLive h then d.tierResult 8
    else if d.objInUse (handleNum h) then d.tierResult 9
    else (d.destroy (handleNum h)).heldRun.tierResult 0

/-- R209: a change of what SET_POLICY may not change. -/
def immutableChanged (o p : TierObj) : Bool :=
  o.kind != p.kind || o.ecc != p.ecc || o.recLines != p.recLines || o.size != p.size || o.t3Base != p.t3Base

/-- R224: the rows of a tier that ALLOWED no longer names. -/
def Device.evacuate (d : Device) (n old : Nat) : Device :=
  let o := d.obj n
  (d.tier.dir.filter fun e => e.obj = n ∧ e.state ≠ 2 ∧ bit old (e.tier - 1) ∧ !bit o.allowed (e.tier - 1)).foldl
    (fun d e => d.wantRow e.obj e.row 2) d

/-- R209, R223, R224: the new policy of a live object, its sweep and its evacuation (DEDUCED, log entry 61). -/
def Device.policySet (d : Device) (n : Nat) (p : TierObj) : Device :=
  let o := d.obj n
  let q := { o with
    allowed := p.allowed, pinTier := p.pinTier, pinFirst := p.pinFirst, pinRows := p.pinRows
    promT1 := p.promT1, promT2 := p.promT2, demT1 := p.demT1, demT2 := p.demT2, decay := p.decay
    tailMax := p.tailMax, hdmOff := p.hdmOff, hdmFirst := p.hdmFirst, hdmRows := p.hdmRows
    nextDecay := if p.decay = o.decay then o.nextDecay else if p.decay = 0 then 0 else d.now + p.decay }
  match d.giveSketch n q with
  | none => d.tierResult 7
  | some (q, e) => (((e.setObj n q).evacuate n o.allowed).sweepPins n).tierResult 0

/-- R209: SET_POLICY. -/
def execSetPolicy (hostWrites : List Host.Cell) (s : State) : Result :=
  s.tierCmd fun d =>
    let d := d.hostWrites hostWrites
    let h := d.rd F.TIER_CMD_HANDLE_HANDLE
    if d.phase ≠ .idle then d.tierResult 10
    else if !d.handleLive h then d.tierResult 8
    else
      match d.objDesc with
      | none => d.tierResult 15
      | some b =>
        let n := handleNum h
        let r := lowest (d.descFaults (some n) b ++ if immutableChanged (d.obj n) (objOfDesc b) then [13] else [])
        if r ≠ 0 then d.askObjDesc.tierResult r else d.askObjDesc.policySet n (objOfDesc b)

/-! ### LOCATE -/

/-- TIER_LOC takes a row's place (R233). -/
def Device.putLoc (d : Device) (version carrier state tier line : Nat) : Device :=
  let d := (d.wr F.TIER_LOC_LO_LINE_LO (line % 2 ^ 32)).wr F.TIER_LOC_HI_LINE_HI (line / 2 ^ 32)
  let d := (d.wr F.TIER_LOC_HI_VERSION version).wr F.TIER_LOC_HI_CARRIER carrier
  (d.wr F.TIER_LOC_HI_STATE state).wr F.TIER_LOC_HI_TIER tier

/-- R596: where a row lies; STATE 3 for a row this device does not hold. A T3 row's line is its line in the host's
memory (DEDUCED, log entry 24). -/
def Device.locateRow (d : Device) (n r : Nat) : Device :=
  let t := d.tableOfObj n
  match t.bind fun t => d.replica t r with
  | some b => d.putLoc (d.version n r) 0 2 1 b.line
  | none =>
    if !(t.map fun t => d.owns t r).getD false then d.putLoc 0 0 3 0 0
    else
      let l := d.locate n r
      let st := ((d.dirEntry n r).map (·.state)).getD 0
      d.putLoc (d.version n r) (if l.1 = 2 then l.2.1 else 0) st l.1 (if l.1 = 3 then l.2.2 / 64 else l.2.2)

/-- R596: LOCATE, in every phase. -/
def execLocate (s : State) : Result :=
  s.tierCmd fun d =>
    let h := d.rd F.TIER_CMD_HANDLE_HANDLE
    let r := d.rd F.TIER_CMD_ROW_LO_ROW + 2 ^ 32 * (d.rd F.TIER_CMD_ROW_HI_ROW % 256)
    let n := handleNum h
    if !d.handleLive h then d.tierResult 8
    else if (d.obj n).kind ≠ 1 then d.tierResult 2
    else if (d.obj n).size ≤ r then d.tierResult 14
    else (d.locateRow n r).tierResult 0

/-! ### Drains -/

/-- R229, R231: DRAIN_TILE. -/
def execDrainTile (tile : Nat) (s : State) : Result :=
  s.tierCmd fun d => let r := d.drainRequest 0 (tile % 32); r.2.tierResult r.1

/-- R230, R231: DRAIN_CARRIER. -/
def execDrainCarrier (carrier : Nat) (s : State) : Result :=
  s.tierCmd fun d => let r := d.drainRequest 1 (carrier % 32); r.2.tierResult r.1

/-- Everything that names lines (t, l) of a stack names (u, k) instead. -/
def Device.renameT1 (d : Device) (t l u k : Nat) : Device :=
  let obj := fun (o : TierObj) => { o with
    frames := o.frames.map fun f => if f = (t, l) then (u, k) else f
    sketchAt := if o.sketchAt = some (t, l) then some (u, k) else o.sketchAt }
  let tab := fun (x : Table) => { x with
    sketchAt := if x.sketchAt = some (t, l) then some (u, k) else x.sketchAt
    bw := x.bw.map fun b => if b.tile = t ∧ b.line = l then { b with tile := u, line := k } else b }
  { d with
    tier := { d.tier with
      objs := d.tier.objs.map fun e => (e.1, obj e.2)
      dir := d.tier.dir.map fun e => if e.tier = 1 ∧ e.place = t ∧ e.line = l then { e with place := u, line := k } else e }
    sparse := { d.sparse with tables := d.sparse.tables.map fun e => (e.1, tab e.2) } }

/-- The bytes and poison of `n` lines move to another place. -/
def Device.relocate (d : Device) (src dst n : Nat) : Device :=
  let bs := d.mem.filter fun e => decide (src ≤ e.1 ∧ e.1 < src + n * 64)
  let ps := d.poison.filter fun e => decide (src / 64 ≤ e.1 ∧ e.1 < src / 64 + n)
  let d := d.clearLines src n
  { d with
    mem := bs.foldl (fun m e => Store.set memReset m (e.1 - src + dst) e.2) d.mem
    poison := ps.foldl (fun m e => Store.set (fun _ => false) m (e.1 - src / 64 + dst / 64) e.2) d.poison }

/-- R229, step 3: one extent of a drained stack moves to the next tile in service with room. -/
def Device.moveExtent (d : Device) (e : Extent) : Option Device :=
  (d.tilesFrom ((e.place + 1) % Config.tiles)).findSome? fun u =>
    if d.t1Free u < e.len then none
    else
      (d.alloc1 u e.len).map fun x =>
        ((x.2.relocate (t1Key e.place e.line 0) (t1Key u x.1 0) e.len).renameT1 e.place e.line u x.1).free1 e.place e.line

/-- R229, step 3, for every extent left on a stack; none where one finds no room. -/
def Device.moveExtents (d : Device) (t : Nat) : Option Device :=
  (d.tier.t1.filter (·.place = t)).foldl (fun d e => d.bind fun d => d.moveExtent e) (some d)

/-- R229, step 3: the staging region of a drained tile goes to the next tile in service (DEDUCED, log entry 65). -/
def Device.moveStaging (d : Device) (t : Nat) : Device :=
  match d.tilesFrom ((t + 1) % Config.tiles) with
  | [] => d
  | u :: _ =>
    let n := d.rd (F.OPT_STAGE_LINES_LINES t)
    (d.wr (F.OPT_STAGE_LINES_LINES u) (d.rd (F.OPT_STAGE_LINES_LINES u) + n)).wr (F.OPT_STAGE_LINES_LINES t) 0

/-- A drain has moved everything (R230, R231). A carrier is then drained and QUIESCE is sent (R417). -/
def Device.drainDone (d : Device) (k t : Nat) : Device :=
  let d := (d.wr F.TIER_DRAIN_STATE 3).raise F.TIER_INT_STATUS_DRAIN_DONE
  let d := { d with spine := { d.spine with waitGood := d.spine.waitGood.filter fun w => k ≠ 0 ∨ w.2.1 ≠ t } }
  let d := if k = 0 then (d.moveStaging t).log 0x0205 0 4 t 0 0
    else
      let d := d.setCarrierState t 4
      let d := d.setCarrier t { d.carrier t with waiting := (d.carrier t).waiting ++ [Tag.mk 0 5 0 0 0 0 none] }
      d.t2Pump (d.carrier t).waiting.length t
  d.drainNext

/-- A drain enters FAILED (R231): what was not moved stays in use (DEDUCED, log entry 62). -/
def Device.drainFailed (d : Device) (k t : Nat) : Device :=
  let d := (d.wr F.TIER_DRAIN_STATE 4).raise F.TIER_INT_STATUS_DRAIN_FAIL
  let d := { d with tier := { d.tier with want := d.tier.want.filter (·.why ≠ 3) } }
  (d.lasting 4 4 t 4 0 (if k = 0 then 5 else 7) t).drainNext

/-- A row a drain is to move, and the tiers it may go to (R229, R230). -/
def Device.drainTiers (d : Device) (k n r : Nat) : List Nat :=
  let o := d.obj n
  if k = 0 then [1] ++ [2, 3].filter (d.usable o)
  else (d.targetTier n r (d.hotness n r) :: [1]) ++ [3].filter (d.usable o)

/-- R230: a carrier that drains has moved everything (`noRoom` false), or a record finds no room anywhere (`noRoom`
true) and the drain fails. -/
def execDrainComplete (noRoom : Bool) (s : State) : Result :=
  s.onDev fun d =>
    match d.tier.drainNow with
    | none => d
    | some (k, t) =>
      if d.rd F.TIER_DRAIN_STATE ≠ 2 then d
      else
        let left := d.tier.want.filter (·.why = 3)
        if noRoom then
          if left.any fun w => ((d.drainTiers k w.obj w.row).findSome? fun x => d.moveTo w.obj w.row x).isNone
          then d.drainFailed k t else d
        else if !left.isEmpty then d
        else if k = 1 then d.drainDone k t
        else
          match d.moveExtents t with
          | some d => d.drainDone k t
          | none => d.drainFailed k t

/-! ### Hotness -/

/-- R154, R220: the whole intervals elapsed at a commit tick, capped at 16. -/
def decayShift (commit next ticks : Nat) : Nat := min 16 ((commit - next) / ticks + 1)

/-- R220, R222: an object's decay tick has been reached at the commit tick: its sketch halves d times and its entries
are swept; pins are tried again (R223). -/
def execHotnessDecay (obj : Nat) (s : State) : Result :=
  s.onDev fun d =>
    let o := d.obj obj
    let c := d.rd64 F.SPINE_COMMIT_TICK_LO
    if !o.live || o.decay = 0 || c < o.nextDecay then d
    else
      let n := decayShift c o.nextDecay o.decay
      let d := d.setObj obj { o with sketch := sketchShift o.sketch n, nextDecay := o.nextDecay + n * o.decay }
      let d := d.sweepObj obj
      if o.pinHeld then d else d.sweepPins obj

/-! ### Moves -/

/-- A wanted move is over. -/
def Device.unwant (d : Device) (n r : Nat) : Device :=
  { d with tier := { d.tier with want := d.tier.want.filter fun w => ¬(w.obj = n ∧ w.row = r) } }

/-- R223: PIN_TIER lacks room: the pin sweep stops and the rows follow R219 without the pin. -/
def Device.pinFailed (d : Device) (n : Nat) : Device :=
  let d := { d with tier := { d.tier with want := d.tier.want.filter fun w => ¬(w.obj = n ∧ w.why = 1) } }
  (d.setObj n { d.obj n with pinHeld := false }).raise F.TIER_INT_STATUS_PIN_FAIL

/-- The tiers a wanted move may go to, best first (R222 to R224, R229, R230, R232). -/
def Device.moveTiers (d : Device) (w : WantMove) : List Nat :=
  let o := d.obj w.obj
  match w.why with
  | 0 => [d.nextLower o (d.locate w.obj w.row).1]
  | 1 => [o.pinTier]
  | 2 => [d.targetTier w.obj w.row (d.hotness w.obj w.row)] ++ [1, 2].filter (d.usable o)
  | 3 => d.drainTiers (match d.tier.drainNow with
      | some (k, _) => k
      | none => 0) w.obj w.row
  | _ => if d.carriersIn.isEmpty then [1] else [2, 1]

/-- R227: the switch of a fenced row is held until action 7 of the step's COMMIT. -/
def Device.holdMove (d : Device) (n r tier why : Nat) : Option Device :=
  let src := d.locate n r
  let dr := if tier = 3 ∨ (d.dirEntry n r).isSome then (true, d) else d.dirRoom
  if !dr.1 then none
  else
    (dr.2.placeIn n r tier).map fun p =>
      let d := p.2.2
      let v := d.version n r
      let d := match d.dirEntry n r with
        | some e => d.setEntry { e with state := 1 }
        | none => d.setEntry ⟨n, r, 3, 0, src.2.2, 1, 0⟩
      { d with
        tier := { d.tier with moves := d.tier.moves ++ [Move.mk n r v tier p.1 p.2.1 (decide (src.1 = 3)) why] }
        spine := { d.spine with defers := d.spine.defers + 1 } }.inc F.SPINE_DEFER_CNT_DEFERRED

/-- R223, R230: a pinned row that goes elsewhere than its tier reports PIN_FAIL. -/
def Device.pinElsewhere (d : Device) (n r : Nat) : Device :=
  if (d.obj n).pinned r && (d.locate n r).1 != (d.obj n).pinTier then d.raise F.TIER_INT_STATUS_PIN_FAIL else d

/-- A wanted row moves, or its move is held by the fence, or it finds no room. -/
def Device.moveWanted (d : Device) (w : WantMove) : Device :=
  let go := fun (t : Nat) =>
    if t = 0 ∨ t = (d.locate w.obj w.row).1 ∧ w.why ≤ 1 then none
    else if d.fenced w.obj w.row then d.holdMove w.obj w.row t w.why
    else d.moveTo w.obj w.row t
  match (d.moveTiers w).findSome? go with
  | some e => ((e.unwant w.obj w.row).pinElsewhere w.obj w.row).sweepSpace
  | none =>
    if w.why = 1 then d.pinFailed w.obj
    else
      let d := d.inc F.TIER_NO_ROOM_COUNT
      if w.why = 0 then d.unwant w.obj w.row else d

/-- R227: a source line that failed twice is a lasting data fault, and the move ends. -/
def Device.moveLost (d : Device) (n r : Nat) : Device :=
  let l := d.locate n r
  let d := d.unwant n r
  if l.1 = 1 then d.lastingLine l.2.1 l.2.2
  else (d.lasting 0x0200 4 l.2.1 0 r (if l.1 = 2 then 7 else 5) l.2.1 true).haltReq

/-- R232: the move out of T3 for recovery ends when no row is left to move. -/
def Device.recoveryEnd (d : Device) : Device :=
  if d.tier.recovering && !d.tier.want.any (·.why = 4) then { d with tier := { d.tier with recovering := false } } else d

/-- R226, R227: a wanted row's copy ends and it switches. `bad` is how many times a source line failed to read. A row
that leaves T3 waits for its tail acknowledgement (R187, R224). -/
def execRowMove (obj row bad : Nat) (s : State) : Result :=
  s.onDev fun d =>
    match d.tier.want.find? fun w => w.obj = obj ∧ w.row = row with
    | none => d
    | some w =>
      let pending := ((d.tableOfObj obj).map fun t => d.tailPending t row).getD false
      if (d.dirEntry obj row).map (·.state) = some 1 then d
      else if (d.locate obj row).1 = 3 ∧ pending then d
      else if (d.locate obj row).1 = 0 then (d.unwant obj row).recoveryEnd
      else if 2 ≤ bad then d.moveLost obj row
      else
        let d := if bad = 1 then d.log 4 1 4 0 0 row else d
        (d.moveWanted w).recoveryEnd.heldRun

end Sys2Proof.Machine
end

