-- ==== Sys2Proof/Machine/EmbOps.lean ====
section
/-! DEFINITION. Lookups: the occurrences a batch names (R138 to R144), the gathers of a step's distinct rows (R145 to
R148, R193), pooling (R149, R150). -/

namespace Sys2Proof.Machine

/-! ### Occurrences -/

/-- One occurrence of a row: the sample in its leaf, the feature, the row after R142, its weight, and n of R72. -/
structure Occ where
  sample : Nat
  feature : Nat
  row : Nat
  weight : Nat
  n : Nat
  deriving DecidableEq, Repr

/-- A bag after the table's policy (R141, R142). -/
def policyBag (b : Bytes) (bag : List (Nat × Nat)) : List (Nat × Nat) :=
  if dDefault b then bag.map fun e => (if dRows b ≤ e.1 then dRows b else e.1, e.2)
  else bag.filter fun e => decide (e.1 < dRows b)

/-- Samples to a leaf. -/
def Device.leafSamples (d : Device) : Nat := (d.spine.prog.map (·.leafSamples)).getD 1

/-- Put a section in its place: ascending FEATURE (R140). -/
def insertSec (x : BagSec) : List BagSec → List BagSec
  | [] => [x]
  | y :: r => if x.feature ≤ y.feature then x :: y :: r else y :: insertSec x r

/-- The step's sections of a table, ascending by FEATURE. -/
def Device.secsOf (d : Device) (t : Nat) : List BagSec :=
  (d.sparse.bags.filter (·.table = t)).foldr insertSec []

/-- The bag of sample i of a leaf in a section; none where the section carries another batch's leaves. -/
def BagSec.bag (x : BagSec) (perLeaf leaf i : Nat) : Option (List (Nat × Nat)) :=
  if leaf < x.leaf then none else x.bags[(leaf - x.leaf) * perLeaf + i]?

/-- The occurrences of a table in a leaf, ascending by (sample, position) with positions numbered through the features
(R140). -/
def Device.occsOf (d : Device) (t leaf : Nat) : List Occ :=
  let desc := (d.table t).desc
  (List.range d.leafSamples).flatMap fun i => (d.secsOf t).flatMap fun x =>
    match x.bag d.leafSamples leaf i with
    | some bag =>
      let es := policyBag desc bag
      es.map fun e => ⟨i, x.feature, e.1, e.2, es.length⟩
    | none => []

/-- The occurrences of each row, rows ascending. -/
def countRows (rs : List Nat) : Store Nat := rs.foldl (fun m r => Store.modify (fun _ => 0) m r (· + 1)) []

/-- The rows a table's sections name after R142, with their occurrences, ascending. -/
def rowCounts (desc : Bytes) (secs : List BagSec) : Store Nat :=
  countRows (secs.flatMap fun x => x.bags.flatMap fun bag => (policyBag desc bag).map (·.1))

/-- The tables a list of sections names. -/
def secTables (secs : List BagSec) : List Nat := sortNat (secs.map (·.table)).eraseDups

/-- R144, R162: the tiles sort the keys of a step. -/
def Device.countKeys (d : Device) (secs : List BagSec) : Device :=
  (secTables secs).foldl (fun d t =>
    (rowCounts (d.table t).desc (secs.filter (·.table = t))).foldl (fun d e =>
      d.inc64 (F.EMB_SLICE_KEYS_LO_COUNT (d.sortTile t e.1)) e.2) d) d

/-- R143: a step's counts are added as it enters COMPUTE. -/
def Device.countTable (d : Device) (t : Nat) : Device :=
  let desc := (d.table t).desc
  let all := (d.secsOf t).flatMap fun x => x.bags.flatMap fun bag => bag.map (·.1)
  let missing := (all.filter (· = 2 ^ 64 - 1)).length
  let gone := (all.filter (dRows desc ≤ ·)).length
  let d := d.inc64 (F.EMB_TBL_LOOKUPS_LO_COUNT t) all.length
  let d := d.inc64 (F.EMB_TBL_MISSING_LO_COUNT t) missing
  let d := d.inc64 (F.EMB_TBL_INVALID_LO_COUNT t) (gone - missing)
  let d := d.inc64 (F.EMB_TBL_DROPPED_LO_COUNT t) (if dDefault desc then 0 else gone)
  let d := d.inc64 (F.EMB_TBL_DEFAULTED_LO_COUNT t) (if dDefault desc then gone else 0)
  d.inc64 (F.EMB_TBL_DISTINCT_LO_COUNT t) (rowCounts desc (d.secsOf t)).length

/-! ### Gathers -/

/-- The object number of a table. -/
def Device.tableObj (d : Device) (t : Nat) : Nat := handleNum (dObj (d.table t).desc)

/-- The gather of a row in this step. -/
def Device.gather (d : Device) (t r : Nat) : Option Gather := d.sparse.gathers.find? fun g => g.table = t ∧ g.row = r

/-- Replace a row's gather, or add it. -/
def Device.setGather (d : Device) (g : Gather) : Device :=
  let gs := d.sparse.gathers
  let new := if gs.any (fun x => x.table = g.table ∧ x.row = g.row)
    then gs.map fun x => if x.table = g.table ∧ x.row = g.row then g else x
    else gs ++ [g]
  { d with sparse := { d.sparse with gathers := new } }

/-- R50, R148: a row comes under the write fence. -/
def Device.fenceRow (d : Device) (n r : Nat) : Device :=
  if d.fenced n r then d else { d with spine := { d.spine with fence := d.spine.fence ++ [(n, r)] } }

/-- The latest step with an unacknowledged record of a T3 row, under the fallback of R195 where its tile is in it. -/
def Device.tailStep (d : Device) (t r : Nat) : Option Nat :=
  let o := Store.get (fun _ => 0) d.sparse.ovf (d.sortTile t r)
  if o ≠ 0 then some (o - 1)
  else
    match (d.sparse.pend.filter fun e => e.table == t && e.row == r).map (·.step) with
    | [] => none
    | m :: ms => some (ms.foldl max m)

/-- R193: a gather of a T3 row that must wait for an acknowledgement. -/
def Device.tailWaits (d : Device) (t r : Nat) : Bool :=
  (d.locate (d.tableObj t) r).1 == 3 &&
    match d.tailStep t r with
    | some m => decide (m + d.rd F.OPT_TAIL_CFG_STALE_K < d.step64)
    | none => false

/-- Lines a slice reads (R162). -/
def Device.sliceLines (d : Device) (t r : Nat) : Device :=
  d.inc64 (F.EMB_SLICE_LINES_LO_COUNT (d.sortTile t r)) (dRowLines (d.table t).desc)

/-- R145 to R148: an owned row is read into its staged copy, with its version tag (R176). -/
def Device.readOwned (d : Device) (g : Gather) : Device :=
  if d.tailWaits g.table g.row then d
  else
    let n := d.tableObj g.table
    let loc := d.locate n g.row
    let d := if loc.1 = 3 ∧ (d.tailStep g.table g.row).isSome then d.inc F.OPT_TAIL_STALE_COUNT else d
    let lines := dRowLines (d.table g.table).desc
    let b := (d.record n g.row).take (lines * 64)
    let d := (d.askLoc loc false lines (some (n, g.row))).sliceLines g.table g.row
    d.setGather { g with ready := true, bytes := b, tag := d.version n g.row }

/-- R152, R153: occurrences of an owned row enter its table's sketch. -/
def Device.sketchCount (d : Device) (t r count : Nat) : Device :=
  let x := d.table t
  if !dBw x.desc then d
  else
    (d.setTable t { x with sketch := sketchAdd x.sketch (sketchKeys 0 t r) count }).inc
      (F.EMB_SLICE_SKETCH_UPD_COUNT (d.sortTile t r))

/-- The first gather of an owned row in a step, for this device or another (R146, R219 to R221, R228). -/
def Device.gatherOwned (d : Device) (t r count : Nat) : Device :=
  match d.gather t r with
  | some g => d.setGather { g with count := g.count + count }
  | none =>
    let n := d.tableObj t
    let d := (d.gatherPlace t n r).fenceRow n r
    let g : Gather := ⟨t, r, 1, count, false, [], 0, 0⟩
    (d.setGather g).readOwned g

/-- A replica is read, unless a repair of its block is awaited (R345). -/
def Device.readReplica (d : Device) (g : Gather) (b : BwRow) : Device :=
  let k := t1Key b.tile b.line 0
  let desc := (d.table g.table).desc
  d.setGather { g with ready := !d.repairHolds false k (dRecLines desc * 64), bytes := d.readKey (dRowLines desc * 64) k
                       tag := d.version (d.tableObj g.table) g.row }

/-- A distinct row of this device's step and its occurrences (R145). -/
def Device.gatherRow (d : Device) (t r count : Nat) : Device :=
  match d.replica t r with
  | some b => ((d.fenceRow (d.tableObj t) r).sliceLines t r).readReplica ⟨t, r, 0, count, false, [], 0, 0⟩ b
  | none =>
    if d.owns t r then (d.gatherOwned t r count).sketchCount t r count
    else d.setGather ⟨t, r, 2, count, false, [], 0, 0⟩

/-- A ROW_REQ or ROW_DATA entry (R324): TABLE, KIND and the row, with a count. -/
def rowEntry (t r count : Nat) : Bytes := leBytes 2 t ++ zeroBytes 2 ++ leBytes 4 (min count 0xFFFFFFFF) ++ leBytes 8 r

/-- R146: the requests for rows owned elsewhere, a set for every other member. -/
def Device.sendRequests (d : Device) : Device :=
  d.others.foldl (fun d m =>
    let gs := d.sparse.gathers.filter fun g =>
      g.src = 2 ∧ ownerOf (d.table g.table).desc g.table g.row d.flockSize = m
    d.sendSet 3 (d.memberRank m) d.step64 (bare (packPayloads (gs.map fun g => rowEntry g.table g.row g.count)))) d

/-- R143 to R148: a step's tables are counted and its rows gathered, tables and rows ascending. -/
def Device.beginGathers (d : Device) : Device :=
  let d := (secTables d.sparse.bags).foldl (fun d t =>
    (rowCounts (d.table t).desc (d.secsOf t)).foldl (fun d e => d.gatherRow t e.1 e.2) (d.countTable t)) d
  d.sendRequests

/-- Waiting gathers go on where they may (R193, R345). -/
def Device.retryGathers (d : Device) : Device :=
  (d.sparse.gathers.filter fun g => !g.ready).foldl (fun d g =>
    match g.src, d.replica g.table g.row with
    | 1, _ => d.readOwned g
    | 0, some b => d.readReplica g b
    | _, _ => d) d

/-- The bytes of a row as this step reads it; none while it has not come (DEDUCED, log entry 84). -/
def Device.gathered (d : Device) (t r : Nat) : Option Bytes :=
  match d.gather t r with
  | some g => if g.ready then some g.bytes else none
  | none => none

/-! ### Replicas -/

/-- The registers that show a table's replicas (R161) (DEDUCED, log entry 143). -/
def Device.bwView (d : Device) (t : Nat) : Device :=
  let used := (d.sparse.tables.map fun e => e.2.bw.length * dRecLines e.2.desc).sum
  (d.wr (F.EMB_TBL_STATE_BW_ROWS t) (d.table t).bw.length).wr F.EMB_BW_USED_LINES used

/-- A replica held here goes: the lines of one that is not owned are freed, an owned record stays in T1 (DEDUCED, log entry 142). -/
def Device.dropReplica (d : Device) (t : Nat) (x : BwRow) : Device :=
  let n := handleNum (dObj (d.table t).desc)
  let d := if x.own then (match d.dirEntry n x.row with
      | some e => d.setEntry { e with state := 0 }
      | none => d)
    else d.free1 x.tile x.line
  d.setTable t { d.table t with bw := (d.table t).bw.filter (·.row ≠ x.row) }

/-! ### Answers to other members -/

/-- R146: the rows a member asked for, once its set is complete and they have all been read. -/
def Device.answer (d : Device) (m : Nat) : Device :=
  let as := d.sparse.asked.filter (·.member = m)
  if d.sparse.answered.contains m || !d.setComplete 3 d.step64 (d.memberRank m) ||
      !(as.all fun a => (d.gathered a.table a.row).isSome) then d
  else
    let d := { d with sparse := { d.sparse with answered := d.sparse.answered ++ [m] } }
    if as.isEmpty then d
    else d.sendSet 4 (d.memberRank m) d.step64 (bare (packPayloads (as.map fun a => (d.gathered a.table a.row).getD [])))

/-- Every member that can be answered is (R146). -/
def Device.answerAll (d : Device) : Device := d.others.foldl Device.answer d

/-! ### Reads of a unit -/

/-- What a unit's read gives: bytes, a detected error (R243), an access error (R205). -/
inductive UnitRead where
  | bytes (b : Bytes)
  | detected (tile line : Nat)
  | bad
  deriving DecidableEq, Repr

/-- A unit reads `n` bytes. -/
def Device.unitRead (d : Device) (a n : Nat) : UnitRead :=
  match d.detectedLine (a / 64 * 64) ((a % 64 + n + 63) / 64) with
  | some (t, l) => if d.uniOk a n then .detected t l else .bad
  | none =>
    match d.uniRead a n with
    | some b => .bytes b
    | none => .bad

/-- A unit of a tile whose operand block is faulty, or whose access fails, ends without completing and is held (R125, R151,
R205). -/
def Device.holdTileUnit (d : Device) (u tile cause addr : Nat) : Device :=
  (d.setUnit u .held).lasting 0x0104 2 tile cause addr 4 tile

/-- A lookup unit's faulty operand block (R151) (DEDUCED, log entry 81). -/
def Device.lookupErr (d : Device) (u tile cause : Nat) : Device :=
  let d := (d.wr F.EMB_UNIT_ERR_CAUSE cause).wr F.EMB_UNIT_ERR_UNIT u
  (d.raise F.EMB_INT_STATUS_UNIT_ERR).holdTileUnit u tile cause 0

/-! ### Pooling -/

/-- R72, R142: the pooled vector of a bag of width `w` from its entries' values and weights. -/
def poolBag (pool w : Nat) (es : List (List Nat × Nat)) : List Nat :=
  if es.isEmpty then List.replicate w 0
  else
    let a := es.foldl (fun a e =>
      if pool = 2 then List.zipWith (fun v x => f32Fma e.2 v x) e.1 a
      else List.zipWith f32Add a e.1) (List.replicate w f32NegZero)
    if pool = 1 then a.map fun x => f32Div x (f32OfInt es.length) else a

/-- Element-operations of pooling (R160). -/
def poolCost (pool w : Nat) (bags : List Nat) : Nat :=
  (bags.sum + (if pool = 1 then 4 * (bags.filter (· ≠ 0)).length else 0)) * w

/-- One pooled vector narrowed to OUT_FORMAT (R150): its bytes, the amax it adds under R77, and its saturations. -/
def Device.poolOut (d : Device) (desc : Bytes) (vs : List Nat) : Bytes × Nat × Nat :=
  let f := dOutFormat desc
  let scaled := (f == 3 || f == 4) && d.tagOn (dOutTag desc)
  let xs := vs.map d32
  let r := narrow f (if scaled then xs.map (·.scale (d.tagExp (dOutTag desc))) else xs)
  (packBits (fmtBits f) r.1,
    if scaled then vs.foldl (fun a v => amaxOf a (fp32.enc (d32 v).abs)) f32NegZero else f32NegZero, r.2)

/-- R80, R150: a lookup unit's casts and counters, once however often it runs (R244) (DEDUCED, log entry 87). -/
def Device.lookupCounts (d : Device) (u tile t : Nat) (outs : List (Bytes × Nat × Nat)) (rows : List Nat) (cost : Nat) : Device :=
  if d.spine.rerun.contains u then d
  else
    let desc := (d.table t).desc
    let tag := dOutTag desc
    let sats := (outs.map (·.2.2)).sum
    let amax := outs.foldl (fun a o => amaxOf a o.2.1) f32NegZero
    let d := if amax = f32NegZero then d else d.noteCast tag amax sats
    let d := (d.countSat tag sats).inc64 (F.EMB_SLICE_POOL_LO_COUNT tile) cost
    rows.foldl (fun d r => d.inc64 (F.EMB_SLICE_MCAST_LO_COUNT (d.sortTile t r)) (dRowLines desc)) d

/-- A list of writes, none of which is an access error. -/
def Device.writeAll (d : Device) (ws : List (Nat × Bytes)) : Option Device :=
  ws.foldl (fun d w => d.bind fun d => d.uniWrite w.1 w.2) (some d)

/-- R149 to R151: a lookup unit with its operand block. It waits until its rows are there. -/
def Device.lookup (d : Device) (u tile : Nat) (a : Bytes) : Device :=
  let t := u16At a 0
  let x := d.table t
  let desc := x.desc
  let w := dWidth desc
  let leaf := (d.workUnit u).leaf
  let stride := u32At a 0x10
  let sec := (d.secsOf t).find? fun s => s.feature = u16At a 2 ∧ (s.bag d.leafSamples leaf 0).isSome
  let row := packedBytes (dOutFormat desc) w
  if 4096 ≤ t ∨ x.on = false then d.lookupErr u tile 1
  else
    match sec with
    | none => d.lookupErr u tile 2
    | some s =>
      if !(zeros a 4 4 && zeros a 0x14 12) then d.lookupErr u tile 3
      else if stride % 64 ≠ 0 ∨ stride < row then d.lookupErr u tile 4
      else
        let bags := (List.range d.leafSamples).map fun i => policyBag desc ((s.bag d.leafSamples leaf i).getD [])
        let rows := ((bags.flatMap id).map (·.1)).eraseDups
        if !(rows.all fun r => (d.gathered t r).isSome) then d
        else
          let val := fun r => rowValues (dFormat desc) w ((d.gathered t r).getD [])
          let outs := bags.map fun b => d.poolOut desc (poolBag (dPool desc) w (b.map fun e => (val e.1, e.2)))
          let ws := (List.range outs.length).map fun i => (u64At a 8 + i * stride, (outs.getD i ([], 0, 0)).1)
          match d.writeAll ws with
          | none => d.holdTileUnit u tile 0 (u64At a 8)
          | some d => (d.lookupCounts u tile t outs rows (poolCost (dPool desc) w (bags.map (·.length)))).unitEnd u

end Sys2Proof.Machine
end

