-- ==== Sys2Proof/Machine/SparseOps.lean ====
section
/-! DEFINITION. Row gradients: coalescing a leaf (R163, R72, R74), the trees of owned rows (R164, R169, R170), staging
(R173), tail rings and what is pending on them (R188 to R197). -/

namespace Sys2Proof.Machine

/-! ### Coalescing -/

/-- One occurrence's contribution added to its row's gradient (R72). -/
def addContribution (pool : Nat) (o : Occ) (a g : List Nat) : List Nat :=
  match pool with
  | 1 => List.zipWith (fun x y => f32Add x (f32Div y (f32OfInt o.n))) a g
  | 2 => List.zipWith (fun x y => f32Fma o.weight y x) a g
  | _ => List.zipWith f32Add a g

/-- The gradients of a leaf by row, from its occurrences and their pooled-output gradients, each sum in the occurrences'
order from -0 (R72, R74, R163). -/
def coalesce (pool w : Nat) (os : List (Occ × List Nat)) : Store (List Nat) :=
  os.foldl (fun m o => Store.modify (fun _ => List.replicate w f32NegZero) m o.1.row fun a =>
    addContribution pool o.1 a o.2) []

/-- Replace a row's node, or add it. -/
def Device.setRowNode (d : Device) (n : RowNode) : Device :=
  let rest := d.sparse.nodes.filter fun x => ¬(x.table = n.table ∧ x.row = n.row ∧ x.level = n.level ∧ x.index = n.index)
  { d with sparse := { d.sparse with nodes := rest ++ [n] } }

/-- R86, R163: the leaf nodes of a table's rows. -/
def Device.leafNodes (d : Device) (t leaf : Nat) (gs : Store (List Nat)) : Device :=
  gs.foldl (fun d e =>
    let nf := e.2.any f32NonFinite
    let d := d.setRowNode ⟨t, e.1, 0, leaf, e.2, nf⟩
    if nf then d.flagLeaf leaf 4096 else d) d

/-- FP16 values at an address as FP32. -/
def f16sOf (b : Bytes) (w : Nat) : List Nat := (List.range w).map fun i => f32OfF16 (u16At b (2 * i))

/-- The first read of a list that does not give bytes, or all the bytes. -/
def Device.unitReads (d : Device) : List (Nat × Nat) → Except UnitRead (List Bytes)
  | [] => .ok []
  | (a, n) :: r =>
    match d.unitRead a n with
    | .bytes b => (Device.unitReads d r).map (b :: ·)
    | x => .error x

/-- R163: a backward sort-and-scan unit with its operand block (DESIGN CHOICE, log entry 36). A table that is not enabled has no
occurrences. -/
def Device.sortScan (d : Device) (u tile : Nat) (a : Bytes) : Device :=
  let t := Config.sortTable a
  let desc := (d.table t).desc
  let w := dWidth desc
  let leaf := (d.workUnit u).leaf
  let os := if (d.table t).on then d.occsOf t leaf else []
  match d.unitReads (os.map fun o => (Config.sortGrad a o.feature + o.sample * Config.sortStride a o.feature, 2 * w)) with
  | .error (.detected i l) => d.detected i l (.unit u)
  | .error _ => d.holdTileUnit u tile 0 (d.workUnit u).argPtr
  | .ok bs =>
    (d.leafNodes t leaf (coalesce (dPool desc) w (os.zip (bs.map (f16sOf · w))))).unitEnd u

/-! ### Trees of rows -/

/-- The rows of nodes held here, ascending by (table, row). -/
def Device.nodeRows (d : Device) : List (Nat × Nat) :=
  (sortNat ((d.sparse.nodes.map fun n => n.table * 2 ^ 64 + n.row).eraseDups)).map fun x => (x / 2 ^ 64, x % 2 ^ 64)

/-- A row's node over one of this device's blocks (R164). -/
def Device.blockNode (d : Device) (t r : Nat) (b : Nat × Nat) : Option (List Nat × Bool) :=
  rowTree t r d.sparse.nodes b.1 (b.2 / 2 ^ b.1)

/-- A gradient entry (R168). -/
def gradEntry (t r w : Nat) (b : Nat × Nat) (v : List Nat × Bool) : Bytes :=
  leBytes 8 r ++ leBytes 2 t ++ leBytes 2 b.2 ++ leBytes 1 b.1 ++ leBytes 1 (b2n v.2) ++ zeroBytes 50 ++
    padTo (ceilDiv w 16 * 64) (f32Bytes v.1)

/-- R168, R332: this device's partials of rows that a member owns, ascending by (TABLE, ROW, BASE). -/
def Device.gradEntries (d : Device) (m : Nat) : List Bytes :=
  (d.nodeRows.filter fun x => (d.replica x.1 x.2).isNone &&
      ownerOf (d.table x.1).desc x.1 x.2 d.flockSize == m).flatMap fun x =>
    (d.blocksOf d.flockIndex).filterMap fun b =>
      (d.blockNode x.1 x.2 b).map (gradEntry x.1 x.2 (dWidth (d.table x.1).desc) b)

/-- R170: a node lies over the same leaves as, or overlaps, one of this device's blocks or a node received. -/
def Device.nodeClash (d : Device) (t r level index : Nat) : Bool :=
  let base := index * 2 ^ level
  let meets := fun (l b : Nat) => decide (base < b + 2 ^ l ∧ b < base + 2 ^ level)
  (d.blocksOf d.flockIndex).any (fun b => meets b.1 b.2) ||
    d.sparse.nodes.any fun n => n.table == t && n.row == r && meets n.level (n.index * 2 ^ n.level)

/-! ### Staging (R173) -/

/-- Rows of a tile that this device forms a root for: those it gathered as their owner. -/
def Device.stageRows (d : Device) (tile : Nat) : List Gather :=
  d.sparse.gathers.filter fun g => g.src == 1 && d.sortTile g.table g.row == tile

/-- Lines of a row's staging line set. -/
def Device.stageLines (d : Device) (t : Nat) : Nat := 1 + ceilDiv (dWidth (d.table t).desc) 16

/-- One past the highest line in use below a stack's staging region. -/
def Device.t1Highest (d : Device) (t : Nat) : Nat :=
  d.tier.t1.foldl (fun n e => if e.place = t then max n (e.line + e.len) else n) 0

/-- Room for `n` staging lines on a tile, the region enlarged from free T1 where it must be; none where that has no room. -/
def Device.stageRoom (d : Device) (tile n : Nat) : Option Device :=
  if n ≤ d.rd (F.OPT_STAGE_LINES_LINES tile) then some d
  else if d.t1Highest tile + n + d.dirShare tile ≤ Config.stackLines then some (d.wr (F.OPT_STAGE_LINES_LINES tile) n)
  else none

/-- A row's line set, with a record for an unallocated row (R214); none where there is no room. -/
def Device.stageRow (d : Device) (g : Gather) : Option Device :=
  let n := d.tableObj g.table
  let d := { d with sparse := { d.sparse with staged := d.sparse.staged ++ [Staged.mk g.table g.row none false] } }
  if (d.locate n g.row).1 ≠ 0 then some d else d.allocRow n g.row

/-- R173: the line sets of a tile's rows. None where the reservation must wait: for the requests of another member, for
staging lines, or for a record's room. -/
def Device.reserve (d : Device) (tile : Nat) : Option Device :=
  if !(d.others.all fun m => d.setComplete 3 d.step64 (d.memberRank m)) then none
  else
    let rows := (d.stageRows tile).filter fun g => !d.sparse.staged.any fun s => s.table = g.table ∧ s.row = g.row
    let held := d.sparse.staged.filter fun s => d.sortTile s.table s.row = tile
    let need := ((held.map (·.table) ++ rows.map (·.table)).map d.stageLines).sum
    (d.stageRoom tile need).bind fun d => rows.foldl (fun d g => d.bind fun d => d.stageRow g) (some d)

/-- R173, R214: a reservation waits, and the tier manager is to make room. -/
def Device.stageWait (d : Device) (tile : Nat) : Device :=
  if d.sparse.wantStage.contains tile then d
  else
    let d := { d with sparse := { d.sparse with wantStage := d.sparse.wantStage ++ [tile] } }
    let d := d.raise F.OPT_INT_STATUS_STAGE_WAIT
    (if (d.stageRows tile).any fun g => (d.locate (d.tableObj g.table) g.row).1 == 0
      then d.raise F.TIER_INT_STATUS_NO_ROOM else d).sweepSpace

/-- R173: a tile whose reservation is made waits no longer. -/
def Device.stageGot (d : Device) (tile : Nat) : Device :=
  { d with sparse := { d.sparse with wantStage := d.sparse.wantStage.filter (· ≠ tile) } }

/-- A tile's reservation is made, or waits for room or for the requests it covers. -/
def Device.stageTry (d : Device) (tile : Nat) : Device × Bool :=
  match d.reserve tile with
  | some d => (d.stageGot tile, true)
  | none => if d.others.all fun m => d.setComplete 3 d.step64 (d.memberRank m) then (d.stageWait tile, false) else (d, false)

/-- R169: the roots of a tile's rows. -/
def Device.formRoots (d : Device) (tile : Nat) : Device :=
  { d with sparse := { d.sparse with
    treesDone := d.sparse.treesDone ++ [tile]
    staged := d.sparse.staged.map fun s =>
      if d.sortTile s.table s.row ≠ tile then s
      else
        match rowTree s.table s.row d.sparse.nodes d.leafLog 0 with
        | some v => { s with root := some v.1, nf := v.2 }
        | none => { s with root := none, nf := false } } }

/-- The tiles whose owned rows have no root yet (R169). -/
def Device.treesLeft (d : Device) : List Nat :=
  (List.range Config.tiles).filter fun t => !d.sparse.treesDone.contains t && !(d.stageRows t).isEmpty

/-! ### Tail rings -/

/-- The tail rings, in ascending ring number (R188). -/
def Device.tailRings (d : Device) : List Nat := (d.ringsOf 5).take (d.rd F.OPT_TAIL_CFG_TAIL_RINGS)

/-- The tail ring, by position, of a row (R188). -/
def Device.tailRingOf (d : Device) (t r : Nat) : Nat := sortSlot t r % max 1 (d.rd F.OPT_TAIL_CFG_TAIL_RINGS)

/-- Entries of a tile's pending set. -/
def Device.pendOf (d : Device) (tile : Nat) : Nat := (d.sparse.pend.filter (·.tile = tile)).length

/-- Entries a pending set holds (R195). -/
def pendMax : Nat := 1048576

/-- The registers that show the pending sets (R195, R200). -/
def Device.pendView (d : Device) (tile : Nat) : Device :=
  (d.wr (F.OPT_PENDING_ENTRIES tile) (d.pendOf tile)).wr (F.OPT_UNIT_STATUS_PENDING_OVF tile)
    (b2n (Store.get (fun _ => 0) d.sparse.ovf tile != 0))

/-- R195: a sent record enters its tile's pending set, or finds it full. -/
def Device.pendAdd (d : Device) (t r step : Nat) : Device :=
  let tile := d.sortTile t r
  if d.pendOf tile < pendMax then
    { d with sparse := { d.sparse with pend := d.sparse.pend ++ [TailPend.mk tile t r step] } }.pendView tile
  else
    let d := { d with sparse := { d.sparse with ovf := Store.set (fun _ => 0) d.sparse.ovf tile (step + 1) } }
    ((d.wr64 (F.OPT_OVF_STEP_LO_STEP tile) step).raise F.OPT_INT_STATUS_PENDING_OVF).pendView tile

/-- One more than the lowest step acknowledged on every tail ring (R199). -/
def Device.ackedTo (d : Device) : Nat :=
  match (List.range d.tailRings.length).map fun i => Store.get (fun _ => 0) d.sparse.ackTo i with
  | [] => 0
  | a :: r => r.foldl min a

/-- R195: the fallback of a tile ends once its step is acknowledged everywhere and the set has room. -/
def Device.ovfClear (d : Device) : Device :=
  d.sparse.ovf.foldl (fun d e =>
    if e.2 ≤ d.ackedTo ∧ d.pendOf e.1 < pendMax then
      { d with sparse := { d.sparse with ovf := Store.set (fun _ => 0) d.sparse.ovf e.1 0 } }.pendView e.1
    else d) d

/-- Every sent record is acknowledged (R197). -/
def Device.tailClear (d : Device) : Bool := d.sparse.pend.isEmpty && d.sparse.ovf.isEmpty

/-- R197: the drain ends, and the spine is no longer held in IDLE. -/
def Device.tailDrainEnd (d : Device) : Device :=
  if d.sparse.tailDrain && d.tailClear then
    { d with sparse := { d.sparse with tailDrain := false } }.wr F.OPT_TAIL_CTL_DRAIN 0
  else d

/-- R191, R193, R195: step M is acknowledged on tail ring i (DEDUCED, log entry 88). -/
def Device.tailAcked (d : Device) (i m : Nat) : Device :=
  let gone := d.sparse.pend.filter fun e => e.step == m && d.tailRingOf e.table e.row == i
  let d := { d with sparse := { d.sparse with
    pend := d.sparse.pend.filter fun e => !(e.step == m && d.tailRingOf e.table e.row == i)
    ackTo := Store.modify (fun _ => 0) d.sparse.ackTo i (max (m + 1)) } }
  let d := ((gone.map (·.tile)).eraseDups).foldl Device.pendView d
  let d := (d.wr64 F.OPT_TAIL_ACK_STEP_LO_STEP (d.ackedTo - 1)).ovfClear
  (d.retryGathers.answerAll).tailDrainEnd

end Sys2Proof.Machine
end

