-- ==== Sys2Proof/Machine/VoteOps.lean ====
section
/-! DEFINITION. Votes and the root header (R334 to R338), stragglers and leaf-block moves (R347 to R349, R322, R33). -/

namespace Sys2Proof.Machine

/-! ### Leaf blocks -/

/-- Blocks in ascending base. -/
def insertBlock (b : Nat × Nat) : List (Nat × Nat) → List (Nat × Nat)
  | [] => [b]
  | c :: r => if b.2 ≤ c.2 then b :: c :: r else c :: insertBlock b r

/-- Merge the first pair of neighbours that are the halves of an aligned block; none where there is none (R322). -/
def mergeOnce : List (Nat × Nat) → Option (List (Nat × Nat))
  | a :: b :: r =>
    if a.1 = b.1 ∧ a.2 % 2 ^ (a.1 + 1) = 0 ∧ b.2 = a.2 + 2 ^ a.1 then some ((a.1 + 1, a.2) :: r)
    else (mergeOnce (b :: r)).map (a :: ·)
  | _ => none

/-- Merge repeatedly (R322); each merge leaves one block fewer. -/
def mergeFuel : Nat → List (Nat × Nat) → List (Nat × Nat)
  | 0, bs => bs
  | f + 1, bs => match mergeOnce bs with
    | some c => mergeFuel f c
    | none => bs

/-- A member's blocks after it receives a piece (R322). -/
def withPiece (bs : List (Nat × Nat)) (p : Nat × Nat) : List (Nat × Nat) :=
  let c := insertBlock p bs
  mergeFuel c.length c

/-- A donor's blocks after it gives the top piece of one of them (R348): what is left of the block, cut into aligned blocks. -/
def withoutPiece (bs : List (Nat × Nat)) (p : Nat × Nat) : List (Nat × Nat) :=
  bs.flatMap fun b =>
    if b.2 ≤ p.2 ∧ p.2 + 2 ^ p.1 ≤ b.2 + 2 ^ b.1 then
      ((List.range (b.1 - p.1)).foldl (fun (x : List (Nat × Nat) × Nat) i =>
        let j := b.1 - 1 - i
        (x.1 ++ [(j, x.2)], x.2 + 2 ^ j)) ([], b.2)).1
    else [b]

/-- One move applied to the replicas' blocks (R306, R349). -/
def applyMove (bs : List (List (Nat × Nat))) (m : LeafMove) : List (List (Nat × Nat)) :=
  (List.range bs.length).map fun i =>
    let b := bs.getD i []
    let b := if i = m.donor then withoutPiece b (m.log2, m.base) else b
    let b := if i = m.receiver then withPiece b (m.log2, m.base) else b
    mergeFuel b.length b

/-- The replicas' blocks in a step (R33). -/
def Device.blocksAt (d : Device) (step : Nat) : List (List (Nat × Nat)) :=
  (d.coll.moves.filter (·.step ≤ step)).foldl applyMove d.coll.blocks

/-- One entry of the block table: its registers, zero where there is no such block (R322). -/
def Device.blockShown (d : Device) (i : Nat) (b : Option (Nat × Nat)) : Device :=
  match b with
  | some b => ((d.wr (F.SPINE_BLOCK_VALID i) 1).wr (F.SPINE_BLOCK_LOG2_SIZE i) b.1).wr (F.SPINE_BLOCK_BASE i) b.2
  | none => d.setReg (F.SPINE_BLOCK i).key 0

/-- The registers that follow the blocks and the job (R57, R351). -/
def Device.collView (d : Device) : Device :=
  let bs := d.blocksOf d.flockIndex
  let d := (List.range 32).foldl (fun d i => d.blockShown i bs[i]?) d
  let d := (d.wr F.COLL_STATUS_JOINED (b2n d.coll.job.isSome)).wr F.COLL_STATUS_JOB_ROOT
    (b2n (d.coll.job.isSome && d.isJobRoot))
  let d := d.wr F.COLL_STATUS_STAGE_ROOT (b2n (d.coll.job.isSome && d.isStageRoot))
  let j := d.coll.job.getD {}
  let d := (d.wr F.COLL_FLOCK_F j.f).wr F.COLL_FLOCK_INDEX j.index
  let d := ((d.wr F.COLL_PIPE_P j.p).wr F.COLL_PIPE_STAGE j.stage).wr64 F.COLL_JOB_ID_LO_ID j.id
  if d.coll.job.isSome then
    (d.wr F.COLL_ROOT_JOB_ROOT (j.rank 0 d.rootIndex)).wr F.COLL_ROOT_STAGE_ROOT (j.rank j.stage d.rootIndex)
  else d.setReg F.COLL_ROOT.key 0

/-- The moves that are due take effect (R33, R322). -/
def Device.movesTake (d : Device) : Device :=
  if d.coll.moves.any (·.step ≤ d.step64) then
    let bs := d.blocksAt d.step64
    { d with coll := { d.coll with blocks := bs, moves := d.coll.moves.filter (d.step64 < ·.step) } }.collView
  else d

/-! ### Votes -/

/-- This device's BW_CHANGE entries of the step (R334). -/
def Device.ownChanges (d : Device) : List BwChange :=
  d.sparse.nextBw.filter fun c => c.step == d.step64 + 1 && d.owns c.table c.row

/-- Some owned-row root of this device is flagged (R334). -/
def Device.rowNf (d : Device) : Bool := d.sparse.staged.any (·.nf)

/-- The stage root's flag. -/
def Device.denseNf (d : Device) : Bool := d.isStageRoot && ((d.dnode d.leafLog 0).map (·.nf)).getD false

/-- Leaves a replica owns. -/
def leavesOf (bs : List (Nat × Nat)) : Nat := (bs.map fun b => 2 ^ b.1).sum

/-- R334: this device's VOTE. -/
def Device.votePayload (d : Device) : Bytes :=
  let j := d.coll.job.getD {}
  leBytes 1 (b2n d.rowNf + 2 * b2n d.denseNf + 4 * b2n d.isStageRoot + 8 * b2n d.coll.tie) ++ leBytes 1 j.stage ++
    leBytes 2 j.index ++ leBytes 4 d.ownChanges.length ++ leBytes 8 d.coll.computeTick ++ leBytes 8 d.coll.readyTick ++
    leBytes 4 (leavesOf (d.blocksOf d.flockIndex)) ++ leBytes 4 d.coll.findings.length ++ zeroBytes 32 ++
    d.coll.findings.flatMap fun f => leBytes 2 f.1 ++ zeroBytes 2 ++ leBytes 4 f.2.1 ++ leBytes 4 f.2.2 ++ zeroBytes 4

/-- R334: the device may vote: its owned-row roots are complete, the dense root where it is its stage's, its digest findings
where it is a referee. -/
def Device.mayVote (d : Device) : Bool :=
  (d.phase = .reduce || d.phase = .decide) && !d.coll.voted && !d.sparse.stopped && d.treesLeft.isEmpty &&
    (d.others.all fun m => d.setComplete 5 d.step64 (d.memberRank m)) && (!d.isStageRoot || d.coll.root) && d.judgedAll

/-! ### Stragglers (R347, R348) -/

/-- A replica's window, newest first. -/
def Device.window' (d : Device) (i : Nat) : List Nat := Store.get (fun _ => []) d.coll.windows i

/-- The mean of a window, 0 of an empty one (DESIGN CHOICE, log entry 40). -/
def meanOf (w : List Nat) : Nat := if w.isEmpty then 0 else w.sum / w.length

/-- What COLL_MEMBER_MEAN and COLL_MEMBER_STATE show of a replica (R351). -/
def Device.memberView (d : Device) (i : Nat) : Device :=
  let w := d.window' i
  let j := d.coll.job.getD {}
  let s := (List.range j.p).foldl (fun s p => min s (Store.get (fun _ => 0xFFFF) d.coll.since (p * j.f + i))) 0xFFFF
  (((d.wr (F.COLL_MEMBER_MEAN_TICKS i) (meanOf w)).wr (F.COLL_MEMBER_STATE_FILL i) w.length).wr (F.COLL_MEMBER_STATE_FULL i)
    (b2n (w.length == d.rd F.COLL_STRAG_CFG_WINDOW))).wr (F.COLL_MEMBER_STATE_SINCE_MINORITY i) s

/-- A replica's window changes. -/
def Device.setWindow (d : Device) (i : Nat) (w : List Nat) : Device :=
  { d with coll := { d.coll with windows := Store.set (fun _ => []) d.coll.windows i w } }.memberView i

/-- R347: a step's value of C enters a replica's window. -/
def Device.addWindow (d : Device) (i c : Nat) : Device :=
  if Store.get (fun _ => 0) d.coll.holdOff i = d.step64 + 1 then d
  else d.setWindow i ((c :: d.window' i).take (d.rd F.COLL_STRAG_CFG_WINDOW))

/-- Floor of a base-2 logarithm. -/
def floorLog2 (v : Nat) : Nat := ((List.range 64).filter fun i => 2 ^ i ≤ v).length - 1

/-- Indices in ascending order of a key and then of themselves. -/
def insertBy (key : Nat → Nat) (x : Nat) : List Nat → List Nat
  | [] => [x]
  | y :: r => if key x < key y ∨ (key x = key y ∧ x ≤ y) then x :: y :: r else y :: insertBy key x r

/-- Sort indices by a key. -/
def sortBy (key : Nat → Nat) (xs : List Nat) : List Nat := xs.foldr (insertBy key) []

/-- The largest block, of several the highest (R348). -/
def largestBlock (bs : List (Nat × Nat)) : Nat × Nat :=
  bs.foldl (fun m b => if m.1 < b.1 ∨ (m.1 = b.1 ∧ m.2 < b.2) then b else m) (bs.headD (0, 0))

/-- R348: the piece a lagging replica gives; none where it has one leaf. -/
def movePiece (bs : List (Nat × Nat)) (mean med : Nat) : Option (Nat × Nat) :=
  let excess := leavesOf bs * (mean - med) / mean
  let b := largestBlock bs
  let g := min (if 1 ≤ excess then floorLog2 excess else 0) b.1
  if g = b.1 ∧ bs.length = 1 ∧ b.1 = 0 then none
  else
    let g := if g = b.1 ∧ bs.length = 1 then b.1 - 1 else g
    let g := max g (bs.length - 1 + b.1 - 32)
    some (g, b.2 + 2 ^ b.1 - 2 ^ g)

/-- R348: the moves planned from the windows as (donor, receiver, piece). -/
def planMoves (f thresh moves : Nat) (mean : Nat → Nat) (full : Nat → Bool) (blocks : Nat → List (Nat × Nat)) :
    List (Nat × Nat × (Nat × Nat)) :=
  let all := List.range f
  let med := mean ((sortBy mean all).getD ((f - 1) / 2) 0)
  let lag := all.filter fun i => full i && decide ((1000 + thresh) * med < 1000 * mean i)
  let worst := sortBy (fun i => (all.map mean).foldl max 0 - mean i) lag
  worst.foldl (fun plan i =>
    let used := plan.flatMap fun p => [p.1, p.2.1]
    if plan.length = moves ∨ used.contains i then plan
    else
      match movePiece (blocks i) (mean i) med with
      | none => plan
      | some piece =>
        match (sortBy mean all).find? fun r => r != i && !used.contains r && full r &&
            decide ((withPiece (blocks r) piece).length ≤ 32) with
        | some r => plan ++ [(i, r, piece)]
        | none => plan) []

/-- R347, R348: the moves of the step, planned from the windows. -/
def Device.plan (d : Device) : List (Nat × Nat × (Nat × Nat)) :=
  if !d.flag F.COLL_STRAG_CFG_ENABLE then []
  else
    planMoves d.flockSize (d.rd F.COLL_STRAG_CFG_THRESH) (d.rd F.COLL_STRAG_CFG_MOVES) (fun i => meanOf (d.window' i))
      (fun i => (d.window' i).length == d.rd F.COLL_STRAG_CFG_WINDOW) d.blocksOf

/-! ### The root header (R335) -/

/-- The votes of a stage, as (place, payload). -/
def Device.votesOf (d : Device) (p : Nat) : List Bytes :=
  (List.range d.flockSize).map fun i => Store.get (fun _ => []) d.coll.votes (p * d.flockSize + i)

/-- The findings of a vote as (member, blocks, first block). -/
def voteFindings (v : Bytes) : List Nat :=
  (List.range (u32At v 0x1C)).map fun i => u16At v (64 + 16 * i)

/-- R344: the places found in the minority, ascending; the first with a finding no more than RETIRE_WIN comparisons ago. -/
def Device.retire (d : Device) (found : List Nat) : Option Nat :=
  found.find? fun q => decide (Store.get (fun _ => 0xFFFF) d.coll.since q + 1 ≤ d.rd F.COLL_DIGEST_CFG_RETIRE_WIN)

/-- Comparisons since each place's last finding advance (R344, R351). -/
def Device.sinceAdvance (d : Device) (found : List Nat) : Device :=
  let d := { d with coll := { d.coll with since := (List.range d.jobSize).foldl (fun m q =>
    if found.contains q then Store.set (fun _ => 0xFFFF) m q 0
    else Store.modify (fun _ => 0xFFFF) m q fun v => if v = 0xFFFF then v else min 0xFFFE (v + 1)) d.coll.since } }
  (List.range d.flockSize).foldl Device.memberView d

/-- R335: form the ROOT_HDR from every vote, with the windows, the plan and the outcome of a comparison. -/
def Device.formHdr (d : Device) : Device × Bytes :=
  let f := d.flockSize
  let p := (d.coll.job.map (·.p)).getD 1
  let votes := (List.range p).flatMap fun i => d.votesOf i
  let skip := votes.any fun v => bit (u8At v 0) 0 || bit (u8At v 0) 1
  let tie := votes.any fun v => bit (u8At v 0) 3
  let found := (List.range p).flatMap fun i => ((sortNat ((d.votesOf i).flatMap voteFindings).eraseDups)).map (i * f + ·)
  let gone := if tie then none else d.retire found
  let changes := (List.range 8).map fun i => if i < p then ((d.votesOf i).map (u32At · 4)).sum else 0
  let d := if d.coll.digStep.isSome then d.sinceAdvance found else d
  let d := if d.coll.job.isNone then d
    else (List.range f).foldl (fun d i =>
      d.addWindow i (((List.range p).map fun k =>
        let v := (d.votesOf k).getD i []
        u64At v 0x10 - u64At v 8).foldl max 0)) d
  let ms := if d.coll.job.isNone then [] else d.plan
  let d := ms.foldl (fun d m => [m.1, m.2.1].foldl (fun d i =>
    { d with coll := { d.coll with holdOff := Store.set (fun _ => 0) d.coll.holdOff i (d.step64 + 2) } }.setWindow i []) d) d
  let d := if ms.isEmpty then d else d.inc F.COLL_MOVES_COUNT ms.length
  let halt := tie || gone.isSome
  (d, leBytes 1 (b2n skip + 2 * b2n halt) ++ leBytes 1 (if tie then 1 else if gone.isSome then 2 else 0) ++
    leBytes 2 ((gone.map (· % f)).getD 0) ++ leBytes 1 ((gone.map (· / f)).getD 0) ++ leBytes 1 ms.length ++ zeroBytes 2 ++
    changes.flatMap (leBytes 4) ++ zeroBytes 24 ++
    ms.flatMap fun m => leBytes 2 m.1 ++ leBytes 2 m.2.1 ++ leBytes 2 m.2.2.2 ++ leBytes 1 m.2.2.1 ++ leBytes 1 0 ++
      leBytes 8 (d.step64 + 2))

/-- SKIP of a ROOT_HDR. -/
def hSkip (h : Bytes) : Bool := bit (u8At h 0) 0
/-- HALT. -/
def hHalt (h : Bytes) : Bool := bit (u8At h 0) 1
/-- HALT_CAUSE. -/
def hCause (h : Bytes) : Nat := u8At h 1
/-- The moves of a ROOT_HDR. -/
def hMoves (h : Bytes) : List LeafMove :=
  (List.range (u8At h 5)).map fun i =>
    let o := 64 + 16 * i
    ⟨u16At h o, u16At h (o + 2), u16At h (o + 4), u8At h (o + 6), u64At h (o + 8)⟩

/-- The places this device passes a ROOT_HDR on to (R335). -/
def Device.hdrChildren (d : Device) : List Nat :=
  let n := d.jobSize
  let r := d.rootIndex
  (treeChildren ((d.place + n - r) % n) n).map fun q => (q + r) % n

/-- R336: BW_CHANGE entries received that the root header implies, this device's own left out. -/
def Device.changesHere (d : Device) (h : Bytes) : Bool :=
  let p := (d.coll.job.map (·.stage)).getD 0
  let got := (d.sparse.nextBw.filter fun c => c.step == d.step64 + 1).length
  u32At h (8 + 4 * p) ≤ got

/-- R336: a NACK to every member whose set of changes is incomplete. -/
def Device.askChanges (d : Device) : Device :=
  d.others.foldl (fun d m =>
    let r := d.memberRank m
    if d.setComplete 6 d.step64 r then d else d.sendNack 6 r d.step64 (d.missingSeq 6 d.step64 r)) d

/-- R335, R336: the ROOT_HDR of the step: it is passed on, its moves are kept, missing changes are asked for. -/
def Device.takeHdr (d : Device) (h : Bytes) : Device :=
  let d := d.hdrChildren.foldl (fun d q => d.sendColl 0xC 1 (d.placeRank q) d.step64 [] h) d
  let ms := hMoves h
  let d := { d with coll := { d.coll with hdr := some h, moves := d.coll.moves ++ ms } }
  let d := if ms.any fun m => m.donor = d.flockIndex ∨ m.receiver = d.flockIndex then d.raise F.COLL_INT_STATUS_MOVE else d
  if d.changesHere h then d else d.askChanges

/-- R335, R337: the job root takes a vote; with all of them it forms the ROOT_HDR. -/
def Device.takeVote (d : Device) (v : Bytes) : Device :=
  let q := u8At v 1 * d.flockSize + u16At v 2
  let d := { d with coll := { d.coll with
    votes := Store.set (fun _ => []) d.coll.votes q v
    voteTicks := if d.coll.voteTicks.isNone then some 0 else d.coll.voteTicks } }
  if (List.range d.jobSize).all fun q => !(Store.get (fun _ => []) d.coll.votes q).isEmpty then
    let d := { d with coll := { d.coll with voteTicks := none } }
    let r := d.formHdr
    r.1.takeHdr r.2
  else d

/-- R334: this device votes. -/
def Device.sendVote (d : Device) : Device :=
  let d := { d with coll := { d.coll with voted := true } }
  let v := d.votePayload
  if d.isJobRoot then d.takeVote v
  else d.sendColl 0xB 1 ((d.coll.job.map fun j => j.rank 0 d.rootIndex).getD 0) d.step64 [] v

end Sys2Proof.Machine
end

