-- ==== Sys2Proof/Machine/BwOps.lean ====
section
/-! DEFINITION. Bellwether rows: decisions (R156), change lists and records (R157, R333), counts (R155), decay (R154). -/

namespace Sys2Proof.Machine

/-- Bellwether rows of a table but its default row, once the pending changes stand. -/
def Device.bwCount (d : Device) (t : Nat) : Nat :=
  let x := d.table t
  let p := d.sparse.nextBw.filter (·.table = t)
  (x.bw.filter (·.row ≠ dRows x.desc)).length + (p.filter (·.promote)).length - (p.filter (!·.promote)).length

/-- Lines of the Bellwether region once the pending changes stand. -/
def Device.bwLines (d : Device) : Nat :=
  let lines := fun (c : BwChange) => dRecLines (d.table c.table).desc
  d.rd F.EMB_BW_USED_LINES + ((d.sparse.nextBw.filter (·.promote)).map lines).sum -
    ((d.sparse.nextBw.filter (!·.promote)).map lines).sum

/-- A change decided in this step, which takes effect with the next step's COMMIT (R157). -/
def Device.addChange (d : Device) (t r : Nat) (promote : Bool) : Device :=
  let c : BwChange := ⟨d.step64 + 1, t, promote, r⟩
  { d with sparse := { d.sparse with nextBw := d.sparse.nextBw ++ [c] } }.inc
    (if promote then F.EMB_TBL_BW_PROMOTED_COUNT t else F.EMB_TBL_BW_DEMOTED_COUNT t)

/-- A change is already on its way for a row. -/
def Device.bwPending (d : Device) (t r : Nat) : Bool := d.sparse.nextBw.any fun c => c.table == t && c.row == r

/-- Changes of a kind decided in this step. -/
def Device.decided (d : Device) (promote : Bool) : Nat :=
  (d.sparse.nextBw.filter fun c => c.step = d.step64 + 1 ∧ c.promote = promote ∧ d.owns c.table c.row).length

/-- R156: demotions of a table, in the first step after a decay. -/
def Device.demotions (d : Device) (t : Nat) : Device :=
  let x := d.table t
  if !x.decayed then d
  else
    let d := d.setTable t { x with decayed := false }
    let rs := sortNat ((x.bw.filter fun b => b.own && decide (b.count < dDemote x.desc)).map (·.row))
    rs.foldl (fun d r => if 1024 ≤ d.decided false ∨ d.bwPending t r then d else d.addChange t r false) d

/-- R156, R187: one candidate for promotion. A T3 row is first moved into T1, unless a tail record of it is pending. -/
def Device.promote (d : Device) (t r : Nat) : Device :=
  let n := d.tableObj t
  if 1024 ≤ d.decided true then d
  else if (d.locate n r).1 = 3 then
    if d.tailPending t r || (d.dirEntry n r).isSome then d else (d.holdMove n r 1 5).getD d
  else if dBwMax (d.table t).desc < d.bwCount t + 1 ∨
      d.rd F.EMB_BW_CAP_LINES < d.bwLines + dRecLines (d.table t).desc then
    (d.inc (F.EMB_TBL_BW_REFUSED_COUNT t)).raise F.EMB_INT_STATUS_BW_REFUSED
  else d.addChange t r true

/-- R156: promotions of a table: the rows gathered in the step as their owner (DEDUCED, log entry 41), in descending estimate and
ascending row. -/
def Device.promotions (d : Device) (t : Nat) : Device :=
  let x := d.table t
  let est := fun r => sketchEst x.sketch (sketchKeys 0 t r)
  let rs := (d.sparse.gathers.filter fun g => g.table == t && g.src == 1 && !d.bwPending t g.row &&
    decide (dPromote x.desc ≤ est g.row)).map (·.row)
  (sortBy (fun r => 65535 - est r) rs).foldl (fun d r => d.promote t r) d

/-- R156: the decisions of the step, tables ascending. -/
def Device.bwDecide (d : Device) : Device :=
  let ts := ((d.tablesOn.filter fun e => dBw e.2.desc).map (·.1))
  ts.foldl (fun d t => (d.demotions t).promotions t) d

/-- A BW_CHANGE entry (R324). -/
def changeEntry (c : BwChange) : Bytes :=
  leBytes 2 c.table ++ leBytes 1 (if c.promote then 1 else 2) ++ zeroBytes 5 ++ leBytes 8 c.row

/-- R333: the change list in ascending (TABLE, KIND, ROW). -/
def sortChanges (cs : List BwChange) : List BwChange :=
  let key := fun (c : BwChange) => (c.table * 2 + b2n (!c.promote)) * 2 ^ 64 + c.row
  (sortNat (cs.map key)).filterMap fun k => cs.find? fun c => key c = k

/-- R333: this device's changes go to every other member. -/
def Device.sendChanges (d : Device) : Device :=
  let es := (sortChanges d.ownChanges).map changeEntry
  d.others.foldl (fun d m => d.sendSet 6 (d.memberRank m) d.step64 (bare (packPayloads es))) d

/-- R157, R333: the records of rows promoted with this step's COMMIT, after its update. -/
def Device.sendRecords (d : Device) : Device :=
  let cs := d.sparse.nextBw.filter fun c => c.step = d.step64 ∧ c.promote ∧ d.owns c.table c.row
  d.others.foldl (fun d m =>
    d.sendParts 7 (d.memberRank m) d.step64 (cs.map fun c =>
      (leBytes 2 c.table ++ zeroBytes 6 ++ leBytes 8 c.row, d.record (d.tableObj c.table) c.row)) true) d

/-- A replica joins those of a table. -/
def Device.addReplica (d : Device) (t : Nat) (b : BwRow) : Device :=
  let x := d.table t
  let d := (d.setTable t { x with bw := x.bw.filter (·.row ≠ b.row) ++ [b] }).bwView t
  d.raise F.EMB_INT_STATUS_BW_CHANGE

/-- R155, R157: the owner keeps the record as its Bellwether row in T1; none where T1 has no room for it yet. A move of the
row is abandoned (R227) (DEDUCED, log entry 67). -/
def Device.installOwn (d : Device) (t r : Nat) : Option Device :=
  let n := d.tableObj t
  let gone := d.tier.moves.filter fun m => m.obj = n ∧ m.row = r
  let d := { d with tier := { d.tier with moves := d.tier.moves.filter fun m => ¬(m.obj = n ∧ m.row = r) } }
  let d : Device := gone.foldl (fun d m => d.freeLoc (m.tier, m.place, m.line)) d
  let d : Device := d.unwant n r
  let e : Option Device := if (d.locate n r).1 = 1 then some d else d.moveTo n r 1
  e.bind fun d => (d.dirEntry n r).map fun e =>
    (d.setEntry { e with state := 2 }).addReplica t
      ⟨r, e.place, e.line, true, sketchEst (d.table t).sketch (sketchKeys 0 t r)⟩

/-- R157: another member installs the record that has come; none while it has not, or T1 has no room. -/
def Device.installOther (d : Device) (t r : Nat) : Option Device :=
  match d.sparse.records.find? fun x => x.1 = t ∧ x.2.1 = r with
  | none => none
  | some x =>
    (d.tilesFrom (d.sortTile t r)).findSome? fun i =>
      (d.alloc1 i (dRecLines (d.table t).desc)).map fun a =>
        let d := a.2.writeKey (t1Key i a.1 0) x.2.2
        ({ d with sparse := { d.sparse with records := d.sparse.records.filter fun y => ¬(y.1 = t ∧ y.2.1 = r) } }).addReplica t
          ⟨r, i, a.1, false, 0⟩

/-- R157: the promotions that are due and can be installed. -/
def Device.installBw (d : Device) : Device :=
  (d.sparse.nextBw.filter fun c => c.promote ∧ c.step < d.step64).foldl (fun d c =>
    match (if d.owns c.table c.row then d.installOwn c.table c.row else d.installOther c.table c.row) with
    | some d => { d with sparse := { d.sparse with nextBw := d.sparse.nextBw.filter (· ≠ c) } }
    | none => d) d

/-- A change that is due has not been made yet. -/
def Device.bwDue (d : Device) : Bool := d.sparse.nextBw.any fun c => decide (c.step < d.step64)

/-- R340, R341: the digests of a comparison step, once its COMMIT has ended and every change of section B has been made. -/
def Device.takeDigests (d : Device) : Device :=
  if d.coll.digStep.isSome && d.coll.digests.isEmpty && !d.bwDue then
    { d with coll := { d.coll with digests := d.allDigests } }
  else d

/-- R157: the demotions that are due. -/
def Device.demoteBw (d : Device) : Device :=
  let cs := d.sparse.nextBw.filter fun c => !c.promote ∧ c.step < d.step64
  let d := { d with sparse := { d.sparse with nextBw := d.sparse.nextBw.filter fun c => c.promote || decide (d.step64 ≤ c.step) } }
  cs.foldl (fun d c =>
    match d.replica c.table c.row with
    | some b => ((d.dropReplica c.table b).bwView c.table).raise F.EMB_INT_STATUS_BW_CHANGE
    | none => d) d

/-- R155: the counts of owned Bellwether rows grow by the root's. -/
def Device.countBw (d : Device) : Device :=
  d.sparse.bwRoots.foldl (fun d e =>
    let x := d.table e.1.table
    d.setTable e.1.table { x with bw := x.bw.map fun b =>
      if b.row = e.1.row && b.own then { b with count := min (b.count + e.2) 0xFFFFFFFF } else b }) d

/-- R154: the decay of a table whose tick the commit tick has reached. -/
def Device.decayTable (d : Device) (t : Nat) : Device :=
  let x := d.table t
  let k := dDecay x.desc
  let c := d.rd64 F.SPINE_COMMIT_TICK_LO
  if !dBw x.desc || k = 0 || c < x.nextDecay then d
  else
    let n := decayShift c x.nextDecay k
    let next := x.nextDecay + n * k
    (d.setTable t { x with
      sketch := sketchShift x.sketch n, decayed := true, nextDecay := next
      bw := x.bw.map fun b => { b with count := b.count / 2 ^ n } }).wr64 (F.EMB_TBL_NEXT_DECAY_LO_TICK t) next

/-- R154: every enabled table's decay at the end of a COMMIT. -/
def Device.decayTables (d : Device) : Device := (d.tablesOn.map (·.1)).foldl Device.decayTable d

end Sys2Proof.Machine
end

