-- ==== Sys2Proof/Machine/UpdateOps.lean ====
section
/-! DEFINITION. The updates of an applied COMMIT: dense parameters (R311, R312), rows and replicas (R172, R175 to R186), their
norms (R90) and counters. -/

namespace Sys2Proof.Machine

/-! ### One update -/

/-- R83: the optimiser input of a root under exponent s. -/
def unscale (s : Nat) (g : List Nat) : List Nat := g.map fun v => f32Scale v (-(s : Int))

/-- What one update gives: new bytes, saturations, values that are NaN or infinite (R89), the new and the old values as R90
takes them. -/
structure Updated where
  bytes : Bytes
  sats : Nat
  nf : Nat
  new : List Nat
  old : List Nat
  deriving DecidableEq, Repr

/-- R183, R184: a row's record after an update under parameter set p. -/
def rowUpdate (desc p : Bytes) (step : Nat) (rec : Bytes) (g : List Nat) : Updated :=
  let f := dFormat desc
  let n := dWidth desc
  let k := dRowLines desc * 64
  let w := rowValues f n (rec.take k)
  let x := unpackState (dOpt desc) n (rec.drop k)
  let r := optApply (dOpt desc) p step w g x
  let e := rowEncode f n r.1
  { bytes := e.1 ++ packState (dOpt desc) n r.2
    sats := e.2
    nf := optNonFinite w g x r.1 r.2
    new := rowValues f n e.1
    old := w }

/-- NUM_OPT_NF counts values made non-finite (R89) (DEDUCED, log entry 119). -/
def Device.countNf (d : Device) (n : Nat) : Device :=
  if n = 0 then d else (d.inc F.NUM_OPT_NF_COUNT n).raise F.NUM_INT_STATUS_OPT_NF

/-! ### Records -/

/-- A whole record is written where it lies; its version tag increases (R213). -/
def Device.putRecord (d : Device) (n r : Nat) (b : Bytes) : Device :=
  let loc := d.locate n r
  ((d.writeKey (locKey loc) b).askLoc loc true (b.length / 64) (some (n, r))).bumpVersion n r

/-- A table's parameter set in force with its ROW_TAG; no bytes where its rows are not updated (R178, R180). -/
def Device.rowParams (d : Device) (t : Nat) : Bytes :=
  if dOpt (d.table t).desc = 6 ∨ (d.table t).on = false then [] else Store.get (fun _ => []) d.sparse.params t

/-- The counters of an update on a tile (R200). -/
def Device.countUpdate (d : Device) (t r : Nat) (p : Bytes) (tier2 : Bool) : Device :=
  let desc := (d.table t).desc
  let tile := d.sortTile t r
  let d := (d.inc64 (F.OPT_ROWS_LO_COUNT tile)).inc64 (F.OPT_ELEM_OPS_LO_COUNT tile) (optCost (dOpt desc) (dWidth desc) p)
  if tier2 then d.inc64 (F.OPT_T2_ROWS_LO_COUNT tile) else d

/-- The device with the norms of the commit so far. -/
abbrev Sums := Device × List NormSum

/-- An update's figures: saturations under the tag (R184), norms (R90), R89's count. -/
def noteUpdate (x : Sums) (tag : Nat) (g : List Nat) (u : Updated) : Sums :=
  ((x.1.countSat tag u.sats).countNf u.nf, normAdd x.2 tag u.new g u.old)

/-- R185, R186: an owned row in T1 or T2 is updated from its root. -/
def updateOwned (s : Nat) (x : Sums) (t r : Nat) (root : List Nat) : Sums :=
  let d := x.1
  let p := d.rowParams t
  let n := d.tableObj t
  let loc := d.locate n r
  if p.isEmpty ∨ (loc.1 ≠ 1 ∧ loc.1 ≠ 2) then x
  else
    let g := unscale s root
    let u := rowUpdate (d.table t).desc p d.step64 (d.record n r) g
    let d := d.askLoc loc false ((d.obj n).recLines) (some (n, r))
    noteUpdate ((d.putRecord n r u.bytes).countUpdate t r p (loc.1 == 2), x.2) (paramTag p) g u

/-- R172, R185: a Bellwether or default row's replica is updated from its root; the default row only with DEFAULT_TRAIN. -/
def updateReplica (s : Nat) (x : Sums) (t r : Nat) (root : List Nat) : Sums :=
  let d := x.1
  let p := d.rowParams t
  let desc := (d.table t).desc
  match d.replica t r with
  | none => x
  | some b =>
    if p.isEmpty ∨ (r = dRows desc ∧ dTrain desc = false) then x
    else
      let g := unscale s root
      let k := t1Key b.tile b.line 0
      let u := rowUpdate desc p d.step64 (d.readKey (dRecLines desc * 64) k) g
      let d := (d.writeKey k u.bytes).bumpVersion (d.tableObj t) r
      noteUpdate (d.countUpdate t r p false, x.2) (paramTag p) g u

/-- Staged rows in ascending (TABLE, ROW). -/
def sortStaged (ss : List Staged) : List Staged :=
  let key := fun (s : Staged) => s.table * 2 ^ 64 + s.row
  (sortNat (ss.map key)).filterMap fun k => ss.find? fun s => key s = k

/-- The staged rows whose root is present (R175), ascending. -/
def Device.rooted (d : Device) : List Staged := sortStaged (d.sparse.staged.filter (·.root.isSome))

/-- R48, action 2: owned rows of T1 and T2, then the replicas. -/
def actionRows (s : Nat) (x : Sums) : Sums :=
  let x := x.1.rooted.foldl (fun x r => updateOwned s x r.table r.row (r.root.getD [])) x
  x.1.sparse.bwRoots.foldl (fun x e => updateReplica s x e.1.table e.1.row e.1.vec) x

/-- R176: a row whose version tag is not the one it was gathered with (DEDUCED, log entry 120). -/
def Device.versionBad (d : Device) : Option (Nat × Nat) :=
  (d.rooted.find? fun r =>
    let n := d.tableObj r.table
    !(d.rowParams r.table).isEmpty && (d.locate n r.row).1 != 3 &&
      match d.gather r.table r.row with
      | some g => g.tag != d.version n r.row
      | none => false).map fun r => (r.table, r.row)

/-! ### Dense parameters -/

/-- The parts of a dense entry that this device updates, as (first byte, bytes): all of a replicated one, its own blocks of a
sharded one (R312). -/
def Device.denseParts (d : Device) (e : Bytes) : List (Nat × Nat) :=
  if !bSharded e then [(0, bBytes e)]
  else ((List.range (ceilDiv (bBytes e) shardBytes)).filter fun b => b % d.flockSize = d.flockIndex).map fun b =>
    (b * shardBytes, min shardBytes (bBytes e - b * shardBytes))

/-- The STATE of elements [off, off + len) of a dense entry: its header and its arrays (R311). -/
def Device.denseState (d : Device) (e : Bytes) (off len : Nat) : OptState :=
  let st := bState e
  let arr := fun i => f32sAt (d.uniBytes len (st + 64 + i * bBytes e + off)) 0 (len / 4)
  let h := d.uniBytes 64 st
  { last := u64At h 0, t := u32At h 8, g2 := u32At h 0xC
    m := if bOpt e = 1 ∨ bOpt e = 4 ∨ bOpt e = 5 then arr 0 else []
    v := if bOpt e = 2 then arr 0 else if bOpt e = 4 ∨ bOpt e = 5 then arr 1 else [] }

/-- Write the arrays of STATE back. -/
def Device.putDenseState (d : Device) (e : Bytes) (off : Nat) (x : OptState) : Device :=
  let st := bState e
  let put := fun (d : Device) i (vs : List Nat) => (d.uniWrite (st + 64 + i * bBytes e + off) (f32Bytes vs)).getD d
  match bOpt e with
  | 1 => put d 0 x.m
  | 2 => put d 0 x.v
  | 4 | 5 => put (put d 0 x.m) 1 x.v
  | _ => d

/-- R182: the header line of STATE, where OPT has one. -/
def Device.putDenseHeader (d : Device) (e : Bytes) (step t : Nat) : Device :=
  if bOpt e = 0 ∨ bOpt e = 6 then d
  else (d.uniWrite (bState e) (leBytes 8 step ++ leBytes 4 t ++ zeroBytes 52)).getD d

/-- R183, R311: elements [off, off + len) of a dense entry are updated from g; `t` and `last` are the header's. -/
def Device.denseUpdate (d : Device) (e p : Bytes) (step off len t : Nat) (g : List Nat) : Device × Updated :=
  let w := f32sAt (d.uniBytes len (bParam e + off)) 0 (len / 4)
  let x := { d.denseState e off len with t := t }
  let r := optApply (bOpt e) p step w g x
  let d := (d.uniWrite (bParam e + off) (f32Bytes r.1)).getD d
  ((d.putDenseState e off r.2).bumpShards (bParam e + off) len,
    { bytes := [], sats := 0, nf := optNonFinite w g x r.1 r.2, new := r.1, old := w })

/-- A binding entry's parameter set in force; no bytes where it is not updated (R178, R311). -/
def Device.denseParams (d : Device) (i : Nat) : Bytes :=
  if bOpt (d.bindings.getD i []) = 6 then [] else Store.get (fun _ => []) d.sparse.dense i

/-- R311: one binding entry. -/
def updateDense (s : Nat) (x : Sums) (i : Nat) : Sums :=
  let e := x.1.bindings.getD i []
  let p := x.1.denseParams i
  if p.isEmpty then x
  else
    let t := u32At (x.1.uniBytes 64 (bState e)) 8
    let x := (x.1.denseParts e).foldl (fun x part =>
      let g := unscale s (f32sAt (x.1.uniBytes part.2 (bGrad e + part.1)) 0 (part.2 / 4))
      let r := x.1.denseUpdate e p x.1.step64 part.1 part.2 t g
      noteUpdate (r.1, x.2) (bTag e) g r.2) x
    (x.1.putDenseHeader e x.1.step64 (min (t + 1) (2 ^ 24)), x.2)

/-- R48, action 1. -/
def actionDense (s : Nat) (x : Sums) : Sums := (List.range x.1.bindings.length).foldl (updateDense s) x

/-- Every address a dense update touches is no access error (R205). -/
def Device.denseOk (d : Device) : Bool :=
  (List.range d.bindings.length).all fun i =>
    let e := d.bindings.getD i []
    (d.denseParams i).isEmpty ||
      (d.uniOk (bParam e) (bBytes e) && d.uniOk (bGrad e) (bBytes e) && (stateBytes e == 0 || d.uniOk (bState e) (stateBytes e)))

/-! ### Tail records -/

/-- R189: a tail record; the first 64 bytes up to the gradient. -/
def tailHead (b0 b1 t w : Nat) (p : Bytes) (step r opt seq : Nat) : Bytes :=
  leBytes 1 b0 ++ leBytes 1 b1 ++ leBytes 2 t ++ leBytes 2 w ++ leBytes 2 (paramTag p) ++ leBytes 8 step ++ leBytes 8 r ++
    sub p 8 20 ++ leBytes 1 (if opt = 1 then u32At p 0x1C % 2 else 0) ++ zeroBytes 11 ++ leBytes 4 seq ++ zeroBytes 4

/-- A gradient in whole slots. -/
def gradSlots (g : List Nat) : Bytes := padTo (ceilDiv g.length 16 * 64) (f32Bytes g)

/-- Entries of 64 bytes go to a ring, or wait for it in order (R357). -/
def Device.putSlots (d : Device) (ring : Nat) (b : Bytes) : Device := (chunks 64 b).foldl (fun d e => d.produceOrWait ring e) d

/-- R48, action 3: the owned rows of T3 that get a tail record. -/
def Device.tailRows (d : Device) : List Staged :=
  d.rooted.filter fun r => !(d.rowParams r.table).isEmpty && (d.locate (d.tableObj r.table) r.row).1 == 3

/-- R188 to R190: the records of a tail ring, by its position, and its marker. -/
def Device.tailRing (d : Device) (s : Nat) (skip : Bool) (i : Nat) : Device :=
  let ring := d.tailRings.getD i 0
  let rows := if skip then [] else d.tailRows.filter fun r => d.tailRingOf r.table r.row == i
  let step := d.step64
  let d := (List.range rows.length).foldl (fun d k =>
    match rows[k]? with
    | none => d
    | some r =>
      let desc := (d.table r.table).desc
      let p := d.rowParams r.table
      let d := d.putSlots ring (tailHead 1 (dOpt desc) r.table (dWidth desc) p step r.row (dOpt desc) k ++
        gradSlots (unscale s (r.root.getD [])))
      ((d.inc64 F.OPT_TAIL_RECORDS_LO_COUNT).inc64 (F.OPT_TAIL_ROWS_LO_COUNT (d.sortTile r.table r.row))).pendAdd r.table r.row step) d
  let d := d.putSlots ring (leBytes 1 2 ++ leBytes 1 (b2n skip) ++ zeroBytes 6 ++ leBytes 8 step ++ leBytes 4 rows.length ++
    leBytes 2 i ++ zeroBytes 42)
  { d with sparse := { d.sparse with sentTo := Store.set (fun _ => 0) d.sparse.sentTo i (step + 1) } }

/-- R48, action 3: in service mode with tail rings, their records and markers. -/
def Device.actionTail (d : Device) (s : Nat) (skip : Bool) : Device :=
  if d.flag F.SPINE_STATUS_MODE ∨ d.rd F.OPT_TAIL_CFG_TAIL_RINGS = 0 then d
  else (List.range d.tailRings.length).foldl (fun d i => d.tailRing s skip i) d

/-- Entries still wait for a tail ring (R188). -/
def Device.tailFull (d : Device) : Bool := d.tailRings.any fun r => !(d.ring r).waiting.isEmpty

end Sys2Proof.Machine
end

