-- ==== Sys2Proof/Machine/CkptOps.lean ====
section
/-! DEFINITION. Checkpoints: what a device exports (R446), the delta records of a step (R448 to R451), the rolling base (R455 to
R459). -/

namespace Sys2Proof.Machine

/-! ### What is exported (R446) -/

/-- A ring that CKPT_CFG names is one of TYPE 7 (R447). -/
def Device.ckptRing (d : Device) (f : Fld) : Option Nat :=
  if d.rd (F.RING_CFG_TYPE (d.rd f)) = 7 then some (d.rd f) else none

/-- The delta ring (DEDUCED, log entry 112). -/
def Device.deltaRing (d : Device) : Option Nat := d.ckptRing F.CKPT_CFG_DELTA_RING
/-- The base ring. -/
def Device.baseRing (d : Device) : Option Nat := d.ckptRing F.CKPT_CFG_BASE_RING

/-- This device exports row r of table t: its owner does, and Flock index 0 the default row. -/
def Device.exports (d : Device) (t r : Nat) : Bool :=
  if r = dRows (d.table t).desc then (d.table t).on && d.flockIndex == 0 else d.owns t r

/-- The exported rows of a table that lie in T1 or T2, ascending. -/
def Device.heldRows (d : Device) (t : Nat) : List Nat :=
  let n := d.tableObj t
  let held := (d.tier.dir.filter fun e => e.obj = n ∧ (e.tier = 1 ∨ e.tier = 2)).map (·.row)
  let held := held ++ if (d.replica t (dRows (d.table t).desc)).isSome then [dRows (d.table t).desc] else []
  sortNat (held.eraseDups.filter (d.exports t))

/-- Elements of a dense segment. -/
def segElems : Nat := 2 ^ 20

/-- Segments of a binding entry. -/
def segCount (e : Bytes) : Nat := ceilDiv (bBytes e / 4) segElems

/-- The segments this device exports, as (entry, segment). -/
def Device.exportSegs (d : Device) : List (Nat × Nat) :=
  (List.range d.bindings.length).flatMap fun i =>
    ((List.range (segCount (d.bindings.getD i []))).filter fun s => s % d.flockSize == d.flockIndex).map fun s => (i, s)

/-- COUNT of a segment. -/
def segLen (e : Bytes) (s : Nat) : Nat := min segElems (bBytes e / 4 - s * segElems)

/-- STATE arrays of an OPT (R182). -/
def stateArrays (opt : Nat) : Nat := if opt = 1 ∨ opt = 2 then 1 else if opt = 4 ∨ opt = 5 then 2 else 0

/-! ### Records (R448) -/

/-- A record's first slot: TYPE, FLAGS, bytes 0x02 to 0x07, STEP and the rest. -/
def recHead (ty flags : Nat) (b2 : Bytes) (step : Nat) (rest : Bytes) : Bytes :=
  leBytes 1 ty ++ leBytes 1 flags ++ padTo 6 b2 ++ leBytes 8 step ++ padTo 48 rest

/-- ROW_IMAGE (0x11) and ROW_T3 (0x12). -/
def rowImage (ty flags t step r : Nat) (b : Bytes) : Bytes :=
  recHead ty flags (leBytes 2 t ++ leBytes 2 (b.length / 64)) step (leBytes 8 r) ++ b

/-- ROW_UPDATE. -/
def rowUpdateRec (t : Nat) (desc p : Bytes) (step r seq : Nat) (g : List Nat) : Bytes :=
  tailHead 0x10 0 t (dWidth desc) p step r (dOpt desc) seq ++ gradSlots g

/-- DENSE_UPDATE. -/
def denseUpdateRec (entry seg step : Nat) (e p : Bytes) (g : List Nat) : Bytes :=
  recHead 0x13 0 (leBytes 2 entry) step (leBytes 4 seg ++ leBytes 4 g.length ++ sub p 8 20 ++
    leBytes 1 (if bOpt e = 1 then u32At p 0x1C % 2 else 0) ++ leBytes 1 (bOpt e)) ++ gradSlots g

/-- The table that names an object, where this device exports a row of it. -/
def Device.noteTable (d : Device) (n r : Nat) : Option Nat := (d.tableOfObj n).filter fun t => d.exports t r

/-- Notes as (table, row, bytes), ascending by (TABLE, ROW); of several of one row the last. -/
def Device.sortNotes (d : Device) (ns : List RowNote) : List (Nat × Nat × Bytes) :=
  let xs := ns.filterMap fun x => (d.noteTable x.obj x.row).map fun t => (t, x.row, x.bytes)
  (sortNat ((xs.map fun x => x.1 * 2 ^ 64 + x.2.1).eraseDups)).filterMap fun k =>
    xs.reverse.find? fun x => x.1 * 2 ^ 64 + x.2.1 = k

/-- Roots of rows this device exports and updates, ascending: owned rows of T1 and T2, owned Bellwether rows, default rows
(DEDUCED, log entry 109). -/
def Device.exportRoots (d : Device) : List (Nat × Nat × List Nat) :=
  let own := (d.rooted.filter fun r => (d.locate (d.tableObj r.table) r.row).1 != 3).map fun r => (r.table, r.row, r.root.getD [])
  let bw := (d.sparse.bwRoots.filter fun e => d.exports e.1.table e.1.row &&
    (e.1.row != dRows (d.table e.1.table).desc || dTrain (d.table e.1.table).desc)).map fun e => (e.1.table, e.1.row, e.1.vec)
  let xs := (own ++ bw).filter fun x => !(d.rowParams x.1).isEmpty
  (sortNat (xs.map fun x => x.1 * 2 ^ 64 + x.2.1)).filterMap fun k => xs.find? fun x => x.1 * 2 ^ 64 + x.2.1 = k

/-- The root's figures as NODE_HDR's payload (R324). -/
def Device.figuresPayload (d : Device) : Bytes :=
  hdrPayload { level := 0, index := 0, amax := d.num.amax, sat := d.num.sat }

/-- R84: s and the clean count after the step's COMMIT. -/
def Device.lossAfter (d : Device) (skip : Bool) : Nat × Nat :=
  let e := d.lossScale skip
  (e.rd F.NUM_LS_STATUS_CUR_LOG2, e.rd F.NUM_LS_STATUS_CLEAN)

/-- COMMIT or SKIP; `records` are those of the step before it (DEDUCED, log entry 110). -/
def Device.closeRec (d : Device) (skip : Bool) (records : Nat) : Bytes :=
  let ls := d.lossAfter skip
  recHead (if skip then 0x17 else 0x16) (b2n (d.flag F.SPINE_STATUS_MODE)) (leBytes 1 ls.1 ++ leBytes 1 0 ++ leBytes 2 ls.2) d.step64
    (leBytes 4 records ++ leBytes 2 (d.rd F.COLL_RANK_RANK) ++ zeroBytes 2 ++ leBytes 8 (d.rd64 F.SPINE_WMARK_LO_WMARK) ++
      leBytes 8 d.now ++ leBytes 4 (d.rd F.CKPT_GEN_GEN) ++ leBytes 4 (d.rd F.CKPT_DONE_GEN_GEN))

/-- R449: the records of an applied step before its COMMIT, after actions 1 and 2; `s` is the exponent in force in it
(DEDUCED, log entry 121). -/
def Device.deltaRecords (d : Device) (s : Nat) : List Bytes :=
  let step := d.step64
  let img := fun (ty flags : Nat) (x : Nat × Nat × Bytes) => rowImage ty flags x.1 step x.2.1 x.2.2
  let pre := (d.sortNotes d.ckpt.left).map (img 0x11 1)
  let upd := (List.range d.exportRoots.length).map fun i =>
    let x := d.exportRoots.getD i (0, 0, [])
    rowUpdateRec x.1 (d.table x.1).desc (d.rowParams x.1) step x.2.1 (pre.length + i) (unscale s x.2.2)
  let wr := (d.sortNotes (d.ckpt.written.filterMap fun x =>
    if (d.locate x.1 x.2).1 = 1 ∨ (d.locate x.1 x.2).1 = 2 then some ⟨x.1, x.2, d.record x.1 x.2⟩ else none)).map (img 0x11 0)
  let t3 := (d.sortNotes d.ckpt.entered).map (img 0x12 0)
  let dense := (d.exportSegs.filter fun x => !(d.denseParams x.1).isEmpty).map fun x =>
    let e := d.bindings.getD x.1 []
    denseUpdateRec x.1 x.2 step e (d.denseParams x.1)
      (unscale s (f32sAt (d.uniBytes (4 * segLen e x.2) (bGrad e + 4 * segElems * x.2)) 0 (segLen e x.2)))
  let num := if d.flockIndex = 0 then [recHead 0x15 0 [] step [] ++ d.figuresPayload] else []
  pre ++ upd ++ wr ++ t3 ++ dense ++ num

/-- R48, action 4, and R49: the step's records, then COMMIT or SKIP, whose end is marked for R453. -/
def Device.actionDelta (d : Device) (s : Nat) (skip : Bool) : Device :=
  let rs := if skip then [] else d.deltaRecords s
  let clear : Device := if skip then d
    else { d with ckpt := { d.ckpt with left := [], entered := [], written := [] } }
  match d.deltaRing with
  | none => clear
  | some ring =>
    let bytes := rs.flatMap id ++ d.closeRec skip rs.length
    let e := clear.putSlots ring bytes
    let stop := (e.rd (F.RING_PROD_PTR ring) + (e.ring ring).waiting.length) % 2 ^ 32
    { e with ckpt := { e.ckpt with marks := e.ckpt.marks ++ [(stop, d.step64)] } }

/-- Records still wait for the delta ring (R447). -/
def Device.deltaFull (d : Device) : Bool :=
  match d.deltaRing with
  | some r => !(d.ring r).waiting.isEmpty
  | none => false

/-- R453, R454: the lost-step bound holds for the next step. With no record durable yet, D is the step before the first whose
record is not (DEDUCED, log entry 111). -/
def Device.lostOk (d : Device) : Bool :=
  let m := d.rd F.CKPT_CTL_MAX_LOST
  let first := ((d.ckpt.marks.head?).map (·.2)).getD d.step64
  let dur := if d.ckpt.durable then (d.rd64 F.CKPT_DURABLE_LO_VALUE : Int) else (first : Int) - 1
  m == 0 || decide ((d.step64 : Int) - dur ≤ m)

/-! ### The rolling base -/

/-- Lines the generation will carry: the records of exported rows in T1 and T2, and the dense segments' lines. -/
def Device.baseLines (d : Device) : Nat :=
  (d.tablesOn.map fun e => (d.heldRows e.1).length * dRecLines e.2.desc).sum +
    (d.exportSegs.map fun x =>
      let e := d.bindings.getD x.1 []
      1 + (1 + stateArrays (bOpt e)) * ceilDiv (segLen e x.2) 16).sum

/-- The tables of the generation in ascending object number. -/
def Device.baseTables (d : Device) : List Nat :=
  (sortNat (d.tablesOn.map fun e => d.tableObj e.1)).filterMap d.tableOfObj

/-- BASE_STATE (R448): the history's HIST_LEN slots, oldest first, NEXT the slot after the newest (DEDUCED, log entry 115). -/
def Device.baseState (d : Device) (step : Nat) : Bytes :=
  let tag := fun (t : Nat) =>
    let n := d.rd (F.NUM_TAG_CFG_HIST_LEN t)
    let h := (d.tagHist t).reverse
    padTo 64 (leBytes 1 n ++ leBytes 1 (d.rd (F.NUM_TAG_SCALE_E t)) ++ leBytes 2 (d.rd (F.NUM_TAG_SCALE_CORR_CNT t)) ++
      leBytes 1 (h.length % max 1 n)) ++ padTo 256 (f32Bytes h)
  recHead 0x22 0 (leBytes 1 (d.rd F.NUM_LS_STATUS_CUR_LOG2) ++ leBytes 1 0 ++ leBytes 2 (d.rd F.NUM_LS_STATUS_CLEAN)) step [] ++
    (List.range 4096).flatMap tag

/-- R455: a generation begins after the COMMIT of step `step`. -/
def Device.baseBegin (d : Device) (step : Nat) : Device :=
  match d.baseRing with
  | none => { d with ckpt := { d.ckpt with asked := false, fresh := false } }
  | some ring =>
    let gen := d.ckpt.gens + 1
    let lines := d.baseLines
    let i := d.interval * 1000000
    let g : BaseGen := { gen := gen, began := d.now, interval := i, lines := lines,
                         row := (d.baseTables.head?).map fun t => (t, 0), seg := d.exportSegs.head? }
    let d := { d with ckpt := { d.ckpt with
      run := some { g with whole := g.row.isNone && g.seg.isNone }
      gens := gen, began := some (d.now, i), asked := false, fresh := false } }
    let d := ((d.wr64 F.CKPT_BASE_LINES_LO_VALUE lines).wr64 F.CKPT_BASE_DONE_LO_VALUE 0).ckptView
    let d := d.putSlots ring (recHead 0x20 0 (leBytes 2 0 ++ leBytes 4 gen) step (leBytes 8 lines ++
      leBytes 2 (d.rd F.COLL_RANK_RANK) ++ leBytes 2 d.flockSize ++ leBytes 2 d.flockIndex))
    if d.flockIndex = 0 then d.putSlots ring (d.baseState step) else d

/-- The slots of a record for the snapshot buffer: its header slot, then its lines (DEDUCED, log entry 113). -/
def snapSlots (b : Bytes) : List (Bool × Bytes) :=
  match chunks 64 b with
  | [] => []
  | h :: r => (false, h) :: r.map fun x => (true, x)

/-- R456: the rows of a segment that begins at row `first`, at most 65,536 lines of held records, and its last row. -/
def Device.segRows (d : Device) (t first : Nat) : List Nat × Nat :=
  let rows := (d.heldRows t).filter (first ≤ ·)
  let n := 65536 / max 1 (dRecLines (d.table t).desc)
  match rows[n]? with
  | some r => (rows.take n, r - 1)
  | none => (rows, (d.obj (d.tableObj t)).size - 1)

/-- The next segment of a generation: its slots, and the generation after it (R456). -/
def Device.nextSegment (d : Device) (g : BaseGen) (step : Nat) : List (Bool × Bytes) × BaseGen :=
  match g.row, g.seg with
  | some (t, first), _ =>
    let x := d.segRows t first
    let head := recHead 0x21 0 (leBytes 2 t) step (leBytes 8 first ++ leBytes 8 x.2)
    let body := x.1.flatMap fun r => snapSlots (rowImage 0x11 2 t step r (d.rowBytes t r))
    let next := if x.2 + 1 < (d.obj (d.tableObj t)).size then some (t, x.2 + 1)
      else ((d.baseTables.dropWhile (· ≠ t)).drop 1).head?.map fun u => (u, 0)
    ((false, head) :: body, { g with row := next, whole := next.isNone && g.seg.isNone })
  | none, some (i, s) =>
    let e := d.bindings.getD i []
    let n := 4 * segLen e s
    let off := 4 * segElems * s
    let arr := fun a => padTo (ceilTo 64 n) (d.uniBytes n a)
    let hdr := if bOpt e = 0 ∨ bOpt e = 6 then zeroBytes 64 else d.uniBytes 64 (bState e)
    let b := recHead 0x14 2 (leBytes 2 i) step (leBytes 4 s ++ leBytes 4 (segLen e s)) ++ hdr ++ arr (bParam e + off) ++
      (List.range (stateArrays (bOpt e))).flatMap fun k => arr (bState e + 64 + k * bBytes e + off)
    let next := ((d.exportSegs.dropWhile (· ≠ (i, s))).drop 1).head?
    (snapSlots b, { g with seg := next, whole := next.isNone })
  | none, none => ([], { g with whole := true })

/-- Lines the snapshot buffer holds. -/
def Device.snapLines (d : Device) : Nat := (d.ckpt.snap.filter (·.1)).length

/-- R457, R458: captures until the lines captured reach the pace or the buffer has no room; `fuel` bounds the segments. -/
def Device.capture (step : Nat) : Nat → Device → Device
  | 0, d => d
  | fuel + 1, d =>
    match d.ckpt.run with
    | none => d
    | some g =>
      let e := d.now - g.began
      let due := g.done < min g.lines (g.lines * (4 * e) / (3 * g.interval)) ∨ 3 * g.interval ≤ 4 * e
      let x := d.nextSegment g step
      let n := (x.1.filter (·.1)).length
      if g.whole ∨ !due ∨ d.rd F.CKPT_SNAP_LINES_LINES < d.snapLines + n then d
      else
        let g := { x.2 with done := g.done + n, endStep := step }
        Device.capture step fuel ({ d with ckpt := { d.ckpt with run := some g, snap := d.ckpt.snap ++ x.1 } }.wr64
          F.CKPT_BASE_DONE_LO_VALUE g.done)

/-- R455 to R458: what the end of a COMMIT does for the base; `step` is the step that committed. -/
def Device.baseCommit (d : Device) (step : Nat) : Device :=
  let due := d.ckpt.asked || d.ckpt.fresh || match d.ckpt.began with
    | some (t, i) => decide (t + i ≤ d.now)
    | none => false
  let d := if !due then d
    else if d.ckpt.run.isSome then ({ d with ckpt := { d.ckpt with asked := true } }).raise F.CKPT_INT_STATUS_BASE_LATE
    else d.baseBegin step
  d.capture step (d.baseLines + d.tier.objs.length + d.exportSegs.length + 1)

/-- The ring takes no more records now: no room, or records already wait (R358). -/
def Device.ringHeld (d : Device) (ring : Nat) : Bool := !d.ringRoom ring || !(d.ring ring).waiting.isEmpty

/-- What the snapshot buffer holds, once a slot leaves it. -/
def Device.setSnap (d : Device) (r : List (Bool × Bytes)) : Device := { d with ckpt := { d.ckpt with snap := r } }

/-- R457: captured slots go onto the base ring while it has room. `fuel` bounds them. -/
def Device.snapDrain (ring : Nat) : Nat → Device → Device
  | 0, d => d
  | fuel + 1, d =>
    match d.ckpt.snap with
    | [] => d
    | x :: r =>
      if d.ringHeld ring then d else Device.snapDrain ring fuel ((d.setSnap r).produceOrWait ring x.2)

/-- A generation's end: its BASE_END, what the registers show of it, BASE_DONE, and a generation asked for begun (R457, R459). -/
def Device.baseClose (d : Device) (ring : Nat) (g : BaseGen) : Device :=
  let d := d.putSlots ring (recHead 0x23 0 (leBytes 2 0 ++ leBytes 4 g.gen) g.endStep (leBytes 8 g.endStep ++ leBytes 8 g.done))
  let d := (d.wr F.CKPT_DONE_GEN_GEN g.gen).wr64 F.CKPT_DONE_END_LO_VALUE g.endStep
  let d := ({ d with ckpt := { d.ckpt with run := none } }.ckptView).raise F.CKPT_INT_STATUS_BASE_DONE
  if d.ckpt.asked then d.baseBegin (d.step64 - 1) else d

/-- R456: BASE_END, once every segment lies on the ring; a generation that is due then begins (R455). -/
def Device.baseEnd (d : Device) (ring : Nat) : Device :=
  match d.ckpt.run with
  | none => d
  | some g =>
    if !g.whole || !d.ckpt.snap.isEmpty || d.ringHeld ring then d else d.baseClose ring g

end Sys2Proof.Machine
end

