-- ==== Sys2Proof/Machine/DmaOps.lean ====
section
/-! DEFINITION. DMA descriptors and how their lines move (R367 to R379). -/

namespace Sys2Proof.Machine

/-! ### Descriptors -/

/-- OP (R367). -/
def qOp (b : Bytes) : Nat := u8At b 0
/-- RUN. -/
def qRun (b : Bytes) : Nat := u32At b 4
/-- SRC. -/
def qSrc (b : Bytes) : Nat := u64At b 8
/-- DST. -/
def qDst (b : Bytes) : Nat := u64At b 0x10
/-- NEXT. -/
def qNext (b : Bytes) : Nat := u64At b 0x18
/-- COUNT0 to COUNT2. -/
def qCount (b : Bytes) (i : Nat) : Nat := u16At b (0x20 + 2 * i)
/-- SRC_STRIDE0 to SRC_STRIDE2. -/
def qSrcStride (b : Bytes) (i : Nat) : Int := toInt 32 (u32At b (0x28 + 4 * i))
/-- DST_STRIDE0 to DST_STRIDE2. -/
def qDstStride (b : Bytes) (i : Nat) : Int := toInt 32 (u32At b (0x34 + 4 * i))

/-- History space c is enabled (R291). -/
def Device.spaceOn (d : Device) (c : Nat) : Bool := decide (c < 8) && bit (d.rd F.HIST_STATUS_ENABLED) c

/-- The object number of a history space. -/
def Device.spaceObj (d : Device) (c : Nat) : Nat := handleNum (d.rd (F.HIST_SPACE_OBJ_HANDLE c))

/-- L of a history space. -/
def Device.spaceL (d : Device) (c : Nat) : Nat := d.rd (F.HIST_SPACE_GEOM_L c)

/-- The byte offset of a page list in its object (R265). -/
def listOff (list : Nat) : Nat := 9 * list * 64

/-- The byte offset of a page slot in its object (R265). -/
def Device.slotOff (d : Device) (c slot : Nat) : Nat :=
  (9 * d.rd (F.HIST_SPACE_LISTS_LISTS c) + slot * (1 + 2 * d.spaceL c)) * 64

/-- R371: a PAGE_WALK outside what R371 gives it. -/
def Device.walkBad (d : Device) (b : Bytes) : Bool :=
  let c := qCount b 2 - 1
  let src := qSrc b
  decide (qCount b 2 = 0 ∨ 8 < qCount b 2 ∨ qCount b 0 = 0 ∨ 128 < qCount b 0 ∨ qCount b 1 = 0 ∨
      128 < qCount b 0 - 1 + qCount b 1 ∨ qRun b % 64 ≠ 0 ∨ qRun b = 0 ∨ (1 + 2 * d.spaceL c) * 64 < qRun b) ||
    !d.spaceOn c ||
    decide (uniSpace src ≠ 0 ∨ uniNum src ≠ d.spaceObj c ∨ uniOff src % (9 * 64) ≠ 0 ∨
      d.rd (F.HIST_SPACE_LISTS_LISTS c) ≤ uniOff src / (9 * 64)) ||
    (List.range 3).any (fun i => qSrcStride b i != 0) || qDstStride b 1 != 0 || qDstStride b 2 != 0

/-- R370: a descriptor fails its check. -/
def Device.descBad (d : Device) (b : Bytes) : Bool :=
  let op := qOp b
  let ss := (List.range 3).map (qSrcStride b)
  let ds := (List.range 3).map (qDstStride b)
  decide (3 < op ∨ (if op = 1 then 1 < u8At b 1 else u8At b 1 ≠ 0 ∨ u16At b 2 ≠ 0)) || !zeros b 0x26 2 ||
    decide (qRun b < 4 ∨ 4194304 < qRun b ∨ qRun b % 4 ≠ 0) || (List.range 3).any (fun i => qCount b i == 0) ||
    decide (qDst b % 4 ≠ 0 ∨ (op ≠ 2 ∧ qSrc b % 4 ≠ 0) ∨ qNext b % 64 ≠ 0) || (ss ++ ds).any (fun x => x % 4 != 0) ||
    (op == 1 && (decide (qRun b % 64 ≠ 0 ∨ qDst b % 64 ≠ 0 ∨ uniSpace (qDst b) ≠ 0) || ds.any (fun x => x % 64 != 0))) ||
    (op == 2 && (decide (qRun b % 8 ≠ 0) || ss.any (· != 0))) ||
    (op != 3 && uniSpace (qDst b) == 0 && (List.range 8).any fun c => d.spaceOn c && d.spaceObj c == uniNum (qDst b)) ||
    (op == 3 && d.walkBad b)

/-! ### Positions -/

/-- Lines of a run. -/
def qLines (b : Bytes) : Nat := ceilDiv (qRun b) 64

/-- Lines of a descriptor: a PAGE_WALK moves COUNT1 pages (R371). -/
def qTotal (b : Bytes) : Nat :=
  if qOp b = 3 then qCount b 1 * qLines b else qCount b 0 * qCount b 1 * qCount b 2 * qLines b

/-- Lines of the descriptor that lie before the channel's position (R368). -/
def Channel.before (h : Channel) : Nat :=
  (if qOp h.cur = 3 then h.i1 else (h.i2 * qCount h.cur 1 + h.i1) * qCount h.cur 0 + h.i0) * qLines h.cur + h.line

/-- The position one line on (R368): loop 0 is innermost. -/
def Channel.next (h : Channel) : Channel :=
  if h.line + 1 < qLines h.cur then { h with line := h.line + 1 }
  else if qOp h.cur = 3 then { h with line := 0, i1 := h.i1 + 1 }
  else if h.i0 + 1 < qCount h.cur 0 then { h with line := 0, i0 := h.i0 + 1 }
  else if h.i1 + 1 < qCount h.cur 1 then { h with line := 0, i0 := 0, i1 := h.i1 + 1 }
  else { h with line := 0, i0 := 0, i1 := 0, i2 := h.i2 + 1 }

/-- An address plus a signed distance, formed on OFFSET or HPA; none outside the field (R368). -/
def addrPlus (a : Nat) (x : Int) : Option Nat :=
  let w := if uniSpace a = 1 then 52 else 46
  let s := (a % 2 ^ w : Nat) + x
  if 0 ≤ s ∧ s < (2 ^ w : Nat) then some (a / 2 ^ w * 2 ^ w + s.toNat) else none

/-- The source or destination address of the line at the position (R368). -/
def Channel.lineAddr (h : Channel) (a : Nat) (stride : Nat → Int) : Option Nat :=
  addrPlus a (h.i0 * stride 0 + h.i1 * stride 1 + h.i2 * stride 2 + 64 * h.line)

/-- Bytes of the line at the position. -/
def Channel.lineBytes (h : Channel) : Nat := min 64 (qRun h.cur - 64 * h.line)

/-! ### One line -/

/-- How a line's move ended: with the write made, with a bus error, with the unit of the chain sent back (R243), or not at
all, where a repair holds what it reads (R345). -/
inductive LineEnd where
  | moved (d : Device)
  | failed (d : Device)
  | sentBack (d : Device)
  | held
  deriving DecidableEq, Repr

/-- The unit whose chain a channel runs (R377). -/
def Channel.unit (h : Channel) : Option Nat := h.units.head?

/-- A poisoned line of a class 1 object among `n` bytes: a detected error (R243). -/
def Device.detectedAt (d : Device) (a n : Nat) : Option (Nat × Nat) :=
  if uniSpace a ≠ 0 ∨ (d.obj (uniNum a)).ecc ≠ 1 then none
  else ([d.uniKey a, d.uniKey (a + n - 1)].find? d.poisoned).map fun k => ((k - 2 ^ 64) / 2 ^ 34, (k - 2 ^ 64) % 2 ^ 34 / 64)

/-- Bytes written at a unified address for a channel; poisoned ones reach host memory marked so (R378). -/
def Device.dmaPut (d : Device) (a : Nat) (b : Bytes) (poison : Bool) : LineEnd :=
  match d.uniWrite a b with
  | none => .failed d
  | some d =>
    let d := d.bumpShards a b.length
    .moved (if poison && uniSpace a == 1 then
        (d.setPoison (uniHpa a) true).setPoison (uniHpa a + b.length - 1) true else d)

/-- A detected error that a unit of the chain, or none, meets (R243, R245) (DEDUCED, log entry 96). -/
def Device.chanMeets (d : Device) (u : Option Nat) : Option (Nat × Nat) → Device
  | some (t, l) => d.detected t l (match u with
    | some u => .unit u
    | none => .other)
  | none => d

/-- What the unit of the chain reads comes under the write fence (R50). -/
def Device.chanFence (d : Device) (a : Nat) : Option Nat → Device
  | some u => d.fenceRead u a 1
  | none => d

/-- `n` bytes read for a channel (R378): a detected error ends a unit's chain or is lasting (R243, R245), poisoned lines read
as 0xFF. `f` gets the bytes and whether any was poisoned. -/
def Device.readLine (d : Device) (h : Channel) (a n : Nat) (f : Device → Bytes → Bool → LineEnd) : LineEnd :=
  if !d.uniOk a n then .failed d
  else
    let gather : Bool := match h.unit with
      | some u => bit (d.workUnit u).flags 2
      | none => false
    if gather && d.repairHolds true a n then .held
    else
      let d := d.chanMeets h.unit (d.detectedAt a n)
      let back : Bool := match h.unit with
        | some u => d.unitSt u == .waiting
        | none => false
      if back then .sentBack d
      else
        let d := d.chanFence a h.unit
        f (d.uniAsk a n) (d.uniBytes n a) (d.poisoned (d.uniKey a) || d.poisoned (d.uniKey (a + n - 1)))

/-- One line of a PAGE_WALK (R371): `h.cur` holds the descriptor and then the list. -/
def Device.walkLine (d : Device) (e c : Nat) (h : Channel) : LineEnd :=
  let list := h.cur.drop 64
  let sp := qCount h.cur 2 - 1
  let page := qCount h.cur 0 - 1 + h.i1
  let slot := u32At list (64 + 4 * page)
  match addrPlus (qDst h.cur) (h.i1 * qDstStride h.cur 0 + 64 * h.line) with
  | none => .failed d
  | some dst =>
    if slot = 0xFFFFFFFF ∨ u8At list 0xA ≤ page then
      d.dmaPut dst (zeroBytes 64) false |> fun r => match r with
        | .moved d => .moved (if h.line = 0 then d.inc (F.DMA_CH_WALK_EMPTY_COUNT e c) else d)
        | r => r
    else
      d.readLine h (uniOfObj (d.spaceObj sp) (d.slotOff sp slot + 64 * h.line)) 64 fun d b p => d.dmaPut dst b p

/-- The line at a channel's position moves (R368, R369). -/
def Device.moveLine (d : Device) (e c : Nat) (h : Channel) : LineEnd :=
  let b := h.cur
  if qOp b = 3 then d.walkLine e c h
  else
    match h.lineAddr (qDst b) (qDstStride b) with
    | none => .failed d
    | some dst =>
      if qOp b = 2 then
        d.dmaPut dst (((List.replicate 8 (sub b 8 8)).flatten).take h.lineBytes) false
      else
        match h.lineAddr (qSrc b) (qSrcStride b) with
        | none => .failed d
        | some src =>
          d.readLine h src h.lineBytes fun d data p =>
            if qOp b = 0 then d.dmaPut dst data p
            else if !d.uniOk dst 64 then .failed d
            else
              let k := d.uniKey dst - 2 ^ 64
              .moved ((d.accumulate (k / 2 ^ 34) (k % 2 ^ 34 / 64) data (bit (u8At b 1) 0) (u16At b 2) h.unit.isSome).bumpShards
                dst 64)

/-! ### Chains -/

/-- A channel halts (R370, R376, R379). Attempts beyond what DMA_CH_ERR can show read as a free value (DESIGN CHOICE, log entry 92). -/
def Device.chanHalt (d : Device) (e c cause : Nat) : Device :=
  let h := d.chan e c
  let a := if 16 ≤ h.attempts then d.fresh % 16 else h.attempts
  let d := if 16 ≤ h.attempts then d.used else d
  let d := d.setChan e c { h with st := .halted, cause := cause, attempts := a, pauseReq := false }
  if cause = 1 ∨ cause = 4 then
    (d.raise (F.DMA_ENG_INT_STATUS_HALT e)).lasting 0x0B01 10 e cause h.desc 9 e
  else d.raise (F.DMA_ENG_INT_STATUS_DESC_ERR e)

/-- An access of a channel failed (R378): it is to be tried again, or the channel halts with cause 1. -/
def Device.chanFail (d : Device) (e c : Nat) : Device :=
  let h := d.chan e c
  let d := d.setChan e c { h with attempts := h.attempts + 1, st := .retrying }
  if d.rd (F.DMA_ENG_CFG_RETRY e) < h.attempts + 1 then d.chanHalt e c 1 else d

/-- An engine reaches a descriptor of its chain (R370) (DEDUCED, log entry 94). -/
def Device.reach (d : Device) (e c addr : Nat) : Device :=
  let h := { d.chan e c with desc := addr, cur := [], i0 := 0, i1 := 0, i2 := 0, line := 0 }
  let d := d.setChan e c h
  if 65536 ≤ h.chain then d.chanHalt e c 3
  else
    match d.uniRead addr 64 with
    | none => d.chanFail e c
    | some b =>
      let d := d.uniAsk addr 64
      if d.descBad b then d.chanHalt e c 2
      else
        let list := if qOp b = 3 then d.uniBytes (9 * 64) (qSrc b) else []
        d.setChan e c { h with cur := b ++ list, chain := h.chain + 1, attempts := 0 }

/-- A line has moved: the position advances; the descriptor's last line leads to the next descriptor or the chain's end. -/
def Device.lineMoved (d : Device) (e c : Nat) : Device :=
  let d := d.inc64 (F.DMA_ENG_LINES_LO_COUNT e)
  let h := (d.chan e c).next
  if h.before < qTotal h.cur then d.setChan e c h
  else if qNext h.cur = 0 then d.setChan e c { d.chan e c with ended := true }
  else d.reach e c (qNext h.cur)

/-- The chain of a channel leaves its ring (R373, R375, R377): RING_CONS advances, TYPE 2 gets its completion (R366), a unit
ends. -/
def Device.chainEnd (d : Device) (e c status : Nat) (unitToo : Bool) : Device :=
  match d.chanRing e c with
  | none => d
  | some r =>
    let h := d.chan e c
    let cons := d.rd (F.RING_CONS r)
    let d := d.ringConsume r
    let d := if d.rd (F.RING_CFG_TYPE r) = 2 then
        d.produceOrWait (d.rd (F.RING_PAIR_PAIR r))
          (leBytes 1 status ++ leBytes 1 e ++ leBytes 2 r ++ leBytes 4 cons ++ leBytes 8 h.desc)
      else d
    let d := match h.unit with
      | some u => if unitToo && d.unitSt u == UnitSt.running (placeEngine e) then d.unitEnd u else d
      | none => d
    d.setChan e c { units := h.units.drop 1, st := if d.ringEmpty r then .idle else .running }

/-- Lines of the descriptor in progress move until it ends, or one of them fails: the one after `fail` others, where
given. -/
def Device.moveLines (e c : Nat) : Nat → Option Nat → Device → Device
  | 0, _, d => d
  | fuel + 1, fail, d =>
    match (if fail = some 0 then LineEnd.failed d else d.moveLine e c (d.chan e c)) with
    | .moved d => Device.moveLines e c fuel (fail.map (· - 1)) (d.lineMoved e c)
    | .failed d => d.chanFail e c
    | .sentBack d => d.chainEnd e c 1 false
    | .held => d

/-- The engine's domain is ON. -/
def Device.engOn (d : Device) (e : Nat) : Bool := decide (e < Config.dmaEngines) && d.domOn (Block.domain .dma e)

/-- A running channel carries out its descriptor if its OP is `op` (R369, R372). -/
def Device.runDesc (d : Device) (e c op : Nat) (fail : Option Nat) : Device :=
  let h := d.chan e c
  if !(d.engOn e && h.st == .running && h.live && !h.ended && !h.cur.isEmpty && qOp h.cur == op) then d
  else Device.moveLines e c (qTotal h.cur - h.before) fail d

/-- The write of one bit of DMA_CH_CTL (R375): `bit'` is its number; a value that sets more than one is ignored as a whole and
logged. -/
def Device.chanCtl (d : Device) (e value bit' : Nat) (may : ChState → Bool) (f : Device → Nat → Device) : Device :=
  if Config.dmaEngines ≤ e ∨ bit value bit' = false then d
  else
    let off := (F.DMA_CH_CTL e 0).key
    d.access off fun d =>
      let c := d.rd (F.DMA_CH_SEL_CHANNEL e)
      if value % 8 ≠ 2 ^ bit' ∨ may (d.chanState e c) = false then d.logAccess off else f d c

end Sys2Proof.Machine
end

