-- ==== Sys2Proof/Machine/HistOps.lean ====
section
/-! DEFINITION. The history cache: spaces, page lists and slots (R264 to R272, R276, R280), and what history units read and
form (R281 to R289). -/

namespace Sys2Proof.Machine

/-! ### Spaces, lists and slots -/

/-- Lines of a page slot (R267). -/
def Device.slotLines (d : Device) (c : Nat) : Nat := 1 + 2 * d.spaceL c

/-- R264: a space's geometry lies in its limits. -/
def Device.geomOk (d : Device) (c : Nat) : Bool :=
  let l := d.spaceL c
  let h := d.rd (F.HIST_SPACE_GEOM_H c)
  let w := d.rd (F.HIST_SPACE_GEOM_D c)
  let f := d.rd (F.HIST_SPACE_GEOM_FORMAT c)
  let ls := d.rd (F.HIST_SPACE_LISTS_LISTS c)
  let ps := d.rd (F.HIST_SPACE_PAGES_PAGES c)
  decide (32 ≤ l ∧ l ≤ 512 ∧ l % 32 = 0 ∧ 1 ≤ h ∧ h ≤ 32 ∧ 16 ≤ w ∧ w ≤ 128 ∧ w % 16 = 0 ∧ (f = 1 ∨ f = 3) ∧
    1 ≤ ls ∧ ls ≤ 1048576 ∧ 1 ≤ ps ∧ ps ≤ 16777215)

/-- R265: a space's object is a live HISTORY object large enough for its lists and slots. -/
def Device.histObjOk (d : Device) (c : Nat) : Bool :=
  let h := d.rd (F.HIST_SPACE_OBJ_HANDLE c)
  let o := d.obj (handleNum h)
  d.handleLive h && o.kind == 3 &&
    decide (9 * d.rd (F.HIST_SPACE_LISTS_LISTS c) + d.rd (F.HIST_SPACE_PAGES_PAGES c) * d.slotLines c ≤ o.size)

/-- The bytes of a free list (R271). -/
def freeListBytes : Bytes := zeroBytes 64 ++ List.replicate 512 0xFF

/-- The unified address of a page list. -/
def Device.listAddr (d : Device) (c list : Nat) : Nat := uniOfObj (d.spaceObj c) (listOff list)

/-- The unified address of a page slot. -/
def Device.slotAddr (d : Device) (c slot : Nat) : Nat := uniOfObj (d.spaceObj c) (d.slotOff c slot)

/-- The 9 lines of a page list. -/
def Device.listBytes (d : Device) (c list : Nat) : Bytes := d.uniBytes 576 (d.listAddr c list)

/-- Write a page list. -/
def Device.putList (d : Device) (c list : Nat) (b : Bytes) : Device := (d.uniWrite (d.listAddr c list) b).getD d

/-- SEQ_ID of a page list (R271). -/
def lSeq (b : Bytes) : Nat := u64At b 0
/-- EVENTS. -/
def lEvents (b : Bytes) : Nat := u16At b 8
/-- NPAGES. -/
def lPages (b : Bytes) : Nat := u8At b 0xA
/-- Page p's slot number. -/
def lSlot (b : Bytes) (p : Nat) : Nat := u32At b (64 + 4 * p)

/-- The slots a page list holds. -/
def lSlots (b : Bytes) : List Nat := ((List.range 128).map (lSlot b)).filter (· ≠ 0xFFFFFFFF)

/-- The slots of a space that lists hold. -/
def Device.usedSlots (d : Device) (c : Nat) : List Nat := Store.get (fun _ => []) d.hist.used c

/-- Replace the slots of a space that lists hold; HIST_SPACE_FREE follows (R291). -/
def Device.setUsed (d : Device) (c : Nat) (us : List Nat) : Device :=
  { d with hist := { d.hist with used := Store.set (fun _ => []) d.hist.used c us } }.wr (F.HIST_SPACE_FREE_SLOTS c)
    (d.rd (F.HIST_SPACE_PAGES_PAGES c) - us.length)

/-- The `n` lowest slot numbers of a space that are neither in `us` nor at or beyond PAGES; `fuel` bounds the slots looked
at. -/
def freeSlots (us : List Nat) (pages : Nat) : Nat → Nat → Nat → List Nat
  | 0, _, _ => []
  | fuel + 1, at', n =>
    if n = 0 ∨ pages ≤ at' then []
    else if us.contains at' then freeSlots us pages fuel (at' + 1) n
    else at' :: freeSlots us pages fuel (at' + 1) (n - 1)

/-- FREE_LIST on one list (R291): it becomes free, and so do its slots. -/
def Device.freeOne (d : Device) (c list : Nat) : Device :=
  let ss := lSlots (d.listBytes c list)
  (d.setUsed c ((d.usedSlots c).filter (· ∉ ss))).putList c list freeListBytes

/-- A HIST_CMD command ends (R291). -/
def Device.histResult (d : Device) (r : Nat) : Device :=
  (d.wr F.HIST_CMD_STATUS_RESULT r).raise (if r = 0 then F.HIST_INT_STATUS_CMD_DONE else F.HIST_INT_STATUS_CMD_FAIL)

/-- Pages of an entry (R273). -/
def pagesOf (events : Nat) : Nat := ceilDiv events 64

/-- VALID of page p of a sequence (R268, R274). -/
def validOf (events p : Nat) : Nat := min 64 (events - 64 * p)

/-- The entry of the step for a sample of a leaf in a space. -/
def Device.histEntry (d : Device) (c leaf s : Nat) : Option HistEntry :=
  d.hist.entries.find? fun e => e.space = c ∧ e.leaf = leaf ∧ e.sample = s

/-- R275: the entry of the step's lowest sample that names the same list. -/
def Device.producer (d : Device) (e : HistEntry) : Option HistEntry :=
  d.hist.entries.find? fun x => x.space = e.space ∧ x.list = e.list

/-- The reserved slot of a page the step produces. -/
def Device.histPage (d : Device) (c list p : Nat) : Option HistPage :=
  d.hist.pages.find? fun x => x.space = c ∧ x.list = list ∧ x.page = p

/-! ### Action 7 and skips (R280) -/

/-- A list that the step named after its COMMIT (R280). -/
def Device.newList (d : Device) (e : HistEntry) (step : Nat) : Bytes :=
  let b := d.listBytes e.space e.list
  let n := pagesOf e.events
  leBytes 8 e.seq ++ leBytes 2 e.events ++ leBytes 1 n ++ zeroBytes 5 ++ leBytes 8 step ++ zeroBytes 40 ++
    (List.range 128).flatMap fun p =>
      leBytes 4 (if n ≤ p then 0xFFFFFFFF
        else if p < e.start then lSlot b p
        else ((d.histPage e.space e.list p).map (·.slot)).getD 0xFFFFFFFF)

/-- R280: every list that the step named is updated, and the slots that leave it become free. -/
def Device.commitLists (d : Device) (step : Nat) : Device :=
  let es := d.hist.entries.filter fun e => (d.producer e) = some e
  let d := es.foldl (fun d e =>
    let old := lSlots (d.listBytes e.space e.list)
    let b := d.newList e step
    let new := lSlots b
    let d := d.putList e.space e.list b
    let d := d.setUsed e.space (((d.usedSlots e.space).filter fun u => u ∉ old || u ∈ new) ++ new.filter fun u => u ∉ old)
    d.inc64 (F.HIST_PRODUCED_LO_COUNT e.space) (pagesOf e.events - e.start)) d
  { d with hist := { d.hist with entries := [], pages := [], waiting := false } }

/-- R268: STEP and TICK of the pages the step produced are written at action 6 (DEDUCED, log entry 98). -/
def Device.stampPages (d : Device) (step tick : Nat) : Device :=
  (d.hist.pages.filter (·.written)).foldl (fun d p =>
    (d.uniWrite (d.slotAddr p.space p.slot + 0x10) (leBytes 8 step ++ leBytes 8 tick)).getD d) d

/-- R280: a skipped step frees its reserved slots and leaves every list unchanged. -/
def Device.dropPages (d : Device) : Device :=
  { d with hist := { d.hist with entries := [], pages := [], waiting := false } }

/-! ### Operand blocks (R281) -/

/-- HEAD_FIRST. -/
def aFirst (b : Bytes) : Nat := u8At b 2
/-- HEAD_COUNT. -/
def aHeads (b : Bytes) : Nat := u8At b 3
/-- QUERIES. -/
def aQueries (b : Bytes) : Nat := u16At b 4
/-- The query format. -/
def aQFmt (b : Bytes) : Nat := u8At b 6 % 16
/-- The output format. -/
def aOFmt (b : Bytes) : Nat := u8At b 6 / 16
/-- U_FORMAT. -/
def aUFmt (b : Bytes) : Nat := u8At b 7
/-- SCALE_QK. -/
def aScale (b : Bytes) : Nat := u32At b 8

/-- The fields an OP does not use (R281): offsets and bytes. -/
def aUnused (op : Nat) : List (Nat × Nat) :=
  match op with
  | 0 => [(0x50, 44)]
  | 1 => []
  | _ => [(2, 0x6E)]

/-- R282: the cause of a faulty operand block, 0 where it holds (DEDUCED, log entry 108). -/
def Device.histCause (d : Device) (u : Nat) (b : Bytes) : Nat :=
  let op := u8At b 0
  let c := u8At b 1
  let badAttn := decide (aHeads b = 0 ∨ d.rd (F.HIST_SPACE_GEOM_H c) < aFirst b + aHeads b ∨ aQueries b = 0 ∨
    8192 < aQueries b ∨ 2 < aQFmt b ∨ 2 < aOFmt b ∨ 1 < aUFmt b ∨ u32At b 0xC % 64 ≠ 0 ∨ u32At b 0x48 % 64 ≠ 0) ||
    f32NonFinite (aScale b)
  if 2 < op ∨ !zeros b 0x4C 4 ∨ !zeros b 0x7C 4 ∨ (aUnused op).any fun f => !zeros b f.1 f.2 then 1
  else if !d.spaceOn c ∨ bit (d.workUnit u).flags 3 then 2
  else if (op ≤ 1 && badAttn) || decide (u32At b 0x78 % 64 ≠ 0) then 3
  else if op = 1 ∧ u64At b 0x70 ≠ 0 ∧ (aFirst b ≠ 0 ∨ aHeads b ≠ d.rd (F.HIST_SPACE_GEOM_H c)) then 4
  else 0

/-- R282: a history unit ends with an error, and is held as R125 holds an illegal one. -/
def Device.histErr (d : Device) (c u cause : Nat) : Device :=
  let d := (d.wr F.HIST_UNIT_ERR_CAUSE cause).wr F.HIST_UNIT_ERR_UNIT u
  let d := ((d.setUnit u .held).coreFree c).raise F.HIST_INT_STATUS_UNIT_ERR
  d.lasting 0x0104 5 c cause u 4 c

/-- Whether a read gives bytes. -/
def UnitRead.isBytes (r : UnitRead) : Bool :=
  match r with
  | .bytes _ => true
  | _ => false

/-- A read of unit `u` that gives no bytes: a detected error sends the unit back (R243), an access error ends it as R100's does
(DEDUCED, log entry 101). -/
def Device.badRead (d : Device) (c u : Nat) (r : Nat × Nat) : Device :=
  match d.unitRead r.1 r.2 with
  | .detected t l => d.detected t l (.unit u)
  | _ => d.xferFail c u 0 r.1

/-- The unit's reads, all of them: `f` runs where none fails. -/
def Device.withReads (d : Device) (c u : Nat) (rs : List (Nat × Nat)) (f : Device → Device) : Device :=
  match rs.find? fun r => !(d.unitRead r.1 r.2).isBytes with
  | some r => d.badRead c u r
  | none => f (rs.foldl (fun d r => d.uniAsk r.1 r.2) d)

/-! ### Pages as latents (R267 to R270) -/

/-- Bytes of a page slot. -/
def Device.slotBytes (d : Device) (c : Nat) : Nat := d.slotLines c * 64

/-- The latent of event e of a page as FP32 (R270). -/
def pageLatent (l : Nat) (b : Bytes) (e : Nat) : List Nat :=
  let row := sub b (64 + e * l * 2) (l * 2)
  (List.range l).map fun i =>
    if u8At b 0 = 3 then fp32.enc (decScaled 5 (u8At b 1) (u8At row i)) else fp32.enc (bf16.dec (u16At row (2 * i)))

/-- R267 to R269: a page's bytes from its VALID rows of latents, with the saturations counted. -/
def pageBytes (fmt l p seq tag : Nat) (rows : List (List Nat)) : Bytes × Nat :=
  let hdr := fun (x : Nat) => leBytes 1 fmt ++ leBytes 1 x ++ leBytes 2 l ++ leBytes 1 rows.length ++ leBytes 1 p ++
    zeroBytes 2 ++ leBytes 8 seq ++ zeroBytes 16 ++ leBytes 2 tag ++ zeroBytes 30
  let size := (1 + 2 * l) * 64
  if fmt = 3 then
    let r := castBlock 5 ((rows.flatMap id).map d32)
    let body := (chunks l (r.2.1.map fun v => BitVec.ofNat 8 v)).flatMap fun e => padTo (2 * l) e
    (padTo size (hdr r.1 ++ body), r.2.2)
  else (padTo size (hdr 0 ++ (rows.flatMap id).flatMap fun v => leBytes 2 (bf16.enc (d32 v))), 0)

/-- The slot that an entry reads page p from (R278): its list's below PRODUCE_FROM, the reserved one from there on, none
where that one is not written yet. -/
def Device.pageSlot (d : Device) (e : HistEntry) (p : Nat) : Option Nat :=
  if p < e.start then some (lSlot (d.listBytes e.space e.list) p)
  else
    match d.histPage e.space e.list p with
    | some x => if x.written then some x.slot else none
    | none => none

/-! ### Attention rows (R283 to R288) -/

/-- A reduction of R68 whose terms stand at positions, absent terms leaving their places empty (R285). -/
def reduceAt (c : Nat) (ts : List (Nat × Exact)) : Nat :=
  ((ts.map (·.1 / 32)).eraseDups).foldl (fun r g =>
    f32Add r (fp32.enc (Exact.sum ((ts.filter fun t => t.1 / 32 = g).map (·.2))))) c

/-- The exact product of two FP32 values. -/
def xmul (a b : Nat) : Exact := (d32 a).mul (d32 b)

/-- The dot product of two FP32 vectors (R68). -/
def dot (a b : List Nat) : Nat := reduce f32NegZero (List.zipWith xmul a b)

/-- Row x of an up-projection, its `n` elements as FP32 (R63, R281): its rows lie at the least multiple of 64 bytes. -/
def Device.upRow (d : Device) (a fmt n x : Nat) : List Nat :=
  let w := if fmt = 0 then 4 else 2
  let b := d.uniBytes (n * w) (a + x * ceilTo 64 (n * w))
  (List.range n).map fun i => fp32.enc ((fmtOf fmt).dec (leNat (sub b (i * w) w)))

/-- Bytes of an up-projection. -/
def upBytes (fmt l n : Nat) : Nat :=
  let w := if fmt = 0 then 4 else 2
  l * ceilTo 64 (n * w)

/-- k_j or v_j for head h (R283): `u` the rows of the up-projection, `c` the latent. -/
def expand (u : List (List Nat)) (c : List Nat) (w h : Nat) : List Nat :=
  (List.range w).map fun i => dot c (u.map fun r => r.getD (h * w + i) 0)

/-- `w` elements of head h of a row at an address. -/
def Device.headRow (d : Device) (a fmt w h : Nat) : List Nat :=
  let n := if fmt = 0 then 4 else 2
  let b := d.uniBytes (w * n) (a + h * w * n)
  (List.range w).map fun i => fp32.enc ((fmtOf fmt).dec (leNat (sub b (i * n) n)))

/-- The keys a query admits under its mask (R284). -/
def Device.admitted (d : Device) (b : Bytes) (events row : Nat) : List Nat :=
  if u64At b 0x38 = 0 then List.range events
  else
    let m := d.uniBytes 4 (u64At b 0x38 + row * 4)
    let hi := min (u16At m 2) events
    (List.range (hi - u16At m 0)).map (· + u16At m 0)

/-- An admitted key with its score (R284). -/
structure Score where
  key : Nat
  s : Nat
  deriving DecidableEq, Repr

/-- -infinity in FP32. -/
def f32NegInf : Nat := 0xFF800000

/-- R284: the scores of the keys a row may attend to; `k` gives a key's vector, `bias` its bias. -/
def scores (scale : Nat) (q : List Nat) (keys : List Nat) (k : Nat → List Nat) (bias : Option (Nat → Nat)) : List Score :=
  keys.map fun j =>
    let s := f32Mul (dot q (k j)) scale
    ⟨j, match bias with
      | some f => f32Add s (f j)
      | none => s⟩

/-- A score that makes its row non-finite (R286). -/
def badScore (s : Nat) : Bool := (d32 s).isNan || s == 0x7F800000

/-- exp of a difference (R116, R285). -/
def expDiff (a b : Nat) : Nat := fp32.enc (exactExp (d32 (f32Sub a b)))

/-- attend_row (R285, R286) over the admitted keys, those at -infinity left out before: the output, the LSE, and whether the
row is non-finite. -/
def attendRow (w : Nat) (ss : List Score) (v : Nat → List Nat) : List Nat × Nat × Bool :=
  let nan := (List.replicate w f32Nan, f32Nan, true)
  if ss.any fun x => badScore x.s then nan
  else if ss.isEmpty then (List.replicate w 0, f32NegInf, false)
  else
    let r := ((ss.map (·.key / 64)).eraseDups).foldl (fun (r : Nat × Nat × List Nat) blk =>
      let ks := ss.filter fun x => x.key / 64 = blk
      let mn := fp32.enc (ks.foldl (fun m x => Exact.max m (d32 x.s)) (d32 r.1))
      let a := expDiff r.1 mn
      let ps := ks.map fun x => (x.key, expDiff x.s mn)
      (mn, reduceAt (f32Mul r.2.1 a) (ps.map fun p => (p.1, d32 p.2)),
        (List.range w).map fun i => reduceAt (f32Mul (r.2.2.getD i 0) a) (ps.map fun p => (p.1, xmul p.2 ((v p.1).getD i 0)))))
      (f32NegInf, f32NegZero, List.replicate w f32NegZero)
    let out := r.2.2.map fun o => f32Div o r.2.1
    if out.any f32NonFinite then nan else (out, f32Add r.1 (fp32.enc (exactLog (d32 r.2.1))), false)

/-- What a row gives to its keys (R287): the query, g and p of its admitted keys and its output gradient. -/
structure RowGrad where
  q : List Nat
  dO : List Nat
  keys : List (Nat × Nat × Nat)
  deriving DecidableEq, Repr

/-- R287: g and p of a row's admitted keys, and dq. -/
def gradRow (scale w : Nat) (q o dO : List Nat) (lse : Nat) (ss : List Score) (k v : Nat → List Nat) : RowGrad × List Nat :=
  let di := dot dO o
  let ks := ss.map fun x =>
    let p := expDiff x.s lse
    (x.key, f32Mul (f32Mul p (f32Sub (dot dO (v x.key)) di)) scale, p)
  (⟨q, dO, ks⟩, (List.range w).map fun i => reduceAt f32NegZero (ks.map fun x => (x.1, xmul x.2.1 ((k x.1).getD i 0))))

/-- dk_j and dv_j of a key from the rows of a sample and head that attend to it, in ascending query index (R287). -/
def keyGrads (w j : Nat) (rows : List RowGrad) : List Nat × List Nat :=
  let ts := rows.filterMap fun r => (r.keys.find? (·.1 = j)).map fun k => (r, k.2.1, k.2.2)
  ((List.range w).map fun i => reduce f32NegZero (ts.map fun t => xmul t.2.1 (t.1.q.getD i 0)),
    (List.range w).map fun i => reduce f32NegZero (ts.map fun t => xmul t.2.2 (t.1.dO.getD i 0)))

end Sys2Proof.Machine
end

