-- ==== Sys2Proof/Machine/AdmitOps.lean ====
section
/-! DEFINITION. What ADMIT checks: batch descriptors and directories (R360 to R362), bag sections (R138, R139), history
sections (R273 to R277), the leaf blocks (R32), the lost-step bound (R454). -/

namespace Sys2Proof.Machine

/-! ### Batch descriptors (R360, R361) -/

/-- SECTIONS. -/
def hSections (b : Bytes) : Nat := u16At b 2
/-- SAMPLES. -/
def hSamples (b : Bytes) : Nat := u32At b 4
/-- FIRST_LEAF. -/
def hFirst (b : Bytes) : Nat := u16At b 8
/-- LEAVES. -/
def hLeaves (b : Bytes) : Nat := u32At b 0xC
/-- WATERMARK. -/
def hWmark (b : Bytes) : Nat := u64At b 0x10
/-- ADDR. -/
def hAddr (b : Bytes) : Nat := u64At b 0x18
/-- LENGTH. -/
def hLength (b : Bytes) : Nat := u32At b 0x20

/-- The data input rings in use (R362). -/
def Device.dataRings (d : Device) : List Nat := (d.ringsOf 4).filter fun r => d.flag (F.RING_CTL_ENABLE r)

/-- The batch descriptors at the heads of the data input rings; none while one of them holds none (R29). -/
def Device.heads (d : Device) : Option (List (Nat × Bytes)) :=
  d.dataRings.foldr (fun r xs => match d.ringHead r, xs with
    | some e, some xs => some ((r, e) :: xs)
    | _, _ => none) (some [])

/-- The directory entries of a batch. -/
def Device.directory (d : Device) (b : Bytes) : List Bytes := chunks 16 (d.uniBytes (16 * hSections b) (hAddr b))

/-- The address of a directory entry's section. -/
def secAddr (b e : Bytes) : Nat := hAddr b + 64 * u32At e 4

/-- A section's header. -/
def Device.secHeader (d : Device) (b e : Bytes) : Bytes := d.uniBytes 64 (secAddr b e)

/-- The LENGTH a section's header gives. -/
def headLength (kind : Nat) (h : Bytes) : Nat := if kind = 3 then u32At h 0xC else u32At h 0x10

/-- A section's FEATURE, SPACE or TENSOR. -/
def headId (kind : Nat) (h : Bytes) : Nat :=
  match kind with
  | 1 => u16At h 2
  | 2 => u8At h 0
  | _ => u16At h 0

/-- The FEATURE, SPACE and TENSOR numbers of a batch, by kind. -/
def Device.secIds (d : Device) (b : Bytes) : List (Nat × Nat) :=
  (d.directory b).map fun e => (u8At e 0, headId (u8At e 0) (d.secHeader b e))

/-- The INPUT tensors of the loaded program, with their numbers (R45). -/
def Device.inputs (d : Device) : List (Nat × Tensor) :=
  let ts := (d.spine.prog.map (·.tensors)).getD []
  ((List.range ts.length).zip ts).filter fun x => x.2.kind == 1

/-- R361, R45: a dense section breaks its header's rules or differs from its tensor entry. -/
def Device.denseBad (d : Device) (b h : Bytes) : Bool :=
  u8At h 3 != 0 || !zeros h 0x10 48 || decide (4 < u8At h 2) || u32At h 4 != hSamples b ||
    u32At h 8 == 0 || u32At h 8 % 64 != 0 || decide (u32At h 0xC < 1 + u32At h 4 * u32At h 8 / 64) ||
    !(d.inputs.any fun x => x.1 == u16At h 0 && x.2.format == u8At h 2 && x.2.rowBytes == u32At h 8)

/-- R362: a batch's lowest cause of RING_BATCH_ERR, 0 for none; `first` is the first batch of the step (DEDUCED, log entry 126). -/
def Device.batchCause (d : Device) (first b : Bytes) : Nat :=
  let dir := d.directory b
  let hdr := d.secHeader b
  let dense := dir.filter fun e => u8At e 0 == 3
  if u8At b 0 ≠ 1 then 1
  else if !zeros b 1 1 || !zeros b 0xA 2 || !zeros b 0x24 28 then 2
  else if hLeaves b = 0 ∨ 65536 < hLeaves b ∨ hSamples b ≠ hLeaves b * d.leafSamples then 3
  else if hAddr b % 64 ≠ 0 ∨ d.uniOk (hAddr b) (64 * hLength b) = false ∨ hLength b < ceilDiv (hSections b) 4 then 4
  else if 4096 < hSections b ∨ hSections b = 0 then 5
  else if dir.any fun e => decide (hLength b < u32At e 4 + u32At e 8) ||
      (decide (1 ≤ u8At e 0 ∧ u8At e 0 ≤ 3) && headLength (u8At e 0) (hdr e) != u32At e 8) then 4
  else if dir.any fun e => !zeros e 1 3 || !zeros e 0xC 4 || u8At e 0 == 0 || decide (3 < u8At e 0) then 5
  else if (d.secIds b).any (fun x => !(d.secIds first).contains x) || (d.secIds first).any (fun x => !(d.secIds b).contains x) then 6
  else if dense.any (fun e => d.denseBad b (hdr e)) ||
      (d.inputs.any fun x => (dense.filter fun e => u16At (hdr e) 0 == x.1).length != 1) then 7
  else 0

/-- A batch as its descriptor and directory give it. -/
def Device.readBatch (d : Device) (ring : Nat) (b : Bytes) : Batch :=
  { ring := ring, firstLeaf := hFirst b, leaves := hLeaves b, watermark := hWmark b, addr := hAddr b
    sections := (d.directory b).map fun e =>
      Section.mk (u8At e 0) (headId (u8At e 0) (d.secHeader b e)) (secAddr b e) (u32At e 8) }

/-- Put a batch in its place: ascending FIRST_LEAF. -/
def insertBatch (x : Batch) : List Batch → List Batch
  | [] => [x]
  | y :: r => if x.firstLeaf ≤ y.firstLeaf then x :: y :: r else y :: insertBatch x r

/-- No leaf of one range lies in another. -/
def rangesDisjoint : List (Nat × Nat) → Bool
  | [] => true
  | x :: r => (r.all fun y => decide (x.1 + x.2 ≤ y.1 ∨ y.1 + y.2 ≤ x.1)) && rangesDisjoint r

/-- R32, R362: the batches' leaf ranges are disjoint and together equal the blocks (DEDUCED, log entry 127). -/
def leavesMatch (blocks : List (Nat × Nat)) (bs : List Batch) : Bool :=
  (bs.map (·.leaves)).sum == leavesOf blocks && rangesDisjoint (bs.map fun b => (b.firstLeaf, b.leaves)) &&
    bs.all fun b => (List.range b.leaves).all fun i =>
      blocks.any fun x => decide (x.2 ≤ b.firstLeaf + i ∧ b.firstLeaf + i < x.2 + 2 ^ x.1)

/-! ### Bag sections (R138, R139) -/

/-- A list of little-endian numbers of `n` bytes each. -/
def numsOf (n : Nat) (b : Bytes) : List Nat := (chunks n b).map leNat

/-- The offsets of a bag section. -/
def Device.bagOffsets (d : Device) (x : Section) (h : Bytes) : List Nat :=
  numsOf 4 (d.uniBytes (4 * (u32At h 8 + 1)) (x.addr + 64))

/-- WEIGHTS is set. -/
def bagWeights (h : Bytes) : Bool := bit (u8At h 4) 0

/-- Where the indices of a bag section begin (DEDUCED, log entry 128). -/
def bagIndices (x : Section) (h : Bytes) : Nat := x.addr + 64 + ceilTo 64 (4 * (u32At h 8 + 1))

/-- Where its weights begin. -/
def bagWeightsAt (x : Section) (h : Bytes) : Nat := bagIndices x h + ceilTo 64 (8 * u32At h 0xC)

/-- Lines the header and the arrays of a bag section take. -/
def bagLines (h : Bytes) : Nat :=
  1 + ceilDiv (u32At h 8 + 1) 16 + ceilDiv (u32At h 0xC) 8 + (if bagWeights h then ceilDiv (u32At h 0xC) 16 else 0)

/-- R139: the cause of a section's fault, 0 for none; `dup` that an earlier section of its batch has its FEATURE. -/
def Device.bagCause (d : Device) (samples : Nat) (dup : Bool) (x : Section) : Nat :=
  let h := d.uniBytes 64 x.addr
  let os := d.bagOffsets x h
  let steps := os.zip (os.drop 1)
  let t := d.table (u16At h 0)
  if u8At h 4 / 2 ≠ 0 ∨ zeros h 5 3 = false ∨ zeros h 0x14 12 = false then 1
  else if !t.on then 2
  else if u32At h 8 ≠ samples then 3
  else if os.head? ≠ some 0 ∨ (steps.any fun p => decide (p.2 < p.1)) ∨ os.getLast? ≠ some (u32At h 0xC) then 4
  else if steps.any fun p => decide (4096 < p.2 - p.1) then 5
  else if u32At h 0x10 < bagLines h then 6
  else if bagWeights h != (dPool t.desc == 2) then 7
  else if dup then 8
  else 0

/-- The bags of a sound section (R138, R140). -/
def Device.bagSec (d : Device) (b : Batch) (x : Section) : BagSec :=
  let h := d.uniBytes 64 x.addr
  let ids := numsOf 8 (d.uniBytes (8 * u32At h 0xC) (bagIndices x h))
  let ws := if bagWeights h then numsOf 4 (d.uniBytes (4 * u32At h 0xC) (bagWeightsAt x h)) else ids.map fun _ => 0x3F800000
  let es := ids.zip ws
  let os := d.bagOffsets x h
  { table := u16At h 0, feature := u16At h 2, leaf := b.firstLeaf, weights := bagWeights h
    bags := (os.zip (os.drop 1)).map fun p => (es.drop p.1).take (p.2 - p.1) }

/-- The sections of a kind with their batches, in the order of the rings and of each directory. -/
def secsOfKind (bs : List Batch) (kind : Nat) : List (Batch × Section) :=
  bs.flatMap fun b => (b.sections.filter (·.kind = kind)).map fun x => (b, x)

/-- The first faulty bag section: its cause, table and feature. -/
def Device.bagFault (d : Device) (bs : List Batch) : Option (Nat × Nat × Nat) :=
  bs.findSome? fun b =>
    let xs := b.sections.filter (·.kind = 1)
    ((List.range xs.length).zip xs).findSome? fun p =>
      let c := d.bagCause (b.leaves * d.leafSamples) ((xs.take p.1).any (·.id = p.2.id)) p.2
      if c = 0 then none else some (c, u16At (d.uniBytes 64 p.2.addr) 0, p.2.id)

/-! ### History sections (R273 to R277) -/

/-- The entries of a sound history section's arrays, with each sample's leaf and place in it (R140). -/
def Device.histEntries (d : Device) (b : Batch) (x : Section) : List (Bytes × HistEntry) :=
  let es := chunks 16 (d.uniBytes (16 * (b.leaves * d.leafSamples)) (x.addr + 64))
  ((List.range es.length).zip es).map fun p =>
    let e := p.2
    (e, HistEntry.mk x.id (b.firstLeaf + p.1 / d.leafSamples) (p.1 % d.leafSamples) (u64At e 0) (u32At e 8) (u16At e 0xC)
      (u8At e 0xE) (bit (u8At e 0xF) 0))

/-- VALID of a page of a list. -/
def Device.pageValid (d : Device) (c slot : Nat) : Nat := u8At (d.uniBytes 64 (d.slotAddr c slot)) 4

/-- R274: the cause of an entry's fault, 0 for none; `before` are the earlier entries of the step (DEDUCED, log entry 104). -/
def Device.histEntryCause (d : Device) (e : Bytes) (x : HistEntry) (before : List HistEntry) : Nat :=
  let l := d.listBytes x.space x.list
  if u8At e 0xF / 2 ≠ 0 then 1
  else if x.seq = 0 ∨ d.rd (F.HIST_SPACE_LISTS_LISTS x.space) ≤ x.list then 4
  else if 8192 < x.events ∨ pagesOf x.events < x.start ∨ (x.reset = true ∧ x.start ≠ 0) then 5
  else if x.reset = false ∧ (lSeq l ≠ x.seq ∨ x.events < lEvents l) then 6
  else if (List.range x.start).any fun p =>
      lSlot l p == 0xFFFFFFFF || d.pageValid x.space (lSlot l p) != validOf x.events p then 7
  else if before.any fun y => y.space == x.space && y.list == x.list &&
      decide (y.seq ≠ x.seq ∨ y.events ≠ x.events ∨ y.start ≠ x.start ∨ y.reset ≠ x.reset) then 8
  else 0

/-- R274: the cause of a section's own fault, 0 for none. -/
def Device.histSecCause (d : Device) (samples : Nat) (x : Section) : Nat :=
  let h := d.uniBytes 64 x.addr
  if zeros h 1 7 = false ∨ zeros h 0xC 4 = false ∨ zeros h 0x14 44 = false then 1
  else if !bit (d.rd F.HIST_STATUS_ENABLED) x.id || decide (64 ≤ x.id) then 2
  else if u32At h 8 ≠ samples ∨ u32At h 0x10 < 1 + ceilDiv samples 4 then 3
  else 0

/-- The first faulty entry of a section: its cause and index. -/
def Device.histSecFault (d : Device) (b : Batch) (x : Section) (before : List HistEntry) : Option (Nat × Nat) :=
  let c := d.histSecCause (b.leaves * d.leafSamples) x
  if c ≠ 0 then some (c, 0)
  else
    let es := d.histEntries b x
    ((List.range es.length).zip es).findSome? fun p =>
      let c := d.histEntryCause p.2.1 p.2.2 (before ++ (es.take p.1).map (·.2))
      if c = 0 then none else some (c, p.1)

/-- The first fault of the step's history sections, with the entries of the sections before it. -/
def Device.histFault (d : Device) (bs : List Batch) : Option (Nat × Nat) :=
  ((secsOfKind bs 2).foldl (fun (acc : Option (Nat × Nat) × List HistEntry) p =>
    match acc.1 with
    | some _ => acc
    | none =>
      match d.histSecFault p.1 p.2 acc.2 with
      | some f => (some f, acc.2)
      | none => (none, acc.2 ++ (d.histEntries p.1 p.2).map (·.2))) (none, [])).1

/-- The spaces a step uses, ascending. -/
def histSpaces (es : List HistEntry) : List Nat := sortNat (es.map (·.space)).eraseDups

/-- R275: the entries that produce and reuse pages: the first of each list. -/
def histProducers (es : List HistEntry) : List HistEntry :=
  es.foldl (fun xs e => if xs.any fun x => x.space = e.space ∧ x.list = e.list then xs else xs ++ [e]) []

/-- R276: the slots reserved in one space; none while the free slots do not cover them. -/
def Device.reserveSpace (d : Device) (es : List HistEntry) (c : Nat) : Option (List HistPage) :=
  let wants := ((histProducers es).filter (·.space = c)).flatMap fun e =>
    ((List.range (pagesOf e.events)).filter (e.start ≤ ·)).map fun p => (e.list, p)
  let n := d.rd (F.HIST_SPACE_PAGES_PAGES c)
  let slots := freeSlots (d.usedSlots c) n n 0 wants.length
  if slots.length = wants.length then some ((wants.zip slots).map fun x => HistPage.mk c x.1.1 x.1.2 x.2 false) else none

/-- R276, for every space of the step. -/
def Device.reservePages (d : Device) (es : List HistEntry) : Option (List HistPage) :=
  (histSpaces es).foldl (fun acc c => acc.bind fun ps => (d.reserveSpace es c).map fun qs => ps ++ qs) (some [])

/-- R277: a reused page is stale. -/
def Device.pageStale (d : Device) (c slot : Nat) : Bool :=
  let r := d.rd (F.HIST_SPACE_REFRESH_TICKS c)
  r != 0 && decide (u64At (d.uniBytes 64 (d.slotAddr c slot)) 0x18 + r ≤ d.spine.admitTick)

/-- Reused pages are counted, and stale ones (R277). -/
def Device.countReused (d : Device) (es : List HistEntry) : Device :=
  (histProducers es).foldl (fun d e =>
    let l := d.listBytes e.space e.list
    let stale := ((List.range e.start).filter fun p => d.pageStale e.space (lSlot l p)).length
    let d := d.inc64 (F.HIST_REUSED_LO_COUNT e.space) e.start
    if stale = 0 then d else (d.inc (F.HIST_STALE_USE_COUNT e.space) stale).raise F.HIST_INT_STATUS_STALE_USE) d

/-! ### Admission -/

/-- RING_BATCH_ERR takes the first malformed batch (R362). -/
def Device.batchErr (d : Device) (cause ring : Nat) : Device :=
  ((d.wr F.RING_BATCH_ERR_CAUSE cause).wr F.RING_BATCH_ERR_RING ring).raise F.RING_INT_STATUS_BATCH_ERR

/-- EMB_BAG_ERR takes the first malformed section (R139). -/
def Device.bagErr (d : Device) (f : Nat × Nat × Nat) : Device :=
  (((d.wr F.EMB_BAG_ERR_CAUSE f.1).wr F.EMB_BAG_ERR_TABLE f.2.1).wr F.EMB_BAG_ERR_FEATURE f.2.2).raise F.EMB_INT_STATUS_BAG_ERR

/-- HIST_ADMIT_ERR takes the first faulty entry (R274). -/
def Device.histErrAdmit (d : Device) (f : Nat × Nat) : Device :=
  ((d.wr F.HIST_ADMIT_ERR_CAUSE f.1).wr F.HIST_ADMIT_ERR_ENTRY f.2).raise F.HIST_INT_STATUS_ADMIT_ERR

/-- The batch bodies are read over the host link where they lie in host memory. -/
def Device.askBodies (d : Device) (hs : List (Nat × Bytes)) : Device :=
  hs.foldl (fun d x => if d.uniOk (hAddr x.2) (64 * hLength x.2) then d.uniAsk (hAddr x.2) (64 * hLength x.2) else d) d

/-- The first malformed batch of the heads: its cause and ring. -/
def Device.batchFault (d : Device) (hs : List (Nat × Bytes)) : Option (Nat × Nat) :=
  hs.findSome? fun x =>
    let c := d.batchCause ((hs.head?.map (·.2)).getD []) x.2
    if c = 0 then none else some (c, x.1)

/-- What the checks of ADMIT answer: the step may go on, with its batches, bags and histories, or it stays in ADMIT. -/
inductive Admission where
  | waits (d : Device)
  | passed (d : Device) (bs : List Batch) (bags : List BagSec) (es : List HistEntry) (pages : List HistPage)

/-- The checks of ADMIT for step `step` (R32, R139, R274, R276, R362). -/
def Device.admission (d : Device) (step : Nat) : Admission :=
  match d.heads with
  | none => .waits d
  | some hs =>
    let d := d.askBodies hs
    match d.batchFault hs with
    | some (c, r) => .waits (d.batchErr c r)
    | none =>
      let bs := hs.map fun x => d.readBatch x.1 x.2
      if !leavesMatch ((d.blocksAt step).getD d.flockIndex []) bs then .waits (d.raise F.SPINE_INT_STATUS_LEAF_MISMATCH)
      else
        match d.bagFault bs with
        | some f => .waits (d.bagErr f)
        | none =>
          match d.histFault bs with
          | some f => .waits (d.histErrAdmit f)
          | none =>
            let bags := (secsOfKind bs 1).map fun p => d.bagSec p.1 p.2
            let es := ((secsOfKind (bs.foldr insertBatch []) 2).flatMap fun p => d.histEntries p.1 p.2).map (·.2)
            match d.reservePages es with
            | none => .waits ({ d with hist := { d.hist with waiting := true } }.raise F.HIST_INT_STATUS_POOL_FULL)
            | some ps => .passed d bs bags es ps

/-- R454: the step waits in ADMIT under the lost-step bound (DEDUCED, log entry 129). -/
def Device.lostWait (d : Device) : Device := if d.lostOk then d else d.raise F.CKPT_INT_STATUS_LOST_WAIT

/-- The step in ADMIT has passed its checks (R144, R276, R277). -/
def Device.admitted' (d : Device) (bs : List Batch) (bags : List BagSec) (es : List HistEntry) (ps : List HistPage) : Device :=
  let d := (d.countKeys bags).countReused es
  { d with
    spine := { d.spine with batches := bs, admitOk := true }
    sparse := { d.sparse with bags := bags }
    hist := { d.hist with entries := es, pages := ps, waiting := false } }.lostWait

/-- The checks of the step in ADMIT, which stays there while they fail. -/
def Device.admitCheck (d : Device) : Device :=
  match d.admission d.step64 with
  | .waits d => d
  | .passed d bs bags es ps => d.admitted' bs bags es ps

/-- The step admitted ahead enters ADMIT with its checks done (R30). -/
def Device.takeAhead (d : Device) (bs : List Batch) : Device :=
  let bags := d.sparse.aheadBags
  let d := { d with
    spine := { d.spine with ahead := none, batches := bs, admitOk := true }
    sparse := { d.sparse with bags := bags, aheadBags := [] } }
  (d.wr F.SPINE_STATUS_ADMIT_NEXT 0).lostWait

/-- R30: step N + 1 is checked and sorted while step N runs on. One that carries histories waits for IDLE. -/
def Device.admitAhead (d : Device) : Device :=
  match d.admission (d.step64 + 1) with
  | .waits e => { e with hist := d.hist }
  | .passed e bs bags es _ =>
    if !es.isEmpty then d
    else
      let e := e.countKeys bags
      { e with
        spine := { e.spine with ahead := some bs }
        sparse := { e.sparse with aheadBags := bags } }.wr F.SPINE_STATUS_ADMIT_NEXT 1

end Sys2Proof.Machine
end

