-- ==== Sys2Proof/Machine/TickOps.lean ====
section
/-! DEFINITION. What every tick, received or supplied, drives beside the tick value: the elapsed-tick timers
of R510. A timer whose expiry is a command of its own only counts here; that command checks it. -/

namespace Sys2Proof.Machine

/-- A runnable spine waits for a batch: in IDLE for a ring's head, in ADMIT for batches that pass (R29, R53) (DEDUCED, log entry 103). -/
def Device.starving (d : Device) : Bool :=
  (d.phase = .admitting && !d.spine.admitOk && !d.hist.waiting) ||
    (d.phase = .idle && d.flag F.SPINE_CTL_RUN && d.spine.prog.isSome && !d.flag F.SPINE_CTL_HALT_REQ && d.spine.ahead.isNone &&
      d.dataRings.any d.ringEmpty)

/-- Some core waits on the ledger (R42). -/
def Device.ledgerWaits (d : Device) : Bool :=
  (List.range Config.cores).any fun c =>
    d.inPool c && (d.unitAt c).isNone && (d.nextReady (d.coreMay c)).isSome && (d.pick c).isNone

/-- A gather waits for a tail acknowledgement (R193). -/
def Device.gatherWaits (d : Device) (g : Gather) : Bool := g.src == 1 && !g.ready && d.tailWaits g.table g.row

/-- One tick of the step's timers: the watchdog, the waits of ADMIT, of the ledger, of gathers and of staging (R42, R53, R173,
R193, R196, R454). -/
def Device.tickStep (d : Device) : Device :=
  let d := if d.inStep then { d with spine := { d.spine with wdog := d.spine.wdog + 1 } } else d
  let d := if d.starving then { d with spine := { d.spine with starve := d.spine.starve + 1 } }.inc F.SPINE_STARVE_TICKS else d
  let d := if d.phase = .admitting && d.spine.admitOk && !d.lostOk then d.inc F.CKPT_LOST_WAIT_COUNT else d
  let d := if d.inStep && d.ledgerWaits then d.inc F.PWR_LEDGER_WAIT_COUNT else d
  let d := if d.sparse.wantStage.isEmpty then d else d.inc F.OPT_STAGE_WAIT_COUNT
  if d.sparse.gathers.any d.gatherWaits then
    let gs := d.sparse.gathers.map fun g => if d.gatherWaits g then { g with waited := g.waited + 1 } else g
    { d with sparse := { d.sparse with gathers := gs } }.inc F.OPT_TAIL_WAIT_COUNT
  else d

/-- R228: the tail allowance gains a tick's share, up to TIER_TAIL_RATE. -/
def Device.tickTail (d : Device) : Device :=
  let rate := d.rd F.TIER_TAIL_RATE_SLOTS
  { d with tier := { d.tier with allowance := min (d.tier.allowance + rate) (1000 * rate) } }

/-- R318, R337: the ticks since a JOIN and since the first vote. -/
def Device.tickColl (d : Device) : Device :=
  let c := d.coll
  { d with coll := { c with
    joinTicks := if c.joining.isSome || !c.joinMsgs.isEmpty then c.joinTicks + 1 else c.joinTicks
    voteTicks := c.voteTicks.map (· + 1) } }

/-- R246: the patrol period of every stack in ON. -/
def Device.tickPatrol (d : Device) : Device :=
  (List.range Config.tiles).foldl (fun d t =>
    if d.domOn (domOfTile t) then d.setTile t { d.tile t with periodLeft := (d.tile t).periodLeft - 1 } else d) d

/-- R417: the outage of every tier link. -/
def Device.tickOutage (d : Device) : Device :=
  (List.range Config.carriers).foldl (fun d c =>
    let k := d.link (8 + c)
    if k.outage then d.setLink (8 + c) { k with outageTicks := k.outageTicks + 1 } else d) d

/-- R527, R545: the test window and the ticks since the last disagreement. -/
def Device.tickMgmt (d : Device) : Device :=
  { d with mgmt := { d.mgmt with
    testLeft := d.mgmt.testLeft - 1
    sinceMismatch := d.mgmt.sinceMismatch.map (· + 1) } }

/-- One tick of every elapsed-tick timer (R510); those of the SPINE domain stand still while it is off (R486). -/
def Device.tickTimers (d : Device) : Device :=
  let d := if d.domOn domSpine then d.tickStep.tickTail.tickColl.tickOutage else d
  d.tickPatrol.tickMgmt

end Sys2Proof.Machine
end

