-- ==== Sys2Proof/Machine/Time.lean ====
section
/-! DEFINITION. The Drone inputs and the tick value (R504 to R511). -/

namespace Sys2Proof.Machine

/-- The tick value after one tick: it increases by 1, or holds while R507 makes it (R505, R507). -/
def Drone.advance (t : Drone) : Drone :=
  if t.hold = 0 then { t with tick := (t.tick + 1) % 2 ^ 64, armNew := false }
  else { t with hold := t.hold - 1, armNew := false }

/-- AON is powered and out of reset, so that it sees its inputs. -/
def Device.aonUp (d : Device) : Bool := d.boot.aonGood && d.boot.resetN

/-- The Drone's inputs changed to `t`; then the elapsed-tick timers count the tick (R510). -/
def State.atTick (s : State) (t : Drone) (f : Device → Device) : State :=
  { s with drone := t, dev := (f { s.dev with now := t.tick }).tickTimers }

/-- The inputs after one tick of the pair, which the T24 follows (R505). -/
def Drone.follow (t : Drone) : Drone := { t.advance with lock := 1 }

/-- The run of on-time edges seen in holdover (R508). -/
def Drone.edges (t : Drone) (n : Nat) : Drone := { t with good := n }

/-- The pair followed again (R508). -/
def Drone.regain (t : Drone) : Drone := { t with good := 0, lock := 1 }

/-- What REGAINED shows and logs (R508). -/
def Device.regained (d : Device) : Device := (d.raise F.DRONE_INT_STATUS_REGAINED).log 0x0600 0 19 0 0 0

/-- The units at the tick value as it stands. -/
def State.nowDev (s : State) : Device := { s.dev with now := s.drone.tick }

/-- An edge on the pair in holdover: the sixteenth in a row that comes 1 µs after the one before makes the
T24 follow the pair again (R508). -/
def State.holdEdge (s : State) (onTime : Bool) : State :=
  let n := if onTime then s.drone.good + 1 else 1
  if n < 16 then { s with drone := s.drone.edges n } else { s with drone := s.drone.regain, dev := s.nowDev.regained }

/-- R504, R505: a rising edge on the tick pair that is no marker. `onTime` says that it came 1 µs ± 50 ns after
the edge before it. -/
def execDroneTick (onTime : Bool) (s : State) : Result :=
  if !s.dev.aonUp then .next s
  else if s.drone.lock = 2 then .next (s.holdEdge onTime)
  else .next (s.atTick s.drone.follow id)

/-- The multiple of 1,000,000 nearest to v, the higher one on a tie (R507). -/
def nearestEpoch (v : Nat) : Nat := (v + 500000) / 1000000 * 1000000

/-- R507: a late value jumps up to M, an early one holds for d ticks (DEDUCED, log entry 140). -/
def Drone.slip (t : Drone) (m : Nat) : Drone :=
  if t.tick < m then { t with tick := m, hold := 0 } else { t with hold := t.tick - m }

/-- A slip of `e` counted and shown; past DRONE_SLIP_LIMIT, EPOCH_ERR and the fault policy (R507). -/
def Device.slipped (e : Int) (d : Device) : Device :=
  let d := (d.inc F.DRONE_SLIP_CNT_COUNT).wr F.DRONE_LAST_SLIP_D (ofInt 32 e)
  if e.natAbs ≤ d.rd F.DRONE_SLIP_LIMIT_TICKS then d
  else (d.raise F.DRONE_INT_STATUS_EPOCH_ERR).lasting 0x0601 19 0 (ofInt 32 e) 0 3 0

/-- R507: the slip d = v − M at a marker. -/
def State.slip (s : State) : State :=
  let t := s.drone.follow
  let m := nearestEpoch t.tick
  if t.tick = m then s.atTick t id else s.atTick (t.slip m) (Device.slipped ((t.tick : Int) - m))

/-- An armed value taken in place of the increment, never below the tick value once SET is 1 (R506, R507; DESIGN CHOICE, log entry 21). -/
def Drone.take (t : Drone) (v : Nat) : Drone :=
  { t with tick := if t.isSet then max v t.tick else v, isSet := true, armed := none, lock := 1, hold := 0 }

/-- SET_DONE: the armed value has been taken (R506). -/
def Device.setDone (d : Device) : Device := d.raise F.DRONE_INT_STATUS_SET_DONE

/-- A marker of the pair with `armed` as the value to take, if one is due (R506, R507). -/
def State.marker (s : State) (armed : Option Nat) : State :=
  match armed with
  | some v => s.atTick (s.drone.take v) Device.setDone
  | none => if s.drone.isSet then s.slip else s.atTick s.drone.follow id

/-- The armed value that the next marker takes: one armed in the marker's own microsecond waits (R506). -/
def Drone.due (t : Drone) : Option Nat := if t.armNew then none else t.armed

/-- R504, R506, R507: a tick that is an epoch marker. In holdover no marker occurs (R508). -/
def execEpochMarker (onTime : Bool) (s : State) : Result :=
  if !s.dev.aonUp then .next s
  else if s.drone.lock = 2 then .next (s.holdEdge onTime)
  else .next (s.marker s.drone.due)

/-- Holdover is entered (R508). -/
def Drone.lose (t : Drone) : Drone := { t with lock := 2, good := 0 }

/-- What LOST shows, and its event (R508). -/
def Device.droneLost (d : Device) : Device := (d.raise F.DRONE_INT_STATUS_LOST).lasting 0x0600 19 0 0 0 3 0

/-- R508: no rising edge within 1.5 µs of the last tick: holdover is entered. -/
def execDroneEdgeTimeout (s : State) : Result :=
  if !s.dev.aonUp || s.drone.lock == 2 then .next s
  else .next { s with drone := s.drone.lose, dev := s.nowDev.droneLost }

/-- A tick supplied in holdover is counted (R508). -/
def Device.heldTick (d : Device) : Device := d.inc F.DRONE_HOLD_TICKS_COUNT

/-- R508: in holdover REF_CLK supplies a tick, which counts in every respect as a received one. -/
def execHoldoverTick (s : State) : Result :=
  if !s.dev.aonUp || s.drone.lock != 2 then .next s else .next (s.atTick s.drone.advance Device.heldTick)

/-- A mailbox command taken: its length and opcode stand in MBOX_CMD, BUSY and DOORBELL read 1 (R439). -/
def Device.mboxTaken (d : Device) (value op : Nat) : Device :=
  (((d.wr F.HOST_MBOX_CMD_IN_LEN (bits value 24 16)).wr F.HOST_MBOX_CMD_OPCODE op).wr F.HOST_MBOX_STATUS_BUSY 1).wr
    F.HOST_MBOX_CMD_DOORBELL 1

/-- A mailbox command of an opcode: the write of HOST_MBOX_CMD is ignored and logged while BUSY; without
DOORBELL, or with another opcode, it is not this command (R438). A command with the wrong input length
ends with RESULT 2 (R439). -/
def Device.mbox (d : Device) (value op : Nat) (lenOk : Nat → Bool) (f : Device → Device) : Device :=
  if !bit value 31 ∨ bits value 15 0 ≠ op then d
  else d.access F.HOST_MBOX_CMD.key fun d =>
    if d.flag F.HOST_MBOX_STATUS_BUSY then d.logAccess F.HOST_MBOX_CMD.key
    else
      if lenOk (bits value 24 16) then f (d.mboxTaken value op) else (d.mboxTaken value op).mboxEnd 2 []

/-- The RESULT of SET_TICK for a payload (R506). -/
def setTickResult (t : Drone) (p : Bytes) : Nat :=
  if !zeros p 8 8 ∨ u64At p 0 % 1000000 ≠ 0 then 3
  else if t.isSet ∧ u64At p 0 < t.tick then 4
  else 0

/-- A SET_TICK that the mailbox takes and answers with RESULT 0 (R439, R506). -/
def tickTaken (t : Drone) (d : Device) (value : Nat) : Bool :=
  bit value 31 && bits value 15 0 == 0x10 && bits value 24 16 == 16 && d.barOpen && d.decodes domHost &&
    !d.flag F.HOST_MBOX_STATUS_BUSY && setTickResult t (d.payload 16) == 0

/-- A tick value armed for the next marker (R506). -/
def Drone.arm (t : Drone) (v : Nat) : Drone := { t with armed := some v, armNew := true }

/-- SET_TICK at the mailbox. -/
def Device.setTickReply (d : Device) (t : Drone) (value : Nat) : Device :=
  d.mbox value 0x10 (· == 16) fun e => e.mboxEnd (setTickResult t (d.payload 16)) []

/-- R506: mailbox SET_TICK, opcode 0x0010: TICK is armed for the next marker. -/
def execSetTick (value : Nat) (s : State) : Result :=
  let d := { s.dev with now := s.drone.tick }
  .next { s with
    drone := if tickTaken s.drone d value then s.drone.arm (u64At (d.payload 16) 0) else s.drone
    dev := d.setTickReply s.drone value }

end Sys2Proof.Machine
end

