-- ==== Sys2Proof/Machine/Boot.lean ====
section
/-! DEFINITION. Reset sources (R513, R578), the Erien image (R514 to R520), start-up (R521 to R524) and the
verification of signature blocks (R531 to R534). -/

namespace Sys2Proof.Machine

/-! ### Signature blocks -/

/-- R533: the steps of the security engine on an image's signature block (R532), for a digest. -/
def verifyBlock (p : Perm) (img digest : Bytes) : Bool :=
  let slot := u8At img 0x100
  let keys := sub img 0x120 32 ++ sub img 0x180 1952
  zeros img 0x101 31 && zeros img 0x160D 2547 && decide (slot < 4) && !bit p.revoked slot &&
    Config.sha3 256 keys == Store.get (fun _ => []) p.keyHash slot &&
    Config.edVerify (sub img 0x120 32) digest (sub img 0x140 64) &&
    Config.mlDsaVerify (sub img 0x180 1952) digest (sub img 0x920 3309)

/-- The digest of an image of LENGTH bytes (R43, R517). -/
def imageDigest (img : Bytes) (len : Nat) : Bytes :=
  Config.sha3 512 (sub img 0 0x100 ++ sub img 0x2000 (len - 0x2000))

/-! ### The image's layout -/

/-- LENGTH of an Erien image (R516). -/
def erienLen (img : Bytes) : Nat := u32At img 0x10

/-- R516: the header fields. -/
def erienHeader (img : Bytes) : Bool :=
  u32At img 0 == 0x314E5245 && u16At img 4 == 1 && decide (1 ≤ u16At img 6) && decide (u16At img 6 ≤ 256) &&
    erienLen img % 64 == 0 && decide (0x4000 ≤ erienLen img) && decide (erienLen img ≤ 0x10000000) &&
    u16At img 0x14 == 0x24 && zeros img 0x16 234

/-- The section directory (R516): TYPE, OFFSET, LENGTH of every entry. -/
def erienDir (img : Bytes) : List (Nat × Nat × Nat) :=
  (List.range (u16At img 6)).map fun i =>
    let o := 0x2000 + 16 * i
    (u16At img o, u32At img (o + 4), u32At img (o + 8))

/-- Two byte ranges have a byte in common. -/
def overlap (a la b lb : Nat) : Bool := decide (a < b + lb) && decide (b < a + la)

/-- The byte ranges a section may not share: pairwise apart, in directory order. -/
def apart : List (Nat × Nat × Nat) → Bool
  | [] => true
  | s :: r => r.all (fun t => !overlap s.2.1 s.2.2 t.2.1 t.2.2) && apart r

/-- A FIRMWARE section's header (R536). -/
def firmwareHeader (sec : Bytes) : Bool :=
  zeros sec 1 3 && zeros sec 0x10 48 && decide (u32At sec 8 + 64 ≤ sec.length) &&
    (decide (u8At sec 0 ≤ 5) || u8At sec 0 == 15)

/-- R518, R536: the sections of an image, and whether they are well formed. -/
def erienSections (img : Bytes) : Bool :=
  let len := erienLen img
  let dir := erienDir img
  let dirEnd := 0x2000 + 16 * u16At img 6
  decide (dirEnd ≤ len) &&
    (List.range (u16At img 6)).all (fun i =>
      zeros img (0x2000 + 16 * i + 2) 2 && zeros img (0x2000 + 16 * i + 12) 4) &&
    dir.all (fun s =>
      (s.1 == 1 || s.1 == 2 || s.1 == 3) && s.2.1 % 64 == 0 && decide (s.2.1 + s.2.2 ≤ len) &&
        decide (dirEnd ≤ s.2.1 ∨ s.2.2 = 0 ∧ 0x2000 ≤ s.2.1) && (s.1 != 2 || s.2.2 == 16) && (s.1 != 1 || s.2.2 % 8 == 0)) &&
    apart dir

/-- The FIRMWARE sections' bytes (DEDUCED, log entry 52). -/
def erienFirmware (img : Bytes) : List Bytes :=
  ((erienDir img).filter (fun s => s.1 == 3)).map fun s => sub img s.2.1 s.2.2

/-- R518: one IDENTITY section exactly; R536: at most one FIRMWARE section for a target, none for the SMU. -/
def erienWhole (img : Bytes) : Bool :=
  let fw := (erienFirmware img).map fun b => u8At b 0
  erienSections img && ((erienDir img).filter (fun s => s.1 == 2)).length == 1 &&
    (erienFirmware img).all firmwareHeader && fw.all (fun t => t ≤ 5 && (fw.filter (· == t)).length == 1)

/-- The REGISTER_LOAD entries in image order: image offset, BAR0 offset, value (R518, R519). -/
def erienLoads (img : Bytes) : List (Nat × Nat × Nat) :=
  ((erienDir img).filter (fun s => s.1 == 1)).flatMap fun s =>
    (List.range (s.2.2 / 8)).map fun i => (s.2.1 + 8 * i, u32At img (s.2.1 + 8 * i), u32At img (s.2.1 + 8 * i + 4))

/-! ### Loading and checking the configuration -/

/-- The bits of a register that an image may set (R519). -/
def loadMask (row : RegRow) : Nat :=
  if row.name = "PWR_DOM_CTL" ∨ row.name = "PWR_RAIL_TGT" ∨ row.name = "PWR_RESERVE" then
    row.flds.foldl (fun m f => if f.acc = .rw then m ||| ((2 ^ f.w - 1) * 2 ^ f.lo) else m) 0
  else
    row.flds.foldl (fun m f =>
      if f.acc = .rwl ∨ (row.name = "PWR_CAP" ∧ f.name = "CAP") ∨ (row.name = "RING_CTL" ∧ f.name = "ENABLE") then
        m ||| ((2 ^ f.w - 1) * 2 ^ f.lo)
      else m) 0

/-- R519: an entry whose set bits all lie where an image may set them. -/
def loadOk (off v : Nat) : Bool :=
  off % 4 == 0 &&
    match RegMap.at? off with
    | some a => (v &&& loadMask a.row) == v
    | none => v == 0

/-- A loaded value by BAR0 offset; `none` where no entry names it. -/
def loadedAt (l : List (Nat × Nat)) (off : Nat) : Option Nat := (l.find? (fun e => e.1 = off)).map (·.2)

/-- The loaded entries with a later one in an earlier one's place (R519). -/
def loadPut (l : List (Nat × Nat)) (off v : Nat) : List (Nat × Nat) :=
  if l.any (fun e => e.1 = off) then l.map (fun e => if e.1 = off then (off, v) else e) else l ++ [(off, v)]

/-- The ranges that register tables state for fields an image sets (R520): register, lowest bit, width, least,
greatest. -/
def loadRanges : List (String × Nat × Nat × Nat × Nat) :=
  [("PWR_CAP", 16, 16, 250, 1500), ("PWR_CLAMP_CFG", 0, 11, 16, 1024), ("HOST_D2H_RATE", 16, 16, 64, 65535),
   ("HOST_D2H_RATE", 0, 16, 1, 1428), ("OPT_TAIL_CFG", 16, 5, 0, 16), ("CKPT_SNAP_LINES", 0, 32, 65536, 2 ^ 32 - 1),
   ("MEM_ACC_LINES", 0, 17, 0, 65536)]

/-- R520: the fields of one entry lie in their ranges; CAP lies in 250 to CAP_MAX. -/
def rangeOk (off v : Nat) : Bool :=
  match RegMap.at? off with
  | none => true
  | some a =>
    loadRanges.all (fun r => r.1 != a.row.name || (decide (r.2.2.2.1 ≤ v / 2 ^ r.2.1 % 2 ^ r.2.2.1) &&
      decide (v / 2 ^ r.2.1 % 2 ^ r.2.2.1 ≤ r.2.2.2.2))) &&
    (a.row.name != "PWR_CAP" || (decide (250 ≤ v % 65536) && decide (v % 65536 ≤ v / 65536))) &&
    (a.row.name != "PWR_DOM_CTL" || (bit v 18 && bit v 19))

/-- A loaded ring as the image has it: number, RING_CFG, RING_PAIR, BASE. -/
structure LoadedRing where
  n : Nat
  cfg : Nat
  pair : Nat
  base : Nat
  deriving DecidableEq, Repr

/-- TYPE of a loaded ring. -/
def LoadedRing.ty (r : LoadedRing) : Nat := bits r.cfg 31 28

/-- The rings an image gives a TYPE other than 0. -/
def loadedRings (l : List (Nat × Nat)) : List LoadedRing :=
  (l.filterMap fun e =>
    let rel := e.1 - 0x500000
    if 0x500000 ≤ e.1 ∧ e.1 < 0x540000 ∧ rel % 64 = 0 then
      let g := fun k => (loadedAt l (e.1 + k)).getD 0
      some ⟨rel / 64, e.2, g 4, g 8 + 2 ^ 32 * g 12⟩
    else none).filter fun r => r.ty != 0

/-- A DMA address window of an image (R380). -/
def loadedWindow (l : List (Nat × Nat)) (n : Nat) : Nat × Nat :=
  let g := fun (lo hi : Fld) =>
    (loadedAt l lo.key).getD 0 / 4096 * 4096 + 2 ^ 32 * ((loadedAt l hi.key).getD 0 % 2 ^ 20)
  (g (F.DMA_WIN_BASE_LO n) (F.DMA_WIN_BASE_HI n), g (F.DMA_WIN_LIMIT_LO n) (F.DMA_WIN_LIMIT_HI n))

/-- R353, R354, R380, R381: the first failing register of one ring among the image's rings, if any. -/
def ringRefused (l : List (Nat × Nat)) (rs : List LoadedRing) (r : LoadedRing) : Option Nat :=
  let off := 0x500000 + 64 * r.n
  let ty := r.ty
  let lg := bits r.cfg 27 23
  let size := 2 ^ lg * (if ty = 3 ∨ ty = 6 then 16 else 64)
  let eng := bits r.cfg 22 11
  let paired := decide (ty = 2 ∨ ty = 5)
  let pr := bits r.pair 11 0
  let pairTy := match rs.find? (fun x => x.n = pr) with
    | some x => x.ty
    | none => 0
  let host := uniSpace r.base == 1
  if 11 < ty ∨ lg < 4 ∨ 24 < lg then some off
  else if ty = 1 ∨ ty = 2 then
    if 27 < bits r.cfg 22 18 ∨ rs.any (fun x => decide (x.n < r.n) && (x.ty == 1 || x.ty == 2) && bits x.cfg 22 11 == eng)
    then some off
    else if (ty = 2 ∧ pairTy ≠ 3) ∨ (ty = 1 ∧ pr ≠ 0) ∨ (ty = 2 ∧ bit r.pair 15) ∨
        (ty = 2 ∧ rs.any (fun x => decide (x.n < r.n) && (x.ty == 2 || x.ty == 5) && bits x.pair 11 0 == pr))
    then some (off + 4)
    else if r.base % min size 4096 ≠ 0 ∨ 1 < uniSpace r.base then some (off + 8)
    else if host ∧ !((List.range 8).any fun i =>
        decide ((loadedWindow l i).1 ≤ uniHpa r.base) && decide (uniHpa r.base + size ≤ (loadedWindow l i).2))
    then some (off + 8)
    else none
  else if eng ≠ 0 then some off
  else if (paired && pairTy != 6) ∨ bit r.pair 15 ∨ (!paired && pr != 0) ∨
      (paired && rs.any (fun x => decide (x.n < r.n) && (x.ty == 2 || x.ty == 5) && bits x.pair 11 0 == pr))
  then some (off + 4)
  else if r.base % min size 4096 ≠ 0 ∨ 1 < uniSpace r.base then some (off + 8)
  else if host ∧ !((List.range 8).any fun i =>
      decide ((loadedWindow l i).1 ≤ uniHpa r.base) && decide (uniHpa r.base + size ≤ (loadedWindow l i).2))
  then some (off + 8)
  else none

/-- R520: the BAR0 offset of the first failing register, the lowest one. PWR_DOM_CTL fails where no entry enables SPINE and HOST
(DEDUCED, log entry 53). -/
def configRefused (l : List (Nat × Nat)) : Option Nat :=
  let bad := ((l.filter fun e => !rangeOk e.1 e.2).map (·.1)) ++
    (if (loadedAt l F.PWR_DOM_CTL.key).isNone then [F.PWR_DOM_CTL.key] else []) ++
    ((loadedRings l).filterMap (ringRefused l (loadedRings l)))
  match bad with
  | [] => none
  | b :: r => some (r.foldl min b)

/-- R479: a rail's window is narrowed to the hardware limits at load. -/
def Device.narrowWindow (d : Device) (r : Nat) : Device :=
  let lim := railLimits r
  let n := fun x => max lim.1 (min x lim.2)
  (d.wr (F.PWR_RAIL_WIN_MIN_MV r) (n (d.rd (F.PWR_RAIL_WIN_MIN_MV r)))).wr (F.PWR_RAIL_WIN_MAX_MV r)
    (n (d.rd (F.PWR_RAIL_WIN_MAX_MV r)))

/-- R519: the fields of AON, and the start values of power registers, take what the image loads. Enables of
AON and SMU cannot be switched (R480). -/
def Device.loadAon (d : Device) : Device :=
  let d := d.boot.loaded.foldl (fun d e =>
    match RegMap.at? e.1 with
    | some a =>
      if a.row.name = "PWR_DOM_CTL" then d.setReg e.1 (BitVec.ofNat 32 (e.2 ||| 3))
      else if a.row.name = "PWR_RAIL_TGT" ∨ a.row.name = "PWR_RESERVE" then d.setReg e.1 (BitVec.ofNat 32 e.2)
      else if a.row.name = "PWR_CAP" then d.setReg e.1 (BitVec.ofNat 32 e.2)
      else if a.blk.domain a.inst = domAon then
        d.setReg e.1 (reloadFields a.row (d.reg e.1) (BitVec.ofNat 32 e.2))
      else d
    | none => d) d
  (List.range Config.rails).foldl Device.narrowWindow d

/-! ### Start-up -/

/-- DRONE_START_STATUS.STEP. -/
def Device.startStep (d : Device) (n : Nat) : Device := d.wr F.DRONE_START_STATUS_STEP n

/-- Bytes into consecutive registers. -/
def Device.putRegs (d : Device) (f : Nat → Fld) (b : Bytes) : Device :=
  (List.range (b.length / 4)).foldl (fun d i => d.wr (f i) (u32At b (4 * i))) d

/-- What a verified image leaves in force: identity, digest, key slot, firmware (R518, R529, R536). -/
def Device.imageInForce (d : Device) (img : Bytes) : Device :=
  let ident := match (erienDir img).find? (fun s => s.1 == 2) with
    | some s => sub img s.2.1 16
    | none => []
  let dg := imageDigest img (erienLen img)
  let d := (d.putRegs F.SEC_IMAGE_DIGEST_DATA (padTo 64 dg)).wr F.SEC_STATUS_KEY_SLOT (u8At img 0x100)
  { d with
    host := { d.host with subsysVendor := u16At ident 0, subsysId := u16At ident 2, serial := u64At ident 8 }
    boot := { d.boot with
      imageVersion := u64At img 8
      imageDigest := dg
      fwCode := (erienFirmware img).foldl (fun m b => Store.set (fun _ => []) m (u8At b 0) b) []
      fwVersion := (erienFirmware img).foldl (fun m b => Store.set (fun _ => 0) m (u8At b 0) (u32At b 4)) [] } }

/-- Step 5: every entry is applied in image order, then the whole is checked (R519, R520). -/
def Device.loadConfig (d : Device) (img : Bytes) : Except Nat Device :=
  match (erienLoads img).find? (fun e => !loadOk e.2.1 e.2.2) with
  | some e => .error e.1
  | none =>
    let l := (erienLoads img).foldl (fun l e => loadPut l e.2.1 e.2.2) []
    match configRefused l with
    | some off => .error off
    | none =>
      let set := (loadedAt l F.PWR_DOM_CTL.key).getD 0 % 2 ^ 20
      .ok ({ d with boot := { d.boot with loaded := l, startSet := set } }).loadAon

/-- Steps 1 to 6 of start-up (R521) on what the boot device answers (R514, R515). Fewer bytes than LENGTH are a
failing read (DEDUCED, log entry 51). -/
def Device.startRun (d : Device) (p : Perm) (b : BootRead) : Device :=
  let d := d.startStep 2
  if !p.seedOk then d.startFail 4 0
  else
    let d := (d.wr F.SEC_STATUS_PUF_OK 1).putRegs F.SEC_IDENTITY_DATA (padTo 32 (Config.sha3 256 p.edPub))
    let d := (d.startStep 3).wr F.DRONE_START_STATUS_SLOW_BOOT (b2n !b.sfdp)
    if !(b.headerTry1 || b.headerTry2) then d.startFail 1 0
    else if !erienHeader b.image then d.startFail 2 0
    else
      let d := d.startStep 4
      if b.image.length < erienLen b.image then d.startFail 1 0
      else
        let img := b.image.take (erienLen b.image)
        if !erienWhole img then d.startFail 2 0
        else if !verifyBlock p img (imageDigest img (erienLen img)) then d.startFail 3 0
        else
          let d := (d.imageInForce img).startStep 5
          match d.loadConfig img with
          | .error e => d.startFail 5 e
          | .ok d => (d.startStep 6).settle

/-- Start-up waits at step 1: AON is up and nothing has started (R521). -/
def Device.startDue (d : Device) : Bool :=
  d.aonUp && decide (d.rd F.DRONE_START_STATUS_STATE = 0 ∧ d.rd F.DRONE_START_STATUS_STEP = 1)

/-- R521: start-up runs from step 1 to the raising of the start set's rails, once AON is up and RESET_N
deasserted. -/
def execStartup (boot : BootRead) (s : State) : Result :=
  s.onDev fun d => if d.startDue then d.startRun s.perm boot else d

/-- A tile is in service: its memory domain ON and MEM_STATUS.STATE 1. -/
def Device.tileInService (d : Device) (t : Nat) : Bool :=
  d.domOn (domOfTile t) && d.rd (F.MEM_STATUS_STATE t) == 1

/-- Start-up has enabled its domains and no domain but SPINE and HOST is still STARTING (R521). -/
def Device.readyDue (d : Device) : Bool :=
  d.aonUp && decide (d.rd F.DRONE_START_STATUS_STATE = 0 ∧ 6 ≤ d.rd F.DRONE_START_STATUS_STEP) && !d.pwr.tripped &&
    !((switchable.filter (fun n => n ≠ domHost ∧ n ≠ domSpine)).any fun n => d.domState n == 1)

/-- SPINE and HOST are ON and a tile is in service (R521). -/
def Device.readyMay (d : Device) : Bool :=
  d.domOn domSpine && d.domOn domHost && (List.range Config.tiles).any d.tileInService

/-- RWL fields are locked (R14). -/
def Device.lockBoot (d : Device) : Device := { d with boot := { d.boot with locked := true } }

/-- Start-up ends in ready after `us` µs (R521). -/
def Device.startDone (d : Device) (us : Nat) : Device :=
  let d := (d.lockBoot.wr F.DRONE_START_STATUS_STATE 1).startStep 10
  ((d.wr F.DRONE_START_US_US us).wr F.HOST_STATUS_MEM_ACTIVE 1).raise F.DRONE_INT_STATUS_READY

/-- R521, step 10: ready. Not yet while a domain of the start set is still on its way; FAIL_CAUSE 7 where SPINE or
HOST is not ON, or no tile is in service (R523, R524). -/
def execStartupReady (us : Nat) (s : State) : Result :=
  s.onDev fun d => if !d.readyDue then d else if d.readyMay then d.startDone us else d.startFail 7 0

/-! ### Reset sources -/

/-- What outlives a reset of sources 1 to 3 outside the T24: host memory and the carriers' contents. -/
def keptKey (k : Nat) : Bool := decide (k < 2 ^ 64) || (decide (2 * 2 ^ 64 ≤ k) && decide (k < 3 * 2 ^ 64))

/-- The T24 but for its SMU after a reset of sources 1 to 3 (R513): what it emitted, the free values' counter, pins
and the messages already on their way to the SMU stay. Rail and feed enables fall, SMB_ALERT_N and THERMTRIP_N
rise. -/
def Device.wholeReset (d : Device) (cause : Nat) : Device :=
  let r : Device := { Device.reset with
    mem := d.mem.filter fun e => keptKey e.1
    poison := d.poison.filter fun e => keptKey (e.1 * 64)
    free := d.free
    smuPath := d.smuPath
    optics := { interlock := d.optics.interlock }
    host := { perstN := d.host.perstN }
    boot := { aonGood := d.boot.aonGood, resetN := d.boot.resetN }
    out := (List.range Config.rails).map (fun r => Out.pin (.railEn r) false) ++
      (List.range 8).map (fun i => Out.pin (.elsEn (i / 2) (i % 2)) false) ++
      [Out.pin .smbAlertN true, Out.pin .thermtripN true] ++ d.out }
  r.wr F.DRONE_RESET_CAUSE_CAUSE cause

/-- A reset of the whole device but its SMU (R513), the tick value with it (R505). -/
def State.wholeReset (s : State) (cause : Nat) : State :=
  { s with drone := {}, dev := s.dev.wholeReset cause }

/-- AON's supply (R578). -/
def State.setAon (s : State) (good : Bool) : State :=
  { s with dev := { s.dev with boot := { s.dev.boot with aonGood := good } } }

/-- The level on RESET_N (R513). -/
def State.setResetN (s : State) (level : Bool) : State :=
  { s with dev := { s.dev with boot := { s.dev.boot with resetN := level } } }

/-- R578, source 1: both AON supplies have held their thresholds for 1 ms. -/
def execAonPowerGood (s : State) : Result :=
  .next ((s.wholeReset 1).setAon true)

/-- R578, R595: an AON supply is lost: AON outputs float, every rail falls, and nothing is kept. -/
def execAonSupplyLoss (s : State) : Result :=
  .next ((s.wholeReset 0).setAon false)

/-- R513, source 2: RESET_N asserted for at least 10 µs, or deasserted, when start-up begins at step 1. -/
def execResetN (asserted : Bool) (s : State) : Result :=
  if s.dev.boot.aonGood && asserted then .next ((s.wholeReset 2).setResetN false) else .next (s.setResetN (!asserted))

/-- R513, source 3, by the fault policy, the management pair or SMBus. It is logged with code 0x0703 (R548) in the
log that starts anew (DEDUCED, log entry 22). -/
def State.mgmtReset (s : State) : State :=
  let s := s.wholeReset 3
  { s with dev := s.dev.log 0x0703 3 20 0 0 0 }

/-- R513: a management reset. -/
def execManagementReset (s : State) : Result :=
  if s.dev.aonUp then .next s.mgmtReset else .next s

/-- R423: a CXL reset abandons the requests on the host link and is each domain's cause of reset. -/
def Device.cxlCleared (d : Device) : Device :=
  { d with
    host := { d.host with d2h := [] }
    pwr := { d.pwr with wakeCause := switchable.foldl (fun m n => Store.set (fun _ => 0) m n 7) d.pwr.wakeCause } }

/-- R423, R513 source 4, R524: every domain but AON and SMU stops at once and start-up resumes at step 6 with the
configuration AON holds. Before step 6, and after a failed start, nothing is up that it could reset (DEDUCED, log entry 54). -/
def execCxlReset (s : State) : Result :=
  s.onDev fun d =>
    let st := d.rd F.DRONE_START_STATUS_STATE
    if st = 1 ∨ (st = 0 ∧ 6 ≤ d.rd F.DRONE_START_STATUS_STEP) then
      (switchable.foldl (fun d n => d.stopEmergency n 0) (d.wr F.DRONE_RESET_CAUSE_CAUSE 4)).cxlCleared.resumeStep6
    else d

end Sys2Proof.Machine
end

