-- ==== Sys2Proof/Machine/RestoreOps.lean ====
section
/-! DEFINITION. Restoring (R463 to R468): reading an extent's records, taking those that concern an item held here. -/

namespace Sys2Proof.Machine

/-- RESTORE_ERR with its cause (R467). -/
def Device.restoreErr (d : Device) (cause src : Nat) : Device :=
  let d := match d.ckpt.restore with
    | some r => { d with ckpt := { d.ckpt with restore := some { r with bad := true } } }
    | none => d
  ((d.wr F.CKPT_RESTORE_ERR_CAUSE cause).wr F.CKPT_RESTORE_ERR_SRC src).raise F.CKPT_INT_STATUS_RESTORE_ERR

/-! ### Records -/

/-- Slots of a record, from its first slot; none for a reserved TYPE or one that its PHASE (0 base, 1 delta) does not carry
(R447, R448). -/
def Device.recSlots (d : Device) (phase : Nat) (b : Bytes) : Option Nat :=
  let base := phase == 0
  let only := fun (p : Bool) (n : Nat) => if p then some n else none
  match u8At b 0 with
  | 0x10 => only (!base) (1 + ceilDiv (u16At b 4) 16)
  | 0x11 => only (base == bit (u8At b 1) 1) (1 + u16At b 4)
  | 0x12 => only (!base) (1 + u16At b 4)
  | 0x13 => only (!base) (1 + ceilDiv (u32At b 0x14) 16)
  | 0x14 => only (base && bit (u8At b 1) 1)
      (2 + (1 + stateArrays (bOpt (d.bindings.getD (u16At b 2) []))) * ceilDiv (u32At b 0x14) 16)
  | 0x15 => only (!base) 513
  | 0x16 | 0x17 => only (!base) 1
  | 0x20 | 0x21 | 0x23 => only base 1
  | 0x22 => only base 20481
  | _ => none

/-- The bytes of a first slot that a TYPE leaves zero, as (offset, bytes) (R448). -/
def recZeros (ty : Nat) : List (Nat × Nat) :=
  match ty with
  | 0x10 => [(1, 1), (0x2D, 11), (0x3C, 4)]
  | 0x11 | 0x12 => [(6, 2), (0x18, 40)]
  | 0x13 => [(1, 1), (4, 4), (0x2E, 18)]
  | 0x14 => [(4, 4), (0x18, 40)]
  | 0x15 => [(1, 7), (0x10, 48)]
  | 0x16 | 0x17 => [(3, 1), (6, 2), (0x16, 2), (0x30, 16)]
  | 0x20 => [(1, 3), (0x1E, 34)]
  | 0x21 => [(1, 1), (4, 4), (0x20, 32)]
  | 0x22 => [(1, 1), (3, 1), (6, 2), (0x10, 48)]
  | _ => [(1, 3), (0x20, 32)]

/-- R467: a record that breaks R448 or does not fit the item it names. -/
def Device.recBad (d : Device) (b : Bytes) : Bool :=
  let ty := u8At b 0
  let desc := (d.table (u16At b 2)).desc
  let on := (d.table (u16At b 2)).on
  let e := d.bindings.getD (u16At b 2) []
  let seg := u32At b 0x10
  (recZeros ty).any (fun z => !zeros b z.1 z.2) ||
    match ty with
    | 0x10 => on && u16At b 4 != dWidth desc
    | 0x11 => decide (3 < u8At b 1) || (on && u16At b 4 != dRecLines desc)
    | 0x12 => u8At b 1 != 0 || (on && u16At b 4 != dRecLines desc)
    | 0x13 => decide (d.bindings.length ≤ u16At b 2 ∨ segCount e ≤ seg) || u32At b 0x14 != segLen e seg || u8At b 0x2D != bOpt e
    | 0x14 => u8At b 1 != 2 || decide (d.bindings.length ≤ u16At b 2 ∨ segCount e ≤ seg) || u32At b 0x14 != segLen e seg
    | 0x16 | 0x17 => decide (1 < u8At b 1)
    | _ => false

/-! ### Items held here (R466) -/

/-- A row that this device holds: one it owns under the new F, or a default row. -/
def Device.holdsRow (d : Device) (t r : Nat) : Bool := (d.table t).on && (r == dRows (d.table t).desc || d.owns t r)

/-- A dense segment that this device holds. -/
def Device.holdsSeg (d : Device) (i s : Nat) : Bool :=
  let e := d.bindings.getD i []
  !bSharded e || s % d.flockSize == d.flockIndex

/-- The record of a row held here: a default row's replica, or the row's own record. -/
def Device.heldRecord (d : Device) (t r : Nat) : Bytes := d.rowBytes t r

/-- Write the record of a row held here, in T1 or T2; none where no place has room. -/
def Device.putHeld (d : Device) (t r : Nat) (b : Bytes) : Option Device :=
  let n := d.tableObj t
  match d.replica t r with
  | some x => some (d.writeKey (t1Key x.tile x.line 0) b)
  | none =>
    let loc := (d.locate n r).1
    if loc = 1 ∨ loc = 2 then some (d.putRecord n r b) else (d.allocRow n r).map fun d => d.putRecord n r b

/-- A ROW_T3 record: the T3 array holds the row. -/
def Device.dropHeld (d : Device) (t r : Nat) : Device :=
  let n := d.tableObj t
  match d.dirEntry n r with
  | some e => (d.freeLoc (e.tier, e.place, e.line)).delEntry n r
  | none => d

/-- The parameter set that an update record carries, laid out as R179's: LR to WD at 0x18 of the record, PFLAGS at 0x2C. -/
def recParams (b : Bytes) : Bytes := zeroBytes 8 ++ sub b 0x18 20 ++ leBytes 4 (u8At b 0x2C) ++ zeroBytes 32

/-! ### Sources -/

/-- A source of the restore. -/
def Restore.src (r : Restore) (rank : Nat) : RestoreSrc := (r.srcs.find? (·.rank = rank)).getD { rank := rank }

/-- Replace a source. -/
def Restore.setSrc (r : Restore) (x : RestoreSrc) : Restore :=
  { r with srcs := r.srcs.filter (fun y => y.rank ≠ x.rank) ++ [x] }

/-- The capture step of a row: of the last BASE_SEG that covers it. -/
def RestoreSrc.rowCapture (x : RestoreSrc) (t r : Nat) : Option Nat :=
  (x.rows.reverse.find? fun s => decide (s.1 = t ∧ s.2.1 ≤ r ∧ r ≤ s.2.2.1)).map (·.2.2.2)

/-- The capture step of a dense segment, and T as far as its updates have gone. -/
def RestoreSrc.segCapture (x : RestoreSrc) (i s : Nat) : Option (Nat × Nat) :=
  (x.segs.find? fun y => y.1 = i ∧ y.2.1 = s).map fun y => (y.2.2.1, y.2.2.2)

/-- Set what is known of a dense segment. -/
def RestoreSrc.setSeg (x : RestoreSrc) (i s c t : Nat) : RestoreSrc :=
  { x with segs := x.segs.filter (fun y => !(y.1 == i && y.2.1 == s)) ++ [(i, s, c, t)] }

/-- What taking a record gives: the device and the restore, whether it was taken rather than ignored, or no room. -/
inductive TakeEnd where
  | took (d : Device) (r : Restore)
  | ignored (d : Device) (r : Restore)
  | noRoom
  deriving DecidableEq, Repr

/-- A write of a row's record that was taken, or found no room. -/
def tookRow (r : Restore) : Option Device → TakeEnd
  | some d => .took d r
  | none => .noRoom

/-- A record of a step is applied to an item captured at a step (R466). -/
def later (step : Nat) (c : Option Nat) : Bool :=
  match c with
  | some c => decide (c < step)
  | none => true

/-- R466: a base record. `b` is the whole record. -/
def Device.takeBase (d : Device) (r : Restore) (rank : Nat) (b : Bytes) : TakeEnd :=
  let x := r.src rank
  let step := u64At b 8
  let t := u16At b 2
  match u8At b 0 with
  | 0x20 => .took d (r.setSrc { x with begun := true })
  | 0x21 => .took d (r.setSrc { x with rows := x.rows ++ [(t, u64At b 0x10, u64At b 0x18, step)] })
  | 0x22 => .took d { r with state := some (step, b) }
  | 0x23 => .took d (r.setSrc { x with endStep := some (u64At b 0x10) })
  | 0x11 => if d.holdsRow t (u64At b 0x10) then tookRow r (d.putHeld t (u64At b 0x10) (b.drop 64)) else .ignored d r
  | _ =>
    let s := u32At b 0x10
    let e := d.bindings.getD t []
    let n := 4 * u32At b 0x14
    let w := ceilTo 64 n
    let off := 4 * segElems * s
    let r := r.setSrc (x.setSeg t s step (u32At b 0x48))
    if !d.holdsSeg t s then .ignored d r
    else
      let d := (d.uniWrite (bParam e + off) (sub b 128 n)).getD d
      let d := d.putDenseHeader e (u64At b 0x40) (u32At b 0x48)
      let d := (List.range (stateArrays (bOpt e))).foldl (fun d k =>
        (d.uniWrite (bState e + 64 + k * bBytes e + off) (sub b (128 + w * (k + 1)) n)).getD d) d
      .took d r

/-- R452, R466: a delta record of a step up to the resume step (DEDUCED, log entry 116). -/
def Device.takeDelta (d : Device) (r : Restore) (rank : Nat) (b : Bytes) : TakeEnd :=
  let x := r.src rank
  let step := u64At b 8
  let t := u16At b 2
  let row := u64At b 0x10
  let mine := d.holdsRow t row && later step (x.rowCapture t row)
  match u8At b 0 with
  | 0x10 =>
    if !mine then .ignored d r
    else
      let desc := (d.table t).desc
      let u := rowUpdate desc (recParams b) step (d.heldRecord t row) (f32sAt b 64 (dWidth desc))
      tookRow r (d.putHeld t row u.bytes)
  | 0x11 => if mine then tookRow r (d.putHeld t row (b.drop 64)) else .ignored d r
  | 0x12 => if mine then .took (d.dropHeld t row) r else .ignored d r
  | 0x13 =>
    let s := u32At b 0x10
    let e := d.bindings.getD t []
    let n := u32At b 0x14
    let c := x.segCapture t s
    if !d.holdsSeg t s || !later step (c.map (·.1)) then .ignored d r
    else
      let old := (c.map (·.2)).getD 0
      let u := d.denseUpdate e (recParams b) step (4 * segElems * s) (4 * n) old (f32sAt b 64 n)
      let new := min (old + 1) (2 ^ 24)
      .took (u.1.putDenseHeader e step new) (r.setSrc (x.setSeg t s ((c.map (·.1)).getD 0) new))
  | 0x15 => .took d { r with numerics := r.numerics ++ [(step, b.drop 64)] }
  | _ =>
    if step ≠ r.resume then .took d r
    else .took d { r.setSrc { x with reached := true } with scale := some (u8At b 2, u16At b 4) }

/-- One record of an extent, in order; the result counts (taken, ignored). `fuel` bounds the records. -/
def Device.takeRecords (phase rank : Nat) : Nat → Device → Restore → Bytes → Nat × Nat → Except (Nat × Device) (Device × Restore × Nat × Nat)
  | 0, d, r, _, n => .ok (d, r, n)
  | fuel + 1, d, r, b, n =>
    if b.isEmpty then .ok (d, r, n)
    else
      match d.recSlots phase b with
      | none => .error (3, d)
      | some k =>
        let rec1 := b.take (64 * k)
        let step := u64At b 8
        let x := r.src rank
        if b.length < 64 * k ∨ d.recBad rec1 then .error (3, d)
        else if phase = 1 ∧ step + 1 < x.last then .error (2, d)
        else
          let r := if phase = 1 then { r.setSrc { x with last := step + 1 } with delta := true } else r
          let go := fun (e : TakeEnd) => match e with
            | .took d r => Device.takeRecords phase rank fuel d r (b.drop (64 * k)) (n.1 + 1, n.2)
            | .ignored d r => Device.takeRecords phase rank fuel d r (b.drop (64 * k)) (n.1, n.2 + 1)
            | .noRoom => .error (4, d)
          if phase = 0 then go (d.takeBase r rank rec1)
          else if r.resume < step then go (.ignored d r)
          else go (d.takeDelta r rank rec1)

/-! ### FINISH -/

/-- R467: FINISH may run: every source gave its base up to END_STEP at or below R, and its delta has reached R. -/
def Restore.complete (r : Restore) : Bool :=
  r.scale.isSome && !r.srcs.isEmpty && r.srcs.all fun x => x.begun && x.reached && match x.endStep with
    | some e => decide (e ≤ r.resume)
    | none => false

/-- R468: one tag's history from BASE_STATE. -/
def Device.loadTag (d : Device) (b : Bytes) (t : Nat) : Device :=
  let o := 64 + 320 * t
  let n := u8At b o
  let next := u8At b (o + 4)
  let h := (List.range n).map fun i => u32At b (o + 64 + 4 * ((next + i) % max 1 n))
  ((d.wr (F.NUM_TAG_SCALE_CORR_CNT t) (u16At b (o + 2))).setHist t h.reverse).tagUpdate t

/-- R468, step 3: the tag histories from BASE_STATE and every later NUMERICS record, in ascending STEP. -/
def Device.rebuildTags (d : Device) (r : Restore) : Device :=
  match r.state with
  | none => d
  | some (c, b) =>
    let d := (List.range 4096).foldl (fun d t => d.loadTag b t) d
    let ns := r.numerics.filter fun x => decide (c < x.1)
    ((sortNat (ns.map (·.1))).filterMap fun s => ns.find? fun x => x.1 = s).foldl (fun d x =>
      (List.range 4096).foldl (fun d t => d.tagCommit t (u32At x.2 (4 * t)) (u32At x.2 (16384 + 4 * t))) d) d

/-- BEGIN's conditions (R465). -/
def Device.restoreMay (d : Device) : Bool :=
  d.phase = .idle && !d.flag F.SPINE_CTL_RUN && d.spine.prog.isSome && d.flag F.SPINE_STATUS_MODE && d.ckpt.restore.isNone &&
    d.tier.dir.all fun e => (d.obj e.obj).kind != 1

end Sys2Proof.Machine
end

