-- ==== Sys2Proof/Machine/Coll.lean ====
section
/-! DEFINITION. The commands and messages of the collective engine (R315 to R350). -/

namespace Sys2Proof.Machine

/-! ### Jobs (R316 to R320) -/

/-- A COLL_CMD write: ignored and logged while BUSY (R351). -/
def State.collCmd (s : State) (f : Device → Device) : Result :=
  s.onDev fun d => d.access F.COLL_CMD.key fun d =>
    if d.flag F.COLL_CMD_STATUS_BUSY then d.logAccess F.COLL_CMD.key else f d

/-- A collective command ends with a RESULT. -/
def Device.collResult (d : Device) (r : Nat) : Device :=
  (d.wr F.COLL_CMD_STATUS_RESULT r).wr F.COLL_CMD_STATUS_BUSY 0

/-- R317, R318: the faults of a job descriptor, in the order of their RESULTs. -/
def Device.jobFault (d : Device) (b : Bytes) (ranks : List Nat) : Nat :=
  let f := u16At b 8
  let p := u8At b 0xA
  let k := u8At b 0xB
  if !zeros b 0xF 49 || ranks.any (4096 ≤ ·) then 1
  else if u64At b 0 = 0 ∨ f = 0 ∨ 4096 < f ∨ p = 0 ∨ 8 < p ∨ 4096 < f * p ∨ 16 < k ∨ f ≤ u16At b 0xC ∨ p ≤ u8At b 0xE then 2
  else if ranks.getD (u8At b 0xE * f + u16At b 0xC) 0 ≠ d.rd F.COLL_RANK_RANK then 3
  else if ranks.eraseDups.length ≠ ranks.length then 4
  else if k ≠ d.leafLog ∨ 2 ^ d.leafLog < f then 5
  else 0

/-- R318: the first 16 bytes of SHAKE128 over the descriptor with INDEX and STAGE zeroed. -/
def jobDigest (b : Bytes) : Bytes := padTo 16 (Config.shake 128 (b.take 0xC ++ zeroBytes 3 ++ b.drop 0xF) 16)

/-- Leaf blocks of a range [a, b) of leaves (R321); `fuel` bounds them. -/
def blocksFrom (k : Nat) : Nat → Nat → Nat → List (Nat × Nat)
  | 0, _, _ => []
  | fuel + 1, a, b =>
    if b ≤ a then []
    else
      let j := if a = 0 then k else lowBit a
      let j := ((List.range (j + 1)).filter fun i => decide (2 ^ i ≤ b - a)).foldl max 0
      (j, a) :: blocksFrom k fuel (a + 2 ^ j) b

/-- R321: the initial blocks of replica i. -/
def initialBlocks (i f k : Nat) : List (Nat × Nat) := blocksFrom k 32 (i * 2 ^ k / f) ((i + 1) * 2 ^ k / f)

/-- A device outside a job owns every leaf (R316). -/
def Device.leaveJob (d : Device) : Device :=
  { d with coll := { d.coll with
    job := none, joining := none, joinMsgs := [], joinTicks := 0, blocks := [[(d.leafLog, 0)]], moves := []
    digStep := none, digests := [], repairs := [], orders := [], windows := [], holdOff := [], since := [] } }.collView

/-- R318: no JOIN is in progress any more. -/
def Device.joinOver (d : Device) : Device :=
  { d with coll := { d.coll with joining := none, joinMsgs := [], joinTicks := 0 } }

/-- R318, R320: the device is a member of job `j`, with the initial blocks of every flock member and empty windows. -/
def Device.inJob (d : Device) (j : Job) : Device :=
  let d := { d with coll := { d.coll with
    job := some j, blocks := (List.range j.f).map fun i => initialBlocks i j.f d.leafLog, moves := [], digStep := none, digests := []
    repairs := [], orders := [], windows := [], holdOff := [], since := [] } }.collView
  (List.range j.f).foldl Device.memberView d

/-- R318: a JOIN ends. -/
def Device.joinEnd (d : Device) (ok : Bool) : Device :=
  match d.coll.joining with
  | none => d
  | some (j, _) =>
    if ok then ((d.joinOver.inJob j).raise F.COLL_INT_STATUS_JOINED).collResult 0
    else (d.joinOver.raise F.COLL_INT_STATUS_JOIN_FAIL).collResult 8

/-- R318: device (0, 0) answers every device with the outcome and joins or fails itself. The answer carries the common
digest, or zeros (DEDUCED, log entry 37). -/
def Device.joinAnswer (d : Device) (ok : Bool) : Device :=
  match d.coll.joining with
  | none => d
  | some (j, g) =>
    let p := (if ok then g else zeroBytes 16) ++ zeroBytes 48
    let d := ((j.ranks.take (j.f * j.p)).drop 1).foldl (fun d r => d.sendColl 0x11 1 r d.step64 [] p) d
    d.joinEnd ok

/-- R318: device (0, 0) has a digest; with all of them it compares and answers. -/
def Device.joinTake (d : Device) (rank : Nat) (g : Bytes) : Device :=
  match d.coll.joining with
  | none => d
  | some (j, own) =>
    match (List.range (j.f * j.p)).find? fun q => j.ranks.getD q 0 = rank with
    | none => d
    | some q =>
      let ms := Store.set (fun _ => []) d.coll.joinMsgs q g
      let d := { d with coll := { d.coll with joinMsgs := ms } }
      if (List.range (j.f * j.p)).all fun q => !(Store.get (fun _ => []) ms q).isEmpty then
        d.joinAnswer (ms.all fun e => e.2 == own)
      else d

/-- R318: a descriptor is accepted: its digest goes to device (0, 0). JOIN messages that waited here are taken. -/
def Device.joinBegin (d : Device) (b : Bytes) (ranks : List Nat) : Device :=
  let j : Job := ⟨u64At b 0, u16At b 8, u8At b 0xA, u16At b 0xC, u8At b 0xE,
    u8At b 0xE * u16At b 8 + u16At b 0xC, ranks⟩
  let g := jobDigest b
  let d := { d with coll := { d.coll with joining := some (j, g), joinMsgs := [], joinTicks := 0 } }.wr
    F.COLL_CMD_STATUS_BUSY 1
  if j.index = 0 ∧ j.stage = 0 then
    let ms := d.coll.inbox.filter (mTy · = 0x11)
    let d := { d with coll := { d.coll with inbox := d.coll.inbox.filter (mTy · ≠ 0x11) } }
    ms.foldl (fun d m => d.receive 0x11 m fun d => d.joinTake (mSrc m) ((mPayload m).take 16))
      (d.joinTake (d.rd F.COLL_RANK_RANK) g)
  else d.sendColl 0x11 1 (ranks.headD 0) d.step64 [] (g ++ zeroBytes 48)

/-- R318: the job descriptor at COLL_CMD_ADDR: 64 bytes, then a u16 RANK for each device; none where a read fails. -/
def Device.jobDesc (d : Device) : Option Bytes :=
  let a := d.rd64 F.COLL_CMD_ADDR_LO_ADDR
  (d.uniRead a 64).bind fun b => (d.uniRead (a + 64) (2 * (u16At b 8 * u8At b 0xA))).map fun rs => b ++ rs

/-- The RANKs of a job descriptor. -/
def jobRanks (b : Bytes) : List Nat := (List.range (u16At b 8 * u8At b 0xA)).map fun i => u16At b (64 + 2 * i)

/-- R317 to R319: JOIN. `hostWrites` is what the host has written by then. -/
def execJoin (hostWrites : List Host.Cell) (s : State) : Result :=
  s.collCmd fun d =>
    let d := d.hostWrites hostWrites
    if d.phase ≠ .idle ∨ d.spine.prog.isNone then d.collResult 6
    else if d.coll.job.isSome then d.collResult 7
    else if !d.tablesOn.isEmpty then d.collResult 9
    else
      match d.jobDesc with
      | none => d.collResult 2
      | some b =>
        let d := d.uniAsk (d.rd64 F.COLL_CMD_ADDR_LO_ADDR) b.length
        let r := d.jobFault (b.take 64) (jobRanks b)
        if r ≠ 0 then d.collResult r else d.joinBegin b (jobRanks b)

/-- R318, R319: LEAVE. -/
def execLeave (s : State) : Result :=
  s.collCmd fun d =>
    if d.phase ≠ .idle then d.collResult 6
    else if d.coll.job.isNone then d.collResult 7
    else if !d.tablesOn.isEmpty then d.collResult 9
    else d.leaveJob.collResult 0

/-- R341: the next COMMIT compares digests. -/
def Device.askCompare (d : Device) : Device := { d with coll := { d.coll with compareNext := true } }

/-- R341: COMPARE_NEXT. -/
def execCompareNext (s : State) : Result :=
  s.collCmd fun d => d.askCompare.collResult 0

/-- R347: RESET_WINDOWS, on the job root. -/
def execResetWindows (s : State) : Result :=
  s.collCmd fun d =>
    if d.coll.job.isSome && d.isJobRoot then
      ((List.range d.flockSize).foldl (fun d i => d.setWindow i []) d).collResult 0
    else d.collResult 0

/-- R318: member (0, 0) of the job takes another member's digest. -/
def Device.joinHear (d : Device) (msg : Bytes) : Device :=
  match d.coll.joining with
  | some (j, _) => if j.index = 0 ∧ j.stage = 0 then d.joinTake (mSrc msg) ((mPayload msg).take 16) else d
  | none => d

/-- R318: a JOIN message reaches device (0, 0). It waits where this device has no JOIN of its own yet (DEDUCED, log entry 34). -/
def Device.joinMsg (d : Device) (msg : Bytes) : Device :=
  if d.jobId = none ∧ mTy msg = 0x11 ∧ msg.length = 128 ∧ d.domOn domSpine then
    d.keepMsg msg
  else
    d.receive 0x11 msg fun d => d.joinHear msg

/-- R318: a JOIN message reaches device (0, 0). -/
def execJoinMsg (msg : Bytes) (s : State) : Result := s.onDev fun d => d.joinMsg msg

/-- R318: another member takes the outcome: its own digest, or anything else. -/
def Device.joinHeard (d : Device) (msg : Bytes) : Device :=
  match d.coll.joining with
  | some (j, g) => if j.index = 0 ∧ j.stage = 0 then d else d.joinEnd ((mPayload msg).take 16 == g)
  | none => d

/-- R318: the outcome reaches a device that asked to join. -/
def Device.joinOutcome (d : Device) (msg : Bytes) : Device :=
  d.receive 0x11 msg fun d => d.joinHeard msg

/-- R318: the outcome of a JOIN. -/
def execJoinOutcome (msg : Bytes) (s : State) : Result := s.onDev fun d => d.joinOutcome msg

/-- R318: COLL_VOTE_TIMEOUT ticks have passed since a JOIN. -/
def execJoinTimeout (s : State) : Result :=
  s.onDev fun d =>
    match d.coll.joining with
    | some (j, _) =>
      if d.coll.joinTicks < d.rd F.COLL_VOTE_TIMEOUT_TICKS then d
      else if j.index = 0 ∧ j.stage = 0 then d.joinAnswer false
      else d.joinEnd false
    | none => d

/-! ### What a message of the step in progress does -/

/-- R328, R329: a segment of a node. -/
def Device.takeNode (d : Device) (m : Bytes) : Device :=
  let l := u8At m 0x18
  let i := u16At m 0x1A
  let n := (d.dnode l i).getD { level := l, index := i }
  ((d.setNode { n with parts := addPart (u32At m 0x1C, mPayload m) n.parts }).growAll).rootTry

/-- R328: a node's header. -/
def Device.takeNodeHdr (d : Device) (m : Bytes) : Device :=
  let l := u8At m 0x18
  let i := u16At m 0x1A
  let n := (d.dnode l i).getD { level := l, index := i }
  let p := mPayload m
  let amax := (List.range 4096).foldl (fun a t => Store.set (fun _ => f32NegZero) a t (u32At p (4 * t))) []
  let sat := (List.range 4096).foldl (fun a t => Store.set (fun _ => 0) a t (u32At p (16384 + 4 * t))) []
  ((d.setNode { n with hdr := true, nf := mNf m, amax := amax, sat := sat }).growAll).rootTry

/-- R146, R153: an owner takes requests, reads the rows and answers. -/
def Device.takeRowReq (d : Device) (m : Bytes) : Device :=
  let q := d.memberOf (mSrc m)
  let es := (chunks 16 (mPayload m)).filter fun e => u32At e 4 ≠ 0
  let d := es.foldl (fun d e =>
    let t := u16At e 0
    let r := u64At e 8
    let c := u32At e 4
    if !d.owns t r then d
    else
      let d := (d.gatherOwned t r 0).sketchCount t r c
      { d with sparse := { d.sparse with asked := d.sparse.asked ++ [Asked.mk q t r c] } }) d
  d.answerAll

/-- R332: the rows an owner returned, once its set is complete. -/
def Device.takeRowData (d : Device) (m : Bytes) : Device :=
  let q := d.memberOf (mSrc m)
  let d := { d with coll := { d.coll with got := d.coll.got ++ [SentMsg.mk 4 (mStep m) (mSrc m) (mSeq m) (mPayload m)] } }
  if !d.setComplete 4 d.step64 (mSrc m) then d
  else
    let ms := d.coll.got.filter fun x => x.ty = 4 ∧ x.dst = mSrc m
    let bytes := (sortNat (ms.map (·.seq))).flatMap fun i => ((ms.find? (·.seq = i)).map (·.bytes)).getD []
    let gs := d.sparse.gathers.filter fun g => g.src = 2 ∧ ownerOf (d.table g.table).desc g.table g.row d.flockSize = q
    (gs.foldl (fun (x : Device × Bytes) g =>
      let n := dRowLines (x.1.table g.table).desc * 64
      (x.1.setGather { g with ready := true, bytes := x.2.take n }, x.2.drop n)) (d, bytes)).1

/-- The gradient entries of a payload, each with its table's width (R168); `fuel` bounds them. -/
def Device.gradsOf (d : Device) : Nat → Bytes → List Bytes
  | 0, _ => []
  | fuel + 1, b =>
    if b.length < 64 then []
    else
      let n := 64 + ceilDiv (dWidth (d.table (u16At b 8)).desc) 16 * 64
      b.take n :: Device.gradsOf d fuel (b.drop n)

/-- R170: a data fault of a gradient entry: its message is asked for again, or REDUCE stops. The message counts as not
received (DEDUCED, log entry 89). -/
def Device.gradFault (d : Device) (m e : Bytes) : Device :=
  let id := (u16At e 8, u64At e 0, u8At e 0xC, u16At e 0xA)
  if id ∈ d.sparse.faults then
    { d with sparse := { d.sparse with stopped := true } }.lasting 4 6 (mSrc m) 0 (u64At e 0) 10 0
  else
    ({ d with
      sparse := { d.sparse with faults := d.sparse.faults ++ [id] }
      coll := { d.coll with seen := d.coll.seen.dropLast } }).sendNack 5 (mSrc m) (mStep m) (mSeq m)

/-- R169, R170: an owner takes gradient entries as nodes. -/
def Device.takeRowGrad (d : Device) (m : Bytes) : Device :=
  let es := d.gradsOf (mLines m) (mPayload m)
  let clash := fun (e : Bytes) => d.nodeClash (u16At e 8) (u64At e 0) (u8At e 0xC) (u16At e 0xA / 2 ^ u8At e 0xC)
  match es.find? clash with
  | some e => d.gradFault m e
  | none =>
    es.foldl (fun d e => d.setRowNode ⟨u16At e 8, u64At e 0, u8At e 0xC, u16At e 0xA / 2 ^ u8At e 0xC,
      f32sAt e 64 (dWidth (d.table (u16At e 8)).desc), bit (u8At e 0xD) 0⟩) d

/-- R333: an owner's change list. -/
def Device.takeChanges (d : Device) (m : Bytes) : Device :=
  let es := (chunks 16 (mPayload m)).filter fun e => u8At e 2 ≠ 0
  let cs := es.map fun e => BwChange.mk (mStep m + 1) (u16At e 0) (u8At e 2 == 1) (u64At e 8)
  { d with sparse := { d.sparse with nextBw := d.sparse.nextBw ++ cs } }

/-- R157: a promoted row's record. -/
def Device.takeRecord (d : Device) (m : Bytes) : Device :=
  let t := u16At m 0x18
  let n := dRecLines (d.table t).desc * 64
  ({ d with sparse := { d.sparse with
    records := d.sparse.records ++ [(t, u64At m 0x20, (mPayload m).take n)] } }.installBw).takeDigests

/-- R313: the version tag of a gather of a sharded block, against that of an earlier gather by the same member in the step: a
mismatch stands at the retry too, and is lasting. -/
def Device.shardTag (d : Device) (member entry block : Nat) : Device :=
  let v := Store.get (fun _ => 0) d.coll.version (65536 * entry + block)
  match d.coll.tags.find? fun x => x.member = member ∧ x.entry = entry ∧ x.block = block with
  | some x => if x.tag = v then d else (d.lasting 0x0004 6 entry 0 block 10 0 true).haltReq
  | none => { d with coll := { d.coll with tags := d.coll.tags ++ [ShardTag.mk member entry block v] } }

/-- The bytes of a block of a sharded entry: its address and length (R312). -/
def Device.shardAt (d : Device) (entry block : Nat) : Nat × Nat :=
  let e := d.bindings.getD entry []
  (bParam e + block * shardBytes, min shardBytes (bBytes e - block * shardBytes))

/-- R313: the fence on an owner's block from its first gather on. -/
def Device.fenceShard (d : Device) (a n : Nat) : Device :=
  let ls := ((List.range (n / 64)).map fun i => d.uniKey (a + 64 * i) / 64).filter fun l => l ∉ d.spine.fenceLines
  { d with spine := { d.spine with fenceLines := d.spine.fenceLines ++ ls } }

/-- R313: a shard block's bytes as SHARD_DATA to the member that asked. -/
def Device.sendShard (d : Device) (dst e b : Nat) : Option Bytes → Device
  | some y => d.sendParts 9 dst d.step64 (segments (fun s => leBytes 4 e ++ leBytes 4 b ++ leBytes 4 s) y) true
  | none => d

/-- R313: a block's owner answers a gather. -/
def Device.takeShardReq (d : Device) (m : Bytes) : Device :=
  let e := u32At m 0x18
  let b := u32At m 0x1C
  let x := d.shardAt e b
  let d := (d.shardTag (d.memberOf (mSrc m)) e b).fenceShard x.1 x.2
  d.sendShard (mSrc m) e b (d.uniRead x.1 x.2)

/-- The operand block of a collective step unit (DESIGN CHOICE, log entry 36); none on an access error. -/
def Device.stepBlock (d : Device) (u : Nat) : Option Bytes := d.uniRead (d.workUnit u).argPtr 32

/-- Lines of a tensor or shard that have landed. -/
def Device.landedAt (d : Device) (k : Nat × Nat × Nat) : Nat := ((d.coll.landed.find? (·.1 = k)).map (·.2)).getD 0

/-- Lines land. -/
def Device.land (d : Device) (k : Nat × Nat × Nat) (n : Nat) : Device :=
  let rest := d.coll.landed.filter (·.1 ≠ k)
  { d with coll := { d.coll with landed := rest ++ [(k, d.landedAt k + n)] } }

/-- The key of a unit's fetch of a shard block among what has landed. -/
def shardKey (u entry block : Nat) : Nat × Nat × Nat := (2 ^ 32 + u, entry, block)

/-- R313: lines of a block reach every unit that fetches it. -/
def Device.takeShardData (d : Device) (m : Bytes) : Device :=
  let e := u32At m 0x18
  let b := u32At m 0x1C
  let us := (d.spine.units.filter fun x => x.2 = .running placeSpine).map (·.1)
  us.foldl (fun d u =>
    match d.stepBlock u with
    | some a =>
      if Config.stepOperand a 0 % 3 = 2 ∧ Config.stepOperand a 6 = e ∧ Config.stepOperand a 7 = b then
        ((d.uniWrite (Config.stepOperand a 8 + 64 * u32At m 0x20) (mPayload m)).getD d).land (shardKey u e b) (mLines m)
      else d
    | none => d) d

/-- R45: lines of a stage tensor land in their slot. -/
def Device.takeStage (d : Device) (m : Bytes) : Device :=
  let n := u32At m 0x1C
  let l := u16At m 0x18
  let k := u16At m 0x1A
  match (d.spine.prog.map (·.tensors)).bind (·[n]?) with
  | none => d
  | some t =>
    if t.kind ≠ 2 then d
    else
      let a := t.addr + (l * 65536 + k) % t.slots * t.bytes + 64 * u32At m 0x20
      ((d.uniWrite a (mPayload m)).getD d).land (n, l, k) (mLines m)

/-- R341, R342: digests reach their referee. -/
def Device.takeDigest (d : Device) (m : Bytes) : Device :=
  let q := d.memberOf (mSrc m)
  let f := u32At m 0x18
  let rs := (List.range (u32At m 0x1C)).map fun i =>
    DigestAt.mk q (f + i * d.flockSize) (sub (mPayload m) (16 * i) 16)
  { d with coll := { d.coll with refs := d.coll.refs ++ rs } }.judge

/-- R342: a repair order. Zero-filled entries of the last line name no repair: their member is their source. -/
def Device.takeOrders (d : Device) (m : Bytes) : Device :=
  ((chunks 16 (mPayload m)).filter fun e => u16At e 4 ≠ u16At e 6).foldl (fun d e =>
    d.takeOrder (u16At e 4, u32At e 0, u16At e 6)) d

/-- R345: a segment of a repaired block. -/
def Device.takeRepair (d : Device) (m : Bytes) : Device :=
  let b := u32At m 0x18
  match d.coll.repairs.find? (·.1 = b) with
  | none => d
  | some r => ((d.repairBlock b (addPart (u32At m 0x1C, mPayload m) r.2)).retryGathers)

/-- A REPAIR waits until the step it belongs to has committed (R345) (DESIGN CHOICE, log entry 139). -/
def Device.afterStep (d : Device) (m : Bytes) (h : Device → Device) : Device :=
  if mStep m < d.step64 then h d else d.keepMsg m

/-- A message that has passed its checks is taken, or waits for its step. -/
def Device.takeMsg (d : Device) (m : Bytes) : Device :=
  match mTy m with
  | 0x01 => d.atStep m fun d => d.takeNode m
  | 0x02 => d.atStep m fun d => d.takeNodeHdr m
  | 0x03 => d.atStep m fun d => d.takeRowReq m
  | 0x04 => d.atStep m fun d => d.takeRowData m
  | 0x05 => d.atStep m fun d => d.takeRowGrad m
  | 0x06 => d.atStep m fun d => d.takeChanges m
  | 0x07 => d.takeRecord m
  | 0x08 => d.atStep m fun d => d.takeShardReq m
  | 0x09 => d.atStep m fun d => d.takeShardData m
  | 0x0A => d.atStep m fun d => d.takeStage m
  | 0x0B => d.atStep m fun d => d.takeVote (mPayload m)
  | 0x0C => d.atStep m fun d => d.takeHdr (mPayload m)
  | 0x0D => d.atStep m fun d => d.takeDigest m
  | 0x0E => d.atStep m fun d => d.takeOrders m
  | 0x0F => d.afterStep m fun d => d.takeRepair m
  | _ => d

/-- The messages that waited for their step are taken (DEDUCED, log entry 34). -/
def Device.drainInbox (d : Device) : Device :=
  let ms := d.coll.inbox
  ms.foldl Device.takeMsg { d with coll := { d.coll with inbox := [] } }

/-! ### Messages -/

/-- R329: NODE. -/
def execNode (msg : Bytes) (s : State) : Result := s.onDev fun d => d.receive 0x01 msg fun d => d.takeMsg msg
/-- R328: NODE_HDR. -/
def execNodeHdr (msg : Bytes) (s : State) : Result := s.onDev fun d => d.receive 0x02 msg fun d => d.takeMsg msg
/-- R146: ROW_REQ. -/
def execRowReq (msg : Bytes) (s : State) : Result := s.onDev fun d => d.receive 0x03 msg fun d => d.takeMsg msg
/-- R332: ROW_DATA. -/
def execRowData (msg : Bytes) (s : State) : Result := s.onDev fun d => d.receive 0x04 msg fun d => d.takeMsg msg
/-- R169: ROW_GRAD. -/
def execRowGrad (msg : Bytes) (s : State) : Result := s.onDev fun d => d.receive 0x05 msg fun d => d.takeMsg msg
/-- R333: BW_CHANGE. -/
def execBwChange (msg : Bytes) (s : State) : Result := s.onDev fun d => d.receive 0x06 msg fun d => d.takeMsg msg
/-- R157: BW_RECORD. -/
def execBwRecord (msg : Bytes) (s : State) : Result := s.onDev fun d => d.receive 0x07 msg fun d => d.takeMsg msg
/-- R313: SHARD_REQ. -/
def execShardReq (msg : Bytes) (s : State) : Result := s.onDev fun d => d.receive 0x08 msg fun d => d.takeMsg msg
/-- R313: SHARD_DATA. -/
def execShardData (msg : Bytes) (s : State) : Result := s.onDev fun d => d.receive 0x09 msg fun d => d.takeMsg msg
/-- R45: STAGE. -/
def execStageMsg (msg : Bytes) (s : State) : Result := s.onDev fun d => d.receive 0x0A msg fun d => d.takeMsg msg
/-- R335: VOTE. -/
def execVote (msg : Bytes) (s : State) : Result := s.onDev fun d => d.receive 0x0B msg fun d => d.takeMsg msg
/-- R336: ROOT_HDR. -/
def execRootHdr (msg : Bytes) (s : State) : Result := s.onDev fun d => d.receive 0x0C msg fun d => d.takeMsg msg
/-- R342: DIGEST. -/
def execDigest (msg : Bytes) (s : State) : Result := s.onDev fun d => d.receive 0x0D msg fun d => d.takeMsg msg
/-- R342: REPAIR_ORDER. -/
def execRepairOrder (msg : Bytes) (s : State) : Result := s.onDev fun d => d.receive 0x0E msg fun d => d.takeMsg msg
/-- R345: REPAIR. -/
def execRepair (msg : Bytes) (s : State) : Result := s.onDev fun d => d.receive 0x0F msg fun d => d.takeMsg msg

/-- R325: the message that a NACK names is sent again, with RESEND set. -/
def Device.resend (d : Device) (msg : Bytes) : Device :=
  match d.coll.sent.find? fun x => x.ty = u8At msg 0x18 ∧ x.step = mStep msg ∧ x.dst = mSrc msg ∧ x.seq = u32At msg 0x1C with
  | some x => (d.sendMsg x.dst 0 (setResend x.bytes)).inc F.COLL_MSG_RESEND_COUNT
  | none => d

/-- R325: a NACK: the named message goes again with RESEND. -/
def Device.nacked (d : Device) (msg : Bytes) : Device := d.receive 0x10 msg fun d => d.resend msg

/-- R325: NACK. -/
def execNack (msg : Bytes) (s : State) : Result := s.onDev fun d => d.nacked msg

/-- A whole message of any TYPE arrives over the fabric (R408). -/
def Device.arrive (d : Device) (m : Bytes) : Device :=
  if mTy m = 0x10 then d.nacked m
  else if mTy m = 0x11 then
    match d.coll.joining with
    | some (j, _) => if j.index = 0 ∧ j.stage = 0 then d.joinMsg m else d.joinOutcome m
    | none => d.joinMsg m
  else d.receive (mTy m) m fun d => d.takeMsg m

/-- R334: the device votes, once it may. -/
def execVoteSend (s : State) : Result := s.onDev fun d => if d.mayVote then d.sendVote else d

/-- R337: the limit passes: each member whose vote is missing is logged, and the wait goes on. -/
def Device.voteLate (d : Device) : Device :=
  let d := { d with coll := { d.coll with voteTicks := some 0 } }.raise F.COLL_INT_STATUS_VOTE_TIMEOUT
  let miss := (List.range d.jobSize).filter fun q => (Store.get (fun _ => []) d.coll.votes q).isEmpty
  (miss.foldl (fun d q => d.log 0x0502 (d.lastingSev 1 false) 6 (d.placeRank q) 0 0) d).passFault 1 0

/-- R337: votes are missing COLL_VOTE_TIMEOUT ticks after the first: the ranks are logged, and the wait goes on. -/
def execVoteTimeout (s : State) : Result :=
  s.onDev fun d =>
    match d.coll.voteTicks with
    | some n =>
      if n < d.rd F.COLL_VOTE_TIMEOUT_TICKS then d
      else d.voteLate
    | none => d

/-! ### Units of the spine (R37) -/

/-- A tensor sent to the device of the adjacent stage of this replica (R307, R333) (DEDUCED, log entry 90). -/
def Device.sendStage (d : Device) (a : Bytes) : Option Device :=
  let o := Config.stepOperand a
  (d.uniRead (o 1) (o 2 / 64 * 64)).map fun b =>
    match d.coll.job with
    | none => d
    | some j =>
      d.sendParts 0xA (j.rank (o 9 % j.p) j.index) d.step64 (segments (fun s =>
        leBytes 2 (o 4) ++ leBytes 2 (o 5) ++ leBytes 4 (o 3) ++ leBytes 4 s) b) false

/-- R313: a block is asked of its owner, or copied where this device owns it. The second component says whether it is here. -/
def Device.fetchShard (d : Device) (u : Nat) (a : Bytes) : Option (Device × Bool) :=
  let o := Config.stepOperand a
  let owner := o 7 % d.flockSize
  let x := d.shardAt (o 6) (o 7)
  if owner = d.flockIndex then
    (d.uniRead x.1 x.2).bind fun b =>
      (((d.shardTag owner (o 6) (o 7)).fenceShard x.1 x.2).uniWrite (o 8) b).map fun d => (d, true)
  else
    let d := { d with coll := { d.coll with landed := d.coll.landed.filter (·.1 ≠ shardKey u (o 6) (o 7)) } }
    some (d.sendColl 8 0 (d.memberRank owner) d.step64 (leBytes 4 (o 6) ++ leBytes 4 (o 7)) [], false)

/-- What a collective step unit waits for has come. -/
def Device.stepDone (d : Device) (u : Nat) (a : Bytes) : Bool :=
  let o := Config.stepOperand a
  match o 0 % 3 with
  | 1 =>
    let t := ((d.spine.prog.map (·.tensors)).bind (·[o 3]?)).getD {}
    decide (t.bytes / 64 ≤ d.landedAt (o 3, (d.workUnit u).leaf, (d.workUnit u).micro))
  | 2 => decide ((d.shardAt (o 6) (o 7)).2 / 64 ≤ d.landedAt (shardKey u (o 6) (o 7)))
  | _ => true

/-- A collective step unit whose access fails is held (R125, R205) (DEDUCED, log entry 91). -/
def Device.holdSpineUnit (d : Device) (u : Nat) : Device :=
  (d.setUnit u .held).lasting 0x0004 6 u 0 (d.workUnit u).argPtr 4 0

/-- R307, R313: a collective step unit starts (DESIGN CHOICE, log entry 36): it sends a tensor, waits for one, or gathers a block. -/
def Device.stepStart (d : Device) (u : Nat) (a : Bytes) : Device :=
  match Config.stepOperand a 0 % 3 with
  | 0 => match d.sendStage a with
    | some d => d.unitEnd u
    | none => d.holdSpineUnit u
  | 1 => if d.stepDone u a then d.unitEnd u else d
  | _ => match d.fetchShard u a with
    | some (d, true) => d.unitEnd u
    | some (d, false) => d
    | none => d.holdSpineUnit u

/-- R307: a step unit that runs ends once its data has landed; one that is ready starts. -/
def Device.stepMove (d : Device) (u : Nat) (a : Bytes) : Device :=
  match d.unitSt u with
  | .running _ => if d.stepDone u a then d.unitEnd u else d
  | _ => if d.unitReady u then (d.handOut u placeSpine).stepStart u a else d

/-- R307: a collective step unit that is ready starts; one that waits ends once its data has come. -/
def execCollectiveStepUnit (unit : Nat) (s : State) : Result :=
  s.onDev fun d =>
    if (d.workUnit unit).kind ≠ 8 then d
    else
      match d.stepBlock unit with
      | some a => d.stepMove unit a
      | none => if d.unitReady unit then (d.handOut unit placeSpine).holdSpineUnit unit else d

/-- R37: a commit unit runs on the spine in COMMIT (DESIGN CHOICE, log entry 36). -/
def execCommitUnit (unit : Nat) (s : State) : Result :=
  s.onDev fun d =>
    if d.phase = .commit ∧ (d.workUnit unit).kind = 9 ∧ unit < d.unitCount ∧ d.unitReady unit then
      (d.handOut unit placeSpine).unitEnd unit
    else d

end Sys2Proof.Machine
end

