-- ==== Sys2Proof/Machine/StepOps.lean ====
section
/-! DEFINITION. The step's phases up to DECIDE: modes (R54 to R56, R232), entry to COMPUTE (R31, R34), REDUCE and DECIDE. -/

namespace Sys2Proof.Machine

/-! ### Modes -/

/-- The owned rows of objects with a T3_BASE that lie in T3, as (object, row) (R232). -/
def Device.t3Rows (d : Device) : List (Nat × Nat) :=
  d.tablesOn.flatMap fun e =>
    let n := d.tableObj e.1
    if (d.obj n).t3Base = 0 then []
    else ((List.range (dRows e.2.desc)).filter fun r => d.owns e.1 r && (d.locate n r).1 == 3).map fun r => (n, r)

/-- Free lines of T2 and, beyond reserve, of T1 (R232). -/
def Device.recoveryRoom (d : Device) : Nat :=
  (d.carriersIn.map d.t2Free).sum + (((List.range Config.tiles).filter d.tileServes).map d.t1Beyond).sum

/-- The moves of R232 are given up. -/
def Device.recoveryStop (d : Device) : Device :=
  { d with tier := { d.tier with recovering := false, want := d.tier.want.filter (·.why ≠ 4) } }

/-- R55: entry to recovery mode is refused. -/
def Device.modeRefuse (d : Device) : Device :=
  (d.recoveryStop.wr F.SPINE_STATUS_MODE_PEND 0).raise F.SPINE_INT_STATUS_MODE_FAIL

/-- No row still to move out of T3 finds room. -/
def Device.recoveryStuck (d : Device) : Bool :=
  (d.tier.want.filter (·.why = 4)).all fun w => (d.moveTo w.obj w.row 2).isNone && (d.moveTo w.obj w.row 1).isNone

/-- R55, R232: recovery mode is entered once T3 is empty; before that the rows are counted, and moved or refused (DEDUCED, log entry 124). -/
def Device.recoveryTry (d : Device) : Device :=
  if !d.flag F.SPINE_STATUS_MODE_PEND || decide (d.phase ≠ .idle) || d.sparse.tailDrain then d
  else if d.tier.recovering then (if d.recoveryStuck then d.modeRefuse else d)
  else
    let rows := d.t3Rows
    if rows.isEmpty then (d.wr F.SPINE_STATUS_MODE 1).wr F.SPINE_STATUS_MODE_PEND 0
    else if d.recoveryRoom < (rows.map fun x => (d.obj x.1).recLines).sum then d.modeRefuse
    else
      let d : Device := rows.foldl (fun d x => d.wantRow x.1 x.2 4) d
      { d with tier := { d.tier with recovering := true } }

/-- R54 to R56: a write of MODE_REQ takes effect in IDLE. Service mode is entered at once; for recovery mode the tail is
drained first (R197). -/
def Device.modeTake (d : Device) : Device :=
  if !d.spine.modeAsk || decide (d.phase ≠ .idle) then d
  else
    let d := { d with spine := { d.spine with modeAsk := false } }
    if !d.flag F.SPINE_CTL_MODE_REQ then (d.recoveryStop.wr F.SPINE_STATUS_MODE 0).wr F.SPINE_STATUS_MODE_PEND 0
    else if d.flag F.SPINE_STATUS_MODE || d.flag F.SPINE_STATUS_MODE_PEND then d
    else
      let d := { d with sparse := { d.sparse with tailDrain := true } }.wr F.SPINE_STATUS_MODE_PEND 1
      d.tailDrainEnd.recoveryTry

/-- A write of SPINE_CTL.MODE_REQ (R54). -/
def Device.modeWrite (d : Device) (recovery : Bool) : Device :=
  ({ d with spine := { d.spine with modeAsk := true } }.wr F.SPINE_CTL_MODE_REQ (b2n recovery)).modeTake

/-! ### IDLE and ADMIT -/

/-- R29: the spine may enter ADMIT. A restore in progress, a pending mode and R197 hold it in IDLE. -/
def Device.mayAdmit (d : Device) : Bool :=
  d.phase = .idle && d.domOn domSpine && d.flag F.SPINE_CTL_RUN && d.spine.prog.isSome && !d.flag F.SPINE_CTL_HALT_REQ &&
    !d.sparse.tailDrain && !d.flag F.SPINE_STATUS_MODE_PEND && d.ckpt.restore.isNone

/-- R29, R30: the spine enters ADMIT: with the step admitted ahead, or with the batches at the ring heads. -/
def Device.stepAdmit (d : Device) : Device :=
  let d := { d with phase := .admitting, spine := { d.spine with admitTick := d.now } }
  match d.spine.ahead with
  | some bs => d.takeAhead bs
  | none => d.admitCheck

/-- R30: a step may be admitted ahead: while the step in progress is in REDUCE, DECIDE or COMMIT, and nothing that waits
for IDLE will come between (DESIGN CHOICE, log entry 102) (DEDUCED, log entry 125). -/
def Device.mayAhead (d : Device) : Bool :=
  (d.phase = .reduce || d.phase = .decide || d.phase = .commit) && d.flag F.SPINE_CTL_RUN && !d.flag F.SPINE_CTL_HALT_REQ &&
    d.spine.ahead.isNone && d.spine.swap.isNone && !d.spine.modeAsk

/-! ### COMPUTE -/

/-- R34, R509: the step's watermark, the smallest of its batches'. -/
def Device.takeWmark (d : Device) : Device :=
  let ws := d.spine.batches.map (·.watermark)
  let w := ws.tail.foldl min (ws.headD 0)
  let d := d.wr64 F.SPINE_WMARK_LO_WMARK w
  if w < d.spine.lastWmark then (d.inc F.DRONE_WMARK_BACK_COUNT).raise F.DRONE_INT_STATUS_WMARK_BACK else d

/-- R31, R145, R146, R341: the step enters COMPUTE. -/
def Device.computeEntry (d : Device) : Device :=
  let d := d.takeWmark
  let d : Device := (d.spine.batches.map (·.ring)).foldl Device.ringConsume d
  let d := { d with
    phase := .compute
    spine := { d.spine with wdog := 0, wdogFired := false }
    coll := { d.coll with computeTick := d.now } }
  d.beginGathers.sendDigests.drainInbox.judge

/-- R31, R157, R454: the step in ADMIT may enter COMPUTE. -/
def Device.mayCompute (d : Device) : Bool := d.phase = .admitting && d.spine.admitOk && d.lostOk && !d.bwDue

/-! ### REDUCE -/

/-- A unit of a kind that passes has not finished. -/
def Device.unitsLeft (d : Device) (kind : Nat → Bool) : Bool :=
  (List.range d.unitCount).any fun u => kind (d.workUnit u).kind && (d.unitSt u != .done || d.spine.rerun.contains u)

/-- Occurrences of a row in the leaves of a block (R327). -/
def Device.blockCount (d : Device) (t r : Nat) (b : Nat × Nat) : Nat :=
  ((List.range (2 ^ b.1)).map fun i => ((d.occsOf t (b.2 + i)).filter (·.row = r)).length).sum

/-- R327: section B of a block's node. -/
def Device.blockRows (d : Device) (b : Nat × Nat) : Bytes :=
  d.bwRows.flatMap fun x => bwEntry x.1 x.2.1 x.2.2 (d.blockNode x.1 x.2.1 b) (d.blockCount x.1 x.2.1 b)

/-- The dense gradients at GRAD, one binding entry after another. -/
def Device.gradBytes (d : Device) : Bytes := d.bindings.flatMap fun e => d.uniBytes (bBytes e) (bGrad e)

/-- R328: a node of the dense vector over a block, from its section D; `first` says whether it carries this device's
amaxes and saturation counts (DEDUCED, log entry 144). -/
def Device.blockVector (d : Device) (first : Bool) (b : Nat × Nat) (dense : Bytes) : DNode :=
  let rows := d.blockRows b
  { level := b.1, index := b.2 / 2 ^ b.1, hdr := true
    nf := (d.num.nf.any fun x => decide (b.2 ≤ x.1 ∧ x.1 < b.2 + 2 ^ b.1)) ||
      (f32sAt dense 0 (dense.length / 4)).any f32NonFinite || bFlagged (d.bwRows.map (·.2.2)) rows
    amax := if first then d.num.amax else []
    sat := if first then d.num.sat else []
    parts := [(0, dense ++ rows)] }

/-- R26, R329: the nodes of this device's blocks join the tree. The first block's section D stands at GRAD; of further blocks' the spec
says no place, and their bytes are free. -/
def Device.blockNodes (d : Device) : Device :=
  match d.blocksOf d.flockIndex with
  | [] => d
  | b :: bs =>
    let d := d.setNode (d.blockVector true b d.gradBytes)
    bs.foldl (fun d b => d.used.setNode (d.blockVector false b (leBytes d.denseBytes d.fresh))) d

/-- R28, R329, R332: the step may enter REDUCE (DEDUCED, log entry 130). -/
def Device.mayReduce (d : Device) : Bool :=
  d.phase = .compute && !d.unitsLeft (fun k => k != 5 && k != 9) && d.spine.rerun.isEmpty &&
    d.others.all fun m => d.setComplete 3 d.step64 (d.memberRank m)

/-- R332: this device's gradient entries go to their owners. -/
def Device.sendGrads (d : Device) : Device :=
  d.others.foldl (fun d m => d.sendSet 5 (d.memberRank m) d.step64 (bare (packPayloads (d.gradEntries m)))) d

/-- R156, R329, R332, R333: the step enters REDUCE (DEDUCED, log entry 82). -/
def Device.reduceEntry (d : Device) : Device :=
  let d := { d with phase := .reduce, coll := { d.coll with readyTick := d.now } }
  d.blockNodes.growAll.sendGrads.bwDecide.sendChanges

/-! ### DECIDE -/

/-- R180: a table's parameter block. -/
def Device.readTableParams (d : Device) (t : Nat) : Device :=
  let desc := (d.table t).desc
  let put := fun (d : Device) (b : Bytes) =>
    { d with sparse := { d.sparse with params := Store.set (fun _ => []) d.sparse.params t b } }
  let d := if d.uniOk (dOptPtr desc) 192 then d.uniAsk (dOptPtr desc) 192 else d
  match d.readParams (dOpt desc) (dOptPtr desc) d.step64 with
  | .ok b => put d b
  | .error c =>
    let d := ((put d []).wr F.OPT_PARAM_ERR_CAUSE c).wr F.OPT_PARAM_ERR_TABLE t
    (d.log 0x0509 1 3 t c 0).raise F.OPT_INT_STATUS_PARAM_ERR

/-- R311: a binding entry's parameter block; its ROW_TAG must equal TAG. -/
def Device.readDenseParams (d : Device) (i : Nat) : Device :=
  let e := d.bindings.getD i []
  let put := fun (d : Device) (b : Bytes) =>
    { d with sparse := { d.sparse with dense := Store.set (fun _ => []) d.sparse.dense i b } }
  let d := if d.uniOk (bOptPtr e) 192 then d.uniAsk (bOptPtr e) 192 else d
  match d.readParams (bOpt e) (bOptPtr e) d.step64 with
  | .ok b => if paramTag b = bTag e then put d b else (put d []).log 0x0509 1 3 i 6 0
  | .error c => (put d []).log 0x0509 1 3 i c 0

/-- R28: the step may enter DECIDE. -/
def Device.mayDecide (d : Device) : Bool :=
  d.phase = .reduce && !d.unitsLeft (fun k => k != 9) && d.treesLeft.isEmpty && !d.sparse.stopped

/-- R47, R180: the step enters DECIDE. -/
def Device.decideEntry (d : Device) : Device :=
  let d : Device := (d.tablesOn.map (·.1)).foldl Device.readTableParams { d with phase := .decide }
  (List.range d.bindings.length).foldl Device.readDenseParams d

end Sys2Proof.Machine
end

