-- ==== Sys2Proof/Machine/Ckpt.lean ====
section
/-! DEFINITION. The mailbox commands CHECKPOINT and RESTORE (R439, R465 to R468) and the drain of the snapshot buffer (R457). SUB
stands in the payload: a command whose SUB is another's leaves the state as it is (DESIGN CHOICE, log entry 4). -/

namespace Sys2Proof.Machine

/-- SUB of a CHECKPOINT or RESTORE command (DEDUCED, log entry 138). -/
def Device.mboxSub (d : Device) : Nat := u8At (d.payload 1) 0

/-- The input of a mailbox command, IN_LEN bytes of the payload. -/
def Device.mboxIn (d : Device) (value : Nat) : Bytes := d.payload (min 256 (bits value 24 16))

/-- An input length from `n` to 256. -/
def lenFrom (n len : Nat) : Bool := decide (n ≤ len ∧ len ≤ 256)

/-- The input holds only zeros from byte `n` on. -/
def zerosFrom (n : Nat) (b : Bytes) : Bool := (b.drop n).all (· == 0)

/-! ### CHECKPOINT -/

/-- SUB 0's answer: GEN, DONE_GEN, D and the last complete END_STEP (R465). -/
def Device.ckptStatus (d : Device) : Bytes :=
  leBytes 4 (d.rd F.CKPT_GEN_GEN) ++ leBytes 4 (d.rd F.CKPT_DONE_GEN_GEN) ++ leBytes 8 (d.rd64 F.CKPT_DURABLE_LO_VALUE) ++
    leBytes 8 (d.rd64 F.CKPT_DONE_END_LO_VALUE)

/-- CHECKPOINT STATUS answered (R465). -/
def Device.ckptReply (d : Device) (value : Nat) : Device :=
  if d.mboxSub ≠ 0 ∨ zerosFrom 1 (d.mboxIn value) = false then d.mboxEnd 3 [] else d.mboxEnd 0 d.ckptStatus

/-- CHECKPOINT STATUS; a reserved SUB is answered here. -/
def execCheckpointStatus (value : Nat) (s : State) : Result :=
  s.onDev fun d => if d.mboxSub = 1 then d else d.mbox value 0x40 (lenFrom 1) fun d => d.ckptReply value

/-- A generation is asked for: it begins at the next COMMIT (R465). -/
def Device.askBase (d : Device) : Device := { d with ckpt := { d.ckpt with asked := true } }

/-- CHECKPOINT BASE_NOW answered (R465). -/
def Device.baseNow (d : Device) (value : Nat) : Device :=
  if zerosFrom 1 (d.mboxIn value) = false then d.mboxEnd 3 []
  else if !d.domOn domSpine then d.mboxEnd 4 []
  else d.baseAbandon.askBase.mboxEnd 0 []

/-- CHECKPOINT BASE_NOW: the generation in progress is abandoned, and one begins at the next COMMIT (R455, R459). -/
def execBaseNow (value : Nat) (s : State) : Result :=
  s.onDev fun d => if d.mboxSub ≠ 1 then d else d.mbox value 0x40 (lenFrom 1) fun d => d.baseNow value

/-! ### RESTORE -/

/-- The 16 bytes RESTORE returns. -/
def pairOut (a b : Nat) : Bytes := leBytes 8 a ++ leBytes 8 b

/-- A refusal by a cause of CKPT_RESTORE_ERR (R467). -/
def Device.restoreRefuse (d : Device) (cause src : Nat) : Device := (d.restoreErr cause src).mboxEnd 8 []

/-- The restore in progress, or none, and what CKPT_STATUS shows of it (R464). -/
def Device.setRestore (d : Device) (r : Option Restore) : Device :=
  Device.ckptView { d with ckpt := { d.ckpt with restore := r } }

/-- RESTORE BEGIN answered (R465) (DEDUCED, log entry 123). -/
def Device.restoreBegin (d : Device) (b : Bytes) : Device :=
  if d.mboxSub ≠ 0 ∨ zeros b 1 7 = false ∨ zerosFrom 16 b = false then d.mboxEnd 3 []
  else if !d.restoreMay then d.restoreRefuse 6 0
  else (d.setRestore (some { resume := u64At b 8, began := d.now })).mboxEnd 0 (pairOut 0 0)

/-- RESTORE BEGIN; a reserved SUB is answered here. -/
def execRestoreBegin (value : Nat) (s : State) : Result :=
  s.onDev fun d => if 1 ≤ d.mboxSub ∧ d.mboxSub ≤ 3 then d else d.mbox value 0x41 (lenFrom 16) fun d => d.restoreBegin (d.mboxIn value)

/-- R466, R467: an extent of a source is taken (DEDUCED, log entry 117). -/
def Device.takeExtent (d : Device) (r : Restore) (phase rank lines addr : Nat) : Device :=
  if phase = 0 ∧ r.delta = true then d.restoreRefuse 1 rank
  else
    let a := uniOfHost addr
    let d := d.uniAsk a (64 * lines)
    match d.takeRecords phase rank lines r (d.uniBytes (64 * lines) a) (0, 0) with
    | .error (c, d) => d.restoreRefuse c rank
    | .ok (d, r, taken, ignored) =>
      let d := { d with ckpt := { d.ckpt with restore := some r } }.inc F.CKPT_RESTORE_IGN_COUNT ignored
      d.mboxEnd 0 (pairOut taken ignored)

/-- An extent of a restore in progress (R466); none, or one already refused, answers RESULT 4. -/
def Device.restoreExtent (d : Device) (r : Option Restore) (b : Bytes) : Device :=
  match r with
  | none => d.mboxEnd 4 []
  | some r =>
    if r.bad then d.mboxEnd 4 []
    else if !d.inWindow (u64At b 8) (64 * u32At b 4) then d.mboxEnd 6 []
    else d.takeExtent r (u8At b 1) (u16At b 2) (u32At b 4) (u64At b 8)

/-- RESTORE SOURCE answered (R466). -/
def Device.restoreSource (d : Device) (b : Bytes) : Device :=
  if 1 < u8At b 1 ∨ 4095 < u16At b 2 ∨ zerosFrom 16 b = false then d.mboxEnd 3 [] else d.restoreExtent d.ckpt.restore b

/-- RESTORE SOURCE. -/
def execRestoreSource (value : Nat) (hostWrites : List Host.Cell) (s : State) : Result :=
  s.onDev fun d =>
    let d := d.hostWrites hostWrites
    if d.mboxSub ≠ 1 then d else d.mbox value 0x41 (lenFrom 16) fun d => d.restoreSource (d.mboxIn value)

/-- R468: FINISH of a complete restore. -/
def Device.restoreFinish (d : Device) (r : Restore) (recovery : Bool) : Device :=
  let d := d.wr64 F.SPINE_STEP_LO_STEP (r.resume + 1)
  let ls := r.scale.getD (0, 0)
  let d := ((d.wr F.NUM_LS_STATUS_CUR_LOG2 ls.1).wr F.NUM_LS_STATUS_CLEAN ls.2).rebuildTags r
  let d := d.wr F.CKPT_COST_SECONDS (ceilDiv (d.now - r.began) 1000000)
  let d := { d with ckpt := { d.ckpt with restore := none, fresh := true } }.ckptView
  let d := if recovery then d else d.modeWrite false
  (d.raise F.CKPT_INT_STATUS_RESTORE_DONE).mboxEnd 0 (pairOut (r.resume + 1) 0)

/-- The end of a restore in progress (R468); none, or one already refused, answers RESULT 4. -/
def Device.restoreEnd (d : Device) (r : Option Restore) (recovery : Bool) : Device :=
  match r with
  | none => d.mboxEnd 4 []
  | some r =>
    if r.bad then d.mboxEnd 4 []
    else if !r.complete then d.restoreRefuse 5 0
    else d.restoreFinish r recovery

/-- RESTORE FINISH answered (R468). -/
def Device.restoreLast (d : Device) (b : Bytes) : Device :=
  if 1 < u8At b 1 ∨ zerosFrom 2 b = false then d.mboxEnd 3 [] else d.restoreEnd d.ckpt.restore (u8At b 1 == 1)

/-- RESTORE FINISH. -/
def execRestoreFinish (value : Nat) (s : State) : Result :=
  s.onDev fun d => if d.mboxSub ≠ 2 then d else d.mbox value 0x41 (lenFrom 2) fun d => d.restoreLast (d.mboxIn value)

/-- RESTORE ABORT answered (R465). -/
def Device.restoreAbort (d : Device) (b : Bytes) : Device :=
  if zerosFrom 1 b = false then d.mboxEnd 3 []
  else if d.ckpt.restore.isNone then d.mboxEnd 4 []
  else (d.setRestore none).mboxEnd 0 (pairOut 0 0)

/-- RESTORE ABORT. -/
def execRestoreAbort (value : Nat) (s : State) : Result :=
  s.onDev fun d => if d.mboxSub ≠ 3 then d else d.mbox value 0x41 (lenFrom 1) fun d => d.restoreAbort (d.mboxIn value)

/-! ### The snapshot buffer -/

/-- The snapshot buffer drained onto the base ring, where one is configured (R457). -/
def Device.baseDrain (d : Device) (ring : Option Nat) : Device :=
  match ring with
  | some ring => (Device.snapDrain ring d.ckpt.snap.length d).baseEnd ring
  | none => d

/-- R456, R457: captured slots go onto the base ring, and BASE_END after the last segment's. -/
def execBaseDrain (s : State) : Result :=
  s.onDev fun d => d.baseDrain d.baseRing

end Sys2Proof.Machine
end

