-- ==== Sys2Proof/Machine/Dma.lean ====
section
/-! DEFINITION. The commands of the DMA engines (R369 to R379). -/

namespace Sys2Proof.Machine

/-- R373: a channel takes a chain: its unit's first descriptor, or its ring's next entry (DEDUCED, log entry 95). -/
def Device.chainBegin (d : Device) (engine channel r : Nat) : Device :=
  let h := d.chan engine channel
  let first := match h.unit with
    | some u => (d.workUnit u).argPtr
    | none => d.ringAddr r (d.rd (F.RING_CONS r))
  (d.setChan engine channel { st := .running, first := first, live := true, units := h.units }).reach engine channel first

/-- R373, R374: a channel without a chain starts the one at its ring's head; one whose completion still waits starts none
(R357). -/
def execChainStart (engine channel : Nat) (s : State) : Result :=
  s.onDev fun d =>
    match d.chanRing engine channel with
    | none => d
    | some r =>
      let h := d.chan engine channel
      let st := d.chanState engine channel
      let full := d.rd (F.RING_CFG_TYPE r) == 2 && !(d.ring (d.rd (F.RING_PAIR_PAIR r))).waiting.isEmpty
      if !(d.engOn engine && d.flag (F.RING_CTL_ENABLE r) && !d.ringEmpty r && !h.live && !full && (st == .idle || st == .running))
      then d
      else d.chainBegin engine channel r

/-- R369: COPY. `fail` names the line, counted from the position, whose access fails. -/
def execDmaCopy (engine channel : Nat) (fail : Option Nat) (s : State) : Result :=
  s.onDev fun d => d.runDesc engine channel 0 fail

/-- R369, R252: ACCUMULATE. -/
def execDmaAccumulate (engine channel : Nat) (fail : Option Nat) (s : State) : Result :=
  s.onDev fun d => d.runDesc engine channel 1 fail

/-- R369: FILL. -/
def execDmaFill (engine channel : Nat) (fail : Option Nat) (s : State) : Result :=
  s.onDev fun d => d.runDesc engine channel 2 fail

/-- R371: PAGE_WALK. -/
def execPageWalk (engine channel : Nat) (fail : Option Nat) (s : State) : Result :=
  s.onDev fun d => d.runDesc engine channel 3 fail

/-- R373: the chain's last write has reached its destination. -/
def execChainComplete (engine channel : Nat) (s : State) : Result :=
  s.onDev fun d =>
    let h := d.chan engine channel
    if d.engOn engine && h.st == .running && h.live && h.ended then d.chainEnd engine channel 0 true else d

/-- A retry has succeeded (R374, R375, R378). -/
def Device.retryOk (d : Device) (e c : Nat) : Device :=
  let h := d.chan e c
  let d := (d.raise (F.DMA_ENG_INT_STATUS_RETRY_OK e)).log 0x0B00 1 10 e 0 h.desc
  d.setChan e c { h with st := if h.pauseReq then .paused else .running, pauseReq := false, attempts := 0 }

/-- R378: the failed line is tried again, 256 clk after it failed; so is a descriptor that could not be read. -/
def execDmaLineRetry (engine channel : Nat) (ok : Bool) (s : State) : Result :=
  s.onDev fun d =>
    let h := d.chan engine channel
    if !(d.engOn engine && h.st == .retrying) then d
    else
      let d := d.inc (F.DMA_ENG_RETRIES_COUNT engine)
      if !ok then d.chanFail engine channel
      else if h.cur.isEmpty then
        if d.uniOk h.desc 64 then (d.retryOk engine channel).reach engine channel h.desc else d.chanFail engine channel
      else
        match d.moveLine engine channel h with
        | .moved d => (d.retryOk engine channel).lineMoved engine channel
        | .failed d => d.chanFail engine channel
        | .sentBack d => d.chainEnd engine channel 1 false
        | .held => d

/-- R375: PAUSE: the channel stops where it is; one that retries stops when the retries end. -/
def Device.pauseChan (d : Device) (engine c : Nat) : Device :=
  let h := d.chan engine c
  d.setChan engine c (if h.st = .retrying then { h with pauseReq := true } else { h with st := .paused })

/-- R375: RESUME: the channel goes on where it stopped; a descriptor not yet read is read again (DEDUCED, log entry 93). -/
def Device.resumeChan (d : Device) (engine c : Nat) : Device :=
  let h := d.chan engine c
  let d := d.setChan engine c { h with st := .running, cause := 0, attempts := 0 }
  if h.live && h.cur.isEmpty then d.reach engine c h.desc else d

/-- R375: ABORT: the chain ends as failed, or as one whose descriptor is in error. -/
def Device.abortChan (d : Device) (engine c : Nat) : Device :=
  let h := d.chan engine c
  if h.live then d.chainEnd engine c (if h.st = .halted ∧ (h.cause = 2 ∨ h.cause = 3) then 2 else 1) true
  else d.setChan engine c { h with st := .running }

/-- R375: PAUSE, at once between lines, in RETRYING after the retry's outcome. -/
def execDmaPause (engine value : Nat) (s : State) : Result :=
  s.onDev fun d => d.chanCtl engine value 0 (fun st => st == .running || st == .retrying) fun d c => d.pauseChan engine c

/-- R375: RESUME, from the recorded position. -/
def execDmaResume (engine value : Nat) (s : State) : Result :=
  s.onDev fun d => d.chanCtl engine value 1 (fun st => st == .paused || st == .halted) fun d c => d.resumeChan engine c

/-- R375: ABORT abandons the chain; a chain halted with cause 2 or 3 completes with STATUS 2, another with STATUS 1. -/
def execDmaAbort (engine value : Nat) (s : State) : Result :=
  s.onDev fun d => d.chanCtl engine value 2 (fun st => st == .paused || st == .halted) fun d c => d.abortChan engine c

/-- R377: the submission ring of an engine that takes units and has room. -/
def Device.unitRing (d : Device) (engine : Nat) : Option Nat :=
  (d.ringsOf 1).find? fun r => d.flag (F.RING_PAIR_UNITS r) && d.rd (F.RING_CFG_ENGINE r) == engine && d.ringRoom r &&
    (d.ring r).waiting.isEmpty

/-- R377: the next transfer unit an engine may take. -/
def Device.nextCopy (d : Device) (engine : Nat) : Option Nat :=
  d.nextReady fun u => (d.workUnit u).kind == 10 && bit (d.workUnit u).eligible (engine - 24)

/-- R377: an engine takes a unit: its first descriptor goes into ring `r`, and the ring's channel knows whose chain it is. -/
def Device.queueUnit (d : Device) (engine r u : Nat) : Device :=
  let c := d.rd (F.RING_CFG_CHANNEL r)
  let entry := (d.uniRead (d.workUnit u).argPtr 64).getD (zeroBytes 64)
  let d := d.handOut u (placeEngine engine)
  let h := d.chan engine c
  (d.setChan engine c { h with units := h.units ++ [u] }).produceOrWait r entry

/-- R39, R377: a spine engine pulls the next ready DMA transfer unit that names it and places it in its ring with UNITS set;
without room the unit stays ready (R357). -/
def execDmaTransferUnit (engine : Nat) (s : State) : Result :=
  s.onDev fun d =>
    if engine < 24 ∨ d.engOn engine = false then d
    else
      match d.unitRing engine, d.nextCopy engine with
      | some r, some u => d.queueUnit engine r u
      | _, _ => d

end Sys2Proof.Machine
end

