-- ==== Sys2Proof/Machine/DomainOn.lean ====
section
/-! DEFINITION. A domain finishes STARTING (R481): DRAM training (R257), the start self-test of cores (R41). -/

namespace Sys2Proof.Machine

/-- The logical die the spare replaces, as AON holds it; 8 for none (R257). -/
def Device.spareMap (d : Device) (t : Nat) : Nat := Store.get (fun _ => 8) d.boot.spareMaps t

/-- The spare mapping that training leaves, 8 for none, or no mapping where the tile is out of service (R257). `m` is the
mapping in force before, `bad` the physical dies that fail. -/
def trainedMap (m : Nat) (bad : List Nat) : Option Nat :=
  let serving := (List.range 8).filter fun l => l ≠ m
  match serving.filter (fun l => l ∈ bad) with
  | [] => if m < 8 ∧ 8 ∈ bad then none else some m
  | [l] => if m = 8 ∧ 8 ∉ bad then some l else none
  | _ => none

/-- A tile leaves training out of service (R257): it holds no sort map entry. -/
def Device.tileOut (d : Device) (t : Nat) : Device :=
  let d := { d with boot := { d.boot with tileOut := if t ∈ d.boot.tileOut then d.boot.tileOut else d.boot.tileOut ++ [t] } }
  ((d.wr (F.MEM_STATUS_STATE t) 2).wr (F.EMB_SLICE_STATUS_DRAINED t) 1).remapSort t

/-- R257: a stack is trained. During start-up the mapping is decided afresh, later the one AON holds is reapplied first. -/
def Device.trainTile (d : Device) (t : Nat) (bad : List Nat) : Device :=
  let fresh := d.rd F.DRONE_START_STATUS_STATE == 0
  let m := if fresh then 8 else d.spareMap t
  let d := d.wr (F.OPT_STAGE_LINES_LINES t) (d.rd (F.OPT_STAGE_INIT_LINES t))
  match (if !fresh && d.boot.tileOut.contains t then none else trainedMap m bad) with
  | none => d.tileOut t
  | some l =>
    let d := { d with boot := { d.boot with
      spareMaps := Store.set (fun _ => 8) d.boot.spareMaps t l
      tileOut := d.boot.tileOut.filter (· ≠ t) } }
    let d := d.wr (F.MEM_STATUS_STATE t) 1
    let d := if l < 8 then
        ((d.wr (F.MEM_SPARE_STATE t) 2).wr (F.MEM_SPARE_DIE t) l).wr (F.MEM_SPARE_CAUSE t) 5
      else if 8 ∈ bad then d.wr (F.MEM_SPARE_STATE t) 3 else d
    if t ∈ d.tier.drainedTiles then d.wr (F.EMB_SLICE_STATUS_DRAINED t) 1 else d

/-- R41, R127: a core whose group reaches ON runs its start self-test, unless it is retired. -/
def Device.coreStart (d : Device) (c : Nat) : Device :=
  d.wr (F.CORE_STATUS_STATE c) (if c ∈ d.boot.retiredCores then 5 else 0)

/-- R418, R542: an engine has reached ON: the links all of whose engines are ON train, with the spare lanes AON holds. -/
def Device.linksTrain (d : Device) (n : Nat) : Device :=
  ((List.range 12).filter fun l => (linkEngines l).contains n && d.linkPowered l).foldl (fun d l =>
    let d := (d.setLink l { d.link l with training := true }).wr (linkState l) 1
    d.applyLanes l) d

/-- R376: the engine of a tile has reached ON: a channel whose ring's consumer stands at an unfinished chain is HALTED with
cause 4, at the chain's first descriptor. -/
def Device.engineStart (d : Device) (t : Nat) : Device :=
  (d.chans.filter fun e => e.1 / 128 = t).foldl (fun d e =>
    let c := e.1 % 128
    let stands := match d.chanRing t c with
      | some r => !d.ringEmpty r
      | none => false
    if stands then (d.raise (F.DMA_ENG_INT_STATUS_HALT t)).lasting 0x0B01 10 t 4 e.2.desc 9 t
    else d.setChan t c {}) d

/-- The domain's own start tasks (R481): `bad` names (tile, physical die) pairs that fail training. -/
def Device.startTasks (d : Device) (n : Nat) (bad : List (Nat × Nat)) : Device :=
  if 2 ≤ n ∧ n < 10 then (List.range 12).foldl (fun d i => d.coreStart ((n - 2) * 12 + i)) d
  else if 10 ≤ n ∧ n < 14 then
    (List.range 6).foldl (fun d i =>
      let t := (n - 10) * 6 + i
      (d.trainTile t ((bad.filter (·.1 = t)).map (·.2))).engineStart t) d
  else if 14 ≤ n ∧ n < 18 then d.linksTrain (n - 14)
  else if n = domSpine ∧ d.rd F.DRONE_START_STATUS_STATE = 0 then d.wr F.DRONE_START_STATUS_STEP 7
  else d

/-- A domain that has reached ON: the domains that waited for it start; a disable that came meanwhile is acted on
(R482). -/
def Device.onReached (d : Device) (n : Nat) : Device :=
  let d := (d.wr { F.PWR_STATUS_ON with lo := n, w := 1 } 1).raise F.PWR_INT_STATUS_DOM_CHANGE
  if d.flag (F.PWR_DOM_STATE_PENDING_DISABLE n) then
    (d.wr (F.PWR_DOM_STATE_PENDING_DISABLE n) 0).stopOrderly n
  else d.settle

/-- A domain's start ends: ON, its start tasks, and what follows from it (R481). -/
def Device.domainUp (d : Device) (n : Nat) (bad : List (Nat × Nat)) : Device :=
  ((d.wr (F.PWR_DOM_STATE_STATE n) 2).startTasks n bad).onReached n

/-- R481: a domain enters ON. -/
def execDomainOn (domain : Nat) (badDies : List (Nat × Nat)) (s : State) : Result :=
  s.onDev fun d =>
    if domain < 2 ∨ 20 ≤ domain ∨ d.domState domain ≠ 1 then d else d.domainUp domain badDies

end Sys2Proof.Machine
end

