-- ==== Sys2Proof/Machine/Emb.lean ====
section
/-! DEFINITION. Table commands (R133, R161) and lookup units (R149 to R151). -/

namespace Sys2Proof.Machine

/-- A table command ends (R133, R161). -/
def Device.tableResult (d : Device) (r : Nat) : Device :=
  let d := (d.wr F.EMB_TBL_CMD_STATUS_RESULT r).wr F.EMB_TBL_CMD_STATUS_BUSY 0
  d.raise (if r = 0 then F.EMB_INT_STATUS_CMD_DONE else F.EMB_INT_STATUS_CMD_FAIL)

/-- The per-table counters start at 0 (R143, R161). -/
def Device.clearTable (d : Device) (t : Nat) : Device :=
  [F.EMB_TBL_LOOKUPS_LO_COUNT t, F.EMB_TBL_MISSING_LO_COUNT t, F.EMB_TBL_INVALID_LO_COUNT t,
    F.EMB_TBL_DROPPED_LO_COUNT t, F.EMB_TBL_DEFAULTED_LO_COUNT t, F.EMB_TBL_DISTINCT_LO_COUNT t].foldl
    (fun d f => d.wr64 f 0) d

/-- R167: the sharding fields hold for a Flock of f members. -/
def shardOk (b : Bytes) (f : Nat) : Bool :=
  match dShard b with
  | 0 => decide (1 ≤ dParam b ∧ dParam b ≤ 2 ^ 40) && decide (ceilDiv (dRows b) (dParam b) ≤ f)
  | 1 => true
  | 2 => decide (dParam b < f)
  | _ => false

/-- R210: OBJECT names a live TABLE object of the table's size and record. -/
def Device.tableObjOk (d : Device) (b : Bytes) : Bool :=
  let o := d.obj (handleNum (dObj b))
  d.handleLive (dObj b) && o.kind == 1 && o.size == dRows b + 1 && o.recLines == dRecLines b

/-- R131, R161: the fields checked only with BW_ENABLE. -/
def bwFieldsOk (b : Bytes) : Bool :=
  !dBw b || (decide (1 ≤ dPromote b ∧ dDemote b < dPromote b ∧ dBwMax b ≤ 2 ^ 24) &&
    (dDecay b == 0 || decide (1000 ≤ dDecay b)))

/-- R133, R161: the RESULT of a descriptor's checks, 0 where it passes them (DESIGN CHOICE, log entry 35 gives their order). -/
def Device.tableFault (d : Device) (b : Bytes) : Nat :=
  if u8At b 0xE / 16 ≠ 0 ∨ u8At b 0xF / 16 ≠ 0 ∨ u8At b 0x11 / 8 ≠ 0 ∨ u16At b 0x12 / 4096 ≠ 0 ∨
      !(zeros b 0x16 2 && zeros b 0x34 12) then 1
  else if dRows b = 0 ∨ 2 ^ 40 < dRows b then 2
  else if dWidth b < 16 ∨ 1024 < dWidth b then 3
  else if (rowLines (dFormat b) (dWidth b)).isNone then 4
  else if 2 < dPool b ∨ 4 < dOutFormat b then 5
  else if !bwFieldsOk b then 6
  else if 6 < dOpt b ∨ !shardOk b d.flockSize ∨ !d.tableObjOk b then 8
  else match d.readParams (dOpt b) (dOptPtr b) d.step64 with
    | .ok _ => 0
    | .error _ => 8

/-- R133: the sketch region of a table with BW_ENABLE, 8,192 lines of one stack; none where it is refused. -/
def Device.tableSketch (d : Device) (t : Nat) (b : Bytes) : Option (Option (Nat × Nat) × Device) :=
  if !dBw b then some (none, d)
  else
    (d.tilesFrom (t % Config.tiles)).findSome? fun i => (d.alloc1 i 8192).map fun x => (some (i, x.1), x.2)

/-- R133, R137: a table that passed its checks is enabled, with its default row's replica, which reads as zero. -/
def Device.tableOn (d : Device) (t : Nat) (b : Bytes) : Device :=
  match d.tableSketch t b with
  | none => d.tableResult 7
  | some (sk, e) =>
    let i := e.sortTile t (dRows b)
    match e.alloc1 i (dRecLines b) with
    | none => d.tableResult 7
    | some (l, e) =>
      let next := if dBw b ∧ dDecay b ≠ 0 then e.now + dDecay b else 0
      let e := e.setTable t { on := true, desc := b, sketchAt := sk, nextDecay := next,
                              bw := [⟨dRows b, i, l, false, 0⟩] }
      let e := ((e.clearTable t).wr (F.EMB_TBL_STATE_ENABLED t) 1).wr64 (F.EMB_TBL_NEXT_DECAY_LO_TICK t) next
      (e.bwView t).tableResult 0

/-- A write of EMB_TBL_CMD: acted on in IDLE (R133). -/
def State.tableCmd (s : State) (f : Device → Device) : Result :=
  s.onDev fun d => d.access F.EMB_TBL_CMD.key fun d => if d.phase = .idle then f d else d.tableResult 10

/-- R133: ENABLE. `hostWrites` is what the host has written by then. -/
def execTableEnable (table : Nat) (hostWrites : List Host.Cell) (s : State) : Result :=
  s.tableCmd fun d =>
    let t := table % 4096
    let d := d.hostWrites hostWrites
    if (d.table t).on then d.tableResult 9
    else
      let a := d.rd64 F.EMB_TDA_LO_ADDR + 64 * t
      match d.uniRead a 64 with
      | none => (d.log 4 0 2 t 11 a).tableResult 11
      | some b =>
        let d := d.uniAsk a 64
        let r := d.tableFault b
        if r ≠ 0 then d.tableResult r else d.tableOn t b

/-- R133: nothing is left of a table in its tiles, and no plan of the next step names it. -/
def Device.forgetTable (d : Device) (t : Nat) : Device :=
  let d := ((d.setTable t {}).wr (F.EMB_TBL_STATE_ENABLED t) 0).wr64 (F.EMB_TBL_NEXT_DECAY_LO_TICK t) 0
  { d with sparse := { d.sparse with nextBw := d.sparse.nextBw.filter (·.table ≠ t) } }

/-- R133: disabling a table frees its replicas and its sketch and takes it out of every plan. -/
def Device.tableOff (d : Device) (t : Nat) : Device :=
  ((((d.table t).bw.foldl (fun d b => d.dropReplica t b) d).dropSketch (d.table t).sketchAt).forgetTable t).bwView t

/-- R133: DISABLE. -/
def execTableDisable (table : Nat) (s : State) : Result :=
  s.tableCmd fun d =>
    if !(d.table (table % 4096)).on then d.tableResult 9 else (d.tableOff (table % 4096)).tableResult 0

/-- R161: OP 3. -/
def execTableClearCounters (table : Nat) (s : State) : Result :=
  s.tableCmd fun d => (d.clearTable (table % 4096)).tableResult 0

/-- R149 to R151: the lookup unit a tile holds. -/
def execLookupUnit (tile : Nat) (s : State) : Result :=
  s.onDev fun d =>
    match d.unitAt (placeTile tile) with
    | none => d
    | some u =>
      if (d.workUnit u).kind ≠ 3 then d
      else
        match d.unitRead (d.workUnit u).argPtr 32 with
        | .detected t l => d.detected t l (.unit u)
        | .bad => d.holdTileUnit u tile 0 (d.workUnit u).argPtr
        | .bytes a => d.lookup u tile a

end Sys2Proof.Machine
end

