-- ==== Sys2Proof/Machine/Links.lean ====
section
/-! DEFINITION. The commands of the optical engines, the link layer and the tier links (R385 to R420), but for data flits. -/

namespace Sys2Proof.Machine

/-! ### Light -/

/-- R390: LASER_INTLK_N and its 100 ms as the engines see them. -/
def Device.interlockSet (d : Device) (closed hold : Bool) : Device :=
  { d with optics := { d.optics with interlock := closed, hold := hold } }

/-- R390: LASER_INTLK_N deasserts: every feed and lane goes dark. -/
def execLaserInterlockOpen (s : State) : Result :=
  s.onDev fun d =>
    if !d.optics.interlock then d else (d.interlockSet false false).allFeeds.raise F.FAB_SAFETY_INT_STATUS_INTLK_OPEN

/-- R390: LASER_INTLK_N asserts: the unbroken 100 ms start. -/
def execLaserInterlockClose (s : State) : Result :=
  s.onDev fun d => if d.optics.interlock then d else d.interlockSet true true

/-- R390: the interlock has been asserted for 100 ms without a break. -/
def execInterlockHoldDone (s : State) : Result :=
  s.onDev fun d => if !(d.optics.interlock && d.optics.hold) then d else (d.interlockSet true false).allFeeds

/-- R391: every receive lane of a group has been dark for 100 µs. -/
def execLaneGroupDark (link : Nat) (s : State) : Result :=
  s.onDev fun d =>
    if !(decide (link < 12) && d.linkPowered link) || (d.link link).blanked then d
    else (d.setLink link { d.link link with blanked := true, probing := false }).raise F.FAB_SAFETY_INT_STATUS_OPEN_FIBRE

/-- R391: a blanked group is probed. -/
def execOpenFibreProbe (link : Nat) (s : State) : Result :=
  s.onDev fun d =>
    if !(decide (link < 12) && d.linkPowered link && (d.link link).blanked) || (d.link link).probing then d
    else d.setLink link { d.link link with probing := true }

/-- R391: a probe ends: with light on every active receive lane the group stays lit and trains. -/
def execProbeEnd (link : Nat) (light : Bool) (s : State) : Result :=
  s.onDev fun d =>
    if !(d.link link).probing then d
    else if light then
      (d.setLink link { d.link link with probing := false, blanked := false, training := true }).wr (linkState link)
        (if (d.link link).outage then 4 else 1)
    else d.setLink link { d.link link with probing := false }

/-- R392: the combined input of an engine exceeds 24.5 dBm. -/
def execFeedOverPower (engine : Nat) (s : State) : Result :=
  s.onDev fun d =>
    if Config.engines ≤ engine ∨ d.flag (F.FAB_ENG_STATUS_OVER engine) then d
    else ((d.wr (F.FAB_ENG_STATUS_OVER engine) 1).feedEnables engine).raise F.FAB_SAFETY_INT_STATUS_OVER_POWER

/-- R392: a write of 1 to FAB_ENG_CTL.CLEAR_OVER. -/
def execClearOver (engine : Nat) (s : State) : Result :=
  s.onDev fun d =>
    if Config.engines ≤ engine then d
    else d.access (F.FAB_ENG_CTL engine).key fun d => (d.wr (F.FAB_ENG_STATUS_OVER engine) 0).feedEnables engine

/-- R393: a feed has left its window: no power is read, and the fault is reported. -/
def Device.feedLost (d : Device) (engine feed : Nat) : Device :=
  let d := (d.wr (feedFld engine feed) 2).wr (powerFld engine feed) 0x8000
  (d.raise F.FAB_SAFETY_INT_STATUS_FEED_FAULT).log 0x0304 1 11 engine feed 0

/-- R393: a feed leaves its window; the engine goes on with the other. -/
def execFeedFail (engine feed : Nat) (s : State) : Result :=
  s.onDev fun d =>
    if Config.engines ≤ engine ∨ 2 ≤ feed ∨ d.rd (feedFld engine feed) ≠ 1 then d else d.feedLost engine feed

/-- One FEED_x_OFF bit is written (R394): a 1 is ignored and logged unless the other feed reads in window (DEDUCED, log entry 70). -/
def Device.feedOff (d : Device) (n f v : Nat) : Device :=
  let off := if f = 0 then F.FAB_ENG_CTL_FEED_A_OFF n else F.FAB_ENG_CTL_FEED_B_OFF n
  if v = d.rd off then d
  else if v = 1 ∧ d.rd (feedFld n (1 - f)) ≠ 1 then d.logAccess (F.FAB_ENG_CTL n).key
  else (d.wr off v).feedEnable n f

/-- R394: a write of FEED_A_OFF and FEED_B_OFF, in that order. -/
def execFeedOffWrite (engine value : Nat) (s : State) : Result :=
  s.onDev fun d =>
    if Config.engines ≤ engine then d
    else d.access (F.FAB_ENG_CTL engine).key fun d => (d.feedOff engine 0 (bits value 0 0)).feedOff engine 1 (bits value 1 1)

/-- A feed is no longer being opened. -/
def Device.notOpening (d : Device) (engine feed : Nat) : Device :=
  { d with optics := { d.optics with opening := d.optics.opening.filter (· ≠ 2 * engine + feed) } }

/-- R394: a feed has not reached its window 50 ms after its enable; the enable stays. -/
def execFeedWindowTimeout (engine feed : Nat) (s : State) : Result :=
  s.onDev fun d =>
    if Config.engines ≤ engine ∨ 2 ≤ feed ∨ (2 * engine + feed) ∉ d.optics.opening then d
    else (d.notOpening engine feed).feedLost engine feed

/-! ### The link layer -/

/-- A link carries flits or frames. -/
def Device.linkUp (d : Device) (l : Nat) : Bool :=
  decide (l < 12) && d.linkPowered l && !(d.link l).training &&
    (d.rd (linkState l) == 2 || (decide (8 ≤ l) && (d.rd (linkState l) == 3 || d.rd (linkState l) == 5)))

/-- A flit whose CRC fails is discarded, and the next SEQ expected is named in a NAK (R396). -/
def Device.badFlit (d : Device) (l : Nat) : Device :=
  let d := d.linkInc l F.FAB_PL_CRC_COUNT F.TLNK_C_CRC_COUNT
  let k := d.link l
  if k.naking then d
  else (d.setLink l { k with naking := true }).emit (.control l (ctlRecord 1 0 k.rxSeq 0))

/-- R395: an IDLE flit or frame. -/
def execIdleFlit (link ack : Nat) (crcGood : Bool) (s : State) : Result :=
  s.onDev fun d =>
    if !d.linkUp link then d else if crcGood then d.ackUpTo link ack else d.badFlit link

/-- The fibres of a link: eight or five active and one spare (R385). -/
def linkFibres (l : Nat) : Nat := if l < 8 then 9 else 6

/-- The logical lane a receive fibre serves, none for one that serves none (R386, R400). -/
def Device.rxLane (d : Device) (l f : Nat) : Option Nat :=
  let rx := d.laneMap l / 9
  if f + 1 = linkFibres l then (if rx = 0 then none else some (rx - 1))
  else if rx = f + 1 then none else some f

/-- R398: one lane check: each fibre's errors join its window of 1,024. -/
def Device.countLane (d : Device) (l f n : Nat) : Device :=
  let d := if l < 8 then d.inc (F.FAB_PL_LANE_ERR_COUNT l f) n else d
  let k := d.link l
  d.setLink l { k with laneErrs := Store.set (fun _ => []) k.laneErrs f ((n :: Store.get (fun _ => []) k.laneErrs f).take 1024) }

/-- Lanes that have become failing by R398's sum. -/
def Device.newFailing (d : Device) (l : Nat) : List Nat :=
  ((List.range (linkFibres l)).filterMap fun f =>
    match d.rxLane l f with
    | some lane =>
      if d.rd F.FAB_CFG_LANE_ERR_THRESH ≤ (Store.get (fun _ => []) (d.link l).laneErrs f).sum ∧ lane ∉ (d.link l).failing
      then some lane else none
    | none => none)

/-- Lanes become failing (R398, R399). -/
def Device.laneFails (d : Device) (l : Nat) (lanes : List Nat) : Device :=
  if lanes.isEmpty then d
  else
    let k := d.link l
    (d.setLink l { k with failing := k.failing ++ lanes }).linkFault l

/-- R398: a lane check with each receive fibre's bit errors. -/
def execLaneCheck (link : Nat) (errors : List Nat) (s : State) : Result :=
  s.onDev fun d =>
    if !d.linkUp link then d
    else
      let d := (List.range (linkFibres link)).foldl (fun d f => d.countLane link f (errors.getD f 0)) d
      d.laneFails link (d.newFailing link)

/-- R398: an active lane loses lock. -/
def execLaneLossOfLock (link lane : Nat) (s : State) : Result :=
  s.onDev fun d =>
    if !d.linkUp link || decide (linkFibres link ≤ lane + 1) || (d.link link).failing.contains lane then d
    else d.laneFails link [lane]

/-- R396: a NAK names the SEQ to send again from; every flit before it has been received. -/
def execNak (link seq : Nat) (s : State) : Result :=
  s.onDev fun d => if !d.linkUp link then d else (d.ackUpTo link ((seq + 65535) % 65536)).replayFrom link seq

/-- R405: a link's credit of one virtual channel grows. -/
def Link.credited (k : Link) (vc count : Nat) : Link :=
  if vc = 0 then { k with credit0 := k.credit0 + count } else if vc = 1 then { k with credit1 := k.credit1 + count } else k

/-- R405: CREDIT on a plane. -/
def execCredit (link vc count : Nat) (s : State) : Result :=
  s.onDev fun d =>
    if !(decide (link < 8) && d.linkUp link) then d
    else (d.setLink link ((d.link link).credited vc count)).flitPump (d.link link).wait.length link

/-- R400: the other end's lane `lane` moves to the spare of this end's transmitters. -/
def Device.txSpare (d : Device) (link lane : Nat) : Device :=
  let d := d.setLink link { d.link link with txDup := some lane }
  (d.setLaneMap link (d.laneMap link / 9) (lane + 1)).applyLanes link

/-- R400: the far end asks for a lane of this end's transmitter on the spare as well. The answer, and the spare's use. -/
def execLaneSwitchReq (link lane : Nat) (s : State) : Result :=
  s.onDev fun d =>
    if !d.linkUp link || decide (linkFibres link ≤ lane + 1) || d.laneMap link % 9 != 0 then d
    else (d.txSpare link lane).emit (.control link (ctlRecord 4 lane 0 0))

/-- R400: the far end sends the lane on both fibres. -/
def execLaneSwitchAck (link lane : Nat) (s : State) : Result :=
  s.onDev fun d =>
    if (d.link link).switching ≠ some (lane, false) then d
    else d.setLink link { d.link link with switching := some (lane, true) }

/-- R400: the spare carries lane `lane` from now on. -/
def Device.spareTakes (d : Device) (link lane : Nat) : Device :=
  let k := d.link link
  let d := d.setLink link { k with
    switching := none
    failing := k.failing.filter (· ≠ lane)
    laneErrs := k.laneErrs.filter (·.1 ≠ lane) }
  (d.setLaneMap link (lane + 1) (d.laneMap link % 9)).applyLanes link

/-- R400: a spared lane is reported; a further failing lane is a fault of the link. -/
def Device.spareShown (d : Device) (link lane : Nat) : Device :=
  let d := d.raise (if link < 8 then F.FAB_PL_INT_STATUS_SPARED link else F.TLNK_C_INT_STATUS_SPARED (link - 8))
  let d := d.log 0x0300 0 (if link < 8 then 12 else 13) (if link < 8 then link else link - 8) lane 0
  if (d.link link).failing.isEmpty then d else d.linkFault link

/-- R400: the spare is deskewed; the receiver moves to it. -/
def execSpareDeskewed (link : Nat) (s : State) : Result :=
  s.onDev fun d =>
    match (d.link link).switching with
    | some (lane, true) => (d.spareTakes link lane).spareShown link lane
    | _ => d

/-- R399: a RETRAIN_REQ record. -/
def execRetrainReq (link width : Nat) (s : State) : Result :=
  s.onDev fun d =>
    if !d.linkUp link then d
    else if width = 4 then d.retrain link true false
    else if width = (if link < 8 then 8 else 5) then d.retrain link false false
    else d

/-- R396: ACK has not advanced for REPLAY_TIMEOUT clk. -/
def execReplayTimeout (link : Nat) (s : State) : Result :=
  s.onDev fun d =>
    match (d.link link).buf with
    | t :: _ => if d.linkUp link then d.replayFrom link t.seq else d
    | [] => d

/-- A plane comes into service, unless DISABLE holds it out (R419). -/
def Device.planeIn (d : Device) (p : Nat) : Device :=
  if d.flag (F.FAB_PL_CTL_DISABLE p) then d.wr (linkState p) 5
  else
    let d := (d.wr (linkState p) 2).wr { F.FAB_PLANES_IN_SERVICE with lo := p, w := 1 } 1
    let n := (d.link p).wait.length
    (d.flitPump n p).sendWaiting

/-- Commands on a tier link go on. -/
def Device.tierPump (d : Device) (c : Nat) : Device := d.t2Pump (d.carrier c).waiting.length c

/-- A retrained or trained link is up at its width (R399). -/
def Device.linkIn (d : Device) (l : Nat) : Device :=
  let k := d.link l
  let d := d.setLink l { k with training := false, failing := [], laneErrs := [], switching := none }
  if l < 8 then (d.wr (F.FAB_PL_STATUS_DEGRADED l) (b2n k.width4)).planeIn l
  else (d.wr (linkState l) (if k.width4 then 3 else 2)).tierPump (l - 8)

/-- A link has fallen to width 4 (R399): the event passes to the fault policy, and a tier link's carrier is drained. -/
def Device.degraded (d : Device) (l : Nat) : Device :=
  if l < 8 then (d.raise (F.FAB_PL_INT_STATUS_DEGRADED l)).lasting 0x0301 12 l 0 0 6 l
  else
    let d := (d.raise (F.TLNK_C_INT_STATUS_DEGRADED (l - 8))).lasting 0x0301 13 (l - 8) 0 0 7 (l - 8)
    (d.drainRequest 1 (l - 8)).2

/-- R399: whether a retraining leaves the link at half its lanes for the first time. -/
def Device.fellTo4 (d : Device) (link : Nat) : Bool :=
  (d.link link).width4 && !(if link < 8 then d.flag (F.FAB_PL_STATUS_DEGRADED link) else d.rd (linkState link) == 3)

/-- R399: a link has retrained. -/
def Device.retrainedWell (d : Device) (link : Nat) (fell : Bool) : Device :=
  let d := d.linkIn link
  let d := if link < 8 then d.raise (F.FAB_PL_INT_STATUS_RETRAINED link) else d
  if fell then d.degraded link else d

/-- R399: a retrain ends: the link is up, or a fault remains and step 4 applies. -/
def execLinkRetrainDone (link : Nat) (ok faultRemains : Bool) (s : State) : Result :=
  s.onDev fun d =>
    if !(decide (link < 12) && (d.link link).training && d.linkPowered link) || (d.link link).blanked then d
    else
      let d := d.wr (if link < 8 then F.FAB_PL_CTL_RETRAIN link else F.TLNK_C_CTL_RETRAIN (link - 8)) 0
      if !ok || faultRemains then d.linkOut link else d.retrainedWell link (d.fellTo4 link)

/-- R402: a plane is out. -/
def Device.planeOut (d : Device) (link : Nat) : Device :=
  let d := (d.setLink link { d.link link with training := false, outage := true }).wr (linkState link) 4
  ((d.raise (F.FAB_PL_INT_STATUS_OUTAGE link)).lasting 0x0302 12 link 4 0 6 link).planeLeaves link

/-- R402: every active receive lane of a link goes dark, where this end has not blanked the link itself. -/
def execLinkOutage (link : Nat) (s : State) : Result :=
  s.onDev fun d =>
    if !(decide (link < 12) && d.linkPowered link) || (d.link link).blanked || d.rd (linkState link) = 0 then d
    else if link < 8 then (if d.rd (linkState link) = 4 then d else d.planeOut link)
    else d.tierOutage (link - 8)

/-- R402: light is back on a link that was out; only a tier link's outage still lasts. -/
def Device.lit (d : Device) (link : Nat) : Device := d.setLink link { d.link link with outage := decide (8 ≤ link) }

/-- R402: light returns on a link in outage, which retrains by itself. -/
def execLightReturn (link : Nat) (s : State) : Result :=
  s.onDev fun d =>
    if !(decide (link < 12) && d.linkPowered link && d.rd (linkState link) == 4) then d
    else (d.lit link).retrain link (d.link link).width4 false

/-- R418: a link that has trained for the first time: nothing sent, nothing received, what waited still waits. -/
def Device.linkFresh (d : Device) (link : Nat) : Device :=
  (d.setLink link { wait := (d.link link).wait, outage := (d.link link).outage, outageTicks := (d.link link).outageTicks }).applyLanes link

/-- R418: a plane or tier link trains where light is present: its link layer starts anew. -/
def execLinkTrained (link : Nat) (s : State) : Result :=
  s.onDev fun d =>
    if !(decide (link < 12) && d.linkPowered link) || (d.link link).blanked || !d.optics.interlock || d.optics.hold ||
        !(d.rd (linkState link) == 0 || d.rd (linkState link) == 1) then d
    else (d.linkFresh link).linkIn link

/-- R408: a message part-way from `src` is dropped. -/
def Device.dropPart (d : Device) (plane src : Nat) : Device :=
  (d.setLink plane { d.link plane with partials := (d.link plane).partials.filter (·.src ≠ src) }).inc (F.FAB_PL_REASM_DROP_COUNT plane)

/-- R408: a partial message has waited REASM_TIMEOUT clk. -/
def execReasmTimeout (plane src : Nat) (s : State) : Result :=
  s.onDev fun d =>
    if 8 ≤ plane ∨ !((d.link plane).partials.any fun p => p.src = src) then d else d.dropPart plane src

/-! ### Control writes of planes and tier links -/

/-- R419: a plane is disabled: it leaves service where it was in it. -/
def Device.planeOff (d : Device) (plane : Nat) : Device :=
  if d.rd (linkState plane) = 2 ∨ d.rd (linkState plane) = 3 then
    ((d.setLink plane { d.link plane with training := false }).wr (linkState plane) 5).planeLeaves plane
  else d

/-- R419: a plane is enabled again: one that was disabled trains. -/
def Device.planeOn (d : Device) (plane : Nat) : Device :=
  if d.rd (linkState plane) = 5 then
    (d.setLink plane { d.link plane with training := true, retrained := false }).wr (linkState plane) 1
  else d

/-- R419: a write of FAB_PL_CTL.DISABLE. -/
def execPlaneDisable (plane : Nat) (disable : Bool) (s : State) : Result :=
  s.onDev fun d =>
    if 8 ≤ plane then d
    else d.access (F.FAB_PL_CTL plane).key fun d =>
      let was := d.flag (F.FAB_PL_CTL_DISABLE plane)
      let d := d.wr (F.FAB_PL_CTL_DISABLE plane) (b2n disable)
      if disable == was then d else if disable then d.planeOff plane else d.planeOn plane

/-- A write of RETRAIN: the link retrains at full width (R419, R420). -/
def Device.retrainWrite (d : Device) (l : Nat) : Device :=
  if !d.linkPowered l || d.rd (linkState l) = 0 || d.rd (linkState l) = 4 then d
  else
    let d := d.wr (if l < 8 then F.FAB_PL_CTL_RETRAIN l else F.TLNK_C_CTL_RETRAIN (l - 8)) 1
    (d.setLink l { d.link l with retrained := false, failing := [] }).retrain l false true

/-- R419: a write of FAB_PL_CTL.RETRAIN. -/
def execPlaneRetrain (plane : Nat) (s : State) : Result :=
  s.onDev fun d => if 8 ≤ plane then d else d.access (F.FAB_PL_CTL plane).key fun d => d.retrainWrite plane

/-- R420: a write of TLNK_C_CTL.RETRAIN. -/
def execCarrierRetrain (carrier : Nat) (s : State) : Result :=
  s.onDev fun d =>
    if Config.carriers ≤ carrier then d
    else d.access (F.TLNK_C_CTL carrier).key fun d => d.retrainWrite (8 + carrier)

/-- R401: a sweep of a link's unused receive spare starts. -/
def Device.marginStart (d : Device) (l : Nat) : Device :=
  let used := if l < 8 then d.flag (F.FAB_PL_STATUS_RX_SPARE_USED l) else d.flag (F.TLNK_C_STATUS_RX_SPARE_USED (l - 8))
  if used || (d.link l).switching.isSome then d
  else (d.setLink l { d.link l with margin := true }).wr (if l < 8 then F.FAB_PL_CTL_MARGIN l else F.TLNK_C_CTL_MARGIN (l - 8)) 1

/-- R401: a write of FAB_PL_CTL.MARGIN. -/
def execPlaneMargin (plane : Nat) (s : State) : Result :=
  s.onDev fun d => if 8 ≤ plane then d else d.access (F.FAB_PL_CTL plane).key fun d => d.marginStart plane

/-- R401: a write of TLNK_C_CTL.MARGIN. -/
def execCarrierMargin (carrier : Nat) (s : State) : Result :=
  s.onDev fun d =>
    if Config.carriers ≤ carrier then d
    else d.access (F.TLNK_C_CTL carrier).key fun d => d.marginStart (8 + carrier)

/-- R401: a margin sweep is over. -/
def Device.marginOver (d : Device) (link : Nat) : Device :=
  let d := d.setLink link { d.link link with margin := false }
  { d with mgmt := { d.mgmt with testing := d.mgmt.testing.filter (· ≠ 1000 + link) } }

/-- R401: the eye measured is shown. -/
def Device.marginShown (d : Device) (link eyeW eyeH : Nat) : Device :=
  if link < 8 then
    (((d.wr (F.FAB_PL_CTL_MARGIN link) 0).wr (F.FAB_PL_MARGIN_VALID link) 1).wr (F.FAB_PL_MARGIN_EYE_W link) eyeW).wr
      (F.FAB_PL_MARGIN_EYE_H link) eyeH
  else
    (d.wr (F.TLNK_C_CTL_MARGIN (link - 8)) 0).wr (F.TLNK_C_MARGIN_RESULT (link - 8)) (2 ^ 31 + eyeW % 256 * 256 + eyeH % 256)

/-- R401: the spare lane's eye is too small. -/
def Device.spareBad (d : Device) (link : Nat) (test : Bool) : Device :=
  let d := d.wr (if link < 8 then F.FAB_PL_STATUS_SPARE_BAD link else F.TLNK_C_STATUS_SPARE_BAD (link - 8)) 1
  let d := d.log 0x0305 1 (if link < 8 then 12 else 13) (if link < 8 then link else link - 8) 0 0
  if test then d.itemFail link else d

/-- R401: a margin sweep ends: the smallest eye, and a spare below MARGIN_MIN unusable. -/
def execSpareMarginDone (link eyeW eyeH : Nat) (s : State) : Result :=
  s.onDev fun d =>
    if !(decide (link < 12) && (d.link link).margin) then d
    else
      let e := (d.marginOver link).marginShown link eyeW eyeH
      if e.rd F.FAB_MARGIN_MIN_EYE_W ≤ eyeW ∧ e.rd F.FAB_MARGIN_MIN_EYE_H ≤ eyeH then e
      else e.spareBad link (d.mgmt.testing.contains (1000 + link))

/-! ### Carriers -/

/-- A joining carrier whose HELLO has been accepted enters service, its lines free (R417). -/
def Device.carrierIn (d : Device) (c : Nat) : Device := (d.setCarrierState c 2).tierPump c

/-- R417: a write of TLNK_C_CTL.ACCEPT. -/
def execAccept (carrier : Nat) (s : State) : Result :=
  s.onDev fun d =>
    if Config.carriers ≤ carrier then d
    else d.access (F.TLNK_C_CTL carrier).key fun d =>
      if d.carrierState carrier = 1 ∧ !(d.carrier carrier).helloBad then d.carrierIn carrier
      else d.logAccess (F.TLNK_C_CTL carrier).key

/-- A tag leaves, and what waited goes on. -/
def Device.tagDone (d : Device) (c : Nat) (t : Tag) : Device :=
  let x := d.carrier c
  ((d.setCarrier c { x with tags := x.tags.filter (·.tag ≠ t.tag) }).t2Count c).tierPump c

/-- An outstanding tag of an OP. -/
def Device.findTag (d : Device) (c tag op : Nat) : Option Tag :=
  (d.carrier c).tags.find? fun t => t.tag = tag ∧ t.op = op

/-- R415: a response to a tag that is not outstanding. -/
def Device.dupResponse (d : Device) (c : Nat) : Device := d.inc (F.TLNK_C_DUP_RESP_COUNT c)

/-- R415: lines poison twice: their reader receives them as R242 gives, and R241 steps 2 to 4 apply without die sparing. -/
def Device.twicePoison (d : Device) (c : Nat) (t : Tag) : Device :=
  let d := (List.range t.lines).foldl (fun d i => d.setPoison (t2Key c (t.addr + i) 0) true) d
  let d := (d.wr (F.TLNK_C_ERR_LINE_LO_LINE c) (t.addr % 2 ^ 32)).wr (F.TLNK_C_ERR_LINE_HI_LINE c) (2 ^ 31 + t.addr / 2 ^ 32 % 256)
  let d := d.raise (F.TLNK_C_INT_STATUS_POISON c)
  ((d.lasting 0x0200 13 c 1 t.addr 5 (32 + c) true).haltReq).tagDone c t

/-- R415: a read whose data came poisoned is asked for once more. -/
def Device.poisonAgain (d : Device) (carrier : Nat) (t : Tag) : Device :=
  let x := d.carrier carrier
  (d.setCarrier carrier { x with tags := x.tags.map fun u => if u.tag = t.tag then { u with poisons := 1 } else u }).emit
    (.tierCmd carrier t.op t.lines t.tag t.addr)

/-- R415: a READ_DATA response. -/
def Device.readDone (d : Device) (carrier tag status : Nat) : Device :=
  if Config.carriers ≤ carrier then d
  else match d.findTag carrier tag 1 with
    | none => d.dupResponse carrier
    | some t =>
      if status = 0 then d.tagDone carrier t
      else if status = 1 then
        let d := d.inc (F.TLNK_C_POISON_COUNT carrier)
        if t.poisons = 0 then d.poisonAgain carrier t else d.twicePoison carrier t
      else if status ≤ 3 then d.carrierFail carrier
      else d

/-- R415: a READ_DATA response. -/
def execReadData (carrier tag status : Nat) (s : State) : Result := s.onDev fun d => d.readDone carrier tag status

/-- R415: a WRITE_DONE response. -/
def Device.writeDone (d : Device) (carrier tag status : Nat) : Device :=
  if Config.carriers ≤ carrier then d
  else match d.findTag carrier tag 2 with
    | none => d.dupResponse carrier
    | some t =>
      if status = 0 then d.tagDone carrier t
      else if status = 2 ∨ status = 3 then d.carrierFail carrier
      else d

/-- R415: a WRITE_DONE response. -/
def execWriteDone (carrier tag status : Nat) (s : State) : Result := s.onDev fun d => d.writeDone carrier tag status

/-- R417: a carrier has quiesced. -/
def Device.nowQuiet (d : Device) (carrier : Nat) : Device :=
  let d := d.setCarrier carrier { d.carrier carrier with quiesced := true }
  (d.wr (F.TLNK_C_STATUS_LINK carrier) 5).raise (F.TLNK_C_INT_STATUS_QUIESCED carrier)

/-- R417: QUIESCED lets a drained carrier be removed. -/
def Device.quiesced (d : Device) (carrier : Nat) : Device :=
  if Config.carriers ≤ carrier then d
  else match (d.carrier carrier).tags.find? fun t => t.op = 5 with
    | none => d.dupResponse carrier
    | some t => (d.tagDone carrier t).nowQuiet carrier

/-- R417: QUIESCED lets a drained carrier be removed. -/
def execQuiesced (carrier : Nat) (s : State) : Result := s.onDev fun d => d.quiesced carrier

/-- A HELLO line keeps R416. -/
def helloOk (b : Bytes) : Bool :=
  u8At b 0 == 1 && u8At b 1 == 0 && decide (256 ≤ u16At b 2 ∧ u16At b 2 ≤ 4096) && zeros b 4 4 &&
    decide (2 ^ 24 ≤ u64At b 8 ∧ u64At b 8 ≤ 0x600000000) && u64At b 0x10 != 0 && zeros b 0x18 40 && b.length == 64

/-- What a HELLO tells is held (R416, R420). -/
def Device.helloTake (d : Device) (c : Nat) (b : Bytes) : Device :=
  let d := d.setCarrier c { d.carrier c with queue := u16At b 2, id := u64At b 0x10, helloBad := false }
  ((d.wr (F.TLNK_C_STATUS_VERSION c) (u8At b 0)).wr64 (F.TLNK_C_ID_LO_VALUE c) (u64At b 0x10)).wr64
    (F.TLNK_C_CAP_LO_VALUE c) (u64At b 8)

/-- R417: a carrier in service greets after an outage. -/
def Device.helloBack (d : Device) (carrier : Nat) (line : Bytes) : Device :=
  let l := 8 + carrier
  if !(d.link l).outage then d
  else if helloOk line ∧ u64At line 0x10 = (d.carrier carrier).id then
    ((d.setLink l { d.link l with outage := false, outageTicks := 0 }).helloTake carrier line).tierPump carrier
  else d.carrierFail carrier

/-- R416: a new carrier greets: a sound HELLO makes it PRESENT, in service at once with AUTO_JOIN (DEDUCED, log entry 68). -/
def Device.helloNew (d : Device) (carrier : Nat) (line : Bytes) : Device :=
  if helloOk line then
    let d := ((d.setCarrier carrier {}).helloTake carrier line).setCarrierState carrier 1
    if d.flag F.TLNK_CFG_AUTO_JOIN then d.carrierIn carrier else d
  else
    let d := (d.setCarrierState carrier 1).setCarrier carrier { helloBad := true }
    d.setLink (8 + carrier) { d.link (8 + carrier) with blanked := true }

/-- R416, R417: a HELLO. -/
def Device.hello (d : Device) (carrier : Nat) (line : Bytes) : Device :=
  if !(decide (carrier < Config.carriers) && d.linkPowered (8 + carrier) &&
      (d.rd (linkState (8 + carrier)) == 2 || d.rd (linkState (8 + carrier)) == 3)) then d
  else
    let d := d.raise (F.TLNK_C_INT_STATUS_HELLO carrier)
    let st := d.carrierState carrier
    if st = 2 ∨ st = 3 then d.helloBack carrier line
    else if st = 4 ∨ (st = 5 ∧ (d.carrier carrier).queue ≠ 0) then d
    else d.helloNew carrier line

/-- R416, R417: a HELLO. -/
def execHello (carrier : Nat) (line : Bytes) (s : State) : Result := s.onDev fun d => d.hello carrier line

/-- R415: the command of a tag that has not been answered is sent once more. -/
def Device.tagAgain (d : Device) (carrier : Nat) (t : Tag) : Device :=
  let x := d.carrier carrier
  let d := d.setCarrier carrier { x with tags := x.tags.map fun u => if u.tag = t.tag then { u with tries := 2 } else u }
  (d.inc (F.TLNK_C_TIMEOUT_COUNT carrier)).emit (.tierCmd carrier t.op t.lines t.tag t.addr)

/-- R415: a tag has had no response for TAG_TIMEOUT clk: it is reissued once; then the carrier fails. -/
def execTagTimeout (carrier tag : Nat) (s : State) : Result :=
  s.onDev fun d =>
    if Config.carriers ≤ carrier ∨ (d.link (8 + carrier)).outage then d
    else match (d.carrier carrier).tags.find? fun t => t.tag = tag with
      | none => d
      | some t => if t.tries ≤ 1 then d.tagAgain carrier t else d.carrierFail carrier

/-- R417: an outage beyond OUTAGE_LIMIT ticks fails the carrier. -/
def execCarrierOutageLimit (carrier : Nat) (s : State) : Result :=
  s.onDev fun d =>
    let k := d.link (8 + carrier)
    if Config.carriers ≤ carrier ∨ !k.outage ∨ k.outageTicks < d.rd F.TLNK_OUTAGE_LIMIT_TICKS then d
    else d.carrierFail carrier

end Sys2Proof.Machine
end

