-- ==== Sys2Proof/Machine/Flits.lean ====
section
/-! DEFINITION. DATA flits and frames as they arrive (R395, R396, R403, R406, R408, R411, R412). -/

namespace Sys2Proof.Machine

/-- SEQ and ACK of a flit or frame (R403, R411). -/
def flitSeq (link : Nat) (b : Bytes) : Nat := u16At b (if link < 8 then 4 else 2)
/-- ACK. -/
def flitAck (link : Nat) (b : Bytes) : Nat := u16At b (if link < 8 then 6 else 4)

/-- R405: credit for a flit taken goes back to the sender (DEDUCED, log entry 42). -/
def Device.grant (d : Device) (l vc : Nat) : Device := d.emit (.control l (ctlRecord 2 vc 0 1))

/-- R408: a flit of a message from SRC joins its partial message; a whole message is taken. -/
def Device.reassemble (d : Device) (l : Nat) (b : Bytes) : Device :=
  let src := u16At b 0xA % 4096
  let body := sub b 0x10 (u16At b 0xC)
  let first := bit (u8At b 2) 0
  let last := bit (u8At b 2) 1
  let k := d.link l
  let old := k.partials.find? (·.src = src)
  let rest := k.partials.filter (·.src ≠ src)
  let d := if first && old.isSome then d.inc (F.FAB_PL_REASM_DROP_COUNT l) else d
  if !first && old.isNone then d
  else
    let bytes := (if first then [] else (old.map (·.bytes)).getD []) ++ body
    if last then (d.setLink l { k with partials := rest }).arrive bytes
    else d.setLink l { k with partials := rest ++ [Partial.mk src bytes] }

/-- R363, R406: a fabric send entry from SRC, written to the fabric receive rings with SRC in place of DST. -/
def Device.takeEntry (d : Device) (b : Bytes) : Device :=
  let e := leBytes 2 (u16At b 0xA % 4096) ++ sub b 0x12 62
  (d.ringsOf 10).foldl (fun d r => d.produceOrDrop r e) d

/-- A DATA flit of a plane received good and in order. -/
def Device.takeFlit (d : Device) (l : Nat) (b : Bytes) : Device :=
  let d := d.grant l (u8At b 1)
  if u8At b 1 = 0 then d.reassemble l b else d.takeEntry b

/-- Data lines that a command slot of a carrier carries (R412). -/
def slotDataLines (c : Bytes) : Nat :=
  if u8At c 0 = 0x81 then (if u8At c 4 ≤ 1 then u8At c 1 else 0) else if u8At c 0 = 0x90 then 1 else 0

/-- The command slots of a tier frame received good and in order, with their data lines in order (R412, R415). -/
def Device.takeSlots (d : Device) (c : Nat) (b : Bytes) : Nat → Device
  | 0 => d
  | n + 1 =>
    let d := Device.takeSlots d c b n
    let s := sub b (8 + 16 * n) 16
    let before := ((List.range n).map fun i => slotDataLines (sub b (8 + 16 * i) 16)).sum
    let line := sub b (0x38 + 64 * before) 64
    match u8At s 0 with
    | 0x81 => d.readDone c (u16At s 2 % 4096) (u8At s 4)
    | 0x82 => d.writeDone c (u16At s 2 % 4096) (u8At s 4)
    | 0x85 => d.quiesced c
    | 0x90 => d.hello c line
    | _ => d

/-- R396: a flit out of sequence: the receiver asks for the one it expects, once. -/
def Device.seqMiss (d : Device) (link : Nat) : Device :=
  let k := d.link link
  if k.naking then d else (d.setLink link { k with naking := true }).emit (.control link (ctlRecord 1 0 k.rxSeq 0))

/-- R396: the flit expected is accepted. -/
def Device.seqTaken (d : Device) (link : Nat) : Device :=
  d.setLink link { d.link link with naking := false, rxSeq := ((d.link link).rxSeq + 1) % 65536 }

/-- R395, R396: a DATA flit or frame. -/
def execDataFlit (link : Nat) (flit : Bytes) (crcGood : Bool) (s : State) : Result :=
  s.onDev fun d =>
    if !d.linkUp link then d
    else if !crcGood then d.badFlit link
    else
      let d := d.ackUpTo link (flitAck link flit)
      if flitSeq link flit ≠ (d.link link).rxSeq then d.seqMiss link
      else if link < 8 then (d.seqTaken link).takeFlit link flit
      else (d.seqTaken link).takeSlots (link - 8) flit (min 3 (u8At flit 6))

end Sys2Proof.Machine
end

