-- ==== Sys2Proof/Machine/Hist.lean ====
section
/-! DEFINITION. The commands of the history cache (R265, R291) and the history attention units (R278 to R289). -/

namespace Sys2Proof.Machine

/-! ### HIST_CMD -/

/-- Write HIST_STATUS.ENABLED for one space. -/
def Device.setSpace (d : Device) (c : Nat) (on : Bool) : Device := d.wr { F.HIST_STATUS_ENABLED with lo := c, w := 1 } (b2n on)

/-- Every list of a space becomes free (R265, R291). -/
def Device.freeLists (d : Device) (c : Nat) : Device :=
  (List.range (d.rd (F.HIST_SPACE_LISTS_LISTS c))).foldl (fun d l => d.putList c l freeListBytes) d

/-- R265: ENABLE_SPACE, once IDLE. -/
def Device.enableSpace (d : Device) (c : Nat) : Device :=
  if d.spaceOn c then d.histResult 4
  else if !d.geomOk c then d.histResult 2
  else if !d.histObjOk c then d.histResult 3
  else (((d.freeLists c).setUsed c []).setSpace c true).histResult 0

/-- R265: ENABLE_SPACE. -/
def execEnableSpace (space : Nat) (hostWrites : List Host.Cell) (s : State) : Result :=
  s.onDev fun d => (d.hostWrites hostWrites).access F.HIST_CMD.key fun d =>
    if 8 ≤ space then d.histResult 1 else if d.phase ≠ .idle then d.histResult 7 else d.enableSpace space

/-- R291: no page of space `c` is in use any more. -/
def Device.emptySpace (d : Device) (c : Nat) : Device :=
  { d with hist := { d.hist with used := Store.set (fun _ => []) d.hist.used c [] } }

/-- R291: DISABLE_SPACE. -/
def execDisableSpace (space : Nat) (s : State) : Result :=
  s.onDev fun d => d.access F.HIST_CMD.key fun d =>
    if 8 ≤ space then d.histResult 1
    else if d.phase ≠ .idle then d.histResult 7
    else if !d.spaceOn space then d.histResult 4
    else (d.emptySpace space |>.setSpace space false).histResult 0

/-- R291: the waiting step reuses a list that passes a test. -/
def Device.listInUse (d : Device) (c : Nat) (p : Nat → Bool) : Bool :=
  d.phase = .admitting && d.hist.entries.any fun e => e.space == c && !e.reset && p e.list

/-- R276, R291: FREE_LIST and FREE_ALL are acted on in IDLE and in the wait of R276. -/
def Device.freeOpen (d : Device) : Bool := d.phase = .idle || (d.phase = .admitting && d.hist.waiting)

/-- R291: FREE_LIST and FREE_ALL: `bad` says that the list is out of range, `p` which lists are meant, `f` frees them. -/
def Device.freeCmd (d : Device) (c : Nat) (bad : Bool) (p : Nat → Bool) (f : Device → Device) : Device :=
  if 8 ≤ c then d.histResult 1
  else if !d.freeOpen then d.histResult 7
  else if !d.spaceOn c then d.histResult 5
  else if bad then d.histResult 6
  else if d.listInUse c p then d.histResult 8
  else (f d).histResult 0

/-- R291: FREE_LIST. -/
def execFreeList (space list : Nat) (s : State) : Result :=
  s.onDev fun d => d.access F.HIST_CMD.key fun d =>
    d.freeCmd space (decide (d.rd (F.HIST_SPACE_LISTS_LISTS space) ≤ list)) (· == list) fun d => d.freeOne space list

/-- R291: FREE_ALL. -/
def execFreeAll (space : Nat) (s : State) : Result :=
  s.onDev fun d => d.access F.HIST_CMD.key fun d =>
    d.freeCmd space false (fun _ => true) fun d => (d.freeLists space).setUsed space []

/-! ### What a unit covers -/

/-- The entry of a sample of a unit's leaf; one without events where the batch gives none. -/
def Device.entryOf (d : Device) (u c s : Nat) : HistEntry :=
  (d.histEntry c (d.workUnit u).leaf s).getD ⟨c, (d.workUnit u).leaf, s, 0, 0, 0, 0, false⟩

/-- The samples of a unit's leaf with their entries. -/
def Device.unitEntries (d : Device) (u c : Nat) : List (Nat × HistEntry) :=
  (List.range d.leafSamples).map fun s => (s, d.entryOf u c s)

/-- The heads of an operand block. -/
def aHeadList (b : Bytes) : List Nat := (List.range (aHeads b)).map (· + aFirst b)

/-- Row of query i of sample s (R281). -/
def aRow (b : Bytes) (s i : Nat) : Nat := s * aQueries b + i

/-- The address of a query's row in a matrix laid out as Q (R281). -/
def aRowAddr (b : Bytes) (off row : Nat) : Nat := u64At b off + row * u32At b 0xC

/-- The address of a row's LSE for head h (R281). -/
def aLse (b : Bytes) (heads row h : Nat) : Nat := u64At b 0x20 + (row * heads + h) * 4

/-- H, D and L of a space. -/
def Device.spaceH (d : Device) (c : Nat) : Nat := d.rd (F.HIST_SPACE_GEOM_H c)
/-- D of a space. -/
def Device.spaceD (d : Device) (c : Nat) : Nat := d.rd (F.HIST_SPACE_GEOM_D c)

/-- The pages of a sample in which some query admits a key (R283, R284). -/
def Device.keyPages (d : Device) (b : Bytes) (e : HistEntry) (s : Nat) : List Nat :=
  (List.range (pagesOf e.events)).filter fun p =>
    (List.range (aQueries b)).any fun i => (d.admitted b e.events (aRow b s i)).any fun j => j / 64 == p

/-- Reads of the page lists and of the mask. -/
def Device.listReads (d : Device) (u : Nat) (b : Bytes) : List (Nat × Nat) :=
  let es := d.unitEntries u (u8At b 1)
  ((es.filter fun x => x.2.events ≠ 0).map fun x => (d.listAddr (u8At b 1) x.2.list, 576)) ++
    (if u64At b 0x38 = 0 ∨ u8At b 0 = 2 then [] else [(u64At b 0x38, d.leafSamples * aQueries b * 4)])

/-- Reads of the pages the unit expands. -/
def Device.pageReads (d : Device) (u : Nat) (b : Bytes) : List (Nat × Nat) :=
  let c := u8At b 1
  (d.unitEntries u c).flatMap fun x => (d.keyPages b x.2 x.1).filterMap fun p =>
    (d.pageSlot x.2 p).map fun n => (d.slotAddr c n, d.slotBytes c)

/-- R278: a page the unit needs whose reserved slot has not been written. -/
def Device.pageMissing (d : Device) (u : Nat) (b : Bytes) : Bool :=
  (d.unitEntries u (u8At b 1)).any fun x => (d.keyPages b x.2 x.1).any fun p => (d.pageSlot x.2 p).isNone

/-- The reads of a unit's heads in a matrix laid out as Q. -/
def Device.matrixReads (d : Device) (b : Bytes) (off fmt : Nat) : List (Nat × Nat) :=
  let w := fmtBits fmt / 8 * d.spaceD (u8At b 1)
  (List.range (d.leafSamples * aQueries b)).map fun r => (aRowAddr b off r + aFirst b * w, aHeads b * w)

/-- Reads of the up-projections, the query, the bias, and backward the output, its gradient and the LSE. -/
def Device.dataReads (d : Device) (u : Nat) (b : Bytes) : List (Nat × Nat) :=
  let c := u8At b 1
  let n := upBytes (aUFmt b) (d.spaceL c) (d.spaceH c * d.spaceD c)
  [(u64At b 0x28, n), (u64At b 0x30, n)] ++ d.matrixReads b 0x10 (aQFmt b) ++
    (if u64At b 0x40 = 0 then [] else (d.unitEntries u c).map fun x => (u64At b 0x40 + x.1 * u32At b 0x48, 4 * x.2.events)) ++
    (if u8At b 0 = 0 then []
     else d.matrixReads b 0x18 (aOFmt b) ++ d.matrixReads b 0x50 2 ++
      [(u64At b 0x20, d.leafSamples * aQueries b * d.spaceH c * 4)])

/-! ### Expansion and scores -/

/-- The latent of event j of a sample (R270, R278). -/
def Device.latent (d : Device) (c : Nat) (e : HistEntry) (j : Nat) : List Nat :=
  pageLatent (d.spaceL c) (d.uniBytes (d.slotBytes c) (d.slotAddr c ((d.pageSlot e (j / 64)).getD 0))) (j % 64)

/-- The rows of an up-projection as FP32: U_k at 0x28, U_v at 0x30 (DEDUCED, log entry 100). -/
def Device.upRows (d : Device) (b : Bytes) (off : Nat) : List (List Nat) :=
  let c := u8At b 1
  (List.range (d.spaceL c)).map (d.upRow (u64At b off) (aUFmt b) (d.spaceH c * d.spaceD c))

/-- k_j or v_j of head h (R283): `off` as for the up-projection. -/
def Device.expanded (d : Device) (b : Bytes) (off : Nat) (e : HistEntry) (h j : Nat) : List Nat :=
  expand (d.upRows b off) (d.latent (u8At b 1) e j) (d.spaceD (u8At b 1)) h

/-- Head h of a row of a matrix laid out as Q. -/
def Device.matrixRow (d : Device) (b : Bytes) (off fmt row h : Nat) : List Nat :=
  d.headRow (aRowAddr b off row) fmt (d.spaceD (u8At b 1)) h

/-- R284: the scores of a row, with those at -infinity. -/
def Device.rowScores (d : Device) (b : Bytes) (e : HistEntry) (s i h : Nat) : List Score :=
  let row := aRow b s i
  let bias : Option (Nat → Nat) :=
    if u64At b 0x40 = 0 then none
    else some fun j => leNat (d.uniBytes 4 (u64At b 0x40 + s * u32At b 0x48 + 4 * j))
  scores (aScale b) (d.matrixRow b 0x10 (aQFmt b) row h) (d.admitted b e.events row) (d.expanded b 0x28 e h) bias

/-- The scores of the keys a row admits. -/
def kept (ss : List Score) : List Score := ss.filter fun x => x.s ≠ f32NegInf

/-! ### Forward -/

/-- The rows of a unit: (sample, entry, query, head). -/
def Device.attnRows (d : Device) (u : Nat) (b : Bytes) : List (Nat × HistEntry × Nat × Nat) :=
  (d.unitEntries u (u8At b 1)).flatMap fun x => (List.range (aQueries b)).flatMap fun i =>
    (aHeadList b).map fun h => (x.1, x.2, i, h)

/-- What one row of a FORWARD unit gives: its writes, keys excluded at -infinity, whether it is empty, whether it is
non-finite, and whether another value it writes in FP16 or FP32 is (R111). -/
structure AttnOut where
  writes : List (Nat × Bytes)
  negInf : Nat
  empty : Bool
  nf : Bool
  bad : Bool
  deriving DecidableEq, Repr

/-- R284 to R286: one row forward. -/
def Device.attnRow (d : Device) (b : Bytes) (x : Nat × HistEntry × Nat × Nat) : AttnOut :=
  let c := u8At b 1
  let row := aRow b x.1 x.2.2.1
  let h := x.2.2.2
  let w := d.spaceD c
  let f := fmtOf (aOFmt b)
  let n := fmtBits (aOFmt b) / 8
  let ss := d.rowScores b x.2.1 x.1 x.2.2.1 h
  let ks := kept ss
  let r := attendRow w ks (d.expanded b 0x30 x.2.1 h)
  let out := r.1.map fun v => f.enc (d32 v)
  { writes := [(aRowAddr b 0x18 row + h * w * n, out.flatMap (leBytes n)), (aLse b (d.spaceH c) row h, leBytes 4 r.2.1)]
    negInf := ss.length - ks.length
    empty := ks.isEmpty
    nf := r.2.2
    bad := (aOFmt b != 1 && out.any fun v => !(f.dec v).isFin) || (!ks.isEmpty && f32NonFinite r.2.1) }

/-- The counters and flags of a unit's rows (R86, R111, R284, R286); the rows that are empty or non-finite are counted where
they are formed, forward (DEDUCED, log entry 105). -/
def Device.attnCounts (d : Device) (sp u negInf empty nf : Nat) (bad : Bool) : Device :=
  let leaf := (d.workUnit u).leaf
  let d := if negInf = 0 then d else d.inc (F.HIST_NEGINF_KEYS_COUNT sp) negInf
  let d := if empty = 0 then d else d.inc (F.HIST_EMPTY_ROWS_COUNT sp) empty
  let d := if nf = 0 then d else ((d.inc (F.HIST_NF_ROWS_COUNT sp) nf).raise F.HIST_INT_STATUS_NF_ROW).flagLeaf leaf 4096
  if bad && bit (d.workUnit u).flags 0 then d.flagLeaf leaf 4096 else d

/-- A history unit's last write has been made (R98, R129). -/
def Device.histEnd (d : Device) (c u : Nat) : Device := ((d.inc64 (F.CORE_UNITS_LO_UNITS c)).unitEnd u).coreFree c

/-- R283 to R286: a FORWARD unit whose reads hold. -/
def Device.attnForward (d : Device) (c u : Nat) (b : Bytes) : Device :=
  let os := (d.attnRows u b).map (d.attnRow b)
  match d.writeAll (os.flatMap (·.writes)) with
  | none => d.xferFail c u 0 (u64At b 0x18)
  | some d =>
    (d.attnCounts (u8At b 1) u (os.map (·.negInf)).sum (os.filter (·.empty)).length (os.filter (·.nf)).length (os.any (·.bad))).histEnd c u

/-! ### Backward -/

/-- What one row of a BACKWARD unit gives: its place, its keys at -infinity, its terms where it is neither empty nor
non-finite, and dq where it writes one. -/
structure AttnBack where
  sample : Nat
  head : Nat
  negInf : Nat
  grad : Option RowGrad
  dq : Option (Nat × Bytes)
  deriving DecidableEq, Repr

/-- R287: one row backward (DEDUCED, log entry 106). -/
def Device.attnRowBack (d : Device) (b : Bytes) (x : Nat × HistEntry × Nat × Nat) : AttnBack :=
  let row := aRow b x.1 x.2.2.1
  let h := x.2.2.2
  let w := d.spaceD (u8At b 1)
  let ss := d.rowScores b x.2.1 x.1 x.2.2.1 h
  let ks := kept ss
  let lse := leNat (d.uniBytes 4 (aLse b (d.spaceH (u8At b 1)) row h))
  let put := fun dq => (aRowAddr b 0x58 row + h * w * 2, dq.flatMap fun v => leBytes 2 (f16OfF32 v))
  if (ks.any fun k => badScore k.s) || (!ks.isEmpty && (d32 lse).isNan) then ⟨x.1, h, ss.length - ks.length, none, none⟩
  else if ks.isEmpty then ⟨x.1, h, ss.length - ks.length, none, some (put (List.replicate w 0))⟩
  else
    let r := gradRow (aScale b) w (d.matrixRow b 0x10 (aQFmt b) row h) (d.matrixRow b 0x18 (aOFmt b) row h)
      (d.matrixRow b 0x50 2 row h) lse ks (d.expanded b 0x28 x.2.1 h) (d.expanded b 0x30 x.2.1 h)
    ⟨x.1, h, ss.length - ks.length, some r.1, some (put r.2)⟩

/-- The keys that some row of a sample and head admits, ascending. -/
def keysOf (rows : List RowGrad) (events : Nat) : List Nat :=
  (List.range events).filter fun j => rows.any fun r => r.keys.any (·.1 == j)

/-- The rows of a sample and head that form gradients, in query order. -/
def rowsAt (bs : List AttnBack) (s h : Nat) : List RowGrad :=
  (bs.filter fun x => x.sample = s ∧ x.head = h).filterMap (·.grad)

/-- R288: row x of dU_k (`v` false) or dU_v for head h. -/
def Device.upGrad (d : Device) (u : Nat) (b : Bytes) (bs : List AttnBack) (v : Bool) (h x : Nat) : List Nat :=
  let c := u8At b 1
  let w := d.spaceD c
  let ts := (d.unitEntries u c).flatMap fun e =>
    let rows := rowsAt bs e.1 h
    (keysOf rows e.2.events).map fun j =>
      let g := keyGrads w j rows
      ((d.latent c e.2 j).getD x 0, if v then g.2 else g.1)
  (List.range w).map fun i => reduce f32NegZero (ts.map fun t => xmul t.1 (t.2.getD i 0))

/-- R288: the writes of the up-projections' gradients. -/
def Device.upGradWrites (d : Device) (u : Nat) (b : Bytes) (bs : List AttnBack) : List (Nat × List Nat) :=
  let c := u8At b 1
  let w := d.spaceD c
  let stride := ceilTo 64 (d.spaceH c * w * 4)
  (List.range (d.spaceL c)).flatMap fun x => (aHeadList b).flatMap fun h =>
    [(u64At b 0x60 + x * stride + h * w * 4, d.upGrad u b bs false h x),
     (u64At b 0x68 + x * stride + h * w * 4, d.upGrad u b bs true h x)]

/-- R288: the latent gradient of event j of a sample (DEDUCED, log entry 107). -/
def Device.latGrad (d : Device) (b : Bytes) (bs : List AttnBack) (s j : Nat) : List Nat :=
  let c := u8At b 1
  let g := (List.range (d.spaceH c)).map fun h => keyGrads (d.spaceD c) j (rowsAt bs s h)
  let dk := g.flatMap (·.1)
  let dv := g.flatMap (·.2)
  (List.range (d.spaceL c)).map fun x =>
    reduce f32NegZero (List.zipWith xmul dk ((d.upRows b 0x28).getD x []) ++ List.zipWith xmul dv ((d.upRows b 0x30).getD x []))

/-- R288, R289: the writes of the latent gradients of produced events. -/
def Device.latGradWrites (d : Device) (u : Nat) (b : Bytes) (bs : List AttnBack) : List (Nat × Bytes) :=
  let c := u8At b 1
  if u64At b 0x70 = 0 then []
  else (d.unitEntries u c).flatMap fun e =>
    (List.range (e.2.events - 64 * e.2.start)).map fun k =>
      (u64At b 0x70 + e.1 * u32At b 0x78 + k * d.spaceL c * 2,
        (d.latGrad b bs e.1 (64 * e.2.start + k)).flatMap fun v => leBytes 2 (f16OfF32 v))

/-- Bytes of FP16 values that hold a NaN or an infinity (DEDUCED, log entry 99). -/
def badF16 (b : Bytes) : Bool := (List.range (b.length / 2)).any fun i => !(fp16.dec (u16At b (2 * i))).isFin

/-- R287 to R289: a BACKWARD unit whose reads hold. -/
def Device.attnBackward (d : Device) (c u : Nat) (b : Bytes) : Device :=
  let bs := (d.attnRows u b).map (d.attnRowBack b)
  let half := bs.filterMap (·.dq) ++ d.latGradWrites u b bs
  let full := d.upGradWrites u b bs
  let bad := half.any (fun x => badF16 x.2) || full.any fun x => x.2.any f32NonFinite
  match d.writeAll (half ++ full.map fun x => (x.1, x.2.flatMap (leBytes 4))) with
  | none => d.xferFail c u 0 (u64At b 0x58)
  | some d => (d.attnCounts (u8At b 1) u (bs.map (·.negInf)).sum 0 0 bad).histEnd c u

/-! ### Producing pages -/

/-- The latents of a page that a sample produces, VALID rows of FP32 (R279). -/
def Device.latRows (d : Device) (b : Bytes) (s : Nat) (e : HistEntry) (p : Nat) : List (List Nat) :=
  let l := d.spaceL (u8At b 1)
  (List.range (validOf e.events p)).map fun k =>
    let a := u64At b 0x70 + s * u32At b 0x78 + (64 * (p - e.start) + k) * l * 4
    lineF32s (d.uniBytes (l * 4) a)
where
  /-- Consecutive FP32 values. -/
  lineF32s (x : Bytes) : List Nat := (List.range (x.length / 4)).map fun i => u32At x (4 * i)

/-- The pages a WRITE_PAGES unit writes: (sample, entry, page) (R275, R279). -/
def Device.madePages (d : Device) (u c : Nat) : List (Nat × HistEntry × Nat) :=
  ((d.unitEntries u c).filter fun x => d.producer x.2 = some x.2).flatMap fun x =>
    ((List.range (pagesOf x.2.events)).filter (x.2.start ≤ ·)).map fun p => (x.1, x.2, p)

/-- The reads of a WRITE_PAGES unit. -/
def Device.latReads (d : Device) (u : Nat) (b : Bytes) : List (Nat × Nat) :=
  let l := d.spaceL (u8At b 1)
  (d.madePages u (u8At b 1)).map fun x =>
    (u64At b 0x70 + x.1 * u32At b 0x78 + 64 * (x.2.2 - x.2.1.start) * l * 4, validOf x.2.1.events x.2.2 * l * 4)

/-- One page is written into its reserved slot (R267 to R269, R278). -/
def Device.putPage (d : Device) (c : Nat) (x : HistPage) (b : Bytes) : Device :=
  let d := (d.uniWrite (d.slotAddr c x.slot) b).getD d
  { d with hist := { d.hist with pages := d.hist.pages.map fun y => if y = x then { y with written := true } else y } }

/-- R279: a WRITE_PAGES unit whose reads hold. -/
def Device.makePages (d : Device) (c u : Nat) (b : Bytes) : Device :=
  let sp := u8At b 1
  let tag := d.rd (F.HIST_SPACE_TAG_TAG sp)
  let ps := (d.madePages u sp).filterMap fun x => (d.histPage sp x.2.1.list x.2.2).map fun y =>
    (y, pageBytes (d.rd (F.HIST_SPACE_GEOM_FORMAT sp)) (d.spaceL sp) x.2.2 x.2.1.seq tag (d.latRows b x.1 x.2.1 x.2.2))
  let d : Device := ps.foldl (fun d p => d.putPage sp p.1 p.2.1) d
  let d := if d.spine.rerun.contains u then d else d.countSat tag (ps.map (·.2.2)).sum
  d.histEnd c u

/-! ### The units -/

/-- A GATHER unit's up-projections come under the write fence (R50, R282). -/
def Device.fenceUps (d : Device) (u : Nat) (b : Bytes) : Device :=
  let c := u8At b 1
  let n := ceilDiv (upBytes (aUFmt b) (d.spaceL c) (d.spaceH c * d.spaceD c)) 64
  (d.fenceRead u (u64At b 0x28) n).fenceRead u (u64At b 0x30) n

/-- R345: a GATHER unit waits while a block it reads awaits a repair. -/
def Device.upsHeld (d : Device) (u : Nat) (b : Bytes) : Bool :=
  let c := u8At b 1
  let n := upBytes (aUFmt b) (d.spaceL c) (d.spaceH c * d.spaceD c)
  bit (d.workUnit u).flags 2 && (d.repairHolds true (u64At b 0x28) n || d.repairHolds true (u64At b 0x30) n)

/-- R283: an attention unit reads what it needs, then `f`. -/
def Device.attend (d : Device) (c u : Nat) (b : Bytes) (f : Device → Device) : Device :=
  d.withReads c u (d.listReads u b) fun d =>
    if d.pageMissing u b then d.histErr c u 5
    else if d.upsHeld u b then d
    else d.withReads c u (d.pageReads u b ++ d.dataReads u b) fun d => f (d.fenceUps u b)

/-- R281, R282: the history unit in progress on a core with an OP runs, or ends with its cause. -/
def Device.histUnit (d : Device) (c op : Nat) (f : Device → Nat → Bytes → Device) : Device :=
  match d.unitAt c with
  | none => d
  | some u =>
    if (d.workUnit u).kind ≠ 6 ∨ Config.cores ≤ c then d
    else
      let a := (d.workUnit u).argPtr
      d.withReads c u [(a, 128)] fun d =>
      let b := d.uniBytes 128 a
      let cause := d.histCause u b
      if u8At b 0 ≠ op ∧ u8At b 0 ≤ 2 then d
      else if cause ≠ 0 then d.histErr c u cause
      else f d u b

/-- R283 to R286: FORWARD. -/
def execHistForward (core : Nat) (s : State) : Result :=
  s.onDev fun d => d.histUnit core 0 fun d u b => d.attend core u b fun d => d.attnForward core u b

/-- R287 to R289: BACKWARD. -/
def execHistBackward (core : Nat) (s : State) : Result :=
  s.onDev fun d => d.histUnit core 1 fun d u b => d.attend core u b fun d => d.attnBackward core u b

/-- R278, R279: WRITE_PAGES. -/
def execWritePages (core : Nat) (s : State) : Result :=
  s.onDev fun d => d.histUnit core 2 fun d u b =>
    d.withReads core u (d.latReads u b) fun d => d.makePages core u b

end Sys2Proof.Machine
end

