-- ==== Sys2Proof/Machine/HostMem.lean ====
section
/-! DEFINITION. The commands of the host link: training and resets (R421 to R423), CXL.cache and CXL.mem traffic
(R426 to R434), DOE and IDE (R442, R443). -/

namespace Sys2Proof.Machine

/-! ### The link -/

/-- A rate and width within R421. -/
def linkWithin (speed width : Nat) : Bool := (speed == 1 || speed == 2 || speed == 3) && (width == 4 || width == 8)

/-- R422: the host link's ends: whether its speed and width are outside, and whether CXL.cache and CXL.mem are enabled (PRESUMED, log entry 26). -/
def Device.linkEnds (d : Device) (outside en : Bool) : Device :=
  { d with host := { d.host with outside := outside, cacheEn := en, memEn := en, perstN := true } }

/-- R422: the host link is up at a speed and width. -/
def Device.linkShown (d : Device) (speed width : Nat) : Device :=
  let d := ((d.wr F.HOST_STATUS_LINK_UP 1).wr F.HOST_STATUS_SPEED speed).wr F.HOST_STATUS_WIDTH width
  (d.wr F.HOST_CTL_RETRAIN 0).wr F.HOST_STATUS_MEM_ACTIVE (b2n d.ready)

/-- R422, R423: the link has trained. Within R421 CXL.cache and CXL.mem are enabled and waiting requests are issued;
outside it they stay off. The configuration space's own writes are no rows (PRESUMED, log entry 26). -/
def execHostLinkUp (speed width : Nat) (s : State) : Result :=
  s.onDev fun d =>
    if !d.domOn domHost then d
    else if !linkWithin speed width then (d.linkEnds true false).wr F.HOST_STATUS_LINK_UP 0
    else
      let change := d.rd F.HOST_STATUS_SPEED != speed || d.rd F.HOST_STATUS_WIDTH != width
      let d := (d.linkEnds false true).linkShown speed width
      (if change then d.raise F.HOST_INT_STATUS_LINK_CHANGE else d).d2hReissue

/-- R423: the host link is lost: every request on it is to be issued again. -/
def Device.linkLost (d : Device) (cause : Nat) : Device :=
  { d with host := { d.host with
    d2h := d.host.d2h.map fun r => { r with issued := false }
    perstN := decide (cause ≠ 2) } }

/-- R423: a hot reset (cause 0), a link down (1) or PERST_N (2) resets the HOST domain's configuration space, link state
and registers and nothing else; requests not yet answered are held. Link downs are counted. -/
def execHostLinkDown (cause : Nat) (s : State) : Result :=
  s.onDev fun d =>
    let n := d.rd F.HOST_LINK_DOWN_CNT_COUNT
    let st := d.rd (F.PWR_DOM_STATE_STATE domHost)
    let d := ((d.resetDomain domHost).reloadRwl domHost).wr (F.PWR_DOM_STATE_STATE domHost) st
    ((d.wr F.HOST_LINK_DOWN_CNT_COUNT n).inc F.HOST_LINK_DOWN_CNT_COUNT).linkLost cause

/-- R422: a link outside R421 trains again every 100 ms: what comes of it is HOST_LINK_UP's to say. -/
def execHostRetrainTimer (s : State) : Result :=
  s.onDev fun d => if d.host.outside then d.wr F.HOST_STATUS_LINK_UP 0 else d

/-- R444: a write of 1 to HOST_CTL.RETRAIN; it reads 1 until training ends. -/
def execHostRetrain (s : State) : Result :=
  s.onDev fun d => d.access F.HOST_CTL.key fun d => d.wr F.HOST_CTL_RETRAIN 1

/-- The Cerosan DVSEC's dword at offset 0x0C (R424). -/
def Device.dvsec (d : Device) : Nat :=
  let st := d.rd F.DRONE_START_STATUS_STATE
  (if d.host.outside then 3 else st) + b2n d.ideBlocked * 16 + d.rd F.DRONE_START_STATUS_FAIL_CAUSE * 256

/-! ### CXL.cache -/

/-- R426: an H2D snoop is answered RspIHitI. -/
def execH2dSnoop (_line : Nat) (s : State) : Result :=
  s.onDev fun d => if d.flag F.HOST_STATUS_LINK_UP && d.host.cacheEn then d.emit .rspIHitI else d

/-- R427: the oldest request for a line is answered. -/
def Device.d2hDrop (d : Device) (line : Nat) : Device := { d with host := { d.host with d2h := dropD2H line d.host.d2h } }

/-- R427: a response completes the oldest issued request of its line. -/
def execD2hResponse (line : Nat) (s : State) : Result :=
  s.onDev fun d => if d.d2hHas line then d.d2hDrop line else d

/-- R430: a request has had no response for HOST_CPL_TIMEOUT clk while the link was up: it fails as a bus error. -/
def execCplTimeout (line : Nat) (s : State) : Result :=
  s.onDev fun d =>
    if !d.flag F.HOST_STATUS_LINK_UP || !d.d2hHas line then d
    else (((d.d2hDrop line).inc F.HOST_CPL_TO_CNT_COUNT).raise F.HOST_INT_STATUS_CPL_TIMEOUT).lasting 0x0900 14 0 0 (line * 64) 12 0

/-! ### CXL.mem -/

/-- R432: MemRd or MemRdData. -/
def execMemRd (hpa : Nat) (s : State) : Result :=
  s.onDev fun d => if d.hdmHit hpa then d.hostReq ⟨0, hpa, 0, []⟩ else d

/-- R432: MemWr of a line. -/
def execMemWr (hpa : Nat) (data : Bytes) (s : State) : Result :=
  s.onDev fun d => if d.hdmHit hpa then d.hostReq ⟨1, hpa, fullMask, padTo 64 data⟩ else d

/-- R432: MemWrPtl of the bytes a mask names. -/
def execMemWrPtl (hpa mask : Nat) (data : Bytes) (s : State) : Result :=
  s.onDev fun d => if d.hdmHit hpa then d.hostReq ⟨2, hpa, mask % 2 ^ 64, padTo 64 data⟩ else d

/-- R432: MemInv. The host holds the line no more (DEDUCED, log entry 50). -/
def execMemInv (hpa : Nat) (s : State) : Result :=
  s.onDev fun d => if d.hdmHit hpa then d.hostReq ⟨3, hpa, 0, []⟩ else d

/-- A back-invalidate is over; requests that waited for it are taken. -/
def Device.biDone (d : Device) (line : Nat) : Device :=
  { d with host := { d.host with bi := d.host.bi.filter (·.1 ≠ line) } }.heldRun

/-- R433: the host answers a BISnp. -/
def execBirsp (line : Nat) (s : State) : Result :=
  s.onDev fun d => if d.host.bi.any (·.1 = line) then d.biDone line else d

/-- R434: a back-invalidate that was not answered is sent once more. -/
def Device.biAgain (d : Device) (line : Nat) : Device :=
  ({ d with host := { d.host with bi := d.host.bi.map fun (b : Nat × Nat) => if b.1 = line then (line, 2) else b } }.emit
    (.biSnp line)).inc F.HOST_BI_CNT_COUNT

/-- R434: a BISnp has had no answer: it is sent once more, then dropped. -/
def execBiTimeout (line : Nat) (s : State) : Result :=
  s.onDev fun d =>
    match d.host.bi.find? (·.1 = line) with
    | none => d
    | some (_, n) =>
      if n < 2 then d.biAgain line
      else ((d.biDone line).raise F.HOST_INT_STATUS_BI_TIMEOUT).lasting 0x0900 14 0 0 (line * 64) 12 0

/-- 256 MiB. -/
def hdmUnit : Nat := 2 ^ 28

/-- R431: a configuration the HDM decoder takes. -/
def hdmOk (base size ways : Nat) : Bool :=
  base % hdmUnit == 0 && size % hdmUnit == 0 && decide (hdmUnit ≤ size ∧ size ≤ 2 ^ 43) && ways == 1

/-- R431: the decoder's range is set and committed. -/
def Device.hdmSet (d : Device) (base size : Nat) : Device :=
  { d with host := { d.host with hdmBase := base, hdmSize := size } }.wr F.HOST_STATUS_HDM_COMMITTED 1

/-- R431: the HDM decoder is committed; a commit of any other configuration fails and leaves it uncommitted. -/
def execHdmCommit (base size ways : Nat) (s : State) : Result :=
  s.onDev fun d =>
    if !d.domOn domHost || d.flag F.HOST_STATUS_HDM_COMMITTED || !hdmOk base size ways then d else d.hdmSet base size

/-! ### DOE and IDE -/

/-- The firmware measurement of a target: the digest of its section or package, or of the ROM firmware (R549) (DESIGN CHOICE, log entry 85). -/
def Device.fwMeasure (d : Device) (t : Nat) : Bytes :=
  match d.boot.fwCode.find? (·.1 = t) with
  | some e => Config.sha3 384 e.2
  | none => Config.romDigest t

/-- The 12 bytes of retired cores, 3 bytes of drained tiles and the retired byte of R549. -/
def Device.retiredBytes (d : Device) : Bytes :=
  leBytes 12 (d.boot.retiredCores.foldl (fun m c => m ||| 2 ^ c) 0) ++
    leBytes 3 ((d.boot.tileOut ++ d.tier.drainedTiles).foldl (fun m t => m ||| 2 ^ t) 0) ++
    [BitVec.ofNat 8 (b2n d.boot.deviceRetired)]

/-- The measurement blocks of R549, all of one instant (R551). -/
def State.measurements (s : State) : List (Nat × Bytes) :=
  let d := s.dev
  [(1, Config.romDigest 6), (2, padTo 64 d.boot.imageDigest),
   (3, [BitVec.ofNat 8 (d.rd F.SEC_STATUS_KEY_SLOT), BitVec.ofNat 8 s.perm.revoked])] ++
  ((List.range 6).map fun t => (4 + t, d.fwMeasure t)) ++
  [(10, match d.spine.prog with
    | some p => padTo 64 p.digest
    | none => zeroBytes 64),
   (11, Config.smuRom 1), (12, d.retiredBytes)]

/-- The IDE streams that are secure: bit 0 CXL.cachemem, bit 1 selective, bit 2 link (R444). -/
def Device.ideBits (d : Device) : Nat :=
  d.rd F.HOST_STATUS_IDE_CM + 2 * d.rd F.HOST_STATUS_IDE_SEL + 4 * d.rd F.HOST_STATUS_IDE_LINK

/-- Set the IDE streams' states; requests that waited for them are issued (R443). -/
def Device.setIde (d : Device) (v : Nat) : Device :=
  (((d.wr F.HOST_STATUS_IDE_CM (v % 2)).wr F.HOST_STATUS_IDE_SEL (v / 2 % 2)).wr F.HOST_STATUS_IDE_LINK (v / 4 % 2)).d2hReissue

/-- The protocols the DOE instance serves (R442): vendor ID and type of an object's header. -/
def doeServed (o : Bytes) : Bool :=
  decide (8 ≤ o.length ∧ o.length ≤ 4096) &&
    ((u16At o 0 == 1 && decide (u8At o 2 ≤ 2)) || (u16At o 0 == 0x1E98 && u8At o 2 == 2))

/-- R442: what an object may do to the sessions and, in a session, to the IDE streams. -/
def Device.doeTaken (d : Device) (object : Bytes) : Device :=
  let before := d.host.sessions
  let d := if u16At object 0 = 1 ∧ u8At object 2 ≠ 0 then
      { d with host := { d.host with sessions := min 4 (Config.doeSessions object before) } } else d
  if u16At object 0 = 1 ∧ u8At object 2 = 2 ∧ before ≠ 0 then d.setIde (Config.doeIde object d.ideBits) else d

/-- R442, R549: a DOE object is answered. Secured objects may open or close sessions and, within one, deliver the keys
that make IDE streams secure. -/
def execDoeObject (object : Bytes) (s : State) : Result :=
  let ms := s.measurements
  s.onDev fun d =>
    if !d.domOn domHost || !doeServed object then d
    else (d.emit (.doe (Config.doeAnswer object ms d.host.sessions))).doeTaken object

/-- R443: an IDE stream (0 CXL.cachemem, 1 selective CXL.io, 2 link) leaves the secure state. -/
def execIdeFail (stream : Nat) (s : State) : Result :=
  s.onDev fun d =>
    if !bit (d.ideBits % 8) stream then d
    else
      let d := d.setIde (d.ideBits - 2 ^ stream)
      (d.raise F.HOST_INT_STATUS_IDE_FAIL).lasting 0x0901 14 stream 0 0 12 0

end Sys2Proof.Machine
end

