-- ==== Sys2Proof/Machine/SmuOps.lean ====
section
/-! DEFINITION. The sealed measurement unit (R558 to R573): its meter, its records, its calibration
port. Its meanings reach nothing but the SMU's own state, the step path and what the port sends. -/

namespace Sys2Proof.Machine

/-- A command that acts on the SMU alone. -/
def State.onSmu (s : State) (f : Smu → Smu) : Result := .next { s with smu := f s.smu }

/-! ### The calibration set (R570) -/

/-- A field of a channel in a set: 0 V_GAIN, 1 V_OFFSET, 2 I_GAIN, 3 I_OFFSET. -/
def calGain (set : Bytes) (ch k : Nat) : Exact := d32 (u32At set (16 * ch + 4 * k))
/-- FULL_SCALE_W. -/
def calFullScale (set : Bytes) : Nat := u16At set 0x40
/-- INTERVAL_S. -/
def calInterval (set : Bytes) : Nat := u16At set 0x42
/-- CHANNEL_EN. -/
def calChannels (set : Bytes) : Nat := u8At set 0x44

/-- Every field of a set is within R570's range. The gains and offsets have none stated but that they
are FP32; a NaN or infinite one is out of range (DEDUCED, log entry 15). -/
def calValid (set : Bytes) : Bool :=
  set.length == 80 && decide (250 ≤ calFullScale set) && decide (calFullScale set ≤ 4000) &&
  decide (60 ≤ calInterval set) && decide (calInterval set ≤ 3600) && decide (calChannels set < 16) &&
  calChannels set != 0 && zeros set 0x45 11 &&
  (List.range 16).all fun k => (d32 (u32At set (4 * k))).isFin

/-- CAL_EVENTS: the slots programmed (R570). -/
def Smu.calEvents (m : Smu) : Nat := m.slots.length

/-! ### The meter -/

/-- A converter code, clipped to its 24 bits (R562, R563). -/
def clipCode (c : Int) : Int := max (-(2 ^ 23)) (min (2 ^ 23 - 1) c)

/-- A code lies beyond its converter's range. -/
def codeOver (c : Int) : Bool := clipCode c != c

/-- R563: gain times the code as a signed fraction of full scale, plus the offset, exactly. -/
def sense (gain off : Exact) (code : Int) : Exact :=
  (gain.mul (Exact.ofInt (clipCode code) (-23))).add off

/-- v * i * 250 us in pJ, exactly: 250,000,000 pJ for each watt (R563). -/
def samplePj (set : Bytes) (ch : Nat) (v i : Int) : Exact :=
  ((sense (calGain set ch 0) (calGain set ch 1) v).mul (sense (calGain set ch 2) (calGain set ch 3) i)).mul
    (.fin false 250000000 0)

/-- Whole pJ of an exact energy; where it is not whole the spec does not give the rounding, and which of
the two neighbours is added is a free value (DESIGN CHOICE, log entry 16). -/
def wholePj (x : Exact) (free : Nat) : Int :=
  match x with
  | .fin s m e =>
    if 0 ≤ e then (if s then -(m * 2 ^ e.toNat : Nat) else (m * 2 ^ e.toNat : Nat))
    else
      let v : Int := if s then -(m : Int) else m
      let q := v / (2 ^ (-e).toNat : Nat)
      if v % (2 ^ (-e).toNat : Nat) = 0 then q else q + (free % 2 : Nat)
  | _ => 0

/-- One simultaneous sample of the enabled channels (R562, R563). `free n` is the free value of channel n (DEDUCED, log entry 56). -/
def Smu.sample (m : Smu) (vs is : List Int) (free : Nat → Nat) : Smu :=
  let set := m.calSet
  let chans := (List.range 4).filter fun n => bit (calChannels set) n
  let ovr := chans.any (fun n => codeOver (vs.getD n 0) || codeOver (is.getD n 0)) ||
    (let w := Exact.sum (chans.map fun n => samplePj set n (vs.getD n 0) (is.getD n 0))
     (Exact.fin false (calFullScale set * 250000000) 0).lt w)
  let m := chans.foldl (fun m n =>
    let e := wholePj (samplePj set n (vs.getD n 0) (is.getD n 0)) (free n)
    { m with
      acc := Store.set (fun _ => 0) m.acc n (Store.get (fun _ => 0) m.acc n + e)
      second := Store.set (fun _ => 0) m.second n (Store.get (fun _ => 0) m.second n + e) }) m
  if ovr then { m with flags := m.flags ||| 8 } else m

/-- A step message (R564). -/
def Smu.stepMsg (m : Smu) (step : Nat) (applied : Bool) (samples : Nat) : Smu :=
  let gap := match m.lastStep with
    | none => false
    | some l => step != l + 1
  { m with
    applied := m.applied + (if applied then 1 else 0)
    skipped := m.skipped + (if applied then 0 else 1)
    samples := m.samples + samples
    lastStep := some step
    gaps := if gap then min (m.gaps + 1) (2 ^ 32 - 1) else m.gaps
    flags := if gap then m.flags ||| 32 else m.flags }

/-- The tick path: the Drone tick value, at each second of the crystal, which advances uptime by 32,768
periods; the mean power of the second is reported (R560, R565, R573) (DEDUCED, log entry 57). -/
def Smu.second1 (m : Smu) (tick : Nat) : Smu :=
  { m with
    tick := tick
    uptime := m.uptime + 32768
    power := (List.range 4).foldl (fun p n =>
      Store.set (fun _ => 0) p n
        (min 65535 (max 0 (Store.get (fun _ => 0) m.second n / 100000000000)).toNat)) m.power
    second := [] }

/-- Energy of a channel in the interval, in whole µJ rounded down (R563). -/
def Smu.microJ (m : Smu) (n : Nat) : Int := Store.get (fun _ => 0) m.acc n / 1000000

/-- The first 256 bytes of a record (R567). -/
def Smu.recordHead (m : Smu) (flags uend : Nat) : Bytes :=
  let e := fun n => m.microJ n
  let sum := e 0 + e 1 + e 2 + e 3
  leBytes 4 0x31524D53 ++ leBytes 2 1 ++ leBytes 2 flags ++ leBytes 8 m.session ++ leBytes 8 m.seq ++
  leBytes 8 m.start ++ leBytes 8 uend ++ leBytes 8 m.tick ++ leBytes 1 m.calEvents ++
  leBytes 1 (calChannels m.calSet) ++ leBytes 2 (calFullScale m.calSet) ++ leBytes 4 m.sealOpens ++
  leBytes 8 (ofInt 64 (e 0)) ++ leBytes 8 (ofInt 64 (e 1)) ++ leBytes 8 (ofInt 64 (e 2)) ++
  leBytes 8 (ofInt 64 (e 3)) ++ leBytes 8 (ofInt 64 sum) ++
  leBytes 8 (ofInt 64 ((m.energy : Int) + sum)) ++ leBytes 8 m.applied ++ leBytes 8 m.skipped ++
  leBytes 8 m.samples ++ leBytes 8 (m.lastStep.getD 0) ++ leBytes 4 m.gaps ++ zeroBytes 52 ++
  padTo 32 m.prev ++ zeroBytes 32

/-- ASCII of the record domain string of R567. -/
def smuDomain : Bytes :=
  [0x49, 0x44, 0x41, 0x56, 0x4F, 0x2D, 0x53, 0x4D, 0x55, 0x2D, 0x52, 0x45, 0x43, 0x2D, 0x31]

/-- A whole record: its head, and both signatures over SHA3-512 of the domain string and the head (R567). -/
def smuRecord (head : Bytes) : Bytes :=
  let dig := Config.sha3 512 (smuDomain ++ head)
  head ++ padTo 64 (Config.sign 10 dig) ++ padTo 3309 (Config.sign 11 dig) ++ zeroBytes 467

/-- The end of an interval: the record is closed, signed and stored, the remainders are carried, a
programmed set takes effect (R563, R566, R567, R569, R571). -/
def Smu.closeRecord (m : Smu) : Smu :=
  let uend := m.start + calInterval m.calSet * 32768
  let newSet := (m.slots.getLast?).getD m.calSet
  let flags := m.flags + (if m.seq = 0 then 1 else 0)
  let head := m.recordHead flags uend
  { m with
    store := Store.set (fun _ => []) m.store (m.seq % 240) (smuRecord head)
    seq := m.seq + 1
    prev := Config.sha3 256 head
    start := uend
    energy := ((m.energy : Int) + m.microJ 0 + m.microJ 1 + m.microJ 2 + m.microJ 3).toNat
    acc := (List.range 4).foldl (fun a n =>
      Store.set (fun _ => 0) a n (Store.get (fun _ => 0) m.acc n % 1000000)) m.acc
    flags := if m.crystal then 0 else 16
    calSet := newSet }

/-- The start of a session (R565): a new SESSION value, a free value, and every session counter 0. -/
def Smu.newSession (m : Smu) (session : Nat) : Smu :=
  let slots := if m.slots = [] then [Config.calSlot0] else m.slots
  { m with
    powered := true, session := session % 2 ^ 64, seq := 0, uptime := 0, start := 0, acc := [], energy := 0
    flags := if m.crystal then 0 else 16
    sealOpens := 0, applied := 0, skipped := 0, samples := 0, lastStep := none, gaps := 0, tick := 0
    slots := slots, staged := none, calSet := (slots.getLast?).getD [], second := [], power := [], prev := []
    store := [] }

/-! ### Meanings -/

/-- A session begun with a new SESSION value, a free value (R565). -/
def State.newSession (s : State) : State := { s with smu := s.smu.newSession s.dev.fresh, dev := s.dev.used }

/-- R565: the SMU supply rises. A supply that is already up starts nothing. -/
def execSmuSessionStart (s : State) : Result :=
  if s.smu.powered then .next s else .next s.newSession

/-- Free values used up, with no other effect on the units. -/
def Device.useFree (d : Device) (n : Nat) : Device := { d with free := d.free + n }

/-- One sample of the meter taken; the roundings that the spec does not give are free values (DESIGN CHOICE, log entry 16). -/
def State.smuSampled (s : State) (volts amps : List Int) : State :=
  { s with smu := s.smu.sample volts amps (fun n => Config.freeNat (s.dev.free + n)), dev := s.dev.useFree 4 }

/-- R562, R563: the converters sample together. -/
def execSmuSample (volts amps : List Int) (s : State) : Result :=
  if s.smu.powered then .next (s.smuSampled volts amps) else .next s

/-- The messages still on their way to the SMU (R560). -/
def Device.setPath (d : Device) (r : List (Nat × Bool × Nat)) : Device := { d with smuPath := r }

/-- The front message of the step path received (R564); without its supply the SMU takes none. -/
def State.stepReceived (s : State) (path : List (Nat × Bool × Nat)) : State :=
  match path with
  | [] => s
  | x :: r =>
    { s with smu := if s.smu.powered then s.smu.stepMsg x.1 x.2.1 x.2.2 else s.smu, dev := s.dev.setPath r }

/-- R564: the oldest step message on the step path; it is lost while the SMU's supply is absent. -/
def execSmuStepMessage (s : State) : Result :=
  .next (s.stepReceived s.dev.smuPath)

/-- The tick value received (R560). -/
def Smu.tickMsg (m : Smu) (tick : Nat) : Smu := if m.powered then m.second1 tick else m

/-- R560: the tick value, once per second of the crystal. -/
def execSmuTickMessage (s : State) : Result :=
  s.onSmu fun m => m.tickMsg s.drone.tick

/-- The interval in progress has lasted INTERVAL_S seconds of uptime (R566). -/
def Smu.closeDue (m : Smu) : Bool := m.powered && decide (m.start + calInterval m.calSet * 32768 ≤ m.uptime)

/-- R566, R567: the end of an interval, once INTERVAL_S seconds of uptime have passed. -/
def execSmuRecordClose (s : State) : Result :=
  s.onSmu fun m => if m.closeDue then m.closeRecord else m

/-- The crystal stopped: CRYSTAL_FAULT is set for the interval (R565). -/
def Smu.crystalOff (m : Smu) : Smu := { m with crystal := false, flags := if m.powered then m.flags ||| 16 else m.flags }

/-- The crystal running again. -/
def Smu.crystalOn (m : Smu) : Smu := { m with crystal := true }

/-- The supply lost: nothing runs until it returns (R558, R572). -/
def Smu.off (m : Smu) : Smu := { m with powered := false, staged := none }

/-- An assertion of SMU_SEAL_N: SEAL_OPENS and SEAL_OPENED (R571). -/
def Smu.sealOpen (m : Smu) : Smu :=
  if m.sealOn then m
  else if m.powered then
    { m with sealOn := true, sealOpens := min (m.sealOpens + 1) (2 ^ 32 - 1), flags := m.flags ||| 2 }
  else { m with sealOn := true }

/-- SMU_SEAL_N deasserted: a staged set is discarded (R572). -/
def Smu.sealClose (m : Smu) : Smu := { m with sealOn := false, staged := none }

/-- The answer to STATUS (R571). -/
def Smu.calReply (m : Smu) : Bytes := leBytes 1 m.calEvents ++ leBytes 1 (b2n m.sealOn) ++ (m.slots.getLast?).getD []

/-- A STAGE taken (R571). -/
def Smu.stage (m : Smu) (set : Bytes) (good : Bool) : Smu :=
  if m.powered && good && m.sealOn && calValid set then { m with staged := some set } else m

/-- The next slot programmed with `set` (R570, R571). -/
def Smu.program (m : Smu) (set : Bytes) : Smu :=
  { m with slots := m.slots ++ [set], staged := none, flags := m.flags ||| 4 }

/-- A COMMIT with what is staged (R571). -/
def Smu.commit (m : Smu) (staged : Option Bytes) (good : Bool) : Smu :=
  match staged with
  | some set => if m.powered && good && m.sealOn && decide (m.slots.length < 64) then m.program set else m
  | none => m

/-- R565: the crystal has stopped for 2 ms. -/
def execCrystalStop (s : State) : Result :=
  s.onSmu Smu.crystalOff

/-- R565: the crystal runs again. The interval in which it was stopped keeps its flag. -/
def execCrystalReturn (s : State) : Result :=
  s.onSmu Smu.crystalOn

/-- R595: the SMU supply is lost: the session ends and a staged set is gone; the slots stay. -/
def execSmuSupplyLoss (s : State) : Result :=
  s.onSmu Smu.off

/-- R571: SMU_SEAL_N asserts. -/
def execSealAssert (s : State) : Result :=
  s.onSmu Smu.sealOpen

/-- R572: SMU_SEAL_N deasserts; a staged set is discarded. -/
def execSealDeassert (s : State) : Result :=
  s.onSmu Smu.sealClose

/-- R571, STATUS: CAL_EVENTS, the seal state and the set in force, in that order (DEDUCED, log entry 17). A frame
with a bad CRC is no command. -/
def execCalStatus (crcGood : Bool) (s : State) : Result :=
  if s.smu.powered && crcGood then .next { s with dev := s.dev.emit (.calPort s.smu.calReply) } else .next s

/-- R571, STAGE: refused unless the seal is asserted and every field in range. -/
def execCalStage (set : Bytes) (crcGood : Bool) (s : State) : Result :=
  s.onSmu fun m => m.stage set crcGood

/-- R571, COMMIT: refused unless the seal is asserted, a set is staged and a slot is free. -/
def execCalCommit (crcGood : Bool) (s : State) : Result :=
  s.onSmu fun m => m.commit m.staged crcGood

end Sys2Proof.Machine
end

