-- ==== Sys2Proof/Machine/HostReads.lean ====
section
/-! DEFINITION. Register reads by the host (R9 to R17, R561), interrupt enables and MSI-X unmasking (R437). -/

namespace Sys2Proof.Machine

/-- A word of a byte string that a block of read-only registers shows. -/
def wordOf (b : Bytes) (off : Nat) : Word := BitVec.ofNat 32 (u32At b off)

/-- SMU_STATUS (R573). -/
def Smu.statusWord (m : Smu) : Nat :=
  2 ^ 31 + b2n m.sealOn * 2 ^ 30 + b2n m.staged.isSome * 2 ^ 29 + b2n (!m.crystal) * 2 ^ 28 +
    b2n (bit m.flags 3) * 2 ^ 27 + calChannels m.calSet % 16

/-- The mirror of the SMU at an offset of its block (R561, R569, R573). -/
def Smu.mirror (m : Smu) (o : Nat) : Word :=
  let pairs := [m.session, m.seq, m.uptime, m.energy, m.applied, m.skipped, m.samples]
  if o < 0x18 then
    BitVec.ofNat 32 (match o with
      | 0x00 => m.statusWord
      | 0x04 => calFullScale m.calSet * 2 ^ 16 + m.calEvents
      | 0x08 => calInterval m.calSet
      | 0x0C => m.sealOpens
      | 0x10 => m.gaps
      | _ => 0)
  else if o < 0x50 then
    BitVec.ofNat 32 (pairs.getD ((o - 0x18) / 8) 0 / (if o % 8 = 0 then 1 else 2 ^ 32))
  else if o < 0x60 then BitVec.ofNat 32 (Store.get (fun _ => 0) m.power ((o - 0x50) / 4))
  else if 0x80 ≤ o ∧ o < 0xA0 then wordOf (padTo 32 (Config.sha3 256 (Config.smuPub 0))) (o - 0x80)
  else if 0xA0 ≤ o ∧ o < 0xC0 then wordOf (padTo 32 (Config.smuPub 0)) (o - 0xA0)
  else if 0xC0 ≤ o ∧ o < 0x100 then wordOf (padTo 64 (Config.smuRom 0)) (o - 0xC0)
  else if 0x800 ≤ o ∧ o < 0x830 then wordOf (padTo 48 (Config.smuRom 1)) (o - 0x800)
  else if 0x830 ≤ o ∧ o < 0x860 then wordOf (padTo 48 (Config.smuRom 2)) (o - 0x830)
  else if 0x1000 ≤ o ∧ o < 0x17A0 then wordOf (padTo 1952 (Config.smuPub 1)) (o - 0x1000)
  else if 0x10000 ≤ o then
    wordOf (Store.get (fun _ => []) m.store ((o - 0x10000) / 4096)) ((o - 0x10000) % 4096)
  else 0

/-- Whether an offset lies in the mirror block of the SMU. -/
def inMirror (off : Nat) : Bool := decide (0x300000 ≤ off) && decide (off < 0x400000)

/-- The value of the register word at a 4-byte aligned offset, wherever its state is held (R8). -/
def State.viewWord (s : State) (off : Nat) : Word :=
  if inMirror off then s.smu.mirror (off - 0x300000)
  else if off = F.DRONE_STATUS.key then
    BitVec.ofNat 32 (s.drone.lock * 2 ^ 30 + b2n s.drone.isSet * 2 ^ 29 + b2n s.drone.armed.isSome * 2 ^ 28)
  else if off = F.DRONE_TICK_LO.key then BitVec.ofNat 32 s.drone.tick
  else if off = F.DRONE_TICK_HI.key then BitVec.ofNat 32 (s.drone.tick / 2 ^ 32)
  else if off = F.DRONE_ARM_LO.key then BitVec.ofNat 32 (s.drone.armed.getD 0)
  else if off = F.DRONE_ARM_HI.key then BitVec.ofNat 32 (s.drone.armed.getD 0 / 2 ^ 32)
  else if off = F.SEC_STATUS.key then putBits (s.dev.readWord off) 4 4 s.perm.revoked
  else s.dev.readWord off

/-- Whether a read finds its domain there (R17, R561). -/
def State.readable (s : State) (off : Nat) : Bool :=
  if inMirror off then s.smu.powered else s.dev.decodes (keySource off).1

/-- The shadow a requester holds of a high word (R9). -/
def Device.shadow (d : Device) (requester off : Nat) : Option Word :=
  (d.mgmt.shadows.find? fun e => e.1 = requester ∧ e.2.1 = off).map (·.2.2)

/-- The shadows without one of a requester's. -/
def Device.dropShadow (d : Device) (requester off : Nat) : Device :=
  { d with mgmt := { d.mgmt with shadows := d.mgmt.shadows.filter fun e => !(e.1 = requester ∧ e.2.1 = off) } }

/-- A low word of a 64-bit pair (R9). -/
def isPairLow (off : Nat) : Bool :=
  match RegMap.at? off with
  | some a => a.row.pairLow
  | none => false

/-- A register with a field that a read clears (R12). -/
def hasRc (off : Nat) : Bool :=
  match RegMap.at? off with
  | some a => a.row.flds.any fun f => f.acc = .rc
  | none => false

/-- R9, R10: a read of a register with no field that a read clears. The low word of a pair latches its high word for
the requester, whose next read of the high word returns it; a read from within a word returns the addressed
bytes. -/
def execLowWordRead (requester off : Nat) (s : State) : Result :=
  let w := off / 4 * 4
  if hasRc w then .next s
  else
    s.onDev fun d =>
      if !d.barOpen then d.emit .unsupportedRequest
      else if !s.readable w then (d.emit (.readData requester 0xFFFFFFFF)).logAccess w
      else
        let hi := d.shadow requester w
        let v := hi.getD (s.viewWord w)
        let d := d.dropShadow requester w
        let d := if isPairLow w then
            let d := d.dropShadow requester (w + 4)
            { d with mgmt := { d.mgmt with shadows := (requester, w + 4, s.viewWord (w + 4)) :: d.mgmt.shadows } }
          else d
        d.emit (.readData requester (v >>> (8 * (off % 4))))

/-- R12, R13: a read of a register with RC fields returns its value and clears those fields; `hw` are the events that
hardware records in the same clk, which remain. -/
def execReadToClear (requester off hw : Nat) (s : State) : Result :=
  if !hasRc off then .next s
  else
    s.onDev fun d =>
      if !d.barOpen then d.emit .unsupportedRequest
      else if !s.readable off then (d.emit (.readData requester 0xFFFFFFFF)).logAccess off
      else
        match RegMap.at? off with
        | none => d
        | some a =>
          let k := d.keyOf off
          let old := d.reg k
          let new := a.row.flds.foldl (fun w f =>
            if f.acc = .rc then putBits w f.lo f.w (getBits (BitVec.ofNat 32 hw) f.lo f.w) else w) old
          (d.setReg k new).emit (.readData requester (d.readWord off))

/-- R437: a write of an interrupt enable register. A bit that it sets while the status bit is set sends the source's
message (DEDUCED, log entry 46). -/
def execIntEnWrite (off value : Nat) (s : State) : Result :=
  s.onDev fun d =>
    match RegMap.at? off with
    | none => d
    | some a =>
      if a.row.name ∉ RegMap.intEn then d
      else d.access off fun d =>
        let old := d.reg off
        let new := d.afterWrite a.row old (BitVec.ofNat 32 value) 0
        let d := d.setReg off new
        if (new &&& ~~~old &&& d.reg (off - 4)) ≠ 0 then d.sendMsix (d.vector (a.blk.source a.inst)) else d

/-- R437: a vector's mask bit is cleared: the message its pending bit holds is sent. -/
def execMsixUnmask (vector : Nat) (s : State) : Result :=
  s.onDev fun d =>
    if 256 ≤ vector then d
    else d.access (F.MSIX_CTL_MASK vector).key fun d =>
      let d := d.wr (F.MSIX_CTL_MASK vector) 0
      if d.flag (pendBit vector) then (d.wr (pendBit vector) 0).sendMsix vector else d

end Sys2Proof.Machine
end

