-- ==== Sys2Proof/Machine/Mem.lean ====
section
/-! DEFINITION. The commands of the stack controllers (R234 to R263). -/

namespace Sys2Proof.Machine

/-- Whether a reader still waits for its line: a unit only while it runs. -/
def Device.readerDue (d : Device) (reader : Reader) : Bool :=
  match reader with
  | .unit u => match d.unitSt u with
    | .running _ => true
    | _ => false
  | _ => true

/-- R236 to R245: a read of a line by a unit in progress, the host, a move or another reader. `bad1` and `bad2` are the
damaged symbols the first and the second read meet; `waited` how long the request of priority class `cls` has waited. -/
def execMemRead (tile line : Nat) (reader : Reader) (cls waited : Nat) (bad1 bad2 : List Nat) (s : State) : Result :=
  s.onDev fun d =>
    if !d.stackUp tile line || !d.readerDue reader then d
    else
      let d := d.aged tile cls waited
      if d.lineClass tile line = 0 then d.read0 true tile line bad1 bad2 else d.read1 tile line reader bad1

/-- R240: a full-line write. Only a move of a line marked failed keeps POISON at 1. -/
def execMemWrite (tile line : Nat) (data : Bytes) (keepPoison : Bool) (cls waited : Nat) (s : State) : Result :=
  s.onDev fun d =>
    if !d.stackUp tile line then d
    else (d.aged tile cls waited).fullWrite tile line data (keepPoison && d.poisoned (t1Key tile line 0))

/-- R250, R251, R253: a partial write under a byte mask. `bad` are the damaged symbols of the line that a full buffer
flushes. -/
def execMemPartialWrite (tile line mask : Nat) (data : Bytes) (bad : List Nat) (s : State) : Result :=
  s.onDev fun d => if !d.stackUp tile line then d else d.partialWrite tile line mask data bad

/-- R252: an accumulate-write. -/
def execAccumulateWrite (tile line : Nat) (data : Bytes) (first : Bool) (leaf : Nat) (unitDma : Bool) (s : State) :
    Result :=
  s.onDev fun d => if !d.stackUp tile line then d else d.accumulate tile line data first leaf unitDma

/-- R251: the oldest write-combining entry reaches MEM_WCB_AGE. -/
def execWcbAgeFlush (tile : Nat) (bad : List Nat) (s : State) : Result :=
  s.onDev fun d =>
    match (d.tile tile).wcb with
    | e :: _ => if d.stackUp tile e.line then d.flushWcb tile e.line bad else d
    | [] => d

/-! ### Patrol -/

/-- A patrol pass begins (R246): it counts corrected errors anew (R255). -/
def Device.passStart (d : Device) (tile : Nat) : Device :=
  let d := d.setTile tile { d.tile tile with patrol := some 0, passDue := false, ceSince := [] }
  (d.wr (F.MEM_STATUS_SCRUB_BUSY tile) 1).wr (F.MEM_CTL_SCRUB_NOW tile) 0

/-- The patrol period in ticks; a value below 3,600,000,000 acts as that (R263). -/
def Device.scrubPeriod (d : Device) (tile : Nat) : Nat := max 3600000000 (d.rd64 (F.MEM_SCRUB_PERIOD_LO_TICKS tile))

/-- R246: a new scrub period begins. -/
def Device.periodStart (d : Device) (tile : Nat) : Device := d.setTile tile { d.tile tile with periodLeft := d.scrubPeriod tile }

/-- R246: the next pass is due when the present one ends. -/
def Device.passLate (d : Device) (tile : Nat) : Device := d.setTile tile { d.tile tile with passDue := true }

/-- R246: a scrub period starts, once the ticks of the one before have passed. -/
def execScrubPassStart (tile : Nat) (s : State) : Result :=
  s.onDev fun d =>
    if !d.stackUp tile 0 || (d.tile tile).periodLeft != 0 then d
    else
      let d := d.periodStart tile
      if (d.tile tile).patrol.isSome then (d.passLate tile).raise (F.MEM_INT_STATUS_SCRUB_LATE tile)
      else d.passStart tile

/-- The first line at or after `p` that holds class 0 data in use: an allocated line outside detection-only objects, or
a line of the directory's or staging's part of the stack (R238, R246). -/
def Device.nextUsed (d : Device) (tile p : Nat) : Option Nat :=
  let es := (d.tier.t1.filter fun e => e.place = tile ∧ d.lineClass tile e.line = 0).map fun e => (e.line, e.len)
  match (es ++ [(d.stackTop tile, Config.stackLines - d.stackTop tile)]).find? fun e => p < e.1 + e.2 with
  | some e => some (max p e.1)
  | none => none

/-- Lines patrol skips (R247). -/
def Device.patrolSkips (d : Device) (tile line : Nat) : Bool :=
  d.poisoned (t1Key tile line 0) || (d.tile tile).wcb.any (·.line = line) || (d.tile tile).acc.contains line

/-- The next line patrol reads; `fuel` bounds the lines it skips. -/
def Device.nextPatrol (d : Device) (tile : Nat) : Nat → Nat → Option Nat
  | 0, _ => none
  | f + 1, p =>
    match d.nextUsed tile p with
    | none => none
    | some l => if d.patrolSkips tile l then Device.nextPatrol d tile f (l + 1) else some l

/-- R246: a pass ends. -/
def Device.passOver (d : Device) (tile : Nat) : Device :=
  ((d.setTile tile { d.tile tile with patrol := none }).wr (F.MEM_STATUS_SCRUB_BUSY tile) 0).inc (F.MEM_SCRUB_STATUS_PASSES tile)

/-- R246: a pass ends, and one that is due starts. -/
def Device.passEnd (d : Device) (tile : Nat) : Device :=
  let d := d.passOver tile
  if (d.tile tile).passDue then d.passStart tile else d

/-- R246: the patrol goes on from line `l`. -/
def Device.patrolAt (d : Device) (tile l : Nat) : Device := d.setTile tile { d.tile tile with patrol := some l }

/-- R247: the patrol reads its next line, or ends its pass where none is left. -/
def execPatrolRead (tile : Nat) (bad1 bad2 : List Nat) (s : State) : Result :=
  s.onDev fun d =>
    match (d.tile tile).patrol with
    | none => d
    | some p =>
      if !d.stackUp tile 0 then d
      else
        let skips := d.poison.length + (d.tile tile).wcb.length + (d.tile tile).acc.length + 1
        match d.nextPatrol tile skips p with
        | none => d.passEnd tile
        | some l => (d.patrolAt tile (l + 1)).read0 false tile l bad1 bad2

/-- R246: a write of 1 to MEM_CTL.SCRUB_NOW starts a pass if none is running. -/
def execScrubNow (tile : Nat) (s : State) : Result :=
  s.onDev fun d =>
    if Config.tiles ≤ tile then d
    else d.access (F.MEM_CTL tile).key fun d =>
      if (d.tile tile).patrol.isSome || !d.stackUp tile 0 then d.wr (F.MEM_CTL_SCRUB_NOW tile) 1 else d.passStart tile

/-! ### Die sparing -/

/-- R255: a write of 1 to MEM_CTL.SPARE_REQ with SPARE_DIE; dies 8 to 15 make it refused (R263). -/
def execSpareReq (tile die : Nat) (s : State) : Result :=
  s.onDev fun d =>
    if Config.tiles ≤ tile then d
    else d.access (F.MEM_CTL tile).key fun d =>
      let d := d.wr (F.MEM_CTL_SPARE_DIE tile) die
      if 8 ≤ die % 16 then d else d.spareStart tile (die % 16) 4

/-- A line the sparing copy could not read (R256). -/
def Device.copyLost (d : Device) (tile line : Nat) : Device :=
  if d.lineClass tile line = 0 then d.lastingLine tile line else d.setPoison (t1Key tile line 0) true

/-- R256: the spare stands for logical die `die` of tile `tile`: its map, its state, and no unit waits for the copy. -/
def Device.spareTaken (d : Device) (tile die : Nat) : Device :=
  let d := (d.wr (F.MEM_SPARE_STATE tile) 2).wr (F.MEM_SPARE_LEFT_LINES tile) 0
  { d with
    boot := { d.boot with spareMaps := Store.set (fun _ => 8) d.boot.spareMaps tile die }
    spine := { d.spine with waitGood := d.spine.waitGood.filter fun w => w.2.1 ≠ tile } }

/-- R256: the copy ends: held partial writes of the die are flushed, lines whose copy failed are lost, and the spare takes over
(DESIGN CHOICE, log entry 58). -/
def Device.copyEnd (d : Device) (tile die : Nat) (lost : List Nat) : Device :=
  let d := ((d.tile tile).wcb.filter fun e => lineDie e.line = die).foldl (fun d e => d.flushWcb tile e.line []) d
  let d := (lost.filter fun l => lineDie l = die ∧ l < Config.stackLines).foldl (fun d l => d.copyLost tile l) d
  let d := (d.setTile tile { d.tile tile with copy := none }).spareTaken tile die
  (d.raise (F.MEM_INT_STATUS_SPARE_DONE tile)).log 0x0203 0 9 tile 0 0

/-- R256: the copy ends and the spare replaces the old die for good; the mapping is held in AON (R257). `lost` are the
lines of the die that failed to read. Units that waited for good storage go on (R245). -/
def execSpareCopyDone (tile : Nat) (lost : List Nat) (s : State) : Result :=
  s.onDev fun d =>
    match (d.tile tile).copy with
    | none => d
    | some (die, _) => d.copyEnd tile die lost

/-- R258: a command that failed its parity or CRC is retried once; a second failure is a lasting fault of the channel's
logical die. -/
def execStackIfError (tile channel : Nat) (lasting : Bool) (s : State) : Result :=
  s.onDev fun d =>
    if !d.stackUp tile 0 || 32 ≤ channel then d
    else
      let d := d.raise (F.MEM_INT_STATUS_IF_RETRY tile)
      if !lasting then d.log 0x0204 1 9 tile 0 channel
      else (d.lasting 4 9 tile 0 channel 5 tile).spareStart tile (channel / 4) 3

/-! ### Refresh and temperature -/

/-- R259: a channel refreshes its next bank of 16. -/
def execBankRefresh (tile channel : Nat) (s : State) : Result :=
  s.onDev fun d =>
    if !d.stackUp tile 0 || 32 ≤ channel then d
    else
      d.setTile tile { d.tile tile with
        bank := Store.modify (fun _ => 0) (d.tile tile).bank channel fun b => (b + 1) % 16 }

/-- Entry temperature of a level in 1/16 °C (R261). -/
def thermEntry (l : Nat) : Int := if l = 1 then 1360 else if l = 2 then 1520 else 1600
/-- Exit temperature of a level in 1/16 °C (R261). -/
def thermExit (l : Nat) : Int := if l = 1 then 1328 else if l = 2 then 1472 else 1552

/-- The status bit of a level (R263). -/
def Device.thermBit (tile l : Nat) : Fld :=
  if l = 1 then F.MEM_INT_STATUS_THERM1 tile
  else if l = 2 then F.MEM_INT_STATUS_THERM2 tile else F.MEM_INT_STATUS_THERM3 tile

/-- R261: the level a stack temperature leads to from level `l`. -/
def thermLevel (l : Nat) (t : Int) : Nat :=
  let up := ([1, 2, 3].filter fun k => thermEntry k ≤ t).length
  let stay := ([1, 2, 3].filter fun k => decide (k ≤ l ∧ thermExit k ≤ t)).length
  max up stay

/-- R261: levels are entered and left; each entry sets its bit. -/
def Device.thermStep (d : Device) (tile : Nat) (t : Int) : Device :=
  let l := d.rd (F.MEM_STATUS_THERM tile)
  let n := thermLevel l t
  let d := ([1, 2, 3].filter fun k => decide (l < k ∧ k ≤ n)).foldl (fun d k => d.raise (Device.thermBit tile k)) d
  (d.wr (F.MEM_STATUS_THERM tile) n).setTile tile { d.tile tile with halfRefresh := decide (1 ≤ n) }

/-- R260: how many samples in a row each die has given no valid reading. -/
def badReadings (bad : Store Nat) (readings : List (Option Int)) : Store Nat :=
  (List.range 9).foldl (fun b i =>
    Store.set (fun _ => 0) b i (if (readings.getD i none).isNone then Store.get (fun _ => 0) b i + 1 else 0)) bad

/-- R260: the hottest die and its reading; among equals the lowest die. -/
def hottest (readings : List (Option Int)) : Option (Nat × Int) :=
  (List.range 9).foldl (fun (m : Option (Nat × Int)) i =>
    match readings.getD i none, m with
    | some t, some (j, u) => if u < t then some (i, t) else some (j, u)
    | some t, none => some (i, t)
    | none, m => m) none

/-- R260: a sample is taken: 95 °C where a die fails, else the highest reading (DEDUCED, log entry 59). -/
def Device.tempTaken (d : Device) (tile : Nat) (fail : Bool) (hot : Option (Nat × Int)) : Device :=
  let d := if fail ∧ !d.flag (F.MEM_STATUS_TEMP_FAIL tile) then d.raise (F.MEM_INT_STATUS_TEMP_FAIL tile) else d
  let d := d.wr (F.MEM_STATUS_TEMP_FAIL tile) (b2n fail)
  match fail, hot with
  | true, h => ((d.wr (F.MEM_TEMP_TEMP tile) 1520).wr (F.MEM_TEMP_HOT_DIE tile) ((h.map (·.1)).getD 0)).thermStep tile 1520
  | false, some (i, t) => ((d.wr (F.MEM_TEMP_TEMP tile) (ofInt 16 t)).wr (F.MEM_TEMP_HOT_DIE tile) i).thermStep tile t
  | false, none => d

/-- R260: which dies gave a reading is noted. -/
def Device.tempsNoted (d : Device) (tile : Nat) (readings : List (Option Int)) : Device :=
  d.setTile tile { d.tile tile with badTemps := badReadings (d.tile tile).badTemps readings }

/-- R260, R261: the nine dies' sensors are sampled, in 1/16 °C; none is an invalid reading. -/
def execStackTempSample (tile : Nat) (readings : List (Option Int)) (s : State) : Result :=
  s.onDev fun d =>
    if Config.tiles ≤ tile || !d.domOn (domOfTile tile) || readings.length != 9 then d
    else
      let d := d.tempsNoted tile readings
      d.tempTaken tile ((d.tile tile).badTemps.any fun e => 3 ≤ e.2) (hottest readings)

end Sys2Proof.Machine
end

