-- ==== Sys2Proof/Machine/Mgmt.lean ====
section
/-! DEFINITION. The management complex: lockstep and the fault policy (R527, R528, R543), revocation (R535), firmware
(R536 to R539), test windows (R545, R546), SMBus (R552 to R554) and IDENTIFY (R441). -/

namespace Sys2Proof.Machine

/-! ### Lockstep and the fault policy -/

/-- R527: the first disagreement: the pair restarts into the code it runs. -/
def Device.lockstepRestart (d : Device) : Device :=
  let d := (d.inc F.MGMT_STATUS_RESTARTS).raise F.MGMT_INT_STATUS_RESTART
  let d := d.log 0x0702 (if d.policy 11 = 3 then 3 else 1) 20 0 0 0
  { d.passFault 11 0 with mgmt := { (d.passFault 11 0).mgmt with sinceMismatch := some 0 } }

/-- The second mismatch within a second (R527; DEDUCED, log entry 31). -/
def secondMismatch (since : Option Nat) : Bool :=
  match since with
  | some n => decide (n ≤ 1000000)
  | none => false

/-- R527: the pair disagrees: it restarts, or the device is reset by a second disagreement within 1 s, which is
1,000,000 ticks (DEDUCED, log entry 31). -/
def execLockstepMismatch (s : State) : Result :=
  if !s.dev.aonUp then .next s
  else if secondMismatch s.dev.mgmt.sinceMismatch then .next s.mgmtReset
  else s.onDev Device.lockstepRestart

/-- The next event of the queue (R528): the overflow's own stands where the first event was lost. -/
def Device.takeEvent (d : Device) : Device × Option FaultEv :=
  if d.mgmt.evLost = some 0 then
    (({ d with mgmt := { d.mgmt with evLost := none } }.log 4 (d.lastingSev 11 false) 15 0 0 0), some ⟨11, 0⟩)
  else
    match d.mgmt.evq with
    | [] => (d, none)
    | e :: q =>
      let d := { d with mgmt := { d.mgmt with evq := q, evLost := d.mgmt.evLost.map (· - 1) } }
      (d.wr F.MGMT_STATUS_EVQ (min q.length 255), some e)

/-- DRAIN: the tile or carrier concerned (R229, R230, R543). A memory event of a carrier has unit 32 and above. -/
def Device.drainFor (d : Device) (e : FaultEv) : Device :=
  if e.cls = 7 then (d.drainRequest 1 e.unit).2
  else if 32 ≤ e.unit then (d.drainRequest 1 (e.unit - 32)).2
  else (d.drainRequest 0 e.unit).2

/-- The state with other units. -/
def State.setDev (s : State) (d : Device) : State := { s with dev := d }

/-- An event taken under the policy of its class (R543): 1 drain, 2 halt at the step's end, 3 reset, else nothing more. -/
def State.obey (s : State) (d : Device) (e : Option FaultEv) : State :=
  match e with
  | none => s.setDev d
  | some e =>
    if d.policy e.cls = 1 then s.setDev (d.drainFor e)
    else if d.policy e.cls = 2 then s.setDev d.haltReq
    else if d.policy e.cls = 3 then (s.setDev d).mgmtReset
    else s.setDev d

/-- R543: the management pair takes the next fault event and applies its class action. -/
def execFaultEvent (s : State) : Result :=
  if !s.dev.aonUp then .next s else .next (s.obey s.nowDev.takeEvent.1 s.nowDev.takeEvent.2)

/-! ### Revocation -/

/-- The same slot was written at most a second of ticks ago (R535). -/
def Device.revokedBefore (d : Device) (slot : Nat) : Bool :=
  match d.mgmt.lastRevoke with
  | some (p, t) => p == slot && decide (d.now ≤ t + 1000000)
  | none => false

/-- A write of SEC_REVOKE noted (R535). -/
def Device.noteRevoke (d : Device) (slot : Nat) : Device :=
  { d with mgmt := { d.mgmt with lastRevoke := some (slot, d.now) } }

/-- The key slot's revocation is asked for twice, of another slot than the one in use, which is itself not revoked (R535). -/
def State.revokes (s : State) (d : Device) (slot : Nat) : Bool :=
  d.revokedBefore slot && d.rd F.SEC_STATUS_KEY_SLOT != slot && !bit s.perm.revoked (d.rd F.SEC_STATUS_KEY_SLOT)

/-- A key slot's revocation fuse blown (R535). -/
def Perm.revoke (p : Perm) (slot : Nat) : Perm := { p with revoked := p.revoked ||| 2 ^ slot }

/-- What a revocation shows and raises (R535). -/
def Device.revoked (d : Device) (p : Perm) : Device := (d.wr F.SEC_STATUS_REVOKED (p.revoked % 16)).raise F.SEC_INT_STATUS_REVOKED

/-- R535: a write to SEC_REVOKE blows a slot's bit when it repeats the write before within 1,000,000 ticks and the image in
force is signed under another, unrevoked slot (DEDUCED, log entry 48). -/
def execSecRevoke (slot : Nat) (s : State) : Result :=
  let d := s.nowDev
  if !d.barOpen then .next (s.setDev (d.emit .unsupportedRequest))
  else if s.revokes d (slot % 4) then
    .next { s with perm := s.perm.revoke (slot % 4), dev := (d.noteRevoke (slot % 4)).revoked (s.perm.revoke (slot % 4)) }
  else .next (s.setDev ((d.noteRevoke (slot % 4)).logAccess F.SEC_REVOKE.key))

/-! ### Firmware packages -/

/-- R537: the layout of a package for a target: an Erien image that holds one section, a FIRMWARE section of that
TARGET. -/
def packageWhole (pkg : Bytes) (len target : Nat) : Bool :=
  erienHeader pkg && erienLen pkg == len && erienSections pkg && u16At pkg 6 == 1 &&
    match erienFirmware pkg with
    | [f] => firmwareHeader f && u8At f 0 == target
    | _ => false

/-- A sound package made pending (R537). -/
def Device.pendPackage (d : Device) (pkg : Bytes) (target : Nat) : Device :=
  Device.wr { d with mgmt := { d.mgmt with
    fwPending := d.mgmt.fwPending ++ [FwPending.mk target (u32At ((erienFirmware pkg).headD []) 4) pkg] } } F.MGMT_STATUS_SWAP_PEND 1

/-- R537, R538: a package that has been read: checked, verified, offered to its target; then it is pending. -/
def Device.offerPackage (d : Device) (p : Perm) (pkg : Bytes) (len target refusal : Nat) : Device :=
  if !packageWhole pkg len target then d.fwEnd target 3 0
  else if !verifyBlock p pkg (imageDigest pkg len) then
    ((d.inc F.SEC_VERIFY_FAIL).raise F.SEC_INT_STATUS_VERIFY_FAIL).fwEnd target 5 0
  else if refusal % 256 ≠ 0 then d.fwEnd target 8 (refusal % 256)
  else (d.pendPackage pkg target).takeIfIdle

/-- R536 to R538, R439: LOAD_FIRMWARE. `hostWrites` is what the host has written into the package's memory by then,
`readFails` that a line of it could not be read (R378), `refusal` the cause with which the target refuses it, 0 for none.
The order of the checks is DESIGN CHOICE, log entry 32. -/
def Device.loadFirmware (d : Device) (perm : Perm) (readFails : Bool) (refusal : Nat) : Device :=
  let p := d.payload 16
  let len := u32At p 8
  let target := u8At p 12
  if !zeros p 13 3 then d.fwEnd target 3 0
  else if d.phase = .halted then d.fwEnd target 4 0
  else if target = 15 then d.fwEnd target 9 0
  else if 5 < target then d.fwEnd target 3 0
  else if !(decide (u64At p 0 < 2 ^ 52) && d.inWindow (u64At p 0) len) then d.fwEnd target 6 0
  else
    let d := d.d2hSend false (u64At p 0) len
    if readFails then d.fwEnd target 7 0
    else d.offerPackage perm (d.readKey len (u64At p 0)) len target refusal

/-- R439, R537: mailbox LOAD_FIRMWARE, opcode 0x0030. -/
def execLoadFirmware (value : Nat) (hostWrites : List Host.Cell) (readFails : Bool) (refusal : Nat) (s : State) : Result :=
  s.onDev fun d => (d.hostWrites hostWrites).mbox value 0x30 (· == 16) fun d => d.loadFirmware s.perm readFails refusal

/-! ### IDENTIFY -/

/-- The 64 bytes of R441. -/
def Device.identity (d : Device) : Bytes :=
  [0x43, 0x53, 0x4E, 0x2D, 0x54, 0x32, 0x34, 0] ++ leBytes 2 Config.stepping ++ leBytes 2 (d.rd F.COLL_RANK_RANK) ++
    leBytes 4 (b2n d.spine.prog.isSome + 2 * b2n (d.spine.swap.isSome || !d.mgmt.fwPending.isEmpty)) ++
    ((List.range 8).flatMap fun i => leBytes 4 (d.rd (F.SEC_IDENTITY_DATA i))) ++ leBytes 8 d.boot.imageVersion ++
    zeroBytes 8

/-- R441: mailbox IDENTIFY, opcode 0x0001. -/
def execIdentify (value : Nat) (s : State) : Result :=
  s.onDev fun d => d.mbox value 1 (· == 0) fun d => d.mboxEnd 0 d.identity

/-! ### Test windows -/

/-- The planes and tier links in service, whose unused spares MARGIN sweeps (R545). -/
def Device.marginLinks (d : Device) : List Nat :=
  (List.range 12).filter fun l =>
    d.linkPowered l && (if l < 8 then bit (d.rd F.FAB_PLANES_IN_SERVICE) l else d.carrierState (l - 8) == 1) &&
      !(if l < 8 then d.flag (F.FAB_PL_STATUS_RX_SPARE_USED l) else d.flag (F.TLNK_C_STATUS_RX_SPARE_USED (l - 8))) &&
      !(d.link l).margin && (d.link l).switching.isNone

/-- One link's sweep as a test item. -/
def Device.testMargin (d : Device) (l : Nat) : Device :=
  ({ d with mgmt := { d.mgmt with testing := d.mgmt.testing ++ [1000 + l] } }).marginStart l

/-- ELS (R394, R545): a feed below 17.5 dBm is logged as weak. -/
def Device.testFeed (d : Device) (n f : Nat) : Device :=
  if toInt 16 (d.rd (powerFld n f)) < 1750 then
    ((d.log 0x0304 0 11 n 0 0).inc F.TEST_FEED_WEAK).itemFail n
  else d

/-- The items of an open window (R545). -/
def Device.testItems (d : Device) : Device :=
  let on := fun i => bit (d.rd F.TEST_CFG_ITEMS) i
  let d := if on 0 then d.testGroups else d
  let d := if on 1 then
      ((List.range Config.tiles).filter fun t => d.tileInService t && (d.tile t).patrol.isNone).foldl Device.passStart d
    else d
  let d := if on 2 then d.marginLinks.foldl Device.testMargin d else d
  if on 3 then
    ((List.range Config.engines).filter fun n => d.domOn (domOpt n)).foldl (fun d n => (d.testFeed n 0).testFeed n 1) d
  else d

/-- A test window is due (R545). -/
def Device.testDue (d : Device) : Bool :=
  d.aonUp && d.flag F.TEST_CFG_ENABLE && !d.flag F.TEST_STATUS_IN_WINDOW && decide (d.rd64 F.TEST_NEXT_LO ≤ d.now)

/-- The window of TEST_WINDOW ticks begins to count. -/
def Device.testLeft (d : Device) (n : Nat) : Device := { d with mgmt := { d.mgmt with testLeft := n } }

/-- A test window's opening (R545): its items begin, and the next one is scheduled. -/
def Device.testOpen (d : Device) : Device :=
  let d := (d.wr F.TEST_STATUS_IN_WINDOW 1).testLeft (d.rd F.TEST_WINDOW)
  (d.wr64 F.TEST_NEXT_LO ((d.rd64 F.TEST_NEXT_LO + d.rd F.TEST_PERIOD) % 2 ^ 64)).testItems

/-- R545: at TEST_NEXT a window opens. -/
def execTestWindowOpen (s : State) : Result :=
  s.onDev fun d => if d.testDue then d.testOpen else d

/-- A test window's close (R545). -/
def Device.testClose (d : Device) : Device :=
  let d := d.wr F.TEST_STATUS_IN_WINDOW 0
  let d := d.wr F.TEST_STATUS_WINDOWS ((d.rd F.TEST_STATUS_WINDOWS + 1) % 256)
  (d.raise F.TEST_INT_STATUS_WINDOW_DONE).log 0x0800 0 18 0 0 0

/-- R545: the window's ticks have passed. Unfinished items go on. -/
def execTestWindowClose (s : State) : Result :=
  s.onDev fun d => if d.flag F.TEST_STATUS_IN_WINDOW && d.mgmt.testLeft == 0 then d.testClose else d

/-! ### SMBus -/

/-- R552: a command with a bad or missing PEC is not acted on (DESIGN CHOICE, log entry 71). -/
def State.smb (s : State) (pec : Bool) (f : Device → Device) : Result :=
  s.onDev fun d => if !d.aonUp then d else if pec then f d else d.inc F.MGMT_SMB_ERR

/-- The bytes of STATUS (R553). -/
def Device.smbWords (d : Device) : Bytes :=
  [F.DRONE_START_STATUS, F.PWR_STATUS, F.MGMT_STATUS, F.PWR_TEMP].flatMap fun f => leBytes 4 (d.readWord f.key).toNat

/-- R553: STATUS. -/
def execSmbStatus (pec : Bool) (s : State) : Result :=
  s.smb pec fun d => d.emit (.smbus d.smbWords)

/-- Whether an offset is a register of an AON block (R553). -/
def inAon (off : Nat) : Bool :=
  match RegMap.at? off with
  | some a => a.blk.domain a.inst == domAon
  | none => false

/-- The bytes of READ_AON: all ones outside the AON blocks (R553). -/
def Device.smbAon (d : Device) (off : Nat) : Bytes := leBytes 4 (if inAon off then (d.readWord off).toNat else 0xFFFFFFFF)

/-- R553: READ_AON. -/
def execReadAon (off : Nat) (pec : Bool) (s : State) : Result :=
  s.smb pec fun d => d.emit (.smbus (d.smbAon off))

/-- R553: WAKE, with cause 4 (R490). -/
def execSmbWake (pec : Bool) (s : State) : Result := s.smb pec fun d => d.wake 4

/-- R553: STANDBY, as PWR_CTL.STANDBY (R489). -/
def execSmbStandby (pec : Bool) (s : State) : Result := s.smb pec Device.enterStandby

/-- R553: RESET: a management reset, only with the word 0xA55A and RESET_EN. -/
def execSmbReset (word : Nat) (pec : Bool) (s : State) : Result :=
  if pec && word == 0xA55A && s.dev.aonUp && s.dev.flag F.MGMT_SMB_CFG_RESET_EN then .next s.mgmtReset
  else s.smb false id

/-- SET_CAP, where MGMT_SMB_CFG allows it (R553, R498). -/
def Device.smbCap (d : Device) (watts : Nat) : Device :=
  if d.flag F.MGMT_SMB_CFG_CAP_EN then d.wr F.PWR_CAP_CAP (d.limitField "PWR_CAP" "CAP" (watts % 65536)) else d.inc F.MGMT_SMB_ERR

/-- R553: SET_CAP, only with CAP_EN. -/
def execSetCap (watts : Nat) (pec : Bool) (s : State) : Result :=
  s.smb pec fun d => d.smbCap watts

/-- Mark the oldest unread entry of a log, newest first, as read. -/
def readOldest : List (LogEntry × Bool) → List (LogEntry × Bool)
  | [] => []
  | (e, u) :: r => if r.any (·.2) then (e, u) :: readOldest r else (e, false) :: r

/-- SMB_ALERT_N goes while neither case of R554 holds. -/
def Device.alertView (d : Device) : Device :=
  if d.mgmt.alert && !(d.mgmt.aonLog.any fun e => e.2 && decide (2 ≤ e.1.severity)) && !d.flag F.PWR_STATUS_TRIP then
    ({ d with mgmt := { d.mgmt with alert := false } }).emit (.pin .smbAlertN true)
  else d

/-- The entry that LOG reads: the oldest unread one, and zeros where there is none (R553). -/
def Device.smbEntry (d : Device) : Bytes :=
  match d.mgmt.aonLog.reverse.find? (·.2) with
  | some e => e.1.bytes
  | none => zeroBytes 64

/-- That entry marked read. -/
def Device.smbTaken (d : Device) : Device := { d with mgmt := { d.mgmt with aonLog := readOldest d.mgmt.aonLog } }

/-- R553: LOG: the oldest unread entry of R547, all zero if there is none. -/
def execSmbLog (pec : Bool) (s : State) : Result :=
  s.smb pec fun d => (d.smbTaken.emit (.smbus d.smbEntry)).alertView

/-- R553: IDENTIFY. -/
def execSmbIdentify (pec : Bool) (s : State) : Result := s.smb pec fun d => d.emit (.smbus d.identity)

/-- SMB_ALERT_N released (R554). -/
def Device.alertOff (d : Device) : Device := { d with mgmt := { d.mgmt with alert := false } }

/-- R554: a read at the Alert Response Address returns the address and deasserts SMB_ALERT_N. -/
def execAlertResponse (s : State) : Result :=
  s.onDev fun d =>
    if d.aonUp && d.mgmt.alert then
      (d.alertOff.emit (.smbus [BitVec.ofNat 8 (d.rd F.MGMT_SMB_CFG_ADDR * 2)])).emit (.pin .smbAlertN true)
    else d

end Sys2Proof.Machine
end

