-- ==== Sys2Proof/Machine/Num.lean ====
section
/-! DEFINITION. The commands of the NUM block (R80, R85, R92). -/

namespace Sys2Proof.Machine

/-- R85: a write of 1 to NUM_LS_CTL.LOAD; outside IDLE it is ignored and logged (R92). -/
def execLsLoad (s : State) : Result :=
  s.onDev fun d => d.access F.NUM_LS_CTL.key fun d =>
    if d.phase ≠ .idle then d.logAccess F.NUM_LS_CTL.key else d.lossStart

/-- R80, R92: a write of NUM_TAG_CFG takes effect at once: the exponent is computed again from the history, whose
oldest entries go if HIST_LEN now lies below them. -/
def Device.tagCfgWrite (d : Device) (off value : Nat) : Device :=
  let t := d.rd F.NUM_TAG_SEL_TAG
  let d := d.wr (F.NUM_TAG_CFG_ENABLE t) (bits value 31 31)
  let d := d.wr (F.NUM_TAG_CFG_HIST_LEN t) (max 1 (min 64 (bits value 22 16)))
  let d := d.wr (F.NUM_TAG_CFG_E_INIT t) (bits value 15 8)
  let d := d.wr (F.NUM_TAG_CFG_FORMAT t) (bits value 3 0)
  let d := (d.setHist t (d.tagHist t)).tagUpdate t
  if bits value 3 0 = 3 ∨ bits value 3 0 = 4 then d else d.logAccess off

/-- R80, R92: a write of NUM_TAG_CFG or NUM_TAG_SAT_THRESH of the tag NUM_TAG_SEL names; outside IDLE it is ignored
and logged. -/
def execNumTagCfgWrite (off value : Nat) (s : State) : Result :=
  s.onDev fun d =>
    if off ≠ (F.NUM_TAG_CFG 0).key ∧ off ≠ (F.NUM_TAG_SAT_THRESH 0).key then d
    else d.access off fun d =>
      if d.phase ≠ .idle then d.logAccess off
      else if off = (F.NUM_TAG_CFG 0).key then d.tagCfgWrite off value
      else d.wr (F.NUM_TAG_SAT_THRESH_THRESH (d.rd F.NUM_TAG_SEL_TAG)) value

end Sys2Proof.Machine
end

