-- ==== Sys2Proof/Machine/CommitOps.lean ====
section
/-! DEFINITION. COMMIT: the actions of R48, a skipped step's of R49, and what the end of a COMMIT brings with it. -/

namespace Sys2Proof.Machine

/-! ### Before action 1 -/

/-- Every row this COMMIT updates, as (object, row). -/
def Device.rowsOfCommit (d : Device) : List (Nat × Nat) :=
  d.rooted.map (fun r => (d.tableObj r.table, r.row)) ++ d.sparse.bwRoots.map fun e => (d.tableObj e.1.table, e.1.row)

/-- R336: the device may leave DECIDE for a COMMIT that skips or applies: it holds the ROOT_HDR, which decides so, the root,
and the changes that the header implies. -/
def Device.mayCommit (d : Device) (skip : Bool) : Bool :=
  d.phase = .decide && d.coll.root &&
    match d.coll.hdr with
    | some h => hSkip h == skip && d.changesHere h
    | none => false

/-- COMMIT begins: lines of rows it will update that the host may hold are asked back (R433). -/
def Device.commitEntry (d : Device) (skip : Bool) : Device :=
  let d := { d with phase := .commit, spine := { d.spine with action := 0 } }
  if skip then d else d.rowsOfCommit.foldl (fun d x => d.biRow x.1 x.2) d

/-- The COMMIT in progress is of the kind asked for. -/
def Device.commits (d : Device) (skip : Bool) : Bool :=
  d.phase = .commit && match d.coll.hdr with
    | some h => hSkip h == skip
    | none => false

/-- Action 1 may begin: every work unit has finished, and the host holds no line of a row to be updated (R433). -/
def Device.mayAct (d : Device) : Bool :=
  !d.unitsLeft (fun _ => true) && !d.rowsOfCommit.any fun x => d.biBusy x.1 x.2

/-! ### Actions 1 to 4 -/

/-- Sums of R90 as the FP32 values that will be reported, by tag. -/
def roundSums (ns : List NormSum) : List (Nat × Nat × Nat × Nat) :=
  ns.map fun n => (n.tag, fp32.enc n.w, fp32.enc n.g, fp32.enc n.u)

/-- Actions 1 to 3 of R48: the dense optimiser, the rows, the tail. A version tag that differs again on its second reading and an
operand that cannot be reached are lasting faults (R52, R176). -/
def Device.actions123 (d : Device) : Device :=
  let s := d.rd F.NUM_LS_STATUS_CUR_LOG2
  match d.versionBad with
  | some (t, r) => (d.log 0x0508 2 3 t 0 r).commitFault
  | none =>
    if !d.denseOk then d.commitFault
    else
      let x := actionRows s (actionDense s (d, []))
      let d := { x.1 with num := { x.1.num with sums := roundSums x.2 } }
      let d := (d.sendRecords.countBw).actionTail s false
      { d with spine := { d.spine with action := 3 } }

/-- Actions 1 to 3 of R49: staged updates are discarded, and only markers are written. -/
def Device.skip123 (d : Device) : Device :=
  let d := (d.sendRecords.countBw).actionTail (d.rd F.NUM_LS_STATUS_CUR_LOG2) true
  { d with spine := { d.spine with action := 3 } }

/-- Action 4: the delta stream records, once the tail rings have taken theirs (R188). -/
def Device.action4 (d : Device) (skip : Bool) : Device :=
  if d.tailFull then d.raise F.OPT_INT_STATUS_TAIL_RING_FULL
  else
    let d := d.actionDelta (d.rd F.NUM_LS_STATUS_CUR_LOG2) skip
    { d with spine := { d.spine with action := 4 } }

/-! ### Actions 5 and 6 -/

/-- R90: the figures of the last applied step are replaced. -/
def Device.reportNorms (d : Device) : Device :=
  let ks := [(F.NUM_TAG_NORM_W_SUMSQ 0).key, (F.NUM_TAG_NORM_G_SUMSQ 0).key, (F.NUM_TAG_NORM_U_SUMSQ 0).key]
  let d := { d with regs := Store.keep (fun k => !ks.contains (k % regPage)) d.regs }
  let d : Device := d.num.sums.foldl (fun d x => d.norms x.1 x.2.1 x.2.2.1 x.2.2.2) d
  d.wr64 F.NUM_NORM_STEP_LO_STEP d.step64

/-- Action 5 of an applied step: amax histories, the loss scale, the norms (R79, R84, R90). -/
def Device.action5 (d : Device) : Device :=
  let d : Device := (d.num.amax.map (·.1)).foldl (fun d t => d.tagCommit t (d.stepAmax t) (d.stepSat t)) d
  ((d.lossScale false).nfReport false).reportNorms

/-- A skipped step's in its place (R49, R80, R88). -/
def Device.skip5 (d : Device) : Device :=
  let d := (d.lossScale true).nfReport true
  (d.inc F.SPINE_SKIP_CNT_SKIPS).raise F.SPINE_INT_STATUS_SKIP

/-- Action 6: SPINE_STEP and SPINE_COMMIT_TICK; pages the step wrote take both (R268). -/
def Device.action6 (d : Device) : Device :=
  let d := d.stampPages d.step64 d.now
  (d.wr64 F.SPINE_STEP_LO_STEP (d.step64 + 1)).wr64 F.SPINE_COMMIT_TICK_LO_TICK d.now

/-! ### Action 7 -/

/-- R226, step 4, and R227: a held move whose row has changed is undone and tried again later. -/
def Device.moveAgain (d : Device) (m : Move) : Device :=
  let d := d.freeLoc (m.tier, m.place, m.line)
  let d := if m.fromT3 then d.delEntry m.obj m.row
    else match d.dirEntry m.obj m.row with
      | some e => d.setEntry { e with state := 0 }
      | none => d
  let d := d.inc F.TIER_MIG_RETRY_COUNT
  if m.why = 5 then d else d.wantRow m.obj m.row m.why

/-- R226, step 5: a held move switches. -/
def Device.moveSwitch (d : Device) (m : Move) : Device := d.switchTo m.obj m.row m.tier m.place m.line

/-- A held move may switch: the tag is as noted, and a row from T3 has no unacknowledged record (R187, R226). -/
def Device.moveHolds (d : Device) (m : Move) : Bool :=
  d.version m.obj m.row == m.v0 &&
    !(m.fromT3 && ((d.tableOfObj m.obj).map fun t => d.tailPending t m.row).getD false)

/-- The moves the fence held are checked under R226, step 4 (DEDUCED, log entry 118). -/
def Device.resolveMoves (d : Device) : Device :=
  let ms := d.tier.moves
  let d := { d with tier := { d.tier with moves := [] } }
  ms.foldl (fun d m => if d.moveHolds m then d.moveSwitch m else d.moveAgain m) d

/-- A deferred write lands in its row's current place; one to an unallocated row that finds no room waits on (DEDUCED, log entry 135). -/
def Device.landDeferred (d : Device) (w : Deferred) : Device :=
  let put := fun (d : Device) (loc : Nat × Nat × Nat) =>
    ((d.putLine (locLine loc w.line) w.mask w.bytes (w.obj, w.row)).bumpVersion w.obj w.row).noteWrite w.obj w.row
  match d.hostLoc w.obj w.row with
  | none => d
  | some loc =>
    if loc.1 ≠ 0 then put d loc
    else
      match d.allocRow w.obj w.row with
      | some d => put d (d.locate w.obj w.row)
      | none =>
        { d with spine := { d.spine with deferred := d.spine.deferred ++ [w] } }.raise F.TIER_INT_STATUS_NO_ROOM

/-- Action 7 (R50, R280): the fence lifts; page lists, held moves, then deferred writes in arrival order. -/
def Device.action7 (d : Device) (skip : Bool) (step : Nat) : Device :=
  let d := if skip then d.dropPages else d.commitLists step
  let ws := d.spine.deferred
  let d := { d with spine := { d.spine with fence := [], fenceLines := [], deferred := [] } }
  ws.foldl Device.landDeferred d.resolveMoves

/-! ### The end of a COMMIT -/

/-- R349: an event ring entry of the collectives. -/
def Device.collEvent (d : Device) (code : Nat) (body : Bytes) : Device :=
  Device.logFuel ((d.ringsOf 11).length + 1) d code 0 6 (padTo 48 body)

/-- R349: the BLOCKS entries of a member from a step on. -/
def Device.blocksEvents (d : Device) (step member : Nat) : Device :=
  let bs := (d.blocksAt step).getD member []
  let parts := max 1 (ceilDiv bs.length 9)
  (List.range parts).foldl (fun d i =>
    d.collEvent 0x0A02 (leBytes 8 step ++ leBytes 2 member ++ leBytes 1 i ++ leBytes 1 parts ++
      ((bs.drop (9 * i)).take 9).flatMap fun b => leBytes 2 b.2 ++ leBytes 1 b.1 ++ leBytes 1 0)) d

/-- R33, R349: the moves that the step's ROOT_HDR carries are reported. -/
def Device.moveEvents (d : Device) (h : Bytes) : Device :=
  (hMoves h).foldl (fun d m =>
    let d := d.collEvent 0x0A01 (leBytes 8 m.step ++ leBytes 2 m.donor ++ leBytes 2 m.receiver ++ leBytes 2 m.base ++ leBytes 1 m.log2)
    (d.blocksEvents m.step m.donor).blocksEvents m.step m.receiver) d

/-- R343, R344: a HALT of the ROOT_HDR: no repair is made, a tie or a retirement is reported, and the spine halts (DEDUCED, log entry 137). -/
def Device.haltOutcome (d : Device) (h : Bytes) : Device :=
  if !hHalt h then d
  else
    let d := { d with coll := { d.coll with orders := [], repairs := [] } }.wr F.COLL_STATUS_REPAIR_PEND 0
    let j := d.coll.job.getD {}
    let d := if hCause h = 1 then (d.raise F.COLL_INT_STATUS_DIGEST_TIE).lasting 0x0506 6 0 1 0 10 0 true
      else if u16At h 2 = d.flockIndex ∧ u8At h 4 = j.stage then
        ({ d with boot := { d.boot with deviceRetired := true } }.raise F.COLL_INT_STATUS_RETIRED).lasting 0x0507 6
          (d.rd F.COLL_RANK_RANK) 2 0 10 0 true
      else d
    d.haltReq

/-- R341, R343: the comparison judged in this step is over. -/
def Device.compareEnd (d : Device) (h : Bytes) : Device :=
  match d.coll.digStep with
  | none => d
  | some n =>
    let d := d.wr64 F.COLL_DIGEST_LAST_LO_STEP n
    let d := if hCause h = 1 then d else d.wr64 F.COLL_DIGEST_GOOD_LO_STEP n
    { d with coll := { d.coll with digStep := none, digests := [] } }.wr F.COLL_STATUS_COMPARE_BUSY 0

/-- R341: a comparison begins at this COMMIT. -/
def Device.compareBegin (d : Device) (step : Nat) : Device :=
  let d := d.wr F.COLL_DIGEST_BLOCKS_BLOCKS d.regionBlocks.length
  if !d.compares step then d
  else
    ({ d with coll := { d.coll with digStep := some step, digests := [], compareNext := false } }.wr
      F.COLL_STATUS_COMPARE_BUSY 1).takeDigests

/-- What lasts for one step only is gone with its COMMIT; messages of the steps to come, and those of R325 still open, stay. -/
def Device.clearStep (d : Device) : Device :=
  let n := d.step64
  let d : Device := (List.range Config.tiles).foldl (fun d t => d.setTile t { d.tile t with detected := [] }) d
  let d := { d with
    spine := { d.spine with
      units := [], headQ := [], batches := [], admitOk := false, wdog := 0, wdogFired := false, unitsDone := 0, recomps := 0
      recompLeft := [], rerun := [], waitGood := [], failedOn := [], energy := 0, starve := 0, defers := 0, action := 0 } }
  let d := { d with
    sparse := { d.sparse with
      bags := [], gathers := [], asked := [], answered := [], nodes := [], staged := [], wantStage := [], treesDone := []
      bwRoots := [], params := [], dense := [], faults := [], stopped := false } }
  let d := { d with
    coll := { d.coll with
      nodes := [], passed := [], root := false, votes := [], voteTicks := none, voted := false, hdr := none, refs := []
      judged := false, findings := [], tie := false, tags := [], landed := []
      seen := d.coll.seen.filter fun x => decide (n ≤ x.step + 1)
      sent := d.coll.sent.filter fun x => decide (n ≤ x.step + 1)
      bad := d.coll.bad.filter fun x => decide (n ≤ x.2.1 + 1)
      got := d.coll.got.filter fun x => decide (n ≤ x.step) || x.ty == 7 || x.ty == 0xF } }
  d.numClear

/-- R365: the telemetry entry of a step, from the device as its COMMIT leaves it (DEDUCED, log entry 134). -/
def Device.telemetry (d : Device) (skip : Bool) (step : Nat) : Bytes :=
  leBytes 8 step ++ leBytes 8 (d.rd64 F.SPINE_COMMIT_TICK_LO_TICK) ++ leBytes 4 (d.rd F.COLL_COMPUTE_TICKS_TICKS) ++
    leBytes 1 (b2n skip + 2 * b2n (d.flag F.SPINE_STATUS_MODE)) ++ leBytes 1 (d.rd F.NUM_LS_STATUS_CUR_LOG2) ++ zeroBytes 2 ++
    leBytes 8 (d.spine.energy / 256) ++ leBytes 4 d.spine.unitsDone ++ leBytes 4 d.spine.recomps ++
    leBytes 8 (d.rd64 F.SPINE_WMARK_LO_WMARK) ++ leBytes 4 d.spine.starve ++ leBytes 4 d.spine.defers ++ zeroBytes 8

/-- R365, R509, R564: telemetry, the watermark kept, and the SMU's step message. -/
def Device.reportStep (d : Device) (skip : Bool) (step : Nat) : Device :=
  let e := d.telemetry skip step
  let d : Device := (d.ringsOf 8).foldl (fun d r => d.produceOrDrop r e) d
  let n := if skip then 0 else leavesOf (d.blocksOf d.flockIndex) * d.leafSamples
  { d with
    smuPath := d.smuPath ++ [(step, !skip, n)]
    spine := { d.spine with lastWmark := d.rd64 F.SPINE_WMARK_LO_WMARK } }

/-! ### Programs taken over -/

/-- SPINE_LEAF_CFG and what a program's load sets follow it (R43, R46, R57, R85). -/
def Device.loadTags (d : Device) (ts : List (Nat × Nat × Nat)) : Device :=
  ts.foldl (fun d x =>
    let d := ((d.setReg (F.NUM_TAG_CFG x.1).key (BitVec.ofNat 32 x.2.1)).wr (F.NUM_TAG_SAT_THRESH_THRESH x.1) x.2.2).setHist x.1 []
    d.tagUpdate x.1) d

/-- R43, R46, R440: the spine runs a program. Its leaf blocks are the whole batch's for a device without a job (R316); in a job
they stay those in force. Its first base generation comes with the next COMMIT (R455). -/
def Device.runProgram (d : Device) (p : Program) : Device :=
  let d := { d with
    spine := { d.spine with prog := some p, swap := none }
    coll := { d.coll with blocks := if d.coll.job.isNone then [[(p.leafLog2, 0)]] else d.coll.blocks }
    ckpt := { d.ckpt with fresh := true } }
  let d := ((d.wr F.SPINE_LEAF_CFG_LEAF_SAMPLES p.leafSamples).wr F.SPINE_LEAF_CFG_LEAF_LOG2 p.leafLog2).wr F.SPINE_STATUS_LOADED 1
  let d := (d.wr F.NUM_LS_CFG_GROW p.grow).wr F.NUM_LS_CFG_INIT_LOG2 p.initLog2
  let d := (d.loadTags p.tags).lossStart
  (d.wr F.COLL_DIGEST_BLOCKS_BLOCKS d.regionBlocks.length).collView

/-- R440: a program loaded with SWAP takes over at the end of a COMMIT: a step admitted ahead is dropped, and the base
generation abandoned (R459). -/
def Device.swapTake (d : Device) : Device :=
  match d.spine.swap with
  | some p => (d.dropAhead.baseAbandon).runProgram p
  | none => d

/-! ### Actions 5 to 8 -/

/-- Held writes of the host and what waits for a step to end go on, and the spine is in IDLE (action 8): a pending mode, a
pending package, a base generation of a spine that stands still (R54, R459, R538). -/
def Device.toIdle (d : Device) : Device :=
  let d := { d with phase := .idle }
  let d := d.takeFirmware.swapTake.modeTake
  let d := if d.flag F.SPINE_CTL_HALT_REQ || !d.flag F.SPINE_CTL_RUN then d.dropStep else d
  (d.testGroups.heldRun).drainInbox

/-- The sketches, the Bellwether set and the drained tile's sort map, at the end of a COMMIT (R154, R157, R229). -/
def Device.endRows (d : Device) : Device := d.drainRemap.decayTables.demoteBw.installBw

/-- Digests, repairs, moves of leaf blocks and a HALT, at the end of the COMMIT of a step (R33, R341 to R349). -/
def Device.endColl (d : Device) (step : Nat) : Device :=
  let h := d.coll.hdr.getD []
  let d := d.wr F.COLL_COMPUTE_TICKS_TICKS (d.coll.readyTick - d.coll.computeTick)
  let d := ((d.moveEvents h).compareEnd h).haltOutcome h
  (d.sendRepairs step).compareBegin step

/-- Actions 5 to 8 and the end of the COMMIT, once the delta ring has taken the step's records. -/
def Device.finish (d : Device) (skip : Bool) : Device :=
  if d.deltaFull then d
  else
    let step := d.step64
    let d := if skip then d.skip5 else d.action5
    let d := (d.action6.action7 skip step).raise F.SPINE_INT_STATUS_COMMIT
    let d := (d.endRows.endColl step).reportStep skip step
    let d := (d.clearStep.movesTake).baseCommit step
    d.toIdle

/-- COMMIT goes on from where it stands (R48, R49). -/
def Device.commitRun (d : Device) (skip : Bool) : Device :=
  let d := if d.spine.action = 0 ∧ d.mayAct then (if skip then d.skip123 else d.actions123) else d
  let d := if d.phase = .commit ∧ d.spine.action = 3 then d.action4 skip else d
  if d.phase = .commit ∧ d.spine.action = 4 then d.finish skip else d

/-- COMMIT_APPLY and COMMIT_SKIP. -/
def Device.commitStep (d : Device) (skip : Bool) : Device :=
  let d := if d.mayCommit skip then d.commitEntry skip else d
  if d.commits skip then d.commitRun skip else d

end Sys2Proof.Machine
end

