-- ==== Sys2Proof/Machine/ProgramOps.lean ====
section
/-! DEFINITION. Program images: their layout (R43 to R46), the checks of a load in the order of R38, and the program they give. -/

namespace Sys2Proof.Machine

/-! ### Header and directory (R43, R44) -/

/-- UNITS. -/
def pUnits (img : Bytes) : Nat := u32At img 0x14
/-- LEAF_LOG2. -/
def pLeafLog (img : Bytes) : Nat := u8At img 0x1A

/-- R43: a header field out of range; `len` is LOAD_PROGRAM's LENGTH. -/
def pHeaderBad (img : Bytes) (len : Nat) : Bool :=
  u32At img 0 != 0x31475250 || u16At img 4 != 1 || decide (u16At img 6 < 3 ∨ 64 < u16At img 6) ||
    u32At img 0x10 != len || decide (u32At img 0x10 < 0x4000 ∨ 0x40000000 < u32At img 0x10) || u32At img 0x10 % 64 != 0 ||
    decide (pUnits img < 1 ∨ 16777216 < pUnits img) || u16At img 0x18 == 0 || decide (16 < pLeafLog img) ||
    !zeros img 0x1B 1 || u16At img 0x1C != 0x24 || !zeros img 0x1E 226

/-- The sections of a TYPE, as (offset, bytes). -/
def pSections (img : Bytes) (ty : Nat) : List (Nat × Nat) := ((erienDir img).filter (·.1 = ty)).map (·.2)

/-- The bytes of the section of a TYPE; none where the image has none. -/
def pSection (img : Bytes) (ty : Nat) : Bytes :=
  match pSections img ty with
  | [] => []
  | s :: _ => sub img s.1 s.2

/-- R44: how often a TYPE may appear, as (least, most). -/
def pTypes : List (Nat × Nat × Nat) :=
  [(1, 1, 1), (2, 1, 64), (3, 0, 1), (4, 0, 1), (5, 1, 1), (0x10, 0, 1), (0x11, 0, 1)]

/-- R44: the directory breaks a rule. -/
def pDirectoryBad (img : Bytes) (len : Nat) : Bool :=
  let dir := erienDir img
  let dirEnd := 0x2000 + 16 * u16At img 6
  let one := fun (ty : Nat) => pSection img ty
  decide (len < dirEnd) ||
    (List.range (u16At img 6)).any (fun i => !zeros img (0x2000 + 16 * i + 2) 2 || !zeros img (0x2000 + 16 * i + 12) 4) ||
    dir.any (fun s => s.2.1 % 64 != 0 || decide (len < s.2.1 + s.2.2) || overlap s.2.1 s.2.2 0 dirEnd ||
      !pTypes.any fun t => t.1 == s.1) || !apart dir ||
    pTypes.any (fun t => decide ((pSections img t.1).length < t.2.1 ∨ t.2.2 < (pSections img t.1).length)) ||
    (one 1).length != 64 * pUnits img || (one 4).length % 32 != 0 || decide (131072 < (one 4).length) ||
    (one 5).length != 32832 || ((one 0x10).length != 64 && !(pSections img 0x10).isEmpty) || (one 0x11).length % 64 != 0

/-! ### NUMERICS and TENSORS (R45, R46) -/

/-- A tag's entry of the NUMERICS section: CFG and SAT_THRESH. -/
def pTag (num : Bytes) (t : Nat) : Nat × Nat := (u32At num (64 + 8 * t), u32At num (68 + 8 * t))

/-- R46: a field of NUMERICS outside its stated range. -/
def pNumericsBad (num : Bytes) : Bool :=
  u16At num 0 == 0 || decide (24 < u8At num 2) || !zeros num 3 61 ||
    (List.range 4096).any fun t =>
      let c := (pTag num t).1
      bits c 30 23 != 0 || bits c 7 4 != 0 || bits c 22 16 == 0 || decide (64 < bits c 22 16) ||
        (bit c 31 && bits c 3 0 != 3 && bits c 3 0 != 4)

/-- A tensor entry (R45). -/
def pTensor (b : Bytes) : Tensor :=
  { kind := u8At b 0, format := u8At b 1, reg := u8At b 2, rowBytes := u32At b 4, bytes := u32At b 8, slots := u32At b 0xC
    addr := u64At b 0x10, tag := u16At b 0x18 % 4096 }

/-- The tensor entries' bytes. -/
def pTensorBytes (img : Bytes) : List Bytes := chunks 32 (pSection img 4)

/-- A live region object of ECC class 0 holds all of a range. -/
def Device.inClass0 (d : Device) (a n : Nat) : Bool := uniSpace a == 0 && d.uniOk a n && (d.obj (uniNum a)).ecc == 0

/-- R45: an entry breaks a rule of its own. -/
def Device.tensorBad (d : Device) (b : Bytes) : Bool :=
  let t := pTensor b
  !zeros b 3 1 || !zeros b 0x1A 6 || decide (4096 ≤ u16At b 0x18) ||
    match t.kind with
    | 0 => !zeros b 1 23
    | 1 => decide (4 < t.format) || decide (15 < t.reg) || t.rowBytes == 0 || t.rowBytes % 64 != 0 || !zeros b 8 16
    | 2 => t.format != 0 || t.reg != 0 || t.rowBytes != 0 || t.bytes == 0 || t.bytes % 64 != 0 || t.slots == 0 ||
        decide (65536 < t.slots) || !d.inClass0 t.addr (t.slots * t.bytes)
    | _ => true

/-- R45: the tensor table breaks a rule. -/
def Device.tensorsBad (d : Device) (img : Bytes) : Bool :=
  let bs := pTensorBytes img
  let regs := ((bs.map pTensor).filter fun t => t.kind == 1 && t.reg != 0).map (·.reg)
  bs.any d.tensorBad || regs.eraseDups.length != regs.length

/-! ### The pipeline table (R301, R302) -/

/-- The pipeline table, the default where the image has none. -/
def pPipeline (img : Bytes) : Bytes :=
  if (pSections img 0x10).isEmpty then leBytes 1 1 ++ leBytes 1 1 ++ zeroBytes 62 else pSection img 0x10

/-- GROUP_STAGE of a core group. -/
def groupStage (p : Bytes) (g : Nat) : Nat := u8At p (4 + g)

/-- R302: the table breaks a rule. -/
def pipelineBad (p : Bytes) : Bool :=
  let s := u8At p 0
  s == 0 || decide (8 < s) || u8At p 1 == 0 || decide (4 < u8At p 1) || !zeros p 2 2 || !zeros p 0xC 52 ||
    (List.range 8).any (fun g => groupStage p g != 0xFF && decide (s ≤ groupStage p g)) ||
    (List.range s).any fun x => !(List.range 8).any fun g => groupStage p g == x

/-! ### Units (R36, R38, R44, R303) -/

/-- The bits of ELIGIBLE that a kind uses (R36, R377). -/
def eligibleBits (kind : Nat) : Nat :=
  if coreKind kind then 8 else if kind = 3 ∨ kind = 4 ∨ kind = 5 then 24 else if kind = 10 then 4 else 1

/-- The groups a stage's core units may run on. -/
def stageMask (p : Bytes) (stage : Nat) : Nat :=
  ((List.range 8).map fun g => if groupStage p g = stage then 2 ^ g else 0).sum

/-- The spine engines that have a TYPE 1 ring with UNITS set (R377). -/
def Device.unitEngines (d : Device) : Nat :=
  ((List.range 4).map fun i => if (d.ringsOf 1).any fun r =>
      d.flag (F.RING_PAIR_UNITS r) && d.rd (F.RING_CFG_ENGINE r) == 24 + i then 2 ^ i else 0).sum

/-- The mask dispatch uses (R303, R377). -/
def Device.eligibleMask (d : Device) (p : Bytes) (kind stage mask : Nat) : Nat :=
  let m := mask % 2 ^ eligibleBits kind
  if coreKind kind then m &&& stageMask p stage else if kind = 10 then m &&& d.unitEngines else m

/-- A unit's successors; none where the list does not lie wholly inside the SUCCESSORS section (R44). -/
def unitSuccs (img b : Bytes) : Option (List Nat) :=
  let n := u16At b 0x20
  let o := 4 * u32At b 0x24
  if n = 0 then some []
  else if (pSections img 3).any fun s => decide (s.1 ≤ o ∧ o + 4 * n ≤ s.1 + s.2) then
    some ((chunks 4 (sub img o (4 * n))).map leNat)
  else none

/-- R38: the lowest cause of a fault that concerns a unit alone, 0 for none. -/
def Device.unitCause (d : Device) (img p b : Bytes) : Nat :=
  let kind := u16At b 0
  let stage := u8At b 0xA
  let noLeaf := bit (u8At b 3) 3
  let code := u32At b 4 * 16
  if kind = 0 ∨ 10 < kind then 1
  else if 3 < u8At b 2 then 2
  else if u8At b 3 / 16 ≠ 0 ∨ zeros b 0x22 2 = false ∨ zeros b 0x28 24 = false ∨ u32At b 0x14 / 2 ^ eligibleBits kind ≠ 0 then 3
  else if 7 < stage ∨ 3 < u8At b 0xB ∨ (coreKind kind = true ∧ (u8At p 0 ≤ stage ∨ u8At p 1 ≤ u8At b 0xB)) then 4
  else if d.eligibleMask p kind stage (u32At b 0x14) = 0 then 5
  else if 1024 < u16At b 0x20 ∨ !((pSections img 2).any fun s => decide (s.1 ≤ code ∧ code < s.1 + s.2)) then 8
  else if match unitSuccs img b with
    | none => true
    | some ss => ss.any fun u => decide (pUnits img ≤ u) then 8
  else if (noLeaf = false ∧ 2 ^ pLeafLog img ≤ u16At b 8) ∨ (noLeaf = true ∧ u16At b 8 ≠ 0) then 9
  else 0

/-- A unit as loaded. -/
def Device.unitOf (d : Device) (img p b : Bytes) : WorkUnit :=
  { kind := u16At b 0, cls := u8At b 2, flags := u8At b 3, codeOff := u32At b 4, leaf := u16At b 8, stage := u8At b 0xA
    chunk := u8At b 0xB, micro := u16At b 0xC, depCount := u16At b 0xE, energy := u32At b 0x10
    eligible := d.eligibleMask p (u16At b 0) (u8At b 0xA) (u32At b 0x14), argPtr := u64At b 0x18
    succs := (unitSuccs img b).getD [] }

/-- The units that follow some units in the graph, directly or not; `fuel` bounds the steps. -/
def reachable (us : List WorkUnit) : Nat → List Nat → List Nat → List Nat
  | 0, _, seen => seen
  | fuel + 1, front, seen =>
    let new := ((front.flatMap fun u => (us.getD u {}).succs).eraseDups).filter fun u => !seen.contains u
    if new.isEmpty then seen else reachable us fuel new (seen ++ new)

/-- A unit lies on a cycle. -/
def onCycle (us : List WorkUnit) (u : Nat) : Bool := (reachable us (us.length + 1) [u] []).contains u

/-! ### The binding table (R309, R310) -/

/-- A live DENSE object holds all of a range. -/
def Device.inDense (d : Device) (a n : Nat) : Bool := uniSpace a == 0 && d.uniOk a n && (d.obj (uniNum a)).kind == 2

/-- R310: an entry breaks a rule of its own. -/
def Device.bindingBad (d : Device) (e : Bytes) : Bool :=
  decide (4096 ≤ u16At e 0x28) || bOpt e == 3 || decide (6 < bOpt e) || decide (1 < u8At e 0x2B) || !zeros e 0x2C 20 ||
    bParam e % 64 != 0 || bBytes e % 64 != 0 || !d.inDense (bParam e) (bBytes e) || !d.inClass0 (bGrad e) (bBytes e) ||
    if bOpt e = 0 ∨ bOpt e = 6 then bState e != 0 else !d.inDense (bState e) (stateBytes e)

/-- R310: the first fault of the table: its cause and the entry. -/
def Device.bindingFault (d : Device) (es : List Bytes) : Option (Nat × Nat) :=
  (List.range es.length).findSome? fun i =>
    let e := es.getD i []
    if d.bindingBad e then some (3, i)
    else if (es.take i).any fun f => overlap (bParam e) (bBytes e) (bParam f) (bBytes f) ||
        overlap (bGrad e) (bBytes e) (bGrad f) (bBytes f) then some (7, i)
    else none

/-! ### The whole load (R38) -/

/-- No single unit. -/
def noUnit : Nat := 0xFFFFFF

/-- The program an image holds. -/
def Device.programOf (d : Device) (img : Bytes) (len : Nat) : Program :=
  let p := pPipeline img
  let num := pSection img 5
  { version := u64At img 8, length := len, leafSamples := u16At img 0x18, leafLog2 := pLeafLog img
    units := (chunks 64 (pSection img 1)).map (d.unitOf img p)
    code := (pSections img 2).map fun s => (s.1, sub img s.1 s.2)
    tensors := (pTensorBytes img).map pTensor, pipeline := p, bindings := chunks 64 (pSection img 0x11)
    grow := u16At num 0, initLog2 := u8At num 2
    tags := (List.range 4096).map fun t => (t, pTag num t)
    digest := imageDigest img len }

/-- R38: the first fault of an image in the order given there, as (cause, unit) (DEDUCED, log entry 132). -/
def Device.programFault (d : Device) (img : Bytes) (len : Nat) : Option (Nat × Nat) :=
  if pHeaderBad img len || pDirectoryBad img len || pNumericsBad (pSection img 5) || d.tensorsBad img then some (8, noUnit)
  else
    let p := pPipeline img
    if pipelineBad p then some (4, noUnit)
    else
      let bs := chunks 64 (pSection img 1)
      match (List.range bs.length).findSome? fun u =>
          let c := d.unitCause img p (bs.getD u [])
          if c = 0 then none else some (c, u) with
      | some f => some f
      | none =>
        let us := bs.map (d.unitOf img p)
        let named := us.flatMap (·.succs)
        match (List.range us.length).find? fun u => (us.getD u {}).depCount != (named.filter (· = u)).length with
        | some u => some (8, u)
        | none =>
          match (List.range us.length).find? (onCycle us) with
          | some u => some (6, u)
          | none => d.bindingFault (chunks 64 (pSection img 0x11))

end Sys2Proof.Machine
end

