-- ==== Sys2Proof/Machine/Program.lean ====
section
/-! DEFINITION. The mailbox commands LOAD_PROGRAM and UNLOAD_PROGRAM (R38, R439, R440, R534). -/

namespace Sys2Proof.Machine

/-- The output of LOAD_PROGRAM: UNITS and a copy of SPINE_LOAD_ERR (R440). -/
def Device.loadOut (d : Device) (units : Nat) : Bytes := leBytes 4 units ++ leBytes 4 (d.reg F.SPINE_LOAD_ERR.key).toNat

/-- SPINE_LOAD_ERR. -/
def Device.loadErr (d : Device) (cause unit : Nat) : Device :=
  (d.setReg F.SPINE_LOAD_ERR.key 0 |>.wr F.SPINE_LOAD_ERR_CAUSE cause).wr F.SPINE_LOAD_ERR_UNIT unit

/-- R38: a refused program; the one in force stays. -/
def Device.loadRefused (d : Device) (cause unit units : Nat) : Device :=
  let d := (d.loadErr cause unit).raise F.SPINE_INT_STATUS_LOAD_FAIL
  d.mboxEnd 8 (d.loadOut units)

/-- A sound program held for the swap at the end of the step (R443). -/
def Device.holdSwap (d : Device) (p : Program) : Device := { d with spine := { d.spine with swap := some p } }

/-- A sound image: it runs from now on, or with SWAP from the next end of COMMIT (R440). -/
def Device.loadSound (d : Device) (p : Program) (swap : Bool) : Device :=
  let d := if swap then (d.loadErr 0 0).holdSwap p else (d.loadErr 0 0).runProgram p
  d.mboxEnd 0 (d.loadOut p.units.length)

/-- R534, R440: the image is verified, then checked. -/
def Device.loadImage (d : Device) (perm : Perm) (img : Bytes) (len : Nat) (swap : Bool) : Device :=
  if !verifyBlock perm img (imageDigest img len) then
    ((d.inc F.SEC_VERIFY_FAIL).raise F.SEC_INT_STATUS_VERIFY_FAIL).mboxEnd 5 (d.loadOut 0)
  else
    match d.programFault img len with
    | some f => d.loadRefused f.1 f.2 (pUnits img)
    | none => d.loadSound (d.programOf img len) swap

/-- R440: LOAD_PROGRAM with its input of 16 bytes. -/
def Device.loadProgram (d : Device) (perm : Perm) (readFails : Bool) : Device :=
  let b := d.payload 16
  let len := u32At b 8
  let swap := u8At b 0xC == 1
  if 1 < u8At b 0xC ∨ zeros b 0xD 3 = false ∨ len % 64 ≠ 0 then d.mboxEnd 3 []
  else if !d.domOn domSpine || decide (d.phase = .halted) ||
      (!swap && (decide (d.phase ≠ .idle) || d.flag F.SPINE_CTL_RUN)) then d.mboxEnd 4 []
  else if swap && d.spine.swap.isSome then d.mboxEnd 10 []
  else if !(decide (u64At b 0 < 2 ^ 52) && d.inWindow (u64At b 0) len) then d.mboxEnd 6 []
  else
    let d := d.d2hSend false (u64At b 0) len
    if readFails then d.mboxEnd 7 [] else d.loadImage perm (d.readKey len (u64At b 0)) len swap

/-- R439, R440: mailbox LOAD_PROGRAM, opcode 0x0020 (DEDUCED, log entry 133). -/
def execLoadProgram (value : Nat) (hostWrites : List Host.Cell) (readFails : Bool) (s : State) : Result :=
  s.onDev fun d => (d.hostWrites hostWrites).mbox value 0x20 (· == 16) fun d => d.loadProgram s.perm readFails

/-- R439: the program is discarded. -/
def Device.unload (d : Device) : Device :=
  let d := { d with
    spine := { d.spine with prog := none, swap := none }
    coll := { d.coll with blocks := if d.coll.job.isNone then [] else d.coll.blocks } }
  ((d.setReg F.SPINE_LEAF_CFG.key 0).wr F.SPINE_STATUS_LOADED 0).collView

/-- UNLOAD_PROGRAM answered (R439): RESULT 4 outside IDLE and while RUN is set. -/
def Device.unloadReply (d : Device) : Device :=
  if d.phase ≠ .idle ∨ d.flag F.SPINE_CTL_RUN = true then d.mboxEnd 4 [] else d.unload.mboxEnd 0 []

/-- R439: mailbox UNLOAD_PROGRAM, opcode 0x0021, in IDLE with RUN 0. -/
def execUnloadProgram (value : Nat) (s : State) : Result :=
  s.onDev fun d => d.mbox value 0x21 (· == 0) fun d => d.unloadReply

end Sys2Proof.Machine
end

