-- ==== Sys2Proof/Machine/Rings.lean ====
section
/-! DEFINITION. The commands of the ring table (R355 to R358, R363, R374, R453). -/

namespace Sys2Proof.Machine

/-- R453: the delta ring's consumer has passed COMMIT or SKIP records: D takes the STEP of the last of them. -/
def Device.durable (d : Device) (old new : Nat) : Device :=
  let gone := d.ckpt.marks.takeWhile fun m => decide ((m.1 + 2 ^ 32 - old) % 2 ^ 32 ≤ (new + 2 ^ 32 - old) % 2 ^ 32)
  match gone.getLast? with
  | none => d
  | some m => { d with ckpt := { d.ckpt with marks := d.ckpt.marks.drop gone.length, durable := true } }.wr64 F.CKPT_DURABLE_LO_VALUE m.2

/-- R355: a write of a pointer that would move it backwards, or leave the producer more than the ring's size ahead. -/
def Device.ptrBad (d : Device) (r : Nat) (producer : Bool) (new : Nat) : Bool :=
  let p := d.rd (F.RING_PROD_PTR r)
  let c := d.rd (F.RING_CONS_PTR r)
  let old := if producer then p else c
  let lead := if producer then new + 2 ^ 32 - c else p + 2 ^ 32 - new
  decide (2 ^ 31 ≤ (new + 2 ^ 32 - old) % 2 ^ 32) || decide (2 ^ d.rd (F.RING_CFG_LOG2_ENTRIES r) < lead % 2 ^ 32)

/-- R355: a write of RING_PROD or RING_CONS: of a pointer the T24 owns it is ignored and logged; one that breaks the ring's
bounds is ignored, logged, counted and flagged. -/
def Device.ptrWrite (d : Device) (r : Nat) (producer : Bool) (value : Nat) : Device :=
  let f := if producer then F.RING_PROD_PTR r else F.RING_CONS_PTR r
  d.access f.key fun d =>
    let ty := d.rd (F.RING_CFG_TYPE r)
    let v := value % 2 ^ 32
    if !(if producer then hostProduces ty else hostConsumes ty) then d.logAccess f.key
    else if d.ptrBad r producer v then
      ((d.inc (F.RING_DROP_COUNT r)).wr (F.RING_STATUS_PTR_ERR r) 1).logAccess f.key
    else
      let old := d.rd f
      let d := (d.wr f v).ringFlags r
      if !producer ∧ r = d.rd F.CKPT_CFG_DELTA_RING then d.durable old v else d

/-- R355: a host write of RING_PROD, after what the host has written into its memory. -/
def execRingProdWrite (ring value : Nat) (hostWrites : List Host.Cell) (s : State) : Result :=
  s.onDev fun d =>
    if Config.rings ≤ ring then d.hostWrites hostWrites else (d.hostWrites hostWrites).ptrWrite ring true value

/-- R355: a host write of RING_CONS. -/
def execRingConsWrite (ring value : Nat) (s : State) : Result :=
  s.onDev fun d => if Config.rings ≤ ring then d else d.ptrWrite ring false value

/-- R374, R375: a host write of RING_CTL; one that clears ENABLE of a channel's ring outside IDLE is ignored and logged. -/
def execRingCtlWrite (ring value : Nat) (s : State) : Result :=
  s.onDev fun d =>
    if Config.rings ≤ ring then d
    else
      let off := (F.RING_CTL ring).key
      d.access off fun d =>
        let ty := d.rd (F.RING_CFG_TYPE ring)
        let h := d.chan (d.rd (F.RING_CFG_ENGINE ring)) (d.rd (F.RING_CFG_CHANNEL ring))
        if (ty = 1 ∨ ty = 2) ∧ d.flag (F.RING_CTL_ENABLE ring) ∧ bit value 0 = false ∧ h.st ≠ .idle then d.logAccess off
        else d.setReg off (BitVec.ofNat 32 (value % 8))

/-- R358: a ring's interrupt moderation starts anew. -/
def Device.modDone (d : Device) (ring : Nat) : Device := d.setRing ring { d.ring ring with since := 0, timing := false }

/-- R358: RING_MOD.CLK clk have passed since the first entry without a message. -/
def execRingModTimer (ring : Nat) (s : State) : Result :=
  s.onDev fun d =>
    let x := d.ring ring
    if !(x.timing && d.flag (F.RING_CTL_INT_EN ring) && d.rd (F.RING_MOD_CLK ring) != 0) then d
    else (d.modDone ring).sendMsix (d.rd (F.RING_CFG_VECTOR ring))

/-- The oldest entry that waits for a ring is written, where the ring has room (R357). -/
def Device.ringResume (d : Device) (r : Nat) : Device :=
  match (d.ring r).waiting with
  | [] => d
  | e :: rest =>
    if !d.ringRoom r then d
    else
      let p := d.ringPut r e
      let d := if p.2.1 then p.1.setRing r { p.1.ring r with waiting := rest } else p.1
      if p.2.2 then d.ringAccErr r else d

/-- R357: a producer that waits writes its entry once room returns. -/
def execRingFullResume (ring : Nat) (s : State) : Result :=
  s.onDev fun d => d.ringResume ring

/-- R357: an entry that could not be written is tried again; `ok` says whether the write reaches its memory. -/
def execRingWriteRetry (ring : Nat) (ok : Bool) (s : State) : Result :=
  s.onDev fun d =>
    if ok then d.ringResume ring
    else if (d.ring ring).waiting.isEmpty || !d.ringRoom ring then d
    else d.ringAccErr ring

/-- R363, R406: the T24 takes the entry at a fabric send ring's head and sends it to rank DST. -/
def execFabricSendEntry (ring : Nat) (s : State) : Result :=
  s.onDev fun d =>
    if d.rd (F.RING_CFG_TYPE ring) ≠ 9 then d
    else
      match d.ringHead ring with
      | none => d
      | some e => (d.sendMsg (u16At e 0 % 4096) 1 e).ringConsume ring

end Sys2Proof.Machine
end

