-- ==== Sys2Proof/Machine/Sparse.lean ====
section
/-! DEFINITION. Units and events of the sparse update (R163 to R197). -/

namespace Sys2Proof.Machine

/-- R163, R164: the sort-and-scan unit a tile holds. One without BACKWARD has nothing left to do: its keys were sorted in
ADMIT (R144). -/
def execSortScanUnit (tile : Nat) (s : State) : Result :=
  s.onDev fun d =>
    match d.unitAt (placeTile tile) with
    | none => d
    | some u =>
      if (d.workUnit u).kind ≠ 4 then d
      else if !bit (d.workUnit u).flags 0 then d.unitEnd u
      else
        match d.unitRead (d.workUnit u).argPtr 32 with
        | .detected t l => d.detected t l (.unit u)
        | .bad => d.holdTileUnit u tile 0 (d.workUnit u).argPtr
        | .bytes a => d.sortScan u tile a

/-- R173: the optimiser staging unit a tile holds; it ends once its reservation is made. -/
def execOptStagingUnit (tile : Nat) (s : State) : Result :=
  s.onDev fun d =>
    match d.unitAt (placeTile tile) with
    | none => d
    | some u =>
      if (d.workUnit u).kind ≠ 5 then d
      else
        let r := d.stageTry tile
        if r.2 then r.1.unitEnd u else r.1

/-- R173: a reservation that waited is made, once there is room. -/
def execStagingReserve (tile : Nat) (s : State) : Result :=
  s.onDev fun d =>
    if !d.sparse.wantStage.contains tile then d
    else
      let r := d.stageTry tile
      match r.2, d.unitAt (placeTile tile) with
      | true, some u => if (d.workUnit u).kind = 5 then r.1.unitEnd u else r.1
      | _, _ => r.1

/-- R169: the trees of a tile's owned rows, in REDUCE, once every member's ROW_GRAD set is complete. -/
def execOwnerRowTrees (tile : Nat) (s : State) : Result :=
  s.onDev fun d =>
    if !(d.phase = .reduce && !d.sparse.stopped && !d.sparse.treesDone.contains tile && decide (tile < Config.tiles) &&
        d.others.all fun m => d.setComplete 5 d.step64 (d.memberRank m)) then d
    else
      let r := d.stageTry tile
      if r.2 then r.1.formRoots tile else r.1

/-- R191: which of the tail write rings the acknowledgement ring `ring` answers. -/
def Device.tailIndex (d : Device) (ring : Nat) : Option Nat :=
  (List.range d.tailRings.length).find? fun i => d.rd (F.RING_PAIR_PAIR (d.tailRings.getD i 0)) == ring

/-- R196: the oldest tail gather that has waited OPT_TAIL_ACK_TIMEOUT ticks. -/
def Device.tailLate (d : Device) : Option Gather :=
  d.sparse.gathers.find? fun g => g.src == 1 && !g.ready && decide (d.rd F.OPT_TAIL_ACK_TIMEOUT_LIMIT ≤ g.waited)

/-- R191, R196: the T24 takes the acknowledgement at the head of a tail acknowledgement ring. A failed one leaves its step
unacknowledged. -/
def execTailAck (ring : Nat) (s : State) : Result :=
  s.onDev fun d =>
    match d.ringHead ring, d.tailIndex ring with
    | some e, some i =>
      if d.rd (F.RING_CFG_TYPE ring) ≠ 6 then d
      else
        let d := d.ringConsume ring
        if u8At e 1 = 0 then d.tailAcked i (u64At e 8)
        else ((d.raise F.OPT_INT_STATUS_TAIL_ACK_FAIL).lasting 0x0503 3 ring (u8At e 1) 0 2 ring true).haltReq
    | _, _ => d

/-- R196: a gather has waited OPT_TAIL_ACK_TIMEOUT ticks. The wait goes on. -/
def execTailAckTimeout (s : State) : Result :=
  s.onDev fun d =>
    match d.tailLate with
    | none => d
    | some g =>
      let d := d.setGather { g with waited := 0 }
      (d.raise F.OPT_INT_STATUS_TAIL_TIMEOUT).lasting 0x0503 3 (d.tailRingOf g.table g.row) 0 g.row 2 (d.tailRingOf g.table g.row)

/-- OPT_TAIL_CTL.DRAIN is set, and the tail is to be drained. -/
def Device.tailDrainAsk (d : Device) : Device :=
  { d with sparse := { d.sparse with tailDrain := true } }.wr F.OPT_TAIL_CTL_DRAIN 1

/-- R197: a write of 1 to OPT_TAIL_CTL.DRAIN, in IDLE. -/
def execTailDrain (s : State) : Result :=
  s.onDev fun d => d.access F.OPT_TAIL_CTL.key fun d =>
    if d.phase ≠ .idle then d
    else d.tailDrainAsk.tailDrainEnd

end Sys2Proof.Machine
end

