-- ==== Sys2Proof/Machine/Spine.lean ====
section
/-! DEFINITION. The step's commands (R28 to R57): ADMIT, COMPUTE, REDUCE, DECIDE, COMMIT, the watchdog and the writes of SPINE_CTL and
SPINE_STEP. A command that is not due leaves the state as it is (DESIGN CHOICE, log entry 4). -/

namespace Sys2Proof.Machine

/-- R29, R32, R139, R274, R276, R362, R454: IDLE to ADMIT; in ADMIT, the checks again while they fail. -/
def execStepAdmit (s : State) : Result :=
  s.onDev fun d =>
    let d := d.modeTake
    if d.mayAdmit && (d.spine.ahead.isSome || d.heads.isSome) then d.stepAdmit
    else if d.phase = .admitting ∧ d.spine.admitOk = false then d.admitCheck
    else d

/-- R30: the next step is admitted ahead. -/
def execAdmitAhead (s : State) : Result := s.onDev fun d => if d.mayAhead then d.admitAhead else d

/-- R31, R34, R145: ADMIT to COMPUTE. -/
def execComputeEntry (s : State) : Result :=
  s.onDev fun d =>
    let d := if d.phase = .admitting then d.installBw.takeDigests else d
    if d.mayCompute then d.computeEntry else d

/-- R28, R156, R332: COMPUTE to REDUCE. -/
def execPhaseReduce (s : State) : Result := s.onDev fun d => if d.mayReduce then d.reduceEntry else d

/-- R47, R180: REDUCE to DECIDE. -/
def execPhaseDecide (s : State) : Result := s.onDev fun d => if d.mayDecide then d.decideEntry else d

/-- R48, R52: the COMMIT of an applied step; `faulty` is a lasting fault in it. -/
def execCommitApply (faulty : Bool) (s : State) : Result :=
  s.onDev fun d =>
    if faulty && (d.mayCommit false || d.commits false) then d.commitFault else d.commitStep false

/-- R49: the COMMIT of a skipped step. -/
def execCommitSkip (s : State) : Result := s.onDev fun d => d.commitStep true

/-- R53: the step watchdog reaches its limit, once in a step (DEDUCED, log entry 136). -/
def execStepWatchdog (s : State) : Result :=
  s.onDev fun d =>
    if !d.inStep || d.spine.wdogFired || decide (d.spine.wdog < d.rd F.SPINE_WDOG_LIMIT) then d
    else
      let left := ((List.range d.unitCount).filter fun u => d.unitSt u != .done).length
      let d := { d with spine := { d.spine with wdogFired := true } }.raise F.SPINE_INT_STATUS_WDOG
      d.lasting 0x0500 0 d.phase.code 0 left 0 0

/-- R57: a write of SPINE_CTL.RUN. -/
def execSpineRun (run : Bool) (s : State) : Result :=
  s.onDev fun d => d.access F.SPINE_CTL.key fun d =>
    let d := d.wr F.SPINE_CTL_RUN (b2n run)
    if run then d else d.dropStep.modeTake.takeIfIdle

/-- R57: a write of SPINE_CTL.HALT_REQ. -/
def execSpineHaltReq (halt : Bool) (s : State) : Result :=
  s.onDev fun d => d.access F.SPINE_CTL.key fun d =>
    let d := d.wr F.SPINE_CTL_HALT_REQ (b2n halt)
    if halt then d.dropStep.modeTake else d

/-- R54: a write of SPINE_CTL.MODE_REQ. -/
def execSpineModeReq (recovery : Bool) (s : State) : Result :=
  s.onDev fun d => d.access F.SPINE_CTL.key fun d => d.modeWrite recovery

/-- R55, R232: recovery mode is entered, or refused, once nothing is left to wait for. -/
def execRecoveryModeEnter (s : State) : Result := s.onDev fun d => d.modeTake.recoveryTry

/-- R57: a write of SPINE_STEP, in IDLE with RUN 0; any other is ignored and logged. -/
def execSpineStepWrite (high : Bool) (value : Nat) (s : State) : Result :=
  let f := if high then F.SPINE_STEP_HI_STEP else F.SPINE_STEP_LO_STEP
  s.onDev fun d => d.access f.key fun d =>
    if d.phase = .idle ∧ d.flag F.SPINE_CTL_RUN = false then d.wr f value else d.logAccess f.key

end Sys2Proof.Machine
end

