-- ==== Sys2Proof/Machine/Dispatch.lean ====
section
/-! DEFINITION. The meaning of every command of the table: one arm each. -/

namespace Sys2Proof.Machine

def exec (i : Instr) (s : State) : Host.Outcome State Fault Refusal :=
  match i with
  | .registerWrite off bytes value hw => Sys2Proof.Machine.execRegisterWrite off bytes value hw s
  | .lowWordRead requester off => Sys2Proof.Machine.execLowWordRead requester off s
  | .readToClear requester off hw => Sys2Proof.Machine.execReadToClear requester off hw s
  | .intEnWrite off value => Sys2Proof.Machine.execIntEnWrite off value s
  | .msixUnmask vector => Sys2Proof.Machine.execMsixUnmask vector s
  | .stepAdmit => Sys2Proof.Machine.execStepAdmit s
  | .admitAhead => Sys2Proof.Machine.execAdmitAhead s
  | .computeEntry => Sys2Proof.Machine.execComputeEntry s
  | .phaseReduce => Sys2Proof.Machine.execPhaseReduce s
  | .phaseDecide => Sys2Proof.Machine.execPhaseDecide s
  | .commitApply faulty => Sys2Proof.Machine.execCommitApply faulty s
  | .commitSkip => Sys2Proof.Machine.execCommitSkip s
  | .stepWatchdog => Sys2Proof.Machine.execStepWatchdog s
  | .spineRun run => Sys2Proof.Machine.execSpineRun run s
  | .spineHaltReq halt => Sys2Proof.Machine.execSpineHaltReq halt s
  | .spineModeReq recovery => Sys2Proof.Machine.execSpineModeReq recovery s
  | .recoveryModeEnter => Sys2Proof.Machine.execRecoveryModeEnter s
  | .spineStepWrite high value => Sys2Proof.Machine.execSpineStepWrite high value s
  | .lsLoad => Sys2Proof.Machine.execLsLoad s
  | .numTagCfgWrite off value => Sys2Proof.Machine.execNumTagCfgWrite off value s
  | .coreTakeUnit core => Sys2Proof.Machine.execCoreTakeUnit core s
  | .tileTakeUnit tile => Sys2Proof.Machine.execTileTakeUnit tile s
  | .unitFinish unit => Sys2Proof.Machine.execUnitFinish unit s
  | .nop core => Sys2Proof.Machine.execNop core s
  | .endUnit core => Sys2Proof.Machine.execEndUnit core s
  | .ldodr core => Sys2Proof.Machine.execLdodr core s
  | .seta core => Sys2Proof.Machine.execSeta core s
  | .adda core => Sys2Proof.Machine.execAdda core s
  | .setc core => Sys2Proof.Machine.execSetc core s
  | .xfer core => Sys2Proof.Machine.execXfer core s
  | .xferComplete core index fails => Sys2Proof.Machine.execXferComplete core index fails s
  | .addodr core => Sys2Proof.Machine.execAddodr core s
  | .loopEnd core => Sys2Proof.Machine.execLoopEnd core s
  | .fence core => Sys2Proof.Machine.execFence core s
  | .mma core corrected => Sys2Proof.Machine.execMma core corrected s
  | .mmaComplete core => Sys2Proof.Machine.execMmaComplete core s
  | .vchain core corrected => Sys2Proof.Machine.execVchain core corrected s
  | .vchainComplete core => Sys2Proof.Machine.execVchainComplete core s
  | .s12chain core => Sys2Proof.Machine.execS12chain core s
  | .s12chainComplete core => Sys2Proof.Machine.execS12chainComplete core s
  | .coreHwError core => Sys2Proof.Machine.execCoreHwError core s
  | .coreSelftestEnd core pass => Sys2Proof.Machine.execCoreSelftestEnd core pass s
  | .selftestReq core => Sys2Proof.Machine.execSelftestReq core s
  | .coreRequeue core => Sys2Proof.Machine.execCoreRequeue core s
  | .coreDrain core drain => Sys2Proof.Machine.execCoreDrain core drain s
  | .tableEnable table hostWrites => Sys2Proof.Machine.execTableEnable table hostWrites s
  | .tableDisable table => Sys2Proof.Machine.execTableDisable table s
  | .tableClearCounters table => Sys2Proof.Machine.execTableClearCounters table s
  | .lookupUnit tile => Sys2Proof.Machine.execLookupUnit tile s
  | .sortScanUnit tile => Sys2Proof.Machine.execSortScanUnit tile s
  | .optStagingUnit tile => Sys2Proof.Machine.execOptStagingUnit tile s
  | .stagingReserve tile => Sys2Proof.Machine.execStagingReserve tile s
  | .ownerRowTrees tile => Sys2Proof.Machine.execOwnerRowTrees tile s
  | .tailAck ring => Sys2Proof.Machine.execTailAck ring s
  | .tailAckTimeout => Sys2Proof.Machine.execTailAckTimeout s
  | .tailDrain => Sys2Proof.Machine.execTailDrain s
  | .createObj hostWrites => Sys2Proof.Machine.execCreateObj hostWrites s
  | .destroyObj => Sys2Proof.Machine.execDestroyObj s
  | .setPolicy hostWrites => Sys2Proof.Machine.execSetPolicy hostWrites s
  | .locate => Sys2Proof.Machine.execLocate s
  | .drainTile tile => Sys2Proof.Machine.execDrainTile tile s
  | .drainCarrier carrier => Sys2Proof.Machine.execDrainCarrier carrier s
  | .drainComplete noRoom => Sys2Proof.Machine.execDrainComplete noRoom s
  | .hotnessDecay obj => Sys2Proof.Machine.execHotnessDecay obj s
  | .rowMove obj row bad => Sys2Proof.Machine.execRowMove obj row bad s
  | .memRead tile line reader cls waited bad1 bad2 => Sys2Proof.Machine.execMemRead tile line reader cls waited bad1 bad2 s
  | .memWrite tile line data keepPoison cls waited => Sys2Proof.Machine.execMemWrite tile line data keepPoison cls waited s
  | .memPartialWrite tile line mask data bad => Sys2Proof.Machine.execMemPartialWrite tile line mask data bad s
  | .accumulateWrite tile line data first leaf unitDma => Sys2Proof.Machine.execAccumulateWrite tile line data first leaf unitDma s
  | .wcbAgeFlush tile bad => Sys2Proof.Machine.execWcbAgeFlush tile bad s
  | .scrubPassStart tile => Sys2Proof.Machine.execScrubPassStart tile s
  | .patrolRead tile bad1 bad2 => Sys2Proof.Machine.execPatrolRead tile bad1 bad2 s
  | .scrubNow tile => Sys2Proof.Machine.execScrubNow tile s
  | .spareReq tile die => Sys2Proof.Machine.execSpareReq tile die s
  | .spareCopyDone tile lost => Sys2Proof.Machine.execSpareCopyDone tile lost s
  | .stackIfError tile channel lasting => Sys2Proof.Machine.execStackIfError tile channel lasting s
  | .bankRefresh tile channel => Sys2Proof.Machine.execBankRefresh tile channel s
  | .stackTempSample tile readings => Sys2Proof.Machine.execStackTempSample tile readings s
  | .enableSpace space hostWrites => Sys2Proof.Machine.execEnableSpace space hostWrites s
  | .disableSpace space => Sys2Proof.Machine.execDisableSpace space s
  | .freeList space list => Sys2Proof.Machine.execFreeList space list s
  | .freeAll space => Sys2Proof.Machine.execFreeAll space s
  | .histForward core => Sys2Proof.Machine.execHistForward core s
  | .histBackward core => Sys2Proof.Machine.execHistBackward core s
  | .writePages core => Sys2Proof.Machine.execWritePages core s
  | .collectiveStepUnit unit => Sys2Proof.Machine.execCollectiveStepUnit unit s
  | .commitUnit unit => Sys2Proof.Machine.execCommitUnit unit s
  | .dmaTransferUnit engine => Sys2Proof.Machine.execDmaTransferUnit engine s
  | .join hostWrites => Sys2Proof.Machine.execJoin hostWrites s
  | .leave => Sys2Proof.Machine.execLeave s
  | .compareNext => Sys2Proof.Machine.execCompareNext s
  | .resetWindows => Sys2Proof.Machine.execResetWindows s
  | .joinMsg msg => Sys2Proof.Machine.execJoinMsg msg s
  | .joinOutcome msg => Sys2Proof.Machine.execJoinOutcome msg s
  | .joinTimeout => Sys2Proof.Machine.execJoinTimeout s
  | .node msg => Sys2Proof.Machine.execNode msg s
  | .nodeHdr msg => Sys2Proof.Machine.execNodeHdr msg s
  | .rowReq msg => Sys2Proof.Machine.execRowReq msg s
  | .rowData msg => Sys2Proof.Machine.execRowData msg s
  | .rowGrad msg => Sys2Proof.Machine.execRowGrad msg s
  | .bwChange msg => Sys2Proof.Machine.execBwChange msg s
  | .bwRecord msg => Sys2Proof.Machine.execBwRecord msg s
  | .shardReq msg => Sys2Proof.Machine.execShardReq msg s
  | .shardData msg => Sys2Proof.Machine.execShardData msg s
  | .stageMsg msg => Sys2Proof.Machine.execStageMsg msg s
  | .voteSend => Sys2Proof.Machine.execVoteSend s
  | .vote msg => Sys2Proof.Machine.execVote msg s
  | .rootHdr msg => Sys2Proof.Machine.execRootHdr msg s
  | .voteTimeout => Sys2Proof.Machine.execVoteTimeout s
  | .digest msg => Sys2Proof.Machine.execDigest msg s
  | .repairOrder msg => Sys2Proof.Machine.execRepairOrder msg s
  | .repair msg => Sys2Proof.Machine.execRepair msg s
  | .nack msg => Sys2Proof.Machine.execNack msg s
  | .ringProdWrite ring value hostWrites => Sys2Proof.Machine.execRingProdWrite ring value hostWrites s
  | .ringConsWrite ring value => Sys2Proof.Machine.execRingConsWrite ring value s
  | .ringCtlWrite ring value => Sys2Proof.Machine.execRingCtlWrite ring value s
  | .ringModTimer ring => Sys2Proof.Machine.execRingModTimer ring s
  | .ringFullResume ring => Sys2Proof.Machine.execRingFullResume ring s
  | .ringWriteRetry ring ok => Sys2Proof.Machine.execRingWriteRetry ring ok s
  | .fabricSendEntry ring => Sys2Proof.Machine.execFabricSendEntry ring s
  | .chainStart engine channel => Sys2Proof.Machine.execChainStart engine channel s
  | .dmaCopy engine channel fail => Sys2Proof.Machine.execDmaCopy engine channel fail s
  | .dmaAccumulate engine channel fail => Sys2Proof.Machine.execDmaAccumulate engine channel fail s
  | .dmaFill engine channel fail => Sys2Proof.Machine.execDmaFill engine channel fail s
  | .pageWalk engine channel fail => Sys2Proof.Machine.execPageWalk engine channel fail s
  | .chainComplete engine channel => Sys2Proof.Machine.execChainComplete engine channel s
  | .dmaLineRetry engine channel ok => Sys2Proof.Machine.execDmaLineRetry engine channel ok s
  | .dmaPause engine value => Sys2Proof.Machine.execDmaPause engine value s
  | .dmaResume engine value => Sys2Proof.Machine.execDmaResume engine value s
  | .dmaAbort engine value => Sys2Proof.Machine.execDmaAbort engine value s
  | .laserInterlockOpen => Sys2Proof.Machine.execLaserInterlockOpen s
  | .interlockHoldDone => Sys2Proof.Machine.execInterlockHoldDone s
  | .laneGroupDark link => Sys2Proof.Machine.execLaneGroupDark link s
  | .openFibreProbe link => Sys2Proof.Machine.execOpenFibreProbe link s
  | .probeEnd link light => Sys2Proof.Machine.execProbeEnd link light s
  | .feedOverPower engine => Sys2Proof.Machine.execFeedOverPower engine s
  | .clearOver engine => Sys2Proof.Machine.execClearOver engine s
  | .feedFail engine feed => Sys2Proof.Machine.execFeedFail engine feed s
  | .feedOffWrite engine value => Sys2Proof.Machine.execFeedOffWrite engine value s
  | .feedWindowTimeout engine feed => Sys2Proof.Machine.execFeedWindowTimeout engine feed s
  | .dataFlit link flit crcGood => Sys2Proof.Machine.execDataFlit link flit crcGood s
  | .idleFlit link ack crcGood => Sys2Proof.Machine.execIdleFlit link ack crcGood s
  | .laneCheck link errors => Sys2Proof.Machine.execLaneCheck link errors s
  | .nak link seq => Sys2Proof.Machine.execNak link seq s
  | .credit link vc count => Sys2Proof.Machine.execCredit link vc count s
  | .laneSwitchReq link lane => Sys2Proof.Machine.execLaneSwitchReq link lane s
  | .laneSwitchAck link lane => Sys2Proof.Machine.execLaneSwitchAck link lane s
  | .spareDeskewed link => Sys2Proof.Machine.execSpareDeskewed link s
  | .retrainReq link width => Sys2Proof.Machine.execRetrainReq link width s
  | .replayTimeout link => Sys2Proof.Machine.execReplayTimeout link s
  | .linkRetrainDone link ok faultRemains => Sys2Proof.Machine.execLinkRetrainDone link ok faultRemains s
  | .linkOutage link => Sys2Proof.Machine.execLinkOutage link s
  | .lightReturn link => Sys2Proof.Machine.execLightReturn link s
  | .linkTrained link => Sys2Proof.Machine.execLinkTrained link s
  | .reasmTimeout plane src => Sys2Proof.Machine.execReasmTimeout plane src s
  | .planeDisable plane disable => Sys2Proof.Machine.execPlaneDisable plane disable s
  | .planeRetrain plane => Sys2Proof.Machine.execPlaneRetrain plane s
  | .planeMargin plane => Sys2Proof.Machine.execPlaneMargin plane s
  | .carrierMargin carrier => Sys2Proof.Machine.execCarrierMargin carrier s
  | .spareMarginDone link eyeW eyeH => Sys2Proof.Machine.execSpareMarginDone link eyeW eyeH s
  | .carrierRetrain carrier => Sys2Proof.Machine.execCarrierRetrain carrier s
  | .accept carrier => Sys2Proof.Machine.execAccept carrier s
  | .readData carrier tag status => Sys2Proof.Machine.execReadData carrier tag status s
  | .writeDone carrier tag status => Sys2Proof.Machine.execWriteDone carrier tag status s
  | .quiesced carrier => Sys2Proof.Machine.execQuiesced carrier s
  | .hello carrier line => Sys2Proof.Machine.execHello carrier line s
  | .tagTimeout carrier tag => Sys2Proof.Machine.execTagTimeout carrier tag s
  | .carrierOutageLimit carrier => Sys2Proof.Machine.execCarrierOutageLimit carrier s
  | .hostLinkUp speed width => Sys2Proof.Machine.execHostLinkUp speed width s
  | .hostLinkDown cause => Sys2Proof.Machine.execHostLinkDown cause s
  | .hostRetrainTimer => Sys2Proof.Machine.execHostRetrainTimer s
  | .hostRetrain => Sys2Proof.Machine.execHostRetrain s
  | .cxlReset => Sys2Proof.Machine.execCxlReset s
  | .memRd hpa => Sys2Proof.Machine.execMemRd hpa s
  | .memWr hpa data => Sys2Proof.Machine.execMemWr hpa data s
  | .memWrPtl hpa mask data => Sys2Proof.Machine.execMemWrPtl hpa mask data s
  | .memInv hpa => Sys2Proof.Machine.execMemInv hpa s
  | .h2dSnoop line => Sys2Proof.Machine.execH2dSnoop line s
  | .d2hResponse line => Sys2Proof.Machine.execD2hResponse line s
  | .cplTimeout line => Sys2Proof.Machine.execCplTimeout line s
  | .birsp line => Sys2Proof.Machine.execBirsp line s
  | .biTimeout line => Sys2Proof.Machine.execBiTimeout line s
  | .hdmCommit base size ways => Sys2Proof.Machine.execHdmCommit base size ways s
  | .doeObject object => Sys2Proof.Machine.execDoeObject object s
  | .ideFail stream => Sys2Proof.Machine.execIdeFail stream s
  | .identify value => Sys2Proof.Machine.execIdentify value s
  | .setTick value => Sys2Proof.Machine.execSetTick value s
  | .loadProgram value hostWrites readFails => Sys2Proof.Machine.execLoadProgram value hostWrites readFails s
  | .unloadProgram value => Sys2Proof.Machine.execUnloadProgram value s
  | .loadFirmware value hostWrites readFails refusal => Sys2Proof.Machine.execLoadFirmware value hostWrites readFails refusal s
  | .checkpointStatus value => Sys2Proof.Machine.execCheckpointStatus value s
  | .baseNow value => Sys2Proof.Machine.execBaseNow value s
  | .restoreBegin value => Sys2Proof.Machine.execRestoreBegin value s
  | .restoreSource value hostWrites => Sys2Proof.Machine.execRestoreSource value hostWrites s
  | .restoreFinish value => Sys2Proof.Machine.execRestoreFinish value s
  | .restoreAbort value => Sys2Proof.Machine.execRestoreAbort value s
  | .baseDrain => Sys2Proof.Machine.execBaseDrain s
  | .domainEnable value => Sys2Proof.Machine.execDomainEnable value s
  | .domainDisable value => Sys2Proof.Machine.execDomainDisable value s
  | .domainOn domain badDies => Sys2Proof.Machine.execDomainOn domain badDies s
  | .drainLimitExpiry domain => Sys2Proof.Machine.execDrainLimitExpiry domain s
  | .domainOff domain => Sys2Proof.Machine.execDomainOff domain s
  | .railPowerGood rail => Sys2Proof.Machine.execRailPowerGood rail s
  | .railPgTimeout rail => Sys2Proof.Machine.execRailPgTimeout rail s
  | .railRetryWait rail => Sys2Proof.Machine.execRailRetryWait rail s
  | .railPgLost rail => Sys2Proof.Machine.execRailPgLost rail s
  | .railLower rail => Sys2Proof.Machine.execRailLower rail s
  | .railTargetWrite rail value => Sys2Proof.Machine.execRailTargetWrite rail value s
  | .avsStatusPoll bus vdone good mv => Sys2Proof.Machine.execAvsStatusPoll bus vdone good mv s
  | .avsTimeout bus => Sys2Proof.Machine.execAvsTimeout bus s
  | .standby => Sys2Proof.Machine.execStandby s
  | .wakeNEdge => Sys2Proof.Machine.execWakeNEdge s
  | .wakeAlarm => Sys2Proof.Machine.execWakeAlarm s
  | .budgetWindow => Sys2Proof.Machine.execBudgetWindow s
  | .powerSample decimA mv => Sys2Proof.Machine.execPowerSample decimA mv s
  | .logicTempSample readings => Sys2Proof.Machine.execLogicTempSample readings s
  | .thermalTrip => Sys2Proof.Machine.execThermalTrip s
  | .tripClear => Sys2Proof.Machine.execTripClear s
  | .droneTick onTime => Sys2Proof.Machine.execDroneTick onTime s
  | .epochMarker onTime => Sys2Proof.Machine.execEpochMarker onTime s
  | .droneEdgeTimeout => Sys2Proof.Machine.execDroneEdgeTimeout s
  | .holdoverTick => Sys2Proof.Machine.execHoldoverTick s
  | .aonPowerGood => Sys2Proof.Machine.execAonPowerGood s
  | .aonSupplyLoss => Sys2Proof.Machine.execAonSupplyLoss s
  | .resetN asserted => Sys2Proof.Machine.execResetN asserted s
  | .startup boot => Sys2Proof.Machine.execStartup boot s
  | .startupReady us => Sys2Proof.Machine.execStartupReady us s
  | .managementReset => Sys2Proof.Machine.execManagementReset s
  | .lockstepMismatch => Sys2Proof.Machine.execLockstepMismatch s
  | .faultEvent => Sys2Proof.Machine.execFaultEvent s
  | .secRevoke slot => Sys2Proof.Machine.execSecRevoke slot s
  | .testWindowOpen => Sys2Proof.Machine.execTestWindowOpen s
  | .testWindowClose => Sys2Proof.Machine.execTestWindowClose s
  | .smbStatus pec => Sys2Proof.Machine.execSmbStatus pec s
  | .readAon off pec => Sys2Proof.Machine.execReadAon off pec s
  | .smbWake pec => Sys2Proof.Machine.execSmbWake pec s
  | .smbStandby pec => Sys2Proof.Machine.execSmbStandby pec s
  | .smbReset word pec => Sys2Proof.Machine.execSmbReset word pec s
  | .setCap watts pec => Sys2Proof.Machine.execSetCap watts pec s
  | .smbLog pec => Sys2Proof.Machine.execSmbLog pec s
  | .smbIdentify pec => Sys2Proof.Machine.execSmbIdentify pec s
  | .alertResponse => Sys2Proof.Machine.execAlertResponse s
  | .smuSessionStart => Sys2Proof.Machine.execSmuSessionStart s
  | .smuSample volts amps => Sys2Proof.Machine.execSmuSample volts amps s
  | .smuStepMessage => Sys2Proof.Machine.execSmuStepMessage s
  | .smuTickMessage => Sys2Proof.Machine.execSmuTickMessage s
  | .smuRecordClose => Sys2Proof.Machine.execSmuRecordClose s
  | .crystalStop => Sys2Proof.Machine.execCrystalStop s
  | .calStatus crcGood => Sys2Proof.Machine.execCalStatus crcGood s
  | .calStage set crcGood => Sys2Proof.Machine.execCalStage set crcGood s
  | .calCommit crcGood => Sys2Proof.Machine.execCalCommit crcGood s
  | .sealAssert => Sys2Proof.Machine.execSealAssert s
  | .sealDeassert => Sys2Proof.Machine.execSealDeassert s
  | .laneLossOfLock link lane => Sys2Proof.Machine.execLaneLossOfLock link lane s
  | .laserInterlockClose => Sys2Proof.Machine.execLaserInterlockClose s
  | .smuSupplyLoss => Sys2Proof.Machine.execSmuSupplyLoss s
  | .crystalReturn => Sys2Proof.Machine.execCrystalReturn s

end Sys2Proof.Machine
end

