-- ==== Sys2Proof/Safety.lean ====
section
/-! DEFINITION. The words the statements use: what a command finds, that it completes and with what, and what the
T24's reporting (interrupt messages, the event log, the fault policy's queue) may change beside a command's own effect. -/

namespace Sys2Proof.Machine

/-- The T24's units as a command finds them: they read the tick value as it stands (R505). -/
def State.seen (s : State) : Device := { s.dev with now := s.drone.tick }

/-- The state with other units; the queue, the fuses, the SMU and the Drone inputs as before. -/
def State.withDev (s : State) (d : Device) : State := { s with dev := d }

/-- A command answers a next state, and that state has a property. -/
def Completes (c : Instr) (s : State) (P : State → Prop) : Prop := ∃ t, exec c s = .next t ∧ P t

/-- A command answers a next state in which only the T24's units differ, and they have a property. -/
def Does (c : Instr) (s : State) (P : Device → Prop) : Prop := ∃ d, exec c s = .next (s.withDev d) ∧ P d

/-- The registers that reporting never writes: all but MGMT_STATUS, MGMT_EVQ_DROP and MGMT_INT_STATUS (R528), the counters of requests
on CXL.cache (R444), the MSI-X pending bits (R437), the rings' registers (R356 to R358) and the flush counters of the stacks (R250). -/
def quiet (k : Nat) : Bool :=
  k != 0 && k != 0x28 && k != 0x40 && !(decide (0x400068 ≤ k) && decide (k < 0x400078)) &&
  !(decide (0x411000 ≤ k) && decide (k < 0x412000)) && !(decide (0x500000 ≤ k) && decide (k < 0x540000)) &&
  !(decide (0x1000000 ≤ k) && k % 0x40000 == 0x270)

/-- The units without what reporting may change: the registers, memory with its poison and controllers, the rings, the requests on
the host link, management's own state, what the block has emitted, and the count of free values. -/
def Device.inner (d : Device) : Device :=
  { d with regs := [], mem := [], poison := [], free := 0, out := [], tiles := [], rings := [], host := {}, mgmt := {} }

/-- `e` is `d` but for reporting: the quiet registers and the inner state are the same, every ring keeps its TYPE, and where no ring
carries the event log (R364), memory, poison, the stacks' controllers, the rings and the host link are the same too. -/
structure Device.Calm (d e : Device) : Prop where
  regs : ∀ k, quiet k = true → e.reg k = d.reg k
  inner : e.inner = d.inner
  types : ∀ ty, e.ringsOf ty = d.ringsOf ty
  still : d.ringsOf 11 = [] → e.mem = d.mem ∧ e.poison = d.poison ∧ e.tiles = d.tiles ∧ e.rings = d.rings ∧ e.host = d.host

/-- Every read of a unit's block gives bytes: none is an access error or a detected error (R205, R243). -/
def Device.readable (d : Device) (rs : List (Nat × Nat)) : Prop :=
  ∀ r ∈ rs, (d.unitRead r.1 r.2).isBytes = true

/-- The same units with the blocks' bytes asked for. -/
def Device.asked (d : Device) (rs : List (Nat × Nat)) : Device := rs.foldl (fun d r => d.uniAsk r.1 r.2) d

/-- A host access to offset `off` reaches its register: the window is open (R10) and the source answers (R9, R11). -/
def State.reaches (s : State) (off : Nat) : Prop := s.seen.barOpen = true ∧ s.seen.decodes (keySource off).1 = true

/-- A register whose write R12's access codes alone describe: it has no command of its own, and no further rule of its table says
what is stored. -/
def plainReg (name : String) : Bool :=
  !decide (name ∈ RegMap.ownRow) && (RegMap.cmdOps.find? fun c => c.1 = name).isNone &&
    (RegMap.zeroBits.find? fun z => z.1 = name).isNone &&
    !decide (name ∈ ["HOST_MBOX_CMD", "MGMT_POLICY", "OPT_TAIL_CFG", "MEM_CTL"])

/-- Core `c`, in unit `u`, has instruction `i` of opcode `op` at its pointer, its word exactly as R98, R106 and R112 encode it. -/
def Device.issues (d : Device) (c u op : Nat) (i : CoreInstr) : Prop :=
  d.unitAt c = some u ∧ ∃ w1, d.fetch (d.core c).pc = some (encodeWord i, w1) ∧ wordOpcode (encodeWord i) = op ∧
    decodeWord (encodeWord i) (w1.getD 0) = some i ∧ (op = 0x20 → w1 ≠ none)


/-- A write of MBOX_CMD with DOORBELL 1 and OPCODE `op` that reaches the mailbox while BUSY reads 0 (R439). -/
structure State.calls (s : State) (value op : Nat) : Prop where
  doorbell : bit value 31 = true
  opcode : bits value 15 0 = op
  reach : s.reaches F.HOST_MBOX_CMD.key
  idle : s.seen.flag F.HOST_MBOX_STATUS_BUSY = false

/-- The commands that may change the Drone inputs: the ticks (R505 to R508), SET_TICK (R506), and what may reset the whole device
(R513: the resets themselves, and the fault policy and the management pair that may ask for one). -/
def movesTick : Instr → Bool
  | .setTick _ | .droneTick _ | .epochMarker _ | .droneEdgeTimeout | .holdoverTick | .aonPowerGood | .aonSupplyLoss | .resetN _
  | .managementReset | .lockstepMismatch | .faultEvent | .smbReset _ _ => true
  | _ => false

/-- The commands of the sealed measurement unit itself (R558 to R572). -/
def ofSmu : Instr → Bool
  | .smuSessionStart | .smuSample _ _ | .smuStepMessage | .smuTickMessage | .smuRecordClose | .crystalStop | .crystalReturn
  | .smuSupplyLoss | .calStage _ _ | .calCommit _ | .sealAssert | .sealDeassert => true
  | _ => false

/-- The command that blows a key slot's revocation fuse (R535). -/
def blowsFuse : Instr → Bool
  | .secRevoke _ => true
  | _ => false

end Sys2Proof.Machine
end

