-- ==== Sys2Proof/Certificates/Slice0/Obligations.lean ====
section
/-! DEFINITION. The statements for the provers, family by family. -/

open Sys2Proof Sys2Proof.Machine

/-- A step of a state whose queue has a front is exec of that command with the rest of the queue; on an empty queue the block idles (the model's
choice, log entry 3). -/
def Obligations.QueueFront : Prop :=
  (∀ (c : Instr) (rest : List Instr) (s : State), step { s with pending := c :: rest } = exec c { s with pending := rest }) ∧
  (∀ s : State, s.pending = [] → step s = .next s)

/-- R12 to R14: the write changes the addressed register alone, and field by field as the access codes say. A register with a command of its own, and
the few registers whose writes have a further rule, are left to other statements. -/
def Obligations.RegisterWriteByField : Prop :=
  ∀ (s : State) (off v hw : Nat) (a : RegAt), RegMap.at? off = some a → off % 4 = 0 → s.seen.barOpen = true →
    s.seen.decodes (keySource off).1 = true → a.blk ≠ .smu → plainReg a.row.name = true →
    s.seen.writeRefused a.row.name = false →
    s.seen.rwlDiffers a.row (s.seen.reg (s.seen.keyOf off)) (BitVec.ofNat 32 v) = false →
    ∃ new : Word, exec (.registerWrite off 4 v hw) s = .next (s.withDev (s.seen.setReg (s.seen.keyOf off) new)) ∧
      ∀ f ∈ a.row.flds, getBits new f.lo f.w =
        fieldAfter f.acc s.seen.boot.locked (getBits (s.seen.reg (s.seen.keyOf off)) f.lo f.w)
          (s.seen.limitField a.row.name f.name (getBits (BitVec.ofNat 32 v) f.lo f.w)) (getBits (BitVec.ofNat 32 hw) f.lo f.w) % 2 ^ f.w

/-- R10, R14, R17: where a write does not reach its register. The last clause says that an 8-byte write is two. -/
def Obligations.RegisterWriteTurnedAway : Prop :=
  (∀ (s : State) (off bytes v hw : Nat), s.seen.barOpen = false →
    exec (.registerWrite off bytes v hw) s = .next (s.withDev (s.seen.emit .unsupportedRequest))) ∧
  (∀ (s : State) (off bytes v hw : Nat), s.seen.barOpen = true → s.seen.decodes (keySource off).1 = false →
    Does (.registerWrite off bytes v hw) s fun d => s.seen.Calm d) ∧
  (∀ (s : State) (off bytes v hw : Nat), s.seen.barOpen = true → s.seen.decodes (keySource off).1 = true →
    ¬(bytes = 4 ∧ off % 4 = 0) → ¬(bytes = 8 ∧ off % 8 = 0) → Does (.registerWrite off bytes v hw) s fun d => s.seen.Calm d) ∧
  (∀ (s : State) (off v hw : Nat) (a : RegAt), RegMap.at? off = some a → off % 4 = 0 → s.seen.barOpen = true →
    s.seen.decodes (keySource off).1 = true → a.blk ≠ .smu → plainReg a.row.name = true → s.seen.writeRefused a.row.name = true →
    Does (.registerWrite off 4 v hw) s fun d => s.seen.Calm d) ∧
  (∀ (s : State) (off v hw : Nat), s.seen.barOpen = true → s.seen.decodes (keySource off).1 = true → off % 8 = 0 →
    exec (.registerWrite off 8 v hw) s = .next (s.withDev ((s.seen.writeWord off (BitVec.ofNat 32 v) (BitVec.ofNat 32 hw)).writeWord
      (off + 4) (BitVec.ofNat 32 (v / 2 ^ 32)) (BitVec.ofNat 32 (hw / 2 ^ 32)))))

/-- R9, R10, R12, R13, R17: what a read answers and what it leaves. -/
def Obligations.RegisterReads : Prop :=
  (∀ (s : State) (q off : Nat), hasRc (off / 4 * 4) = false → isPairLow (off / 4 * 4) = false → s.seen.barOpen = true →
    s.readable (off / 4 * 4) = true → s.seen.shadow q (off / 4 * 4) = none →
    Does (.lowWordRead q off) s fun d => d = (s.seen.dropShadow q (off / 4 * 4)).emit
      (.readData q (s.viewWord (off / 4 * 4) >>> (8 * (off % 4))))) ∧
  (∀ (s : State) (q off : Nat), off % 4 = 0 → hasRc off = false → isPairLow off = true → s.seen.barOpen = true → s.readable off = true →
    s.seen.shadow q off = none →
    Does (.lowWordRead q off) s fun d => d.out.head? = some (.readData q (s.viewWord off)) ∧
      d.shadow q (off + 4) = some (s.viewWord (off + 4))) ∧
  (∀ (s : State) (q off : Nat) (v : Word), off % 4 = 0 → hasRc off = false → isPairLow off = false → s.seen.barOpen = true →
    s.readable off = true → s.seen.shadow q off = some v →
    Does (.lowWordRead q off) s fun d => d.out.head? = some (.readData q v) ∧ d.shadow q off = none) ∧
  (∀ (s : State) (q off hw : Nat) (a : RegAt), RegMap.at? off = some a → hasRc off = true → s.seen.barOpen = true → s.readable off = true →
    ∃ new : Word, exec (.readToClear q off hw) s =
        .next (s.withDev ((s.seen.setReg (s.seen.keyOf off) new).emit (.readData q (s.seen.readWord off)))) ∧
      ∀ f ∈ a.row.flds, getBits new f.lo f.w =
        if f.acc = .rc then getBits (BitVec.ofNat 32 hw) f.lo f.w else getBits (s.seen.reg (s.seen.keyOf off)) f.lo f.w) ∧
  (∀ (s : State) (q off : Nat), hasRc (off / 4 * 4) = false → s.seen.barOpen = true → s.readable (off / 4 * 4) = false →
    Does (.lowWordRead q off) s fun d => (s.seen.emit (.readData q 0xFFFFFFFF)).Calm d)

/-- R437: the two cases in which a source sends a message, and a masked vector. -/
def Obligations.InterruptMessages : Prop :=
  (∀ (s : State) (off v : Nat) (a : RegAt), RegMap.at? off = some a → a.row.name ∈ RegMap.intEn →
    s.seen.barOpen = true → s.seen.decodes (keySource off).1 = true →
    ∃ new : Word, (∀ f ∈ a.row.flds, f.acc = .rw → getBits new f.lo f.w =
        s.seen.limitField a.row.name f.name (getBits (BitVec.ofNat 32 v) f.lo f.w) % 2 ^ f.w) ∧
      (new &&& ~~~s.seen.reg off &&& (s.seen.setReg off new).reg (off - 4) = 0 →
        exec (.intEnWrite off v) s = .next (s.withDev (s.seen.setReg off new))) ∧
      (new &&& ~~~s.seen.reg off &&& (s.seen.setReg off new).reg (off - 4) ≠ 0 →
        exec (.intEnWrite off v) s =
          .next (s.withDev ((s.seen.setReg off new).sendMsix ((s.seen.setReg off new).vector (a.blk.source a.inst)))))) ∧
  (∀ (s : State) (v : Nat), v < 256 → s.seen.barOpen = true → s.seen.decodes (keySource (F.MSIX_CTL_MASK v).key).1 = true →
    s.seen.flag (pendBit v) = false →
    exec (.msixUnmask v) s = .next (s.withDev (s.seen.wr (F.MSIX_CTL_MASK v) 0))) ∧
  (∀ (s : State) (v : Nat), v < 256 → s.seen.barOpen = true → s.seen.decodes (keySource (F.MSIX_CTL_MASK v).key).1 = true →
    s.seen.flag (pendBit v) = true →
    exec (.msixUnmask v) s = .next (s.withDev (((s.seen.wr (F.MSIX_CTL_MASK v) 0).wr
      (pendBit v) 0).emit
        (.msix v (s.seen.rd (F.MSIX_ADDR_LO v) + 2 ^ 32 * s.seen.rd (F.MSIX_ADDR_HI v)) (s.seen.rd (F.MSIX_DATA v)))))) ∧
  (∀ (d : Device) (v : Nat), d.flag (F.MSIX_CTL_MASK v) = true →
    (d.sendMsix v).out = d.out ∧ (v < 256 → (d.sendMsix v).flag (pendBit v) = true)) ∧
  (∀ (d : Device) (f : Fld), d.flag f = true → d.raise f = d)

/-- R28 to R31, R47, R52, R332: each command of the step's phases, under the condition its rule gives, does the named operation, and the phase is the next one. -/
def Obligations.StepPhases : Prop :=
  (∀ s : State, s.seen.spine.modeAsk = false → s.seen.mayAdmit = true → (s.seen.spine.ahead.isSome ∨ s.seen.heads.isSome) →
    exec .stepAdmit s = .next (s.withDev s.seen.stepAdmit) ∧ s.seen.stepAdmit.phase = .admitting) ∧
  (∀ s : State, s.seen.mayAhead = true →
    exec .admitAhead s = .next (s.withDev s.seen.admitAhead) ∧ s.seen.admitAhead.phase = s.seen.phase) ∧
  (∀ s : State, s.seen.phase = .admitting → s.seen.installBw.takeDigests.mayCompute = true →
    exec .computeEntry s = .next (s.withDev s.seen.installBw.takeDigests.computeEntry) ∧
      s.seen.installBw.takeDigests.computeEntry.phase = .compute) ∧
  (∀ s : State, s.seen.mayReduce = true →
    exec .phaseReduce s = .next (s.withDev s.seen.reduceEntry) ∧ s.seen.reduceEntry.phase = .reduce) ∧
  (∀ s : State, s.seen.mayDecide = true →
    exec .phaseDecide s = .next (s.withDev s.seen.decideEntry) ∧ s.seen.decideEntry.phase = .decide) ∧
  (∀ s : State, (s.seen.mayCommit false || s.seen.commits false) = true →
    exec (.commitApply true) s = .next (s.withDev s.seen.commitFault) ∧ s.seen.commitFault.phase = .halted)

/-- R48, R49, R336: the two commands of a COMMIT; where each stands still, and that the last part ends the step. -/
def Obligations.CommitActions : Prop :=
  (∀ (s : State) (skip : Bool), s.seen.mayCommit skip = true → (s.seen.commitEntry skip).commits skip = true →
    exec (if skip then .commitSkip else .commitApply false) s = .next (s.withDev ((s.seen.commitEntry skip).commitRun skip)) ∧
      (s.seen.commitEntry skip).phase = .commit) ∧
  (∀ (s : State) (skip : Bool), s.seen.mayCommit skip = false → s.seen.commits skip = true → s.seen.spine.action = 0 → s.seen.mayAct = false →
    exec (if skip then .commitSkip else .commitApply false) s = .next (s.withDev s.seen)) ∧
  (∀ (s : State) (skip : Bool), s.seen.mayCommit skip = false → s.seen.commits skip = true → s.seen.spine.action = 4 →
    s.seen.deltaFull = true → exec (if skip then .commitSkip else .commitApply false) s = .next (s.withDev s.seen)) ∧
  (∀ (s : State) (skip : Bool), s.seen.mayCommit skip = false → s.seen.commits skip = true → s.seen.spine.action = 4 →
    s.seen.deltaFull = false → Does (if skip then .commitSkip else .commitApply false) s fun d =>
      d = s.seen.finish skip ∧ d.phase = .idle)

/-- R53 to R55, R57: the spine's own registers. -/
def Obligations.SpineControl : Prop :=
  (∀ s : State, s.seen.inStep = true → s.seen.spine.wdogFired = false → s.seen.rd F.SPINE_WDOG_LIMIT ≤ s.seen.spine.wdog →
    Does .stepWatchdog s fun d =>
      Device.Calm ({ s.seen with spine := { s.seen.spine with wdogFired := true } }.wr F.SPINE_INT_STATUS_WDOG 1) d) ∧
  (∀ s : State, s.seen.barOpen = true → s.seen.decodes (keySource F.SPINE_CTL.key).1 = true →
    exec (.spineRun true) s = .next (s.withDev (s.seen.wr F.SPINE_CTL_RUN 1)) ∧
    exec (.spineRun false) s = .next (s.withDev (s.seen.wr F.SPINE_CTL_RUN 0).dropStep.modeTake.takeIfIdle) ∧
    exec (.spineHaltReq false) s = .next (s.withDev (s.seen.wr F.SPINE_CTL_HALT_REQ 0)) ∧
    exec (.spineHaltReq true) s = .next (s.withDev (s.seen.wr F.SPINE_CTL_HALT_REQ 1).dropStep.modeTake) ∧
    (s.seen.phase ≠ .idle → ∀ r : Bool, exec (.spineModeReq r) s =
      .next (s.withDev ({ s.seen with spine := { s.seen.spine with modeAsk := true } }.wr F.SPINE_CTL_MODE_REQ (b2n r)))) ∧
    (s.seen.phase = .idle → Does (.spineModeReq false) s fun d =>
      d.rd F.SPINE_CTL_MODE_REQ = 0 ∧ d.rd F.SPINE_STATUS_MODE = 0 ∧ d.rd F.SPINE_STATUS_MODE_PEND = 0 ∧ d.spine.modeAsk = false)) ∧
  (∀ (s : State) (v : Nat), s.seen.barOpen = true → s.seen.decodes (keySource F.SPINE_STEP_LO_STEP.key).1 = true →
    s.seen.phase = .idle → s.seen.flag F.SPINE_CTL_RUN = false →
    exec (.spineStepWrite false v) s = .next (s.withDev (s.seen.wr F.SPINE_STEP_LO_STEP v))) ∧
  (∀ (s : State) (v : Nat), s.seen.barOpen = true → s.seen.decodes (keySource F.SPINE_STEP_HI_STEP.key).1 = true →
    s.seen.phase = .idle → s.seen.flag F.SPINE_CTL_RUN = false →
    exec (.spineStepWrite true v) s = .next (s.withDev (s.seen.wr F.SPINE_STEP_HI_STEP v))) ∧
  (∀ (s : State) (v : Nat), s.seen.barOpen = true → s.seen.decodes (keySource F.SPINE_STEP_LO_STEP.key).1 = true →
    ¬(s.seen.phase = .idle ∧ s.seen.flag F.SPINE_CTL_RUN = false) → Does (.spineStepWrite false v) s fun d => s.seen.Calm d) ∧
  (∀ s : State, s.seen.phase = .idle → s.seen.spine.modeAsk = false → s.seen.flag F.SPINE_STATUS_MODE_PEND = true →
    s.seen.sparse.tailDrain = false → s.seen.tier.recovering = false → s.seen.t3Rows = [] →
    Does .recoveryModeEnter s fun d => d = (s.seen.wr F.SPINE_STATUS_MODE 1).wr F.SPINE_STATUS_MODE_PEND 0 ∧
      d.rd F.SPINE_STATUS_MODE = 1 ∧ d.rd F.SPINE_STATUS_MODE_PEND = 0)

/-- NUM_LS_CTL and the window of NUM_TAG_SEL: writes of configuration are taken in IDLE alone. -/
def Obligations.NumericsControls : Prop :=
  (∀ (s : State), s.reaches F.NUM_LS_CTL.key → s.seen.phase = .idle → exec .lsLoad s = .next (s.withDev s.seen.lossStart) ∧ s.seen.lossStart.rd F.NUM_LS_STATUS_CUR_LOG2 = s.seen.rd F.NUM_LS_CFG_INIT_LOG2 ∧
    s.seen.lossStart.rd F.NUM_LS_STATUS_CLEAN = 0) ∧
  (∀ (s : State), s.reaches F.NUM_LS_CTL.key → s.seen.phase ≠ .idle → exec (.lsLoad) s = .next (s.withDev (s.seen.logAccess F.NUM_LS_CTL.key))) ∧
  (∀ (s : State) (v : Nat), s.reaches (F.NUM_TAG_CFG 0).key → s.seen.phase = .idle → exec (.numTagCfgWrite (F.NUM_TAG_CFG 0).key v) s = .next (s.withDev (s.seen.tagCfgWrite (F.NUM_TAG_CFG 0).key v))) ∧
  (∀ (s : State) (v : Nat), s.reaches (F.NUM_TAG_SAT_THRESH 0).key → s.seen.phase = .idle → exec (.numTagCfgWrite (F.NUM_TAG_SAT_THRESH 0).key v) s = .next (s.withDev (s.seen.wr (F.NUM_TAG_SAT_THRESH_THRESH (s.seen.rd F.NUM_TAG_SEL_TAG)) v))) ∧
  (∀ (s : State) (off v : Nat), off = (F.NUM_TAG_CFG 0).key ∨ off = (F.NUM_TAG_SAT_THRESH 0).key → s.reaches off → s.seen.phase ≠ .idle → exec (.numTagCfgWrite off v) s = .next (s.withDev (s.seen.logAccess off)))  ∧
  (∀ (d : Device) (k : Nat), k ≠ F.NUM_LS_STATUS_CLEAN.key → d.lossStart.reg k = d.reg k)

/-- R98: the instructions that take no time in the array or the Chanter. Each equation gives the whole next state, so nothing else changes. -/
def Obligations.CoreScalarInstructions : Prop :=
  (∀ (s : State) (c u : Nat), s.seen.issues c u 0x00 (.nop) → exec (.nop c) s = .next (s.withDev (s.seen.advance c 1))) ∧
  (∀ (s : State) (c u : Nat), s.seen.issues c u 0x01 (.endUnit) → (s.seen.core c).flight = [] → exec (.endUnit c) s = .next (s.withDev ((((s.seen.countCasts c u).inc64 (F.CORE_UNITS_LO_UNITS c)).unitEnd u).coreFree c))) ∧
  (∀ (s : State) (c u : Nat) (dd a : Nat), s.seen.issues c u 0x02 (.ldodr dd a) → a * 64 + 32 ≤ coreMemory → s.seen.mustWait c [(a * 64, 32)] [] = false → exec (.ldodr c) s = .next (s.withDev ((s.seen.setCore c { (s.seen.core c) with
      desc := Store.set (fun _ => []) (s.seen.core c).desc dd (readMem s.seen.mem 32 (coreKey c (a * 64))) }).advance c 1))) ∧
  (∀ (s : State) (c u : Nat) (an v : Nat), s.seen.issues c u 0x03 (.seta an v) → exec (.seta c) s = .next (s.withDev ((s.seen.setCore c { (s.seen.core c) with addr := Store.set (fun _ => 0) (s.seen.core c).addr an v }).advance c 1))) ∧
  (∀ (s : State) (c u : Nat) (an v : Nat), s.seen.issues c u 0x04 (.adda an v) → exec (.adda c) s = .next (s.withDev ((s.seen.setCore c { (s.seen.core c) with
      addr := Store.set (fun _ => 0) (s.seen.core c).addr an ((s.seen.addrReg c an + v) % 2 ^ 64) }).advance c 1))) ∧
  (∀ (s : State) (c u : Nat) (sel v : Nat), s.seen.issues c u 0x05 (.setc sel v) → exec (.setc c) s = .next (s.withDev ((s.seen.setCore c (if sel = 0 then { (s.seen.core c) with c2 := v } else { (s.seen.core c) with c3 := v })).advance c 1))) ∧
  (∀ (s : State) (c u : Nat) (dd off : Nat), s.seen.issues c u 0x07 (.addodr dd off) → s.seen.descReg c dd ≠ [] → exec (.addodr c) s = .next (s.withDev ((s.seen.setCore c { (s.seen.core c) with desc := Store.set (fun _ => []) (s.seen.core c).desc dd (leBytes 2 (oBase (s.seen.descReg c dd) + off) ++ (s.seen.descReg c dd).drop 2) }).advance c 1))) ∧
  (∀ (s : State) (c u : Nat), s.seen.issues c u 0x09 (.fence) → (s.seen.core c).flight = [] → exec (.fence c) s = .next (s.withDev (s.seen.advance c 1)))

/-- R99 to R101, R106, R112, R121, R125: the instructions that stay in flight, and LOOP. Each equation gives the whole next state. -/
def Obligations.CoreTimedInstructions : Prop :=
  (∀ (s : State) (c u : Nat) (an dir a len : Nat), s.seen.issues c u 0x06 (.xfer an dir a len) → (a + len) * 64 ≤ coreMemory → 1 ≤ len → len ≤ 49152 →
    s.seen.mustWait c (FlightOp.xfer (dir == 1) (s.seen.addrReg c an) a len).reads (FlightOp.xfer (dir == 1) (s.seen.addrReg c an) a len).writes = false →
    exec (.xfer c) s = .next (s.withDev (s.seen.start c 1 (.xfer (dir == 1) (s.seen.addrReg c an) a len) 0))) ∧
  (∀ (s : State) (c u : Nat) (count back : Nat), s.seen.issues c u 0x08 (.loop count back) → 1 ≤ count → 1 ≤ back →
    back ≤ (s.seen.core c).index → (s.seen.core c).loops.length < 4 → (∀ e ∈ (s.seen.core c).loops.head?, e.1 ≠ (s.seen.core c).index) →
    exec (.loopEnd c) s = .next (s.withDev (s.seen.loopTurn c u back (count - 1) (s.seen.core c).loops))) ∧
  (∀ (s : State) (c u : Nat) (count back left : Nat) (rest : List (Nat × Nat)), s.seen.issues c u 0x08 (.loop count back) → 1 ≤ count → 1 ≤ back →
    back ≤ (s.seen.core c).index → (s.seen.core c).loops = ((s.seen.core c).index, left) :: rest →
    exec (.loopEnd c) s = .next (s.withDev (s.seen.loopTurn c u back left rest))) ∧
  (∀ (s : State) (c u n : Nat) (dst a b acc ta tb accEn m nn k : Nat), s.seen.issues c u 0x10 (.mma dst a b acc ta tb accEn m nn k) →
    mmaFaults (ta == 1) (tb == 1) (accEn == 1) m nn k (s.seen.descReg c dst) (s.seen.descReg c a) (s.seen.descReg c b) (s.seen.descReg c acc) = [] →
    ∀ op, op = FlightOp.mma (ta == 1) (tb == 1) m nn k (s.seen.descReg c dst) (s.seen.descReg c a) (s.seen.descReg c b)
      (if accEn = 1 then s.seen.descReg c acc else []) → s.seen.mustWait c op.reads op.writes = false →
    exec (.mma c n) s = .next (s.withDev ((s.seen.start c 1 op
      (mmaClk m nn k (oFormat (s.seen.descReg c a)) (oFormat (s.seen.descReg c b)))).coreCorrected c n))) ∧
  (∀ (s : State) (c u n : Nat) (dst x y z count rows c0 c1 stages : Nat), s.seen.issues c u 0x20 (.vchain dst x y z count rows c0 c1 stages) →
    chainFaults count rows (stageWords stages) (s.seen.descReg c dst) (s.seen.descReg c x) (s.seen.descReg c y) (s.seen.descReg c z) = [] →
    ∀ op, op = FlightOp.chain count rows (stageWords stages) (s.seen.constants c c0 c1) (s.seen.descReg c dst)
      (if selects (stageWords stages) 1 then s.seen.descReg c x else []) (if selects (stageWords stages) 2 then s.seen.descReg c y else [])
      (if selects (stageWords stages) 3 then s.seen.descReg c z else []) → s.seen.mustWait c op.reads op.writes = false →
    exec (.vchain c n) s = .next (s.withDev ((s.seen.start c 2 op (chainClk rows count (stageWords stages))).coreCorrected c n))) ∧
  (∀ (s : State) (c u a : Nat) (b : Bytes), s.seen.issues c u 0x28 (.s12 a) → a * 64 + 64 ≤ coreMemory →
    s.seen.mustWait c [(a * 64, 64)] [] = false → b = readMem s.seen.mem 64 (coreKey c (a * 64)) → s12Bad b = false →
    ∀ op, op = FlightOp.s12 b (s.seen.constants c (u32At b 0x38) (u32At b 0x3C)) → s.seen.mustWait c op.reads op.writes = false →
    exec (.s12chain c) s = .next (s.withDev (s.seen.start c 1 op (s12Clk b)))) ∧
  (∀ (s : State) (c u w : Nat) (w1 : Option Nat), s.seen.unitAt c = some u → s.seen.fetch (s.seen.core c).pc = some (w, w1) →
    decodeWord w (w1.getD 0) = none → exec (.nop c) s = .next (s.withDev (s.seen.illegal c u 1)))

/-- R36, R39, R42, R492: units are taken and finish. -/
def Obligations.UnitsHandedOut : Prop :=
  (∀ (s : State) (c u : Nat) (swapped passed : Bool), c < 96 → s.seen.inPool c = true → s.seen.unitAt c = none →
    s.seen.rd (F.CORE_STATUS_STATE c) = 1 → s.seen.pick c = some (u, swapped, passed) →
    exec (.coreTakeUnit c) s = .next (s.withDev
      (let d := s.seen.startUnit c u
       let d := if swapped then d.inc F.PWR_LEDGER_SWAP_COUNT else d
       if passed then d.inc F.PWR_LEDGER_OVER_COUNT else d)) ∧
    (s.seen.startUnit c u).unitSt u = .running c ∧
    (s.seen.startUnit c u).core c = { pc := (s.seen.workUnit u).codeOff * 16, addr := s.seen.startAddrs u, held := (s.seen.core c).held, hwTest := (s.seen.core c).hwTest, testFail := (s.seen.core c).testFail }) ∧
  (∀ (s : State) (c : Nat), s.seen.pick c = none → exec (.coreTakeUnit c) s = .next (s.withDev s.seen)) ∧
  (∀ (s : State) (t u : Nat), t < 24 → s.seen.tileServes t = true → s.seen.unitAt (placeTile t) = none →
    (s.seen.nextReady fun u => tileKind (s.seen.workUnit u).kind && bit (s.seen.workUnit u).eligible t) = some u →
    exec (.tileTakeUnit t) s = .next (s.withDev (s.seen.handOut u (placeTile t))) ∧
      (s.seen.handOut u (placeTile t)).unitSt u = .running (placeTile t)) ∧
  (∀ (s : State) (u : Nat), s.seen.unitSt u = .ended → Does (.unitFinish u) s fun d =>
    d.unitSt u = .done ∧ u ∉ d.spine.rerun ∧
      d.spine.unitsDone = (if s.seen.spine.rerun.contains u then s.seen.spine.unitsDone else s.seen.spine.unitsDone + 1) ∧
      (∀ v, v ≠ u → d.unitSt v = s.seen.unitSt v)) ∧
  (∀ (s : State) (u : Nat), s.seen.unitSt u ≠ .ended → exec (.unitFinish u) s = .next (s.withDev s.seen))

/-- R100, R101, R107, R115, R122: the end of what R98 started. -/
def Obligations.CoreCompletions : Prop :=
  (∀ (s : State) (c u : Nat) (f : Flight) (rest : List Flight), s.seen.unitAt c = some u →
    (s.seen.oldest c fun x => x.op.isMma) = some (f, rest) →
    exec (.mmaComplete c) s = .next (s.withDev (((s.seen.setCore c { (s.seen.core c) with flight := rest }).finishOp c u f.op).inc64
      (F.CORE_MMA_CLK_LO_CLK c) f.dur))) ∧
  (∀ (s : State) (c u : Nat) (f : Flight) (rest : List Flight), s.seen.unitAt c = some u →
    (s.seen.oldest c fun x => x.op.isChain) = some (f, rest) →
    exec (.vchainComplete c) s = .next (s.withDev (((s.seen.setCore c { (s.seen.core c) with flight := rest }).finishOp c u f.op).inc64
      (F.CORE_VEC_CLK_LO_CLK c) f.dur))) ∧
  (∀ (s : State) (c u : Nat) (f : Flight) (rest : List Flight), s.seen.unitAt c = some u →
    (s.seen.oldest c fun x => x.op.isS12) = some (f, rest) →
    exec (.s12chainComplete c) s = .next (s.withDev (((s.seen.setCore c { (s.seen.core c) with flight := rest }).finishOp c u f.op).inc64
      (F.CORE_VEC_CLK_LO_CLK c) f.dur))) ∧
  (∀ (s : State) (c u i a len uni dur : Nat) (rest : List Flight) (d : Device), s.seen.unitAt c = some u →
    (s.seen.oldest c fun x => x.index == i && x.op.isXfer) =
      some (⟨i, .xfer true uni a len, dur⟩, rest) →
    xferOrdered ((s.seen.core c).flight.takeWhile fun x => x.index ≠ i) true uni len = true →
    s.seen.uniOk uni (len * 64) = true →
    (s.seen.setCore c { (s.seen.core c) with flight := rest }).uniWrite uni (readMem s.seen.mem (len * 64) (coreKey c (a * 64))) = some d →
    exec (.xferComplete c i 0) s = .next (s.withDev (d.bumpShards uni (len * 64)))) ∧
  (∀ (s : State) (c u i a len uni dur n : Nat) (rest : List Flight) (out : Bool), s.seen.unitAt c = some u →
    (s.seen.oldest c fun x => x.index == i && x.op.isXfer) =
      some (⟨i, .xfer out uni a len, dur⟩, rest) →
    xferOrdered ((s.seen.core c).flight.takeWhile fun x => x.index ≠ i) out uni len = true →
    (!out && bit (s.seen.workUnit u).flags 2 && s.seen.repairHolds true uni (len * 64)) = false →
    s.seen.rd F.DMA_XFER_RETRY_RETRY < n →
    exec (.xferComplete c i n) s = .next (s.withDev (s.seen.xferFail c u i uni)))

/-- R100, R126 to R129: errors, self-tests and CORE_CTL. -/
def Obligations.CoreErrors : Prop :=
  (∀ (s : State) (c : Nat) (d : Device), c < 96 → s.seen.domOn (domOfCore c) = true → s.seen.boot.retiredCores.contains c = false →
    d = s.seen.inc (F.CORE_UE_CNT_COUNT c) →
    (d.coreTesting c = true → exec (.coreHwError c) s = .next (s.withDev (d.setCore c { (d.core c) with testFail := true }))) ∧
    (d.coreTesting c = false → ∀ e, e = (d.raise (F.CORE_INT_STATUS_HW_ERR c)).setCore c { (d.core c) with hwTest := true } →
      exec (.coreHwError c) s = .next (s.withDev (e.hwStops c)))) ∧
  (∀ (d : Device) (c : Nat), (∀ u, d.unitAt c = some u → d.hwStops c = d.hwUnit c u) ∧ (d.unitAt c = none → d.hwStops c = d.coreIdle c)) ∧
  (∀ (s : State) (c : Nat), c < 96 → s.seen.domOn (domOfCore c) = true → s.seen.coreTesting c = true →
    (s.seen.core c).testFail = false → (s.seen.core c).hwTest = false → c ∉ s.seen.mgmt.testing → ∀ e,
    e = ((((s.seen.inc (F.CORE_SELFTEST_RUNS c)).wr (F.CORE_SELFTEST_RESULT c) 1).wr (F.CORE_CTL_SELFTEST_REQ c) 0).setCore c
      { (s.seen.core c) with hwTest := false, testFail := false }).raise (F.CORE_INT_STATUS_SELFTEST_DONE c) →
    (e.coreIdle c).mgmt.testing.contains c = false →
    exec (.coreSelftestEnd c true) s = .next (s.withDev (e.coreIdle c))) ∧
  (∀ (s : State) (c : Nat), c < 96 → s.seen.domOn (domOfCore c) = true → s.seen.coreTesting c = true → ∀ e,
    e = ((((s.seen.inc (F.CORE_SELFTEST_RUNS c)).wr (F.CORE_SELFTEST_RESULT c) 2).wr (F.CORE_CTL_SELFTEST_REQ c) 0).setCore c
      { (s.seen.core c) with hwTest := false, testFail := false }).raise (F.CORE_INT_STATUS_SELFTEST_DONE c) →
    exec (.coreSelftestEnd c false) s = .next (s.withDev ((e.retireCore c).windowTested c false))) ∧
  (∀ (s : State) (c : Nat), c < 96 → s.seen.barOpen = true → s.seen.decodes (keySource (F.CORE_CTL c).key).1 = true →
    (s.seen.domOn (domOfCore c) = true → exec (.selftestReq c) s = .next (s.withDev (s.seen.selftestRequest c))) ∧
    exec (.coreRequeue c) s = .next (s.withDev ((s.seen.requeueHeld c).wr (F.CORE_CTL_REQUEUE c) 0)) ∧
    (∀ dr : Bool, ((s.seen.wr (F.CORE_CTL_DRAIN c) (b2n dr)).coreTesting c || s.seen.boot.retiredCores.contains c ||
        !(s.seen.wr (F.CORE_CTL_DRAIN c) (b2n dr)).domOn (domOfCore c)) = false →
      (s.seen.unitAt c = none → exec (.coreDrain c dr) s = .next (s.withDev ((s.seen.wr (F.CORE_CTL_DRAIN c) (b2n dr)).coreIdle c))) ∧
      (s.seen.unitAt c ≠ none → exec (.coreDrain c dr) s = .next (s.withDev
        ((s.seen.wr (F.CORE_CTL_DRAIN c) (b2n dr)).wr (F.CORE_STATUS_STATE c) (if dr then 4 else 2)))))) ∧
  (∀ (d : Device) (c : Nat), d.boot.retiredCores.contains c = false → d.domOn (domOfCore c) = true → (d.core c).hwTest = false →
    d.flag (F.CORE_CTL_SELFTEST_REQ c) = false →
    d.coreIdle c = (d.setPool c (!d.flag (F.CORE_CTL_DRAIN c))).wr (F.CORE_STATUS_STATE c) 1 ∧
      (d.coreIdle c).rd (F.CORE_STATUS_STATE c) = 1) ∧
  (∀ (d : Device) (c : Nat), d.boot.retiredCores.contains c = false → d.domOn (domOfCore c) = true →
    ((d.core c).hwTest = true ∨ d.flag (F.CORE_CTL_SELFTEST_REQ c) = true) →
    d.coreIdle c = (d.setPool c false).wr (F.CORE_STATUS_STATE c) 3 ∧ (d.coreIdle c).rd (F.CORE_STATUS_STATE c) = 3)

/-- R133, R161: the operations of EMB_TBL_CMD. `w` is what the host has written to its memory by then. -/
def Obligations.TableCommands : Prop :=
  (∀ (s : State) (t : Nat) (w : List Host.Cell) (d e : Device) (a : Nat) (b : Bytes), s.reaches F.EMB_TBL_CMD.key → s.seen.phase = .idle → t < 4096 → d = s.seen.hostWrites w → (d.table t).on = false → a = d.rd64 F.EMB_TDA_LO_ADDR + 64 * t → d.uniRead a 64 = some b → e = d.uniAsk a 64 → 
    (e.tableFault b = 0 → exec (.tableEnable t w) s = .next (s.withDev (e.tableOn t b))) ∧ (e.tableFault b ≠ 0 → exec (.tableEnable t w) s = .next (s.withDev (e.tableResult (e.tableFault b))))) ∧
  (∀ (s : State) (t : Nat) (w : List Host.Cell) (d : Device), s.reaches F.EMB_TBL_CMD.key → s.seen.phase = .idle → t < 4096 → d = s.seen.hostWrites w → 
    ((d.table t).on = true → exec (.tableEnable t w) s = .next (s.withDev (d.tableResult 9))) ∧
    ((d.table t).on = false → ∀ a, a = d.rd64 F.EMB_TDA_LO_ADDR + 64 * t → d.uniRead a 64 = none → exec (.tableEnable t w) s = .next (s.withDev ((d.log 4 0 2 t 11 a).tableResult 11)))) ∧
  (∀ (s : State) (t : Nat), s.reaches F.EMB_TBL_CMD.key → s.seen.phase = .idle → t < 4096 → 
    ((s.seen.table t).on = true → exec (.tableDisable t) s = .next (s.withDev ((s.seen.tableOff t).tableResult 0))) ∧
    ((s.seen.table t).on = false → exec (.tableDisable t) s = .next (s.withDev (s.seen.tableResult 9))) ∧ exec (.tableClearCounters t) s = .next (s.withDev ((s.seen.clearTable t).tableResult 0))) ∧
  (∀ (s : State) (t : Nat) (w : List Host.Cell), s.reaches F.EMB_TBL_CMD.key → s.seen.phase ≠ .idle → ∀ c, c = Instr.tableEnable t w ∨ c = .tableDisable t ∨ c = .tableClearCounters t → exec c s = .next (s.withDev (s.seen.tableResult 10))) ∧
  (∀ (d : Device) (t : Nat), (d.tableOff t).table t = {} ∧ ∀ k, k ≠ t → (d.tableOff t).table k = d.table k) ∧
  (∀ (d e f : Device) (t i l next : Nat) (b : Bytes) (sk : Option (Nat × Nat)), d.tableSketch t b = some (sk, e) → i = e.sortTile t (dRows b) →
    e.alloc1 i (dRecLines b) = some (l, f) → next = (if dBw b ∧ dDecay b ≠ 0 then f.now + dDecay b else 0) →
    ∃ g : Device, d.tableOn t b = g.tableResult 0 ∧ g.table t = { on := true, desc := b, sketchAt := sk, nextDecay := next, bw := [⟨dRows b, i, l, false, 0⟩] } ∧
      ∀ k, k ≠ t → g.table k = f.table k) ∧
  (∀ (d : Device) (t : Nat) (b : Bytes), d.tableSketch t b = none → d.tableOn t b = d.tableResult 7) ∧
  (∀ (d : Device) (r : Nat), Device.Calm (((d.wr F.EMB_TBL_CMD_STATUS_RESULT r).wr F.EMB_TBL_CMD_STATUS_BUSY 0).wr
    (if r = 0 then F.EMB_INT_STATUS_CMD_DONE else F.EMB_INT_STATUS_CMD_FAIL) 1) (d.tableResult r))

/-- R150, R163, R169, R173: the tile units and the owner trees. -/
def Obligations.TileUnits : Prop :=
  (∀ (s : State) (t u : Nat) (a : Bytes), s.seen.unitAt (placeTile t) = some u → (s.seen.workUnit u).kind = 3 → s.seen.unitRead (s.seen.workUnit u).argPtr 32 = .bytes a → exec (.lookupUnit t) s = .next (s.withDev (s.seen.lookup u t a))) ∧
  (∀ (d e : Device) (u tile t : Nat) (a : Bytes) (sec : BagSec) (x : Bytes), t = u16At a 0 → t < 4096 → (d.table t).on = true → x = (d.table t).desc →
    ((d.secsOf t).find? fun s => s.feature = u16At a 2 ∧ (s.bag d.leafSamples (d.workUnit u).leaf 0).isSome) = some sec →
    (zeros a 4 4 && zeros a 0x14 12) = true → u32At a 0x10 % 64 = 0 → packedBytes (dOutFormat x) (dWidth x) ≤ u32At a 0x10 →
    ∀ bags rows outs, bags = ((List.range d.leafSamples).map fun i => policyBag x ((sec.bag d.leafSamples (d.workUnit u).leaf i).getD [])) →
    rows = ((bags.flatMap id).map (·.1)).eraseDups → (rows.all fun r => (d.gathered t r).isSome) = true →
    outs = (bags.map fun b => d.poolOut x (poolBag (dPool x) (dWidth x) (b.map fun e => (rowValues (dFormat x) (dWidth x) ((d.gathered t e.1).getD []), e.2)))) →
    d.writeAll ((List.range outs.length).map fun i => (u64At a 8 + i * u32At a 0x10, (outs.getD i ([], 0, 0)).1)) = some e →
    d.lookup u tile a = (e.lookupCounts u tile t outs rows (poolCost (dPool x) (dWidth x) (bags.map (·.length)))).unitEnd u ∧
      (d.lookup u tile a).unitSt u = .ended) ∧
  (∀ (s : State) (t u : Nat) (a : Bytes), s.seen.unitAt (placeTile t) = some u → (s.seen.workUnit u).kind = 4 → bit (s.seen.workUnit u).flags 0 = true → s.seen.unitRead (s.seen.workUnit u).argPtr 32 = .bytes a → exec (.sortScanUnit t) s = .next (s.withDev (s.seen.sortScan u t a))) ∧
  (∀ (s : State) (t u : Nat), s.seen.unitAt (placeTile t) = some u → (s.seen.workUnit u).kind = 4 → bit (s.seen.workUnit u).flags 0 = false → exec (.sortScanUnit t) s = .next (s.withDev (s.seen.unitEnd u))) ∧
  (∀ (d : Device) (u tile t : Nat) (a desc : Bytes) (os : List Occ) (bs : List Bytes), t = Config.sortTable a → desc = (d.table t).desc →
    (d.table t).on = true → os = d.occsOf t (d.workUnit u).leaf →
    d.unitReads (os.map fun o => (Config.sortGrad a o.feature + o.sample * Config.sortStride a o.feature, 2 * dWidth desc)) = .ok bs →
    d.sortScan u tile a = (d.leafNodes t (d.workUnit u).leaf (coalesce (dPool desc) (dWidth desc) (os.zip (bs.map (f16sOf · (dWidth desc)))))).unitEnd u) ∧
  (∀ (s : State) (t u : Nat) (e : Device), s.seen.unitAt (placeTile t) = some u → (s.seen.workUnit u).kind = 5 → s.seen.reserve t = some e → 
    exec (.optStagingUnit t) s = .next (s.withDev ((e.stageGot t).unitEnd u)) ∧
    (s.seen.sparse.wantStage.contains t = true → exec (.stagingReserve t) s = .next (s.withDev ((e.stageGot t).unitEnd u)))) ∧
  (∀ (s : State) (t : Nat), s.seen.reserve t = none → (s.seen.others.all fun m => s.seen.setComplete 3 s.seen.step64 (s.seen.memberRank m)) = true → ∀ u, s.seen.unitAt (placeTile t) = some u → (s.seen.workUnit u).kind = 5 → exec (.optStagingUnit t) s = .next (s.withDev (s.seen.stageWait t))) ∧
  (∀ (s : State) (t : Nat) (e : Device), t < 24 → s.seen.phase = .reduce → s.seen.sparse.stopped = false → s.seen.sparse.treesDone.contains t = false → (s.seen.others.all fun m => s.seen.setComplete 5 s.seen.step64 (s.seen.memberRank m)) = true → 
    s.seen.reserve t = some e → exec (.ownerRowTrees t) s = .next (s.withDev ((e.stageGot t).formRoots t))) ∧
  (∀ (d : Device) (t : Nat), (d.formRoots t).sparse.treesDone = d.sparse.treesDone ++ [t] ∧ (d.formRoots t).sparse.staged.length = d.sparse.staged.length ∧
    (∀ s ∈ d.sparse.staged, d.sortTile s.table s.row ≠ t → s ∈ (d.formRoots t).sparse.staged) ∧
    (∀ s ∈ d.sparse.staged, d.sortTile s.table s.row = t → ∀ v nf, rowTree s.table s.row d.sparse.nodes d.leafLog 0 = some (v, nf) →
      { s with root := some v, nf := nf } ∈ (d.formRoots t).sparse.staged))

/-- R191, R196 and OPT_TAIL_CTL. -/
def Obligations.TailAcknowledgements : Prop :=
  (∀ (s : State) (r i : Nat) (e : Bytes), s.seen.ringHead r = some e → s.seen.tailIndex r = some i → s.seen.rd (F.RING_CFG_TYPE r) = 6 → 
    (u8At e 1 = 0 → exec (.tailAck r) s = .next (s.withDev ((s.seen.ringConsume r).tailAcked i (u64At e 8)))) ∧
    (u8At e 1 ≠ 0 → exec (.tailAck r) s = .next (s.withDev ((((s.seen.ringConsume r).raise F.OPT_INT_STATUS_TAIL_ACK_FAIL).lasting 0x0503 3 r (u8At e 1) 0 2 r true).haltReq)))) ∧
  (∀ (s : State) (g : Gather) (d : Device), s.seen.tailLate = some g → d = s.seen.setGather { g with waited := 0 } → exec (.tailAckTimeout) s = .next (s.withDev ((d.raise F.OPT_INT_STATUS_TAIL_TIMEOUT).lasting 0x0503 3 (d.tailRingOf g.table g.row) 0 g.row 2 (d.tailRingOf g.table g.row)))) ∧
  (∀ (s : State), s.seen.tailLate = none → exec (.tailAckTimeout) s = .next (s.withDev (s.seen))) ∧
  (∀ (s : State), s.reaches F.OPT_TAIL_CTL.key → s.seen.phase = .idle → exec (.tailDrain) s = .next (s.withDev (s.seen.tailDrainAsk.tailDrainEnd))) ∧
  (∀ (s : State), s.reaches F.OPT_TAIL_CTL.key → s.seen.phase ≠ .idle → exec (.tailDrain) s = .next (s.withDev (s.seen))) ∧
  (∀ d : Device, d.tailDrainAsk.sparse.tailDrain = true ∧ d.tailDrainAsk.rd F.OPT_TAIL_CTL_DRAIN = 1 ∧ (d.sparse.tailDrain = true → (d.tailClear = true → d.tailDrainEnd.rd F.OPT_TAIL_CTL_DRAIN = 0 ∧ d.tailDrainEnd.sparse.tailDrain = false) ∧
    (d.tailClear = false → d.tailDrainEnd = d)))

/-- The operations of TIER_CMD. `w` is what the host has written to its memory by then. -/
def Obligations.TierCommands : Prop :=
  (∀ (s : State) (w : List Host.Cell) (d : Device) (b : Bytes), s.reaches F.TIER_CMD.key → s.seen.flag F.TIER_CMD_STATUS_BUSY = false → s.seen.phase = .idle → d = s.seen.hostWrites w → d.objDesc = some b → 
    (lowest (d.descFaults none b) = 0 → exec (.createObj w) s = .next (s.withDev (d.askObjDesc.create b))) ∧
    (∀ r, r = lowest (d.descFaults none b) → r ≠ 0 → exec (.createObj w) s = .next (s.withDev (d.askObjDesc.tierResult r)))) ∧
  (∀ (d e f : Device) (n : Nat) (b : Bytes) (q : TierObj), d.freeNumber = some n → d.giveFrames n (d.newObj n b) = some (q, e) → e.giveSketch n q = some (q, f) →
    d.create b = ((f.setObj n q).wr F.TIER_CMD_HANDLE_HANDLE (q.gen * 2 ^ 14 + n)).sweepSpace.tierResult 0 ∧
      (d.newObj n b).live = true ∧ (d.newObj n b).gen = ((d.obj n).gen + 1) % 2 ^ 18) ∧
  (∀ (s : State) (h : Nat), s.reaches F.TIER_CMD.key → s.seen.flag F.TIER_CMD_STATUS_BUSY = false → s.seen.phase = .idle → h = s.seen.rd F.TIER_CMD_HANDLE_HANDLE → s.seen.handleLive h = true → s.seen.objInUse (handleNum h) = false → exec (.destroyObj) s = .next (s.withDev ((s.seen.destroy (handleNum h)).heldRun.tierResult 0))) ∧
  (∀ (d : Device) (n : Nat), (d.destroy n).obj n = (d.obj n).gone ∧
    (d.destroy n).tier.dir.all (fun e => decide (e.obj ≠ n)) = true ∧ (∀ m, m ≠ n → (d.destroy n).obj m = d.obj m)) ∧
  (∀ (s : State) (w : List Host.Cell) (d : Device) (b : Bytes) (h r : Nat), s.reaches F.TIER_CMD.key → s.seen.flag F.TIER_CMD_STATUS_BUSY = false → s.seen.phase = .idle → d = s.seen.hostWrites w → h = d.rd F.TIER_CMD_HANDLE_HANDLE → d.handleLive h = true → d.objDesc = some b → 
    r = lowest (d.descFaults (some (handleNum h)) b ++ if immutableChanged (d.obj (handleNum h)) (objOfDesc b) then [13] else []) → 
    (r = 0 → exec (.setPolicy w) s = .next (s.withDev (d.askObjDesc.policySet (handleNum h) (objOfDesc b)))) ∧ (r ≠ 0 → exec (.setPolicy w) s = .next (s.withDev (d.askObjDesc.tierResult r)))) ∧
  (∀ (s : State) (h r : Nat), s.reaches F.TIER_CMD.key → s.seen.flag F.TIER_CMD_STATUS_BUSY = false → h = s.seen.rd F.TIER_CMD_HANDLE_HANDLE → s.seen.handleLive h = true → (s.seen.obj (handleNum h)).kind = 1 → r = s.seen.rd F.TIER_CMD_ROW_LO_ROW + 2 ^ 32 * (s.seen.rd F.TIER_CMD_ROW_HI_ROW % 256) → 
    r < (s.seen.obj (handleNum h)).size → exec (.locate) s = .next (s.withDev ((s.seen.locateRow (handleNum h) r).tierResult 0))) ∧
  (∀ (s : State) (t r : Nat) (d : Device), s.reaches F.TIER_CMD.key → s.seen.flag F.TIER_CMD_STATUS_BUSY = false → t < 32 → 
    ((r, d) = s.seen.drainRequest 0 t → exec (.drainTile t) s = .next (s.withDev (d.tierResult r))) ∧ ((r, d) = s.seen.drainRequest 1 t → exec (.drainCarrier t) s = .next (s.withDev (d.tierResult r)))) ∧
  (∀ (s : State) (c : Instr) (w : List Host.Cell), s.reaches F.TIER_CMD.key → s.seen.flag F.TIER_CMD_STATUS_BUSY = false → s.seen.phase ≠ .idle → c = .createObj w ∨ c = .setPolicy w → exec c s = .next (s.withDev ((s.seen.hostWrites w).tierResult 10))) ∧
  (∀ (s : State), s.reaches F.TIER_CMD.key → s.seen.flag F.TIER_CMD_STATUS_BUSY = false → 
    (s.seen.phase ≠ .idle → exec (.destroyObj) s = .next (s.withDev (s.seen.tierResult 10))) ∧
    (s.seen.handleLive (s.seen.rd F.TIER_CMD_HANDLE_HANDLE) = false → (s.seen.phase = .idle → exec (.destroyObj) s = .next (s.withDev (s.seen.tierResult 8))) ∧ exec (.locate) s = .next (s.withDev (s.seen.tierResult 8)))) ∧
  (∀ (s : State) (c : Instr) (w : List Host.Cell) (t : Nat), s.reaches F.TIER_CMD.key → s.seen.flag F.TIER_CMD_STATUS_BUSY = true → c = .createObj w ∨ c = .destroyObj ∨ c = .setPolicy w ∨ c = .locate ∨ c = .drainTile t ∨ c = .drainCarrier t → 
    exec c s = .next (s.withDev (s.seen.logAccess F.TIER_CMD.key))) ∧
  (∀ (d : Device) (r : Nat), Device.Calm (((d.wr F.TIER_CMD_STATUS_RESULT r).wr F.TIER_CMD_STATUS_BUSY 0).wr
    (if r = 0 then F.TIER_INT_STATUS_CMD_DONE else F.TIER_INT_STATUS_CMD_FAIL) 1) (d.tierResult r))

/-- R220, R226, R231: what the tier manager does on its own. -/
def Obligations.TierBackground : Prop :=
  (∀ (s : State) (k t : Nat), s.seen.tier.drainNow = some (k, t) → s.seen.rd F.TIER_DRAIN_STATE = 2 → 
    s.seen.tier.want.filter (·.why = 3) = [] → 
    (k = 1 → exec (.drainComplete false) s = .next (s.withDev (s.seen.drainDone k t))) ∧ (k ≠ 1 → (∀ e, s.seen.moveExtents t = some e → exec (.drainComplete false) s = .next (s.withDev (e.drainDone k t))) ∧
      (s.seen.moveExtents t = none → exec (.drainComplete false) s = .next (s.withDev (s.seen.drainFailed k t))))) ∧
  (∀ (s : State) (k t : Nat) (w : WantMove), s.seen.tier.drainNow = some (k, t) → s.seen.rd F.TIER_DRAIN_STATE = 2 → w ∈ s.seen.tier.want → w.why = 3 → 
    ((s.seen.drainTiers k w.obj w.row).findSome? fun x => s.seen.moveTo w.obj w.row x) = none → exec (.drainComplete true) s = .next (s.withDev (s.seen.drainFailed k t))) ∧
  (∀ (s : State) (n : Nat) (o : TierObj) (c k : Nat) (d : Device), o = s.seen.obj n → o.live = true → o.decay ≠ 0 → c = s.seen.rd64 F.SPINE_COMMIT_TICK_LO → o.nextDecay ≤ c → k = decayShift c o.nextDecay o.decay → 
    d = (s.seen.setObj n { o with sketch := sketchShift o.sketch k, nextDecay := o.nextDecay + k * o.decay }).sweepObj n → 
    exec (.hotnessDecay n) s = .next (s.withDev (if o.pinHeld then d else d.sweepPins n))) ∧
  (∀ (s : State) (n : Nat), ((s.seen.obj n).live = false ∨ (s.seen.obj n).decay = 0 ∨ s.seen.rd64 F.SPINE_COMMIT_TICK_LO < (s.seen.obj n).nextDecay) → exec (.hotnessDecay n) s = .next (s.withDev (s.seen))) ∧
  (∀ (s : State) (n r : Nat) (w : WantMove), (s.seen.tier.want.find? fun w => w.obj = n ∧ w.row = r) = some w → (s.seen.dirEntry n r).map (·.state) ≠ some 1 → 
    ¬((s.seen.locate n r).1 = 3 ∧ ((s.seen.tableOfObj n).map fun t => s.seen.tailPending t r).getD false = true) → 
    ((s.seen.locate n r).1 = 0 → ∀ b, exec (.rowMove n r b) s = .next (s.withDev ((s.seen.unwant n r).recoveryEnd))) ∧
    ((s.seen.locate n r).1 ≠ 0 → exec (.rowMove n r 0) s = .next (s.withDev ((s.seen.moveWanted w).recoveryEnd.heldRun)) ∧
      exec (.rowMove n r 1) s = .next (s.withDev (((s.seen.log 4 1 4 0 0 r).moveWanted w).recoveryEnd.heldRun)) ∧
      ∀ b, 2 ≤ b → exec (.rowMove n r b) s = .next (s.withDev (s.seen.moveLost n r)))) ∧
  (∀ (d e : Device) (w : WantMove) (t : Nat), d.fenced w.obj w.row = false → d.moveTiers w = [t] → t ≠ 0 → (t = (d.locate w.obj w.row).1 → 2 ≤ w.why) →
    d.moveTo w.obj w.row t = some e → d.moveWanted w = ((e.unwant w.obj w.row).pinElsewhere w.obj w.row).sweepSpace ∧
      (e.unwant w.obj w.row).tier.want = e.tier.want.filter fun x => ¬(x.obj = w.obj ∧ x.row = w.row))

/-- R236 to R243: MEM_READ. -/
def Obligations.LineReads : Prop :=
  (∀ (s : State) (t l cls w : Nat) (r : Reader) (b1 b2 : List Nat) (d : Device), s.seen.stackUp t l = true → s.seen.readerDue r = true → d = s.seen.aged t cls w → 
    (d.lineClass t l = 0 → exec (.memRead t l r cls w b1 b2) s = .next (s.withDev (d.read0 true t l b1 b2))) ∧
    (d.lineClass t l ≠ 0 → exec (.memRead t l r cls w b1 b2) s = .next (s.withDev (d.read1 t l r b1)))) ∧
  (∀ (d : Device) (t l : Nat) (b1 b2 : List Nat), l ∉ (d.tile t).late → d.poisoned (t1Key t l 0) = false →
    (badCount b1 = 0 → d.read0 true t l b1 b2 = d.emit (.lineRead t l (d.lineBytes t l) false)) ∧
    (badCount b1 = 1 → d.read0 true t l b1 b2 = (d.countCE t l).giveLine true t l false) ∧
    (badCount b1 = 2 → badCount b2 = 2 → d.read0 true t l b1 b2 = (d.lastingLine t l).giveLine true t l true) ∧
    (badCount b1 = 2 → badCount b2 = 0 → d.read0 true t l b1 b2 = (d.log 0x0206 1 9 t 0 l).giveLine true t l false)) ∧
  (∀ (d : Device) (t l : Nat) (r : Reader) (b1 b2 : List Nat), d.poisoned (t1Key t l 0) = true →
    (l ∉ (d.tile t).late → d.read0 true t l b1 b2 = d.giveLine true t l true) ∧ d.read1 t l r b1 = d.detected t l r) ∧
  (∀ (d : Device) (t l : Nat) (r : Reader) (b1 : List Nat), d.poisoned (t1Key t l 0) = false →
    (badCount b1 = 0 → d.read1 t l r b1 = d.giveLine true t l false) ∧ (1 ≤ badCount b1 → badCount b1 ≤ 3 → d.read1 t l r b1 = d.detected t l r))

/-- R240, R250 to R252, R259: writes to a stack, with their frames over every byte of memory. -/
def Obligations.LineWrites : Prop :=
  (∀ (s : State) (t l cls w : Nat) (x : Bytes) (keep : Bool) (d : Device), s.seen.stackUp t l = true → d = s.seen.aged t cls w → exec (.memWrite t l x keep cls w) s = .next (s.withDev (d.fullWrite t l x (keep && d.poisoned (t1Key t l 0))))) ∧
  (∀ (d : Device) (t l j : Nat) (x : Bytes) (keep : Bool), (d.fullWrite t l x keep).regs = d.regs ∧ (d.fullWrite t l x keep).poisoned (t1Key t l 0) = keep ∧
    (d.fullWrite t l x keep).byte j = if t1Key t l 0 ≤ j ∧ j < t1Key t l 0 + 64 then (padTo 64 x).getD (j - t1Key t l 0) 0 else d.byte j) ∧
  (∀ (s : State) (t l m : Nat) (x : Bytes) (b : List Nat), s.seen.stackUp t l = true → exec (.memPartialWrite t l m x b) s = .next (s.withDev (s.seen.partialWrite t l m x b))) ∧
  (∀ (d : Device) (t l m j : Nat) (x : Bytes) (b : List Nat), m < 2 ^ 64 - 1 → ((d.tile t).acc.contains l = true ∨ (d.tile t).wcb.length < 64) →
    (d.partialWrite t l m x b).byte j =
      if t1Key t l 0 ≤ j ∧ j < t1Key t l 0 + 64 ∧ bit m (j - t1Key t l 0) = true then x.getD (j - t1Key t l 0) 0 else d.byte j) ∧
  (∀ (d : Device) (t l m : Nat) (x : Bytes) (b : List Nat), m < 2 ^ 64 - 1 → l ∉ (d.tile t).acc → (∀ e ∈ (d.tile t).wcb, e.line ≠ l) → (d.tile t).wcb.length < 64 →
    ((d.partialWrite t l m x b).tile t).wcb = (d.tile t).wcb ++ [⟨l, m⟩]) ∧
  (∀ (d : Device) (t l : Nat) (x : Bytes) (b : List Nat), d.partialWrite t l (2 ^ 64 - 1) x b = d.fullWrite t l x false) ∧
  (∀ (s : State) (t l leaf : Nat) (x : Bytes) (first u : Bool), s.seen.stackUp t l = true → exec (.accumulateWrite t l x first leaf u) s = .next (s.withDev (s.seen.accumulate t l x first leaf u))) ∧
  (∀ (d : Device) (t l leaf : Nat) (x : Bytes) (first : Bool), ((d.tile t).wcb.any (·.line = l)) = false →
    readMem (d.accumulate t l x first leaf false).mem 64 (t1Key t l 0) =
      ((if first then lineF32 (padTo 64 x) else List.zipWith f32Add (lineF32 (d.lineBytes t l)) (lineF32 (padTo 64 x))).flatMap (leBytes 4)) ∧
    ∀ j, (j < t1Key t l 0 ∨ t1Key t l 0 + 64 ≤ j) → (d.accumulate t l x first leaf false).byte j = d.byte j) ∧
  (∀ (s : State) (t : Nat) (b : List Nat) (e : WcbEntry) (r : List WcbEntry), (s.seen.tile t).wcb = e :: r → s.seen.stackUp t e.line = true → exec (.wcbAgeFlush t b) s = .next (s.withDev (s.seen.flushWcb t e.line b))) ∧
  (∀ (d : Device) (t l : Nat) (b : List Nat), badCount b = 0 → d.flushWcb t l b = (d.dropWcb t l).inc (F.MEM_WCB_FLUSH_COUNT t) ∧
    ((d.flushWcb t l b).tile t).wcb = (d.tile t).wcb.filter (·.line ≠ l)) ∧
  (∀ (s : State) (t ch : Nat), s.seen.stackUp t 0 = true → ch < 32 → Does (.bankRefresh t ch) s fun d =>
    d.regs = s.seen.regs ∧ d.mem = s.seen.mem ∧ Store.get (fun _ => 0) (d.tile t).bank ch = (Store.get (fun _ => 0) (s.seen.tile t).bank ch + 1) % 16 ∧
      (∀ k, k ≠ ch → Store.get (fun _ => 0) (d.tile t).bank k = Store.get (fun _ => 0) (s.seen.tile t).bank k) ∧ (∀ u, u ≠ t → d.tile u = s.seen.tile u))

/-- R246, R247, R255 to R261: what a controller does beside requests. -/
def Obligations.StackUpkeep : Prop :=
  (∀ (s : State) (t : Nat) (d : Device), s.seen.stackUp t 0 = true → (s.seen.tile t).periodLeft = 0 → d = s.seen.periodStart t → 
    ((s.seen.tile t).patrol = none → exec (.scrubPassStart t) s = .next (s.withDev (d.passStart t))) ∧
    ((s.seen.tile t).patrol ≠ none → exec (.scrubPassStart t) s = .next (s.withDev ((d.passLate t).raise (F.MEM_INT_STATUS_SCRUB_LATE t))))) ∧
  (∀ (s : State) (t : Nat), (s.seen.tile t).periodLeft ≠ 0 → exec (.scrubPassStart t) s = .next (s.withDev (s.seen))) ∧
  (∀ (d : Device) (t : Nat), ((d.passStart t).tile t).patrol = some 0 ∧ ((d.passStart t).tile t).passDue = false ∧
    (d.passStart t).rd (F.MEM_STATUS_SCRUB_BUSY t) = 1 ∧ (d.passStart t).rd (F.MEM_CTL_SCRUB_NOW t) = 0 ∧ (d.passStart t).mem = d.mem) ∧
  (∀ (s : State) (t p : Nat) (b1 b2 : List Nat) (n : Option Nat), (s.seen.tile t).patrol = some p → s.seen.stackUp t 0 = true → n = s.seen.nextPatrol t (s.seen.poison.length + (s.seen.tile t).wcb.length + (s.seen.tile t).acc.length + 1) p → 
    (n = none → exec (.patrolRead t b1 b2) s = .next (s.withDev (s.seen.passEnd t))) ∧
    (∀ l, n = some l → exec (.patrolRead t b1 b2) s = .next (s.withDev ((s.seen.patrolAt t (l + 1)).read0 false t l b1 b2)))) ∧
  (∀ (d : Device) (t : Nat), (d.tile t).passDue = false → ((d.passEnd t).tile t).patrol = none ∧ (d.passEnd t).rd (F.MEM_STATUS_SCRUB_BUSY t) = 0) ∧
  (∀ (s : State) (t : Nat), t < 24 → s.reaches (F.MEM_CTL t).key → 
    ((s.seen.tile t).patrol = none → s.seen.stackUp t 0 = true → exec (.scrubNow t) s = .next (s.withDev (s.seen.passStart t))) ∧
    ((s.seen.tile t).patrol ≠ none → exec (.scrubNow t) s = .next (s.withDev (s.seen.wr (F.MEM_CTL_SCRUB_NOW t) 1)))) ∧
  (∀ (s : State) (t die : Nat), t < 24 → s.reaches (F.MEM_CTL t).key → 
    (die < 8 → exec (.spareReq t die) s = .next (s.withDev ((s.seen.wr (F.MEM_CTL_SPARE_DIE t) die).spareStart t die 4))) ∧
    (8 ≤ die → die < 16 → exec (.spareReq t die) s = .next (s.withDev (s.seen.wr (F.MEM_CTL_SPARE_DIE t) die)))) ∧
  (∀ (d : Device) (t die cause : Nat), (d.rd (F.MEM_SPARE_STATE t) = 0 → d.spareStart t die cause = d.spareBegin t die cause) ∧
    (d.rd (F.MEM_SPARE_STATE t) ≠ 0 → d.spareStart t die cause = (((d.raise (F.MEM_INT_STATUS_NO_SPARE t)).lasting 4 9 t cause 0 5 t).drainRequest 0 t).2)) ∧
  (∀ (s : State) (t die n : Nat) (lost : List Nat), (s.seen.tile t).copy = some (die, n) → exec (.spareCopyDone t lost) s = .next (s.withDev (s.seen.copyEnd t die lost))) ∧
  (∀ (d : Device) (t die : Nat), Store.get (fun _ => 8) (d.spareTaken t die).boot.spareMaps t = die ∧ (d.spareTaken t die).rd (F.MEM_SPARE_STATE t) = 2 ∧
    (d.spareTaken t die).rd (F.MEM_SPARE_LEFT_LINES t) = 0 ∧ (d.spareTaken t die).spine.waitGood.all (fun w => decide (w.2.1 ≠ t)) = true) ∧
  (∀ (s : State) (t ch : Nat), s.seen.stackUp t 0 = true → ch < 32 → 
    exec (.stackIfError t ch false) s = .next (s.withDev ((s.seen.raise (F.MEM_INT_STATUS_IF_RETRY t)).log 0x0204 1 9 t 0 ch)) ∧
    exec (.stackIfError t ch true) s = .next (s.withDev (((s.seen.raise (F.MEM_INT_STATUS_IF_RETRY t)).lasting 4 9 t 0 ch 5 t).spareStart t (ch / 4) 3))) ∧
  (∀ (s : State) (t : Nat) (r : List (Option Int)) (d : Device), t < 24 → s.seen.domOn (domOfTile t) = true → r.length = 9 → d = s.seen.tempsNoted t r → 
    exec (.stackTempSample t r) s = .next (s.withDev (d.tempTaken t ((badReadings (s.seen.tile t).badTemps r).any fun e => decide (3 ≤ e.2)) (hottest r)))) ∧
  (∀ (d : Device) (t i : Nat) (x : Int) (h : Option (Nat × Int)),
    d.tempTaken t false (some (i, x)) = (((d.wr (F.MEM_STATUS_TEMP_FAIL t) 0).wr (F.MEM_TEMP_TEMP t) (ofInt 16 x)).wr (F.MEM_TEMP_HOT_DIE t) i).thermStep t x ∧
    (d.flag (F.MEM_STATUS_TEMP_FAIL t) = true → d.tempTaken t true h =
      (((d.wr (F.MEM_STATUS_TEMP_FAIL t) 1).wr (F.MEM_TEMP_TEMP t) 1520).wr (F.MEM_TEMP_HOT_DIE t) ((h.map (·.1)).getD 0)).thermStep t 1520) ∧
    (d.thermStep t x).rd (F.MEM_STATUS_THERM t) = thermLevel (d.rd (F.MEM_STATUS_THERM t)) x)

/-- R265, R276, R291: the operations of HIST_CMD. -/
def Obligations.HistorySpaces : Prop :=
  (∀ (s : State) (c : Nat) (w : List Host.Cell) (d : Device), d = s.seen.hostWrites w → s.reaches F.HIST_CMD.key → c < 8 → 
    (d.phase = .idle → exec (.enableSpace c w) s = .next (s.withDev (d.enableSpace c))) ∧ (d.phase ≠ .idle → exec (.enableSpace c w) s = .next (s.withDev (d.histResult 7)))) ∧
  (∀ (d : Device) (c : Nat), (d.spaceOn c = true → d.enableSpace c = d.histResult 4) ∧
    (d.spaceOn c = false → d.geomOk c = true → d.histObjOk c = true → d.enableSpace c = (((d.freeLists c).setUsed c []).setSpace c true).histResult 0) ∧
    (d.spaceOn c = false → d.geomOk c = false → d.enableSpace c = d.histResult 2) ∧
    (d.spaceOn c = false → d.geomOk c = true → d.histObjOk c = false → d.enableSpace c = d.histResult 3)) ∧
  (∀ (s : State) (c : Nat), s.reaches F.HIST_CMD.key → s.seen.phase = .idle → c < 8 → 
    (s.seen.spaceOn c = true → exec (.disableSpace c) s = .next (s.withDev (((s.seen.emptySpace c).setSpace c false).histResult 0))) ∧
    (s.seen.spaceOn c = false → exec (.disableSpace c) s = .next (s.withDev (s.seen.histResult 4)))) ∧
  (∀ (s : State) (c l : Nat), s.reaches F.HIST_CMD.key → s.seen.freeOpen = true → s.seen.spaceOn c = true → 
    (l < s.seen.rd (F.HIST_SPACE_LISTS_LISTS c) → s.seen.listInUse c (· == l) = false → exec (.freeList c l) s = .next (s.withDev ((s.seen.freeOne c l).histResult 0))) ∧
    (s.seen.rd (F.HIST_SPACE_LISTS_LISTS c) ≤ l → exec (.freeList c l) s = .next (s.withDev (s.seen.histResult 6))) ∧
    (l < s.seen.rd (F.HIST_SPACE_LISTS_LISTS c) → s.seen.listInUse c (· == l) = true → exec (.freeList c l) s = .next (s.withDev (s.seen.histResult 8)))) ∧
  (∀ (s : State) (c : Nat), s.reaches F.HIST_CMD.key → s.seen.freeOpen = true → s.seen.spaceOn c = true → s.seen.listInUse c (fun _ => true) = false → exec (.freeAll c) s = .next (s.withDev (((s.seen.freeLists c).setUsed c []).histResult 0))) ∧
  (∀ (s : State) (c l : Nat), s.reaches F.HIST_CMD.key → c < 8 → 
    (s.seen.freeOpen = false → exec (.freeList c l) s = .next (s.withDev (s.seen.histResult 7)) ∧ exec (.freeAll c) s = .next (s.withDev (s.seen.histResult 7))) ∧
    (s.seen.freeOpen = true → s.seen.spaceOn c = false → exec (.freeList c l) s = .next (s.withDev (s.seen.histResult 5)) ∧ exec (.freeAll c) s = .next (s.withDev (s.seen.histResult 5)))) ∧
  (∀ (s : State) (c l : Nat) (w : List Host.Cell) (i : Instr), 8 ≤ c → 
    (s.reaches F.HIST_CMD.key → i = .disableSpace c ∨ i = .freeList c l ∨ i = .freeAll c → exec i s = .next (s.withDev (s.seen.histResult 1)))) ∧
  (∀ (d : Device) (c : Nat), c < 8 → (d.setSpace c true).spaceOn c = true ∧ (d.setSpace c false).spaceOn c = false ∧
    (d.emptySpace c).usedSlots c = [] ∧ (∀ us, (d.setUsed c us).usedSlots c = us)) ∧
  (∀ (d : Device) (r : Nat), Device.Calm ((d.wr F.HIST_CMD_STATUS_RESULT r).wr (if r = 0 then F.HIST_INT_STATUS_CMD_DONE else F.HIST_INT_STATUS_CMD_FAIL) 1) (d.histResult r))

/-- R279, R285, R287: the units of KIND 6. -/
def Obligations.HistoryUnits : Prop :=
  (∀ (s : State) (c u op : Nat) (b : Bytes) (d e f : Device), (s.seen.unitAt c = some u ∧ (s.seen.workUnit u).kind = 6 ∧ c < 96 ∧ s.seen.readable [((s.seen.workUnit u).argPtr, 128)] ∧ d = s.seen.asked [((s.seen.workUnit u).argPtr, 128)] ∧
    b = d.uniBytes 128 (s.seen.workUnit u).argPtr ∧ d.histCause u b = 0) → u8At b 0 = op → d.readable (d.listReads u b) → 
    e = d.asked (d.listReads u b) → e.pageMissing u b = false → e.upsHeld u b = false → e.readable (e.pageReads u b ++ e.dataReads u b) → 
    f = (e.asked (e.pageReads u b ++ e.dataReads u b)).fenceUps u b → 
    (op = 0 → exec (.histForward c) s = .next (s.withDev (f.attnForward c u b))) ∧ (op = 1 → exec (.histBackward c) s = .next (s.withDev (f.attnBackward c u b)))) ∧
  (∀ (d e : Device) (c u : Nat) (b : Bytes) (os : List AttnOut), os = (d.attnRows u b).map (d.attnRow b) → d.writeAll (os.flatMap (·.writes)) = some e →
    d.attnForward c u b =
      (e.attnCounts (u8At b 1) u (os.map (·.negInf)).sum (os.filter (·.empty)).length (os.filter (·.nf)).length (os.any (·.bad))).histEnd c u) ∧
  (∀ (s : State) (c u : Nat) (b : Bytes) (d : Device), (s.seen.unitAt c = some u ∧ (s.seen.workUnit u).kind = 6 ∧ c < 96 ∧ s.seen.readable [((s.seen.workUnit u).argPtr, 128)] ∧ d = s.seen.asked [((s.seen.workUnit u).argPtr, 128)] ∧
    b = d.uniBytes 128 (s.seen.workUnit u).argPtr ∧ d.histCause u b = 0) → u8At b 0 = 2 → d.readable (d.latReads u b) → exec (.writePages c) s = .next (s.withDev ((d.asked (d.latReads u b)).makePages c u b)))

/-- R323 to R325: receiving. `takeMsg` hands a message to its type's rule. -/
def Obligations.CollectiveMessages : Prop :=
  (∀ (s : State) (c : Instr) (m : Bytes) (ty : Nat), 
    (c = .node m ∧ ty = 1) ∨ (c = .nodeHdr m ∧ ty = 2) ∨ (c = .rowReq m ∧ ty = 3) ∨ (c = .rowData m ∧ ty = 4) ∨ (c = .rowGrad m ∧ ty = 5) ∨ (c = .bwChange m ∧ ty = 6) ∨ (c = .bwRecord m ∧ ty = 7) ∨
    (c = .shardReq m ∧ ty = 8) ∨ (c = .shardData m ∧ ty = 9) ∨ (c = .stageMsg m ∧ ty = 10) ∨ (c = .vote m ∧ ty = 11) ∨ (c = .rootHdr m ∧ ty = 12) ∨ (c = .digest m ∧ ty = 13) ∨ (c = .repairOrder m ∧ ty = 14) ∨ (c = .repair m ∧ ty = 15) → 
    mTy m = ty → s.seen.jobId ≠ none → 64 ≤ m.length → s.seen.domOn domSpine = true → 
    (s.seen.msgCause m = 0 → ty = 5 ∨ s.seen.hasSeen ty m = false → exec c s = .next (s.withDev ((s.seen.seenMsg ty m).takeMsg m))) ∧
    (s.seen.msgCause m = 0 → ty ≠ 5 → s.seen.hasSeen ty m = true → exec c s = .next (s.withDev (s.seen.inc F.COLL_MSG_DUP_COUNT))) ∧
    (s.seen.msgCause m ≠ 0 → exec c s = .next (s.withDev (s.seen.badMsg m (s.seen.msgCause m))))) ∧
  (∀ (d : Device) (m : Bytes), d.step64 = mStep m → d.inStep = true →
    (mTy m = 0x01 → d.takeMsg m = d.takeNode m) ∧
    (mTy m = 0x02 → d.takeMsg m = d.takeNodeHdr m) ∧
    (mTy m = 0x03 → d.takeMsg m = d.takeRowReq m) ∧
    (mTy m = 0x04 → d.takeMsg m = d.takeRowData m) ∧
    (mTy m = 0x05 → d.takeMsg m = d.takeRowGrad m) ∧
    (mTy m = 0x06 → d.takeMsg m = d.takeChanges m) ∧
    (mTy m = 0x08 → d.takeMsg m = d.takeShardReq m) ∧
    (mTy m = 0x09 → d.takeMsg m = d.takeShardData m) ∧
    (mTy m = 0x0A → d.takeMsg m = d.takeStage m) ∧
    (mTy m = 0x0D → d.takeMsg m = d.takeDigest m) ∧
    (mTy m = 0x0E → d.takeMsg m = d.takeOrders m) ∧
    (mTy m = 0x0B → d.takeMsg m = d.takeVote (mPayload m)) ∧ (mTy m = 0x0C → d.takeMsg m = d.takeHdr (mPayload m))) ∧
  (∀ (d : Device) (m : Bytes), (mTy m = 0x07 → d.takeMsg m = d.takeRecord m) ∧ (mTy m = 0x0F → mStep m < d.step64 → d.takeMsg m = d.takeRepair m)) ∧
  (∀ (d : Device) (m : Bytes), mTy m ∈ [1, 2, 3, 4, 5, 6, 8, 9, 0xA, 0xB, 0xC, 0xD, 0xE] →
    (d.step64 < mStep m ∨ (d.step64 = mStep m ∧ d.inStep = false) → d.takeMsg m = d.keepMsg m) ∧ (mStep m < d.step64 → d.takeMsg m = d)) ∧
  (∀ (s : State) (m : Bytes), mTy m = 0x10 → s.seen.jobId ≠ none → 64 ≤ m.length → s.seen.domOn domSpine = true → s.seen.msgCause m = 0 → s.seen.hasSeen 0x10 m = false → 
    exec (.nack m) s = .next (s.withDev ((s.seen.seenMsg 0x10 m).resend m))) ∧
  (∀ (d : Device) (m : Bytes) (x : SentMsg),
    (d.coll.sent.find? fun x => x.ty = u8At m 0x18 ∧ x.step = mStep m ∧ x.dst = mSrc m ∧ x.seq = u32At m 0x1C) = some x →
    d.resend m = (d.sendMsg x.dst 0 (setResend x.bytes)).inc F.COLL_MSG_RESEND_COUNT) ∧
  (∀ (d : Device) (ty : Nat) (m : Bytes), (d.seenMsg ty m).hasSeen ty m = true ∧ (d.seenMsg ty m).regs = d.regs ∧ (d.seenMsg ty m).mem = d.mem)

/-- R318, R334, R337, R341, R347: the operations of COLL_CMD and the waits. `w` is what the host has written to its memory by then. -/
def Obligations.JobCommands : Prop :=
  (∀ (s : State) (w : List Host.Cell) (d e : Device) (b : Bytes), s.reaches F.COLL_CMD.key → s.seen.flag F.COLL_CMD_STATUS_BUSY = false → s.seen.phase = .idle → d = s.seen.hostWrites w → d.spine.prog.isNone = false → d.coll.job = none → d.tablesOn = [] → d.jobDesc = some b → e = d.uniAsk (d.rd64 F.COLL_CMD_ADDR_LO_ADDR) b.length → 
    (e.jobFault (b.take 64) (jobRanks b) = 0 → exec (.join w) s = .next (s.withDev (e.joinBegin b (jobRanks b)))) ∧
    (∀ r, r = e.jobFault (b.take 64) (jobRanks b) → r ≠ 0 → exec (.join w) s = .next (s.withDev (e.collResult r)))) ∧
  (∀ (s : State) (w : List Host.Cell) (d : Device), s.reaches F.COLL_CMD.key → s.seen.flag F.COLL_CMD_STATUS_BUSY = false → d = s.seen.hostWrites w → 
    ((d.phase ≠ .idle ∨ d.spine.prog.isNone = true) → exec (.join w) s = .next (s.withDev (d.collResult 6))) ∧
    (d.phase = .idle → d.spine.prog.isNone = false → (d.coll.job ≠ none → exec (.join w) s = .next (s.withDev (d.collResult 7))) ∧
      (d.coll.job = none → (d.tablesOn ≠ [] → exec (.join w) s = .next (s.withDev (d.collResult 9))) ∧ (d.tablesOn = [] → d.jobDesc = none → exec (.join w) s = .next (s.withDev (d.collResult 2)))))) ∧
  (∀ (s : State), s.reaches F.COLL_CMD.key → s.seen.flag F.COLL_CMD_STATUS_BUSY = false → s.seen.phase = .idle → (s.seen.coll.job ≠ none → s.seen.tablesOn = [] → exec (.leave) s = .next (s.withDev (s.seen.leaveJob.collResult 0))) ∧
    (s.seen.coll.job = none → exec (.leave) s = .next (s.withDev (s.seen.collResult 7)))) ∧
  (∀ d : Device, d.leaveJob.coll.job = none ∧ (d.leaveJob.collResult 0).rd F.COLL_CMD_STATUS_RESULT = 0) ∧
  (∀ (s : State), s.reaches F.COLL_CMD.key → s.seen.flag F.COLL_CMD_STATUS_BUSY = false → exec (.compareNext) s = .next (s.withDev (s.seen.askCompare.collResult 0))) ∧
  (∀ d : Device, d.askCompare.coll.compareNext = true ∧ d.askCompare.regs = d.regs) ∧
  (∀ (s : State), s.reaches F.COLL_CMD.key → s.seen.flag F.COLL_CMD_STATUS_BUSY = false → s.seen.coll.job ≠ none → s.seen.isJobRoot = true → exec (.resetWindows) s = .next (s.withDev (((List.range s.seen.flockSize).foldl (fun d i => d.setWindow i []) s.seen).collResult 0))) ∧
  (∀ (s : State) (m : Bytes), s.seen.jobId = none → mTy m = 0x11 → m.length = 128 → s.seen.domOn domSpine = true → exec (.joinMsg m) s = .next (s.withDev (s.seen.keepMsg m))) ∧
  (∀ (s : State) (m : Bytes), s.seen.jobId ≠ none → mTy m = 0x11 → 64 ≤ m.length → s.seen.domOn domSpine = true → s.seen.msgCause m = 0 → s.seen.hasSeen 0x11 m = false → 
    exec (.joinMsg m) s = .next (s.withDev ((s.seen.seenMsg 0x11 m).joinHear m)) ∧ exec (.joinOutcome m) s = .next (s.withDev ((s.seen.seenMsg 0x11 m).joinHeard m))) ∧
  (∀ (d : Device) (m : Bytes) (j : Job) (g : Bytes), d.coll.joining = some (j, g) →
    (j.index = 0 ∧ j.stage = 0 → d.joinHear m = d.joinTake (mSrc m) ((mPayload m).take 16) ∧ d.joinHeard m = d) ∧
    (¬(j.index = 0 ∧ j.stage = 0) → d.joinHear m = d ∧ d.joinHeard m = d.joinEnd ((mPayload m).take 16 == g)) ∧
    d.joinEnd true = ((d.joinOver.inJob j).raise F.COLL_INT_STATUS_JOINED).collResult 0 ∧ d.joinEnd false = (d.joinOver.raise F.COLL_INT_STATUS_JOIN_FAIL).collResult 8 ∧
    d.joinOver.coll.joining = none) ∧
  (∀ (s : State) (j : Job) (g : Bytes), s.seen.coll.joining = some (j, g) → s.seen.rd F.COLL_VOTE_TIMEOUT_TICKS ≤ s.seen.coll.joinTicks → 
    (j.index = 0 ∧ j.stage = 0 → exec (.joinTimeout) s = .next (s.withDev (s.seen.joinAnswer false))) ∧ (¬(j.index = 0 ∧ j.stage = 0) → exec (.joinTimeout) s = .next (s.withDev (s.seen.joinEnd false)))) ∧
  (∀ (s : State), s.seen.mayVote = true → exec (.voteSend) s = .next (s.withDev (s.seen.sendVote))) ∧
  (∀ (s : State), s.seen.mayVote = false → exec (.voteSend) s = .next (s.withDev (s.seen))) ∧
  (∀ (s : State) (n : Nat), s.seen.coll.voteTicks = some n → s.seen.rd F.COLL_VOTE_TIMEOUT_TICKS ≤ n → exec (.voteTimeout) s = .next (s.withDev (s.seen.voteLate)))

/-- R37, R307, R377: units that run on the spine and its engines. Config.stepOperand is the model's free reading of an operand block the spec does not lay out (log entry 36). -/
def Obligations.SpineUnits : Prop :=
  (∀ (s : State) (u p : Nat) (a : Bytes), (s.seen.workUnit u).kind = 8 → s.seen.stepBlock u = some a → s.seen.unitSt u = .running p → 
    (s.seen.stepDone u a = true → exec (.collectiveStepUnit u) s = .next (s.withDev (s.seen.unitEnd u))) ∧ (s.seen.stepDone u a = false → exec (.collectiveStepUnit u) s = .next (s.withDev (s.seen)))) ∧
  (∀ (s : State) (u : Nat) (a : Bytes), (s.seen.workUnit u).kind = 8 → s.seen.stepBlock u = some a → (∀ p, s.seen.unitSt u ≠ .running p) → s.seen.unitReady u = true → 
    exec (.collectiveStepUnit u) s = .next (s.withDev ((s.seen.handOut u placeSpine).stepStart u a))) ∧
  (∀ (d e : Device) (u : Nat) (a : Bytes),
    (Config.stepOperand a 0 % 3 = 0 → d.sendStage a = some e → d.stepStart u a = e.unitEnd u) ∧
    (Config.stepOperand a 0 % 3 = 1 → d.stepDone u a = true → d.stepStart u a = d.unitEnd u) ∧
    (Config.stepOperand a 0 % 3 = 2 → d.fetchShard u a = some (e, true) → d.stepStart u a = e.unitEnd u) ∧
    (d.unitEnd u).unitSt u = .ended ∧ (∀ v, v ≠ u → (d.unitEnd u).unitSt v = d.unitSt v) ∧ (d.unitEnd u).regs = d.regs ∧ (d.unitEnd u).mem = d.mem) ∧
  (∀ (s : State) (u : Nat), s.seen.phase = .commit → (s.seen.workUnit u).kind = 9 → u < s.seen.unitCount → s.seen.unitReady u = true → exec (.commitUnit u) s = .next (s.withDev ((s.seen.handOut u placeSpine).unitEnd u))) ∧
  (∀ (s : State) (e r u : Nat), 24 ≤ e → s.seen.engOn e = true → s.seen.unitRing e = some r → s.seen.nextCopy e = some u → exec (.dmaTransferUnit e) s = .next (s.withDev (s.seen.queueUnit e r u))) ∧
  (∀ (s : State) (e : Nat), s.seen.unitRing e = none ∨ s.seen.nextCopy e = none → exec (.dmaTransferUnit e) s = .next (s.withDev (s.seen)))

/-- R355 to R364: rings. `w` is what the host has written to its memory by then. -/
def Obligations.RingPointers : Prop :=
  (∀ (s : State) (r v : Nat) (w : List Host.Cell) (d : Device), r < 4096 → s.reaches (F.RING_PROD_PTR r).key → d = s.seen.hostWrites w → hostProduces (d.rd (F.RING_CFG_TYPE r)) = true → v < 2 ^ 32 → 
    (d.ptrBad r true v = false → exec (.ringProdWrite r v w) s = .next (s.withDev ((d.wr (F.RING_PROD_PTR r) v).ringFlags r))) ∧
    (d.ptrBad r true v = true → exec (.ringProdWrite r v w) s = .next (s.withDev (((d.inc (F.RING_DROP_COUNT r)).wr (F.RING_STATUS_PTR_ERR r) 1).logAccess (F.RING_PROD_PTR r).key)))) ∧
  (∀ (s : State) (r v : Nat), r < 4096 → s.reaches (F.RING_CONS_PTR r).key → hostConsumes (s.seen.rd (F.RING_CFG_TYPE r)) = true → v < 2 ^ 32 → ∀ d, d = (s.seen.wr (F.RING_CONS_PTR r) v).ringFlags r → 
    (s.seen.ptrBad r false v = false → exec (.ringConsWrite r v) s = .next (s.withDev (if r = d.rd F.CKPT_CFG_DELTA_RING then d.durable (s.seen.rd (F.RING_CONS_PTR r)) v else d))) ∧
    (s.seen.ptrBad r false v = true → exec (.ringConsWrite r v) s = .next (s.withDev (((s.seen.inc (F.RING_DROP_COUNT r)).wr (F.RING_STATUS_PTR_ERR r) 1).logAccess (F.RING_CONS_PTR r).key)))) ∧
  (∀ (s : State) (r v : Nat) (w : List Host.Cell), r < 4096 → 
    (s.reaches (F.RING_PROD_PTR r).key → hostProduces (s.seen.rd (F.RING_CFG_TYPE r)) = false → exec (.ringProdWrite r v w) s = .next (s.withDev ((s.seen.hostWrites w).logAccess (F.RING_PROD_PTR r).key))) ∧
    (s.reaches (F.RING_CONS_PTR r).key → hostConsumes (s.seen.rd (F.RING_CFG_TYPE r)) = false → exec (.ringConsWrite r v) s = .next (s.withDev (s.seen.logAccess (F.RING_CONS_PTR r).key)))) ∧
  (∀ (d : Device) (r v : Nat), v < 2 ^ 32 → d.rd (F.RING_CFG_LOG2_ENTRIES r) ≤ 20 →
    (d.ptrBad r true v = false ↔ (v + 2 ^ 32 - d.rd (F.RING_PROD_PTR r)) % 2 ^ 32 < 2 ^ 31 ∧ (v + 2 ^ 32 - d.rd (F.RING_CONS_PTR r)) % 2 ^ 32 ≤ 2 ^ d.rd (F.RING_CFG_LOG2_ENTRIES r))) ∧
  (∀ (s : State) (r v ty : Nat) (h : Channel), r < 4096 → s.reaches (F.RING_CTL r).key → ty = s.seen.rd (F.RING_CFG_TYPE r) → h = s.seen.chan (s.seen.rd (F.RING_CFG_ENGINE r)) (s.seen.rd (F.RING_CFG_CHANNEL r)) → 
    (¬((ty = 1 ∨ ty = 2) ∧ s.seen.flag (F.RING_CTL_ENABLE r) = true ∧ bit v 0 = false ∧ h.st ≠ .idle) → exec (.ringCtlWrite r v) s = .next (s.withDev (s.seen.setReg (F.RING_CTL r).key (BitVec.ofNat 32 (v % 8))))) ∧
    ((ty = 1 ∨ ty = 2) → s.seen.flag (F.RING_CTL_ENABLE r) = true → bit v 0 = false → h.st ≠ .idle → exec (.ringCtlWrite r v) s = .next (s.withDev (s.seen.logAccess (F.RING_CTL r).key)))) ∧
  (∀ (s : State) (r : Nat), (s.seen.ring r).timing = true → s.seen.flag (F.RING_CTL_INT_EN r) = true → s.seen.rd (F.RING_MOD_CLK r) ≠ 0 → exec (.ringModTimer r) s = .next (s.withDev ((s.seen.modDone r).sendMsix (s.seen.rd (F.RING_CFG_VECTOR r))))) ∧
  (∀ (s : State) (r : Nat), s.seen.flag (F.RING_CTL_INT_EN r) = false ∨ (s.seen.ring r).timing = false → exec (.ringModTimer r) s = .next (s.withDev (s.seen))) ∧
  (∀ (s : State) (r : Nat) (e : Bytes) (q : List Bytes) (d : Device), (s.seen.ring r).waiting = e :: q → s.seen.ringRoom r = true → s.seen.ringPut r e = (d, true, false) → 
    exec (.ringFullResume r) s = .next (s.withDev (d.setRing r { (d.ring r) with waiting := q })) ∧ exec (.ringWriteRetry r true) s = .next (s.withDev (d.setRing r { (d.ring r) with waiting := q }))) ∧
  (∀ (s : State) (r : Nat), (s.seen.ring r).waiting = [] ∨ s.seen.ringRoom r = false → ∀ c, c = Instr.ringFullResume r ∨ c = .ringWriteRetry r true ∨ c = .ringWriteRetry r false → exec c s = .next (s.withDev s.seen)) ∧
  (∀ (s : State) (r : Nat), (s.seen.ring r).waiting ≠ [] → s.seen.ringRoom r = true → exec (.ringWriteRetry r false) s = .next (s.withDev (s.seen.ringAccErr r))) ∧
  (∀ (s : State) (r : Nat) (e : Bytes), s.seen.rd (F.RING_CFG_TYPE r) = 9 → s.seen.ringHead r = some e → exec (.fabricSendEntry r) s = .next (s.withDev ((s.seen.sendMsg (u16At e 0 % 4096) 1 e).ringConsume r))) ∧
  (∀ (d : Device) (r : Nat), ((d.modDone r).ring r).timing = false ∧ ((d.modDone r).ring r).since = 0 ∧ ((d.modDone r).ring r).waiting = (d.ring r).waiting ∧
    (d.modDone r).regs = d.regs ∧ (∀ q, q ≠ r → (d.modDone r).ring q = d.ring q))

/-- R369 to R379: the DMA engines. -/
def Obligations.DmaChannels : Prop :=
  (∀ (s : State) (e c r : Nat) (h : Channel), s.seen.chanRing e c = some r → h = s.seen.chan e c → s.seen.engOn e = true → s.seen.flag (F.RING_CTL_ENABLE r) = true → s.seen.ringEmpty r = false → h.live = false → 
    (s.seen.rd (F.RING_CFG_TYPE r) = 2 → (s.seen.ring (s.seen.rd (F.RING_PAIR_PAIR r))).waiting = []) → s.seen.chanState e c = .idle ∨ s.seen.chanState e c = .running → 
    exec (.chainStart e c) s = .next (s.withDev (s.seen.chainBegin e c r))) ∧
  (∀ (s : State) (i : Instr) (e c op n : Nat) (f : Option Nat) (h : Channel), (i = .dmaCopy e c f ∧ op = 0) ∨ (i = .dmaAccumulate e c f ∧ op = 1) ∨ (i = .dmaFill e c f ∧ op = 2) ∨ (i = .pageWalk e c f ∧ op = 3) → 
    h = s.seen.chan e c → s.seen.engOn e = true → h.st = .running → h.live = true → h.ended = false → h.cur ≠ [] → qOp h.cur = op → n = qTotal h.cur - h.before → 
    exec i s = .next (s.withDev (Device.moveLines e c n f s.seen))) ∧
  (∀ (d x : Device) (e c n : Nat) (f : Option Nat), Device.moveLines e c 0 f d = d ∧ Device.moveLines e c (n + 1) (some 0) d = d.chanFail e c ∧
    (f ≠ some 0 → (d.moveLine e c (d.chan e c) = .moved x → Device.moveLines e c (n + 1) f d = Device.moveLines e c n (f.map (· - 1)) (x.lineMoved e c)) ∧
      (d.moveLine e c (d.chan e c) = .failed x → Device.moveLines e c (n + 1) f d = x.chanFail e c))) ∧
  (∀ (d : Device) (e c dst : Nat) (h : Channel), qOp h.cur = 2 → h.lineAddr (qDst h.cur) (qDstStride h.cur) = some dst →
    d.moveLine e c h = d.dmaPut dst (((List.replicate 8 (sub h.cur 8 8)).flatten).take h.lineBytes) false) ∧
  (∀ (s : State) (e c : Nat) (h : Channel), h = s.seen.chan e c → s.seen.engOn e = true → h.st = .running → h.live = true → h.ended = true → exec (.chainComplete e c) s = .next (s.withDev (s.seen.chainEnd e c 0 true))) ∧
  (∀ (s : State) (e c : Nat) (h : Channel) (d : Device), h = s.seen.chan e c → s.seen.engOn e = true → h.st = .retrying → d = s.seen.inc (F.DMA_ENG_RETRIES_COUNT e) → 
    exec (.dmaLineRetry e c false) s = .next (s.withDev (d.chanFail e c)) ∧
    (h.cur = [] → d.uniOk h.desc 64 = true → exec (.dmaLineRetry e c true) s = .next (s.withDev ((d.retryOk e c).reach e c h.desc))) ∧
    (h.cur ≠ [] → ∀ x, d.moveLine e c h = .moved x → exec (.dmaLineRetry e c true) s = .next (s.withDev ((x.retryOk e c).lineMoved e c)))) ∧
  (∀ (s : State) (e c : Nat), e < 28 → s.reaches (F.DMA_CH_CTL e 0).key → c = s.seen.rd (F.DMA_CH_SEL_CHANNEL e) → 
    ((s.seen.chanState e c = .running ∨ s.seen.chanState e c = .retrying) → exec (.dmaPause e 1) s = .next (s.withDev (s.seen.pauseChan e c))) ∧
    ((s.seen.chanState e c = .paused ∨ s.seen.chanState e c = .halted) → exec (.dmaResume e 2) s = .next (s.withDev (s.seen.resumeChan e c)) ∧ exec (.dmaAbort e 4) s = .next (s.withDev (s.seen.abortChan e c))) ∧
    (s.seen.chanState e c ≠ .running → s.seen.chanState e c ≠ .retrying → exec (.dmaPause e 1) s = .next (s.withDev (s.seen.logAccess (F.DMA_CH_CTL e 0).key))) ∧
    (s.seen.chanState e c ≠ .paused → s.seen.chanState e c ≠ .halted → exec (.dmaResume e 2) s = .next (s.withDev (s.seen.logAccess (F.DMA_CH_CTL e 0).key)) ∧ exec (.dmaAbort e 4) s = .next (s.withDev (s.seen.logAccess (F.DMA_CH_CTL e 0).key)))) ∧
  (∀ (d : Device) (e c : Nat), ((d.chan e c).st ≠ .retrying → ((d.pauseChan e c).chan e c).st = .paused) ∧
    ((d.chan e c).st = .retrying → ((d.pauseChan e c).chan e c).st = .retrying ∧ ((d.pauseChan e c).chan e c).pauseReq = true) ∧
    ((d.chan e c).live = false → ((d.resumeChan e c).chan e c).st = .running ∧ ((d.abortChan e c).chan e c).st = .running) ∧
    ((d.chan e c).live = true → d.abortChan e c = d.chainEnd e c (if (d.chan e c).st = .halted ∧ ((d.chan e c).cause = 2 ∨ (d.chan e c).cause = 3) then 2 else 1) true))

/-- R390 to R394: light and feeds. -/
def Obligations.LaserSafety : Prop :=
  (∀ (s : State), s.seen.optics.interlock = true → exec (.laserInterlockOpen) s = .next (s.withDev ((s.seen.interlockSet false false).allFeeds.raise F.FAB_SAFETY_INT_STATUS_INTLK_OPEN))) ∧
  (∀ (s : State), s.seen.optics.interlock = false → exec (.laserInterlockClose) s = .next (s.withDev (s.seen.interlockSet true true)) ∧ exec (.laserInterlockOpen) s = .next (s.withDev (s.seen))) ∧
  (∀ (s : State), s.seen.optics.interlock = true → (s.seen.optics.hold = true → exec (.interlockHoldDone) s = .next (s.withDev ((s.seen.interlockSet true false).allFeeds))) ∧
    (s.seen.optics.hold = false → exec (.interlockHoldDone) s = .next (s.withDev (s.seen))) ∧ exec (.laserInterlockClose) s = .next (s.withDev (s.seen))) ∧
  (∀ (d : Device) (c h : Bool), (d.interlockSet c h).optics.interlock = c ∧ (d.interlockSet c h).optics.hold = h ∧ (d.interlockSet c h).regs = d.regs) ∧
  (∀ (s : State) (l : Nat), l < 12 → s.seen.linkPowered l = true → (s.seen.link l).blanked = false → exec (.laneGroupDark l) s = .next (s.withDev ((s.seen.setLink l { (s.seen.link l) with blanked := true, probing := false }).raise F.FAB_SAFETY_INT_STATUS_OPEN_FIBRE))) ∧
  (∀ (s : State) (l : Nat), l < 12 → s.seen.linkPowered l = true → (s.seen.link l).blanked = true → (s.seen.link l).probing = false → exec (.openFibreProbe l) s = .next (s.withDev (s.seen.setLink l { (s.seen.link l) with probing := true })) ∧ exec (.laneGroupDark l) s = .next (s.withDev (s.seen))) ∧
  (∀ (s : State) (l : Nat), (s.seen.link l).probing = true → 
    exec (.probeEnd l true) s = .next (s.withDev ((s.seen.setLink l { (s.seen.link l) with probing := false, blanked := false, training := true }).wr (linkState l) (if (s.seen.link l).outage then 4 else 1))) ∧
    exec (.probeEnd l false) s = .next (s.withDev (s.seen.setLink l { (s.seen.link l) with probing := false }))) ∧
  (∀ (s : State) (e : Nat), e < 4 → s.seen.flag (F.FAB_ENG_STATUS_OVER e) = false → exec (.feedOverPower e) s = .next (s.withDev (((s.seen.wr (F.FAB_ENG_STATUS_OVER e) 1).feedEnables e).raise F.FAB_SAFETY_INT_STATUS_OVER_POWER))) ∧
  (∀ (s : State) (e : Nat), e < 4 → s.reaches (F.FAB_ENG_CTL e).key → exec (.clearOver e) s = .next (s.withDev ((s.seen.wr (F.FAB_ENG_STATUS_OVER e) 0).feedEnables e))) ∧
  (∀ (s : State) (e f : Nat), e < 4 → f < 2 → (s.seen.rd (feedFld e f) = 1 → exec (.feedFail e f) s = .next (s.withDev (s.seen.feedLost e f))) ∧
    ((2 * e + f) ∈ s.seen.optics.opening → exec (.feedWindowTimeout e f) s = .next (s.withDev ((s.seen.notOpening e f).feedLost e f)))) ∧
  (∀ (d : Device) (e f : Nat), Device.Calm (((d.wr (feedFld e f) 2).wr (powerFld e f) 0x8000).wr F.FAB_SAFETY_INT_STATUS_FEED_FAULT 1) (d.feedLost e f) ∧
    (2 * e + f) ∉ (d.notOpening e f).optics.opening) ∧
  (∀ (s : State) (e v : Nat), e < 4 → s.reaches (F.FAB_ENG_CTL e).key → exec (.feedOffWrite e v) s = .next (s.withDev ((s.seen.feedOff e 0 (bits v 0 0)).feedOff e 1 (bits v 1 1)))) ∧
  (∀ (d : Device) (e f v : Nat) (o : Fld), o = (if f = 0 then F.FAB_ENG_CTL_FEED_A_OFF e else F.FAB_ENG_CTL_FEED_B_OFF e) → v ≠ d.rd o →
    (v = 1 → d.rd (feedFld e (1 - f)) ≠ 1 → d.feedOff e f v = d.logAccess (F.FAB_ENG_CTL e).key) ∧
    (v ≠ 1 ∨ d.rd (feedFld e (1 - f)) = 1 → d.feedOff e f v = (d.wr o v).feedEnable e f))

/-- R395 to R397, R405, R408: the link layer. -/
def Obligations.LinkLayer : Prop :=
  (∀ (s : State) (l : Nat) (x : Bytes) (d : Device), s.seen.linkUp l = true → d = s.seen.ackUpTo l (flitAck l x) → 
    (flitSeq l x = (d.link l).rxSeq → (l < 8 → exec (.dataFlit l x true) s = .next (s.withDev ((d.seqTaken l).takeFlit l x))) ∧
      (8 ≤ l → exec (.dataFlit l x true) s = .next (s.withDev ((d.seqTaken l).takeSlots (l - 8) x (min 3 (u8At x 6)))))) ∧
    (flitSeq l x ≠ (d.link l).rxSeq → exec (.dataFlit l x true) s = .next (s.withDev (d.seqMiss l))) ∧ exec (.dataFlit l x false) s = .next (s.withDev (s.seen.badFlit l))) ∧
  (∀ (s : State) (l a : Nat), s.seen.linkUp l = true → exec (.idleFlit l a true) s = .next (s.withDev (s.seen.ackUpTo l a)) ∧ exec (.idleFlit l a false) s = .next (s.withDev (s.seen.badFlit l))) ∧
  (∀ (s : State) (l q : Nat), s.seen.linkUp l = true → exec (.nak l q) s = .next (s.withDev ((s.seen.ackUpTo l ((q + 65535) % 65536)).replayFrom l q))) ∧
  (∀ (s : State) (l vc n : Nat), l < 8 → s.seen.linkUp l = true → exec (.credit l vc n) s = .next (s.withDev ((s.seen.setLink l ((s.seen.link l).credited vc n)).flitPump (s.seen.link l).wait.length l))) ∧
  (∀ (s : State) (l : Nat) (t : TxFlit) (r : List TxFlit), s.seen.linkUp l = true → (s.seen.link l).buf = t :: r → exec (.replayTimeout l) s = .next (s.withDev (s.seen.replayFrom l t.seq))) ∧
  (∀ (s : State) (l : Nat) (x : Bytes) (g : Bool) (a vc n q : Nat) (i : Instr), s.seen.linkUp l = false → i = .dataFlit l x g ∨ i = .idleFlit l a g ∨ i = .nak l q ∨ i = .credit l vc n ∨ i = .replayTimeout l → 
    exec i s = .next (s.withDev s.seen)) ∧
  (∀ (s : State) (p src : Nat), p < 8 → ((s.seen.link p).partials.any fun x => x.src = src) = true → exec (.reasmTimeout p src) s = .next (s.withDev (s.seen.dropPart p src))) ∧
  (∀ (d : Device) (l : Nat), ((d.seqTaken l).link l).rxSeq = ((d.link l).rxSeq + 1) % 65536 ∧ ((d.seqTaken l).link l).naking = false ∧ ((d.seqMiss l).link l).naking = true ∧
    ((d.seqMiss l).link l).rxSeq = (d.link l).rxSeq ∧ (d.seqTaken l).regs = d.regs ∧ (d.seqMiss l).regs = d.regs) ∧
  (∀ (k : Link) (n : Nat), (k.credited 0 n).credit0 = k.credit0 + n ∧ (k.credited 0 n).credit1 = k.credit1 ∧ (k.credited 1 n).credit1 = k.credit1 + n ∧ (k.credited 1 n).credit0 = k.credit0) ∧
  (∀ (d : Device) (l a : Nat), (∀ t ∈ (d.link l).buf, t.seq ≠ a) → d.ackUpTo l a = d) ∧
  (∀ (d : Device) (p src : Nat), ((d.dropPart p src).link p).partials.all (fun x => decide (x.src ≠ src)) = true)

/-- R398 to R400, R402, R418: lanes, widths and outages. -/
def Obligations.LaneRepair : Prop :=
  (∀ (s : State) (l : Nat) (es : List Nat) (d : Device), s.seen.linkUp l = true → d = (List.range (linkFibres l)).foldl (fun d f => d.countLane l f (es.getD f 0)) s.seen → exec (.laneCheck l es) s = .next (s.withDev (d.laneFails l (d.newFailing l)))) ∧
  (∀ (s : State) (l n : Nat), s.seen.linkUp l = true → n + 1 < linkFibres l → (s.seen.link l).failing.contains n = false → exec (.laneLossOfLock l n) s = .next (s.withDev (s.seen.laneFails l [n]))) ∧
  (∀ (d : Device) (l : Nat) (ns : List Nat), d.laneFails l [] = d ∧
    (ns ≠ [] → d.laneFails l ns = (d.setLink l { (d.link l) with failing := (d.link l).failing ++ ns }).linkFault l)) ∧
  (∀ (s : State) (l n : Nat), s.seen.linkUp l = true → n + 1 < linkFibres l → s.seen.laneMap l % 9 = 0 → exec (.laneSwitchReq l n) s = .next (s.withDev ((s.seen.txSpare l n).emit (.control l (ctlRecord 4 n 0 0))))) ∧
  (∀ (s : State) (l n : Nat), (s.seen.link l).switching = some (n, false) → exec (.laneSwitchAck l n) s = .next (s.withDev (s.seen.setLink l { (s.seen.link l) with switching := some (n, true) }))) ∧
  (∀ (s : State) (l n : Nat), (s.seen.link l).switching = some (n, true) → exec (.spareDeskewed l) s = .next (s.withDev ((s.seen.spareTakes l n).spareShown l n))) ∧
  (∀ (s : State) (l n : Nat), (s.seen.link l).switching ≠ some (n, false) → exec (.laneSwitchAck l n) s = .next (s.withDev (s.seen))) ∧
  (∀ (s : State) (l : Nat), s.seen.linkUp l = true → exec (.retrainReq l 4) s = .next (s.withDev (s.seen.retrain l true false)) ∧
    (l < 8 → exec (.retrainReq l 8) s = .next (s.withDev (s.seen.retrain l false false))) ∧ (8 ≤ l → exec (.retrainReq l 5) s = .next (s.withDev (s.seen.retrain l false false)))) ∧
  (∀ (d : Device) (l : Nat) (four tell : Bool), ((d.retrain l four tell).link l).training = true ∧ ((d.retrain l four tell).link l).width4 = four ∧
    (d.retrain l four tell).rd (linkState l) = (if l < 8 then 3 else 1)) ∧
  (∀ (s : State) (l : Nat) (ok rem : Bool) (d : Device), l < 12 → (s.seen.link l).training = true → s.seen.linkPowered l = true → (s.seen.link l).blanked = false → 
    d = s.seen.wr (if l < 8 then F.FAB_PL_CTL_RETRAIN l else F.TLNK_C_CTL_RETRAIN (l - 8)) 0 → 
    exec (.linkRetrainDone l true false) s = .next (s.withDev (d.retrainedWell l (d.fellTo4 l))) ∧ exec (.linkRetrainDone l true true) s = .next (s.withDev (d.linkOut l)) ∧ exec (.linkRetrainDone l false rem) s = .next (s.withDev (d.linkOut l))) ∧
  (∀ (s : State) (l : Nat), s.seen.linkPowered l = true → (s.seen.link l).blanked = false → s.seen.rd (linkState l) ≠ 0 → 
    (l < 8 → s.seen.rd (linkState l) ≠ 4 → exec (.linkOutage l) s = .next (s.withDev (s.seen.planeOut l))) ∧
    (l < 8 → s.seen.rd (linkState l) = 4 → exec (.linkOutage l) s = .next (s.withDev (s.seen))) ∧
    (8 ≤ l → l < 12 → exec (.linkOutage l) s = .next (s.withDev (s.seen.tierOutage (l - 8))))) ∧
  (∀ (s : State) (l : Nat), l < 12 → s.seen.linkPowered l = true → s.seen.rd (linkState l) = 4 → exec (.lightReturn l) s = .next (s.withDev ((s.seen.lit l).retrain l (s.seen.link l).width4 false))) ∧
  (∀ (s : State) (l : Nat), l < 12 → s.seen.linkPowered l = true → (s.seen.link l).blanked = false → s.seen.optics.interlock = true → s.seen.optics.hold = false → 
    s.seen.rd (linkState l) = 0 ∨ s.seen.rd (linkState l) = 1 → exec (.linkTrained l) s = .next (s.withDev ((s.seen.linkFresh l).linkIn l)))

/-- R399, R401, R419: the control registers of planes and tier links. -/
def Obligations.PlaneControls : Prop :=
  (∀ (s : State) (p : Nat), p < 8 → s.reaches (F.FAB_PL_CTL p).key → 
    (s.seen.flag (F.FAB_PL_CTL_DISABLE p) = false → exec (.planeDisable p true) s = .next (s.withDev ((s.seen.wr (F.FAB_PL_CTL_DISABLE p) 1).planeOff p)) ∧ exec (.planeDisable p false) s = .next (s.withDev (s.seen.wr (F.FAB_PL_CTL_DISABLE p) 0))) ∧
    (s.seen.flag (F.FAB_PL_CTL_DISABLE p) = true → exec (.planeDisable p false) s = .next (s.withDev ((s.seen.wr (F.FAB_PL_CTL_DISABLE p) 0).planeOn p)) ∧ exec (.planeDisable p true) s = .next (s.withDev (s.seen.wr (F.FAB_PL_CTL_DISABLE p) 1)))) ∧
  (∀ (d : Device) (p : Nat), (d.rd (linkState p) = 2 ∨ d.rd (linkState p) = 3 →
      d.planeOff p = ((d.setLink p { (d.link p) with training := false }).wr (linkState p) 5).planeLeaves p) ∧
    (d.rd (linkState p) ≠ 2 → d.rd (linkState p) ≠ 3 → d.planeOff p = d) ∧
    (d.rd (linkState p) = 5 → (d.planeOn p).rd (linkState p) = 1 ∧ ((d.planeOn p).link p).training = true) ∧ (d.rd (linkState p) ≠ 5 → d.planeOn p = d)) ∧
  (∀ (s : State) (p : Nat), p < 8 → s.reaches (F.FAB_PL_CTL p).key → exec (.planeRetrain p) s = .next (s.withDev (s.seen.retrainWrite p)) ∧ exec (.planeMargin p) s = .next (s.withDev (s.seen.marginStart p))) ∧
  (∀ (s : State) (c : Nat), c < 4 → s.reaches (F.TLNK_C_CTL c).key → exec (.carrierRetrain c) s = .next (s.withDev (s.seen.retrainWrite (8 + c))) ∧ exec (.carrierMargin c) s = .next (s.withDev (s.seen.marginStart (8 + c)))) ∧
  (∀ (d : Device) (l : Nat), d.linkPowered l = true → d.rd (linkState l) ≠ 0 → d.rd (linkState l) ≠ 4 → ∀ e,
    e = d.wr (if l < 8 then F.FAB_PL_CTL_RETRAIN l else F.TLNK_C_CTL_RETRAIN (l - 8)) 1 →
    d.retrainWrite l = (e.setLink l { (e.link l) with retrained := false, failing := [] }).retrain l false true) ∧
  (∀ (d : Device) (l : Nat), d.linkPowered l = false ∨ d.rd (linkState l) = 0 ∨ d.rd (linkState l) = 4 → d.retrainWrite l = d) ∧
  (∀ (s : State) (l w h : Nat) (d : Device), l < 12 → (s.seen.link l).margin = true → d = (s.seen.marginOver l).marginShown l w h → 
    (d.rd F.FAB_MARGIN_MIN_EYE_W ≤ w → d.rd F.FAB_MARGIN_MIN_EYE_H ≤ h → exec (.spareMarginDone l w h) s = .next (s.withDev (d))) ∧
    ((w < d.rd F.FAB_MARGIN_MIN_EYE_W ∨ h < d.rd F.FAB_MARGIN_MIN_EYE_H) → exec (.spareMarginDone l w h) s = .next (s.withDev (d.spareBad l (s.seen.mgmt.testing.contains (1000 + l)))))) ∧
  (∀ (s : State) (l w h : Nat), (s.seen.link l).margin = false → exec (.spareMarginDone l w h) s = .next (s.withDev (s.seen))) ∧
  (∀ (d : Device) (l w h : Nat), ((d.marginOver l).link l).margin = false ∧ (d.marginOver l).mgmt.testing.contains (1000 + l) = false ∧
    (l < 8 → w < 256 → h < 256 → (d.marginShown l w h).rd (F.FAB_PL_MARGIN_EYE_W l) = w ∧ (d.marginShown l w h).rd (F.FAB_PL_MARGIN_EYE_H l) = h ∧
      (d.marginShown l w h).rd (F.FAB_PL_MARGIN_VALID l) = 1 ∧ (d.marginShown l w h).rd (F.FAB_PL_CTL_MARGIN l) = 0))

/-- R415 to R417: what the carriers send. -/
def Obligations.CarrierResponses : Prop :=
  (∀ (s : State) (c : Nat), c < 4 → s.reaches (F.TLNK_C_CTL c).key → 
    (s.seen.carrierState c = 1 → (s.seen.carrier c).helloBad = false → exec (.accept c) s = .next (s.withDev (s.seen.carrierIn c))) ∧
    (s.seen.carrierState c ≠ 1 ∨ (s.seen.carrier c).helloBad = true → exec (.accept c) s = .next (s.withDev (s.seen.logAccess (F.TLNK_C_CTL c).key)))) ∧
  (∀ (s : State) (c g : Nat) (t : Tag) (d : Device), c < 4 → s.seen.findTag c g 1 = some t → d = s.seen.inc (F.TLNK_C_POISON_COUNT c) → 
    exec (.readData c g 0) s = .next (s.withDev (s.seen.tagDone c t)) ∧
    (t.poisons = 0 → exec (.readData c g 1) s = .next (s.withDev (d.poisonAgain c t))) ∧ (t.poisons ≠ 0 → exec (.readData c g 1) s = .next (s.withDev (d.twicePoison c t))) ∧
    exec (.readData c g 2) s = .next (s.withDev (s.seen.carrierFail c)) ∧ exec (.readData c g 3) s = .next (s.withDev (s.seen.carrierFail c))) ∧
  (∀ (s : State) (c g : Nat) (t : Tag), c < 4 → s.seen.findTag c g 2 = some t → 
    exec (.writeDone c g 0) s = .next (s.withDev (s.seen.tagDone c t)) ∧ exec (.writeDone c g 2) s = .next (s.withDev (s.seen.carrierFail c)) ∧ exec (.writeDone c g 3) s = .next (s.withDev (s.seen.carrierFail c))) ∧
  (∀ (s : State) (c g n : Nat), c < 4 → 
    (s.seen.findTag c g 1 = none → exec (.readData c g n) s = .next (s.withDev (s.seen.dupResponse c))) ∧ (s.seen.findTag c g 2 = none → exec (.writeDone c g n) s = .next (s.withDev (s.seen.dupResponse c))) ∧
    (((s.seen.carrier c).tags.find? fun t => t.op = 5) = none → exec (.quiesced c) s = .next (s.withDev (s.seen.dupResponse c)))) ∧
  (∀ (s : State) (c : Nat) (t : Tag), c < 4 → ((s.seen.carrier c).tags.find? fun t => t.op = 5) = some t → exec (.quiesced c) s = .next (s.withDev ((s.seen.tagDone c t).nowQuiet c))) ∧
  (∀ (s : State) (c : Nat) (x : Bytes) (d : Device), c < 4 → s.seen.linkPowered (8 + c) = true → s.seen.rd (linkState (8 + c)) = 2 ∨ s.seen.rd (linkState (8 + c)) = 3 → d = s.seen.raise (F.TLNK_C_INT_STATUS_HELLO c) → 
    (d.carrierState c = 2 ∨ d.carrierState c = 3 → exec (.hello c x) s = .next (s.withDev (d.helloBack c x))) ∧
    (d.carrierState c = 0 ∨ d.carrierState c = 1 ∨ (d.carrierState c = 5 ∧ (d.carrier c).queue = 0) → exec (.hello c x) s = .next (s.withDev (d.helloNew c x))) ∧
    (d.carrierState c = 4 → exec (.hello c x) s = .next (s.withDev (d)))) ∧
  (∀ (d e : Device) (c : Nat) (x : Bytes), (helloOk x = true → e = ((d.setCarrier c {}).helloTake c x).setCarrierState c 1 →
      d.helloNew c x = if e.flag F.TLNK_CFG_AUTO_JOIN then e.carrierIn c else e) ∧
    (helloOk x = false → ((d.helloNew c x).carrier c).helloBad = true ∧ ((d.helloNew c x).link (8 + c)).blanked = true) ∧
    ((d.link (8 + c)).outage = false → d.helloBack c x = d) ∧
    ((d.link (8 + c)).outage = true → helloOk x = false ∨ u64At x 0x10 ≠ (d.carrier c).id → d.helloBack c x = d.carrierFail c)) ∧
  (∀ (s : State) (c g : Nat) (t : Tag), c < 4 → (s.seen.link (8 + c)).outage = false → ((s.seen.carrier c).tags.find? fun t => t.tag = g) = some t → 
    (t.tries ≤ 1 → exec (.tagTimeout c g) s = .next (s.withDev (s.seen.tagAgain c t))) ∧ (2 ≤ t.tries → exec (.tagTimeout c g) s = .next (s.withDev (s.seen.carrierFail c)))) ∧
  (∀ (s : State) (c : Nat), c < 4 → (s.seen.link (8 + c)).outage = true → 
    (s.seen.rd F.TLNK_OUTAGE_LIMIT_TICKS ≤ (s.seen.link (8 + c)).outageTicks → exec (.carrierOutageLimit c) s = .next (s.withDev (s.seen.carrierFail c))) ∧
    ((s.seen.link (8 + c)).outageTicks < s.seen.rd F.TLNK_OUTAGE_LIMIT_TICKS → exec (.carrierOutageLimit c) s = .next (s.withDev (s.seen))))

/-- R421 to R431, R442, R443: the host link. Config.doeAnswer is the model's free value (log entry 25). -/
def Obligations.HostLink : Prop :=
  (∀ (s : State) (v w : Nat) (d : Device), s.seen.domOn domHost = true → linkWithin v w = true → d = (s.seen.linkEnds false true).linkShown v w → 
    ((s.seen.rd F.HOST_STATUS_SPEED = v ∧ s.seen.rd F.HOST_STATUS_WIDTH = w) → exec (.hostLinkUp v w) s = .next (s.withDev (d.d2hReissue))) ∧
    (¬(s.seen.rd F.HOST_STATUS_SPEED = v ∧ s.seen.rd F.HOST_STATUS_WIDTH = w) → exec (.hostLinkUp v w) s = .next (s.withDev ((d.raise F.HOST_INT_STATUS_LINK_CHANGE).d2hReissue)))) ∧
  (∀ (s : State) (v w : Nat), s.seen.domOn domHost = true → linkWithin v w = false → exec (.hostLinkUp v w) s = .next (s.withDev ((s.seen.linkEnds true false).wr F.HOST_STATUS_LINK_UP 0))) ∧
  (∀ (d : Device) (v w : Nat), linkWithin v w = true → (d.linkShown v w).rd F.HOST_STATUS_LINK_UP = 1 ∧ (d.linkShown v w).rd F.HOST_STATUS_SPEED = v ∧
    (d.linkShown v w).rd F.HOST_STATUS_WIDTH = w ∧ (d.linkShown v w).rd F.HOST_CTL_RETRAIN = 0 ∧ (d.linkShown v w).rd F.HOST_STATUS_MEM_ACTIVE = b2n d.ready) ∧
  (∀ (s : State) (k : Nat) (d : Device), d = ((s.seen.resetDomain domHost).reloadRwl domHost).wr (F.PWR_DOM_STATE_STATE domHost) (s.seen.rd (F.PWR_DOM_STATE_STATE domHost)) → 
    exec (.hostLinkDown k) s = .next (s.withDev (((d.wr F.HOST_LINK_DOWN_CNT_COUNT (s.seen.rd F.HOST_LINK_DOWN_CNT_COUNT)).inc F.HOST_LINK_DOWN_CNT_COUNT).linkLost k))) ∧
  (∀ (d : Device) (k : Nat), (d.linkLost k).host.d2h.all (fun r => !r.issued) = true ∧ (d.linkLost k).host.d2h.length = d.host.d2h.length ∧ (d.linkLost k).regs = d.regs) ∧
  (∀ (s : State), (s.seen.host.outside = true → exec (.hostRetrainTimer) s = .next (s.withDev (s.seen.wr F.HOST_STATUS_LINK_UP 0))) ∧ (s.seen.host.outside = false → exec (.hostRetrainTimer) s = .next (s.withDev (s.seen)))) ∧
  (∀ (s : State), s.reaches F.HOST_CTL.key → exec (.hostRetrain) s = .next (s.withDev (s.seen.wr F.HOST_CTL_RETRAIN 1))) ∧
  (∀ (s : State), s.seen.rd F.DRONE_START_STATUS_STATE = 1 ∨ (s.seen.rd F.DRONE_START_STATUS_STATE = 0 ∧ 6 ≤ s.seen.rd F.DRONE_START_STATUS_STEP) → 
    exec (.cxlReset) s = .next (s.withDev ((switchable.foldl (fun d n => d.stopEmergency n 0) (s.seen.wr F.DRONE_RESET_CAUSE_CAUSE 4)).cxlCleared.resumeStep6))) ∧
  (∀ d : Device, d.cxlCleared.host.d2h = [] ∧ d.cxlCleared.regs = d.regs) ∧
  (∀ (s : State) (l : Nat), s.seen.flag F.HOST_STATUS_LINK_UP = true → s.seen.host.cacheEn = true → exec (.h2dSnoop l) s = .next (s.withDev (s.seen.emit .rspIHitI))) ∧
  (∀ (s : State) (l : Nat), s.seen.d2hHas l = true → exec (.d2hResponse l) s = .next (s.withDev (s.seen.d2hDrop l)) ∧
    (s.seen.flag F.HOST_STATUS_LINK_UP = true → exec (.cplTimeout l) s = .next (s.withDev ((((s.seen.d2hDrop l).inc F.HOST_CPL_TO_CNT_COUNT).raise F.HOST_INT_STATUS_CPL_TIMEOUT).lasting 0x0900 14 0 0 (l * 64) 12 0)))) ∧
  (∀ (s : State) (b z : Nat), s.seen.domOn domHost = true → s.seen.flag F.HOST_STATUS_HDM_COMMITTED = false → 
    (hdmOk b z 1 = true → exec (.hdmCommit b z 1) s = .next (s.withDev (s.seen.hdmSet b z))) ∧ (∀ n, n ≠ 1 ∨ hdmOk b z n = false → exec (.hdmCommit b z n) s = .next (s.withDev (s.seen)))) ∧
  (∀ (d : Device) (b z : Nat), (d.hdmSet b z).host.hdmBase = b ∧ (d.hdmSet b z).host.hdmSize = z ∧ (d.hdmSet b z).rd F.HOST_STATUS_HDM_COMMITTED = 1) ∧
  (∀ (s : State) (o : Bytes), s.seen.domOn domHost = true → doeServed o = true → exec (.doeObject o) s = .next (s.withDev ((s.seen.emit (.doe (Config.doeAnswer o s.measurements s.seen.host.sessions))).doeTaken o))) ∧
  (∀ (d : Device) (o : Bytes), u16At o 0 ≠ 1 ∨ u8At o 2 = 0 → d.doeTaken o = d) ∧
  (∀ (s : State) (k : Nat), bit (s.seen.ideBits % 8) k = true → exec (.ideFail k) s = .next (s.withDev (((s.seen.setIde (s.seen.ideBits - 2 ^ k)).raise F.HOST_INT_STATUS_IDE_FAIL).lasting 0x0901 14 k 0 0 12 0)))

/-- R430 to R434: CXL.mem. -/
def Obligations.HostMemory : Prop :=
  (∀ (s : State) (a m : Nat) (x : Bytes), s.seen.hdmHit a = true → 
    exec (.memRd a) s = .next (s.withDev (s.seen.hostReq ⟨0, a, 0, []⟩)) ∧ exec (.memWr a x) s = .next (s.withDev (s.seen.hostReq ⟨1, a, 2 ^ 64 - 1, padTo 64 x⟩)) ∧
    (m < 2 ^ 64 → exec (.memWrPtl a m x) s = .next (s.withDev (s.seen.hostReq ⟨2, a, m, padTo 64 x⟩))) ∧ exec (.memInv a) s = .next (s.withDev (s.seen.hostReq ⟨3, a, 0, []⟩))) ∧
  (∀ (s : State) (a m : Nat) (x : Bytes) (i : Instr), s.seen.hdmHit a = false → i = .memRd a ∨ i = .memWr a x ∨ i = .memWrPtl a m x ∨ i = .memInv a → exec i s = .next (s.withDev s.seen)) ∧
  (∀ (d : Device) (q : HostReq) (o n r l : Nat) (p : Nat × Nat × Nat), o = (q.hpa - d.host.hdmBase) / 64 * 64 → d.ideBlocked = false → (∀ b ∈ d.host.bi, b.1 ≠ o / 64) →
    d.hdmRow o = some (n, r, l) → d.hostLoc n r = some p →
    (q.kind = 0 → d.hostReq q = d.hostRead n r l o p) ∧ (q.kind = 1 ∨ q.kind = 2 → d.hostReq q = d.hostWrite q n r l p) ∧ (q.kind = 3 → d.hostReq q = d.invLine (o / 64))) ∧
  (∀ (d : Device) (q : HostReq) (o : Nat), o = (q.hpa - d.host.hdmBase) / 64 * 64 →
    (d.ideBlocked = true → d.hostReq q = d.hostRefused q.kind q.hpa 14) ∧
    (d.ideBlocked = false → ((∃ b ∈ d.host.bi, b.1 = o / 64) → d.hostReq q = d.holdReq q) ∧
      ((∀ b ∈ d.host.bi, b.1 ≠ o / 64) → d.hdmRow o = none → d.hostReq q = d.hostRefused q.kind q.hpa 4))) ∧
  (∀ (d : Device) (q : HostReq) (n r l : Nat) (p : Nat × Nat × Nat), (d.fenced n r = true → d.hostWrite q n r l p =
      ((d.deferWrite n r l q.mask q.data).inc64 F.HOST_MEM_WR_LO_COUNT).emit .memCmp) ∧
    (d.fenced n r = false → p.1 ≠ 0 → d.hostWrite q n r l p =
      ((((d.putLine (locLine p l) q.mask q.data (n, r)).bumpVersion n r).noteWrite n r).inc64 F.HOST_MEM_WR_LO_COUNT).emit .memCmp)) ∧
  (∀ (s : State) (l n : Nat), (s.seen.host.bi.find? (·.1 = l)) = some (l, n) → 
    exec (.birsp l) s = .next (s.withDev (s.seen.biDone l)) ∧ (n < 2 → exec (.biTimeout l) s = .next (s.withDev (s.seen.biAgain l))) ∧
    (2 ≤ n → exec (.biTimeout l) s = .next (s.withDev (((s.seen.biDone l).raise F.HOST_INT_STATUS_BI_TIMEOUT).lasting 0x0900 14 0 0 (l * 64) 12 0))))

/-- R439: the mailbox; SET_TICK of R506 among its commands. -/
def Obligations.MailboxCommands : Prop :=
  (∀ (s : State) (value : Nat), s.calls value 1 → 
    (bits value 24 16 = 0 → exec (.identify value) s = .next (s.withDev ((s.seen.mboxTaken value 1).mboxEnd 0 (s.seen.mboxTaken value 1).identity))) ∧ (¬(bits value 24 16 = 0) → exec (.identify value) s = .next (s.withDev ((s.seen.mboxTaken value 1).mboxEnd 2 [])))) ∧
  (∀ (s : State) (value : Nat) (w : List Host.Cell) (fails : Bool), s.calls value 0x20 → 
    (bits value 24 16 = 16 → exec (.loadProgram value w fails) s = .next (s.withDev (((s.seen.hostWrites w).mboxTaken value 0x20).loadProgram s.perm fails))) ∧ (¬(bits value 24 16 = 16) → exec (.loadProgram value w fails) s = .next (s.withDev (((s.seen.hostWrites w).mboxTaken value 0x20).mboxEnd 2 [])))) ∧
  (∀ (s : State) (value : Nat), s.calls value 0x21 → 
    (bits value 24 16 = 0 → exec (.unloadProgram value) s = .next (s.withDev ((s.seen.mboxTaken value 0x21).unloadReply))) ∧ (¬(bits value 24 16 = 0) → exec (.unloadProgram value) s = .next (s.withDev ((s.seen.mboxTaken value 0x21).mboxEnd 2 [])))) ∧
  (∀ (s : State) (value r : Nat) (w : List Host.Cell) (fails : Bool), s.calls value 0x30 → 
    (bits value 24 16 = 16 → exec (.loadFirmware value w fails r) s = .next (s.withDev (((s.seen.hostWrites w).mboxTaken value 0x30).loadFirmware s.perm fails r))) ∧ (¬(bits value 24 16 = 16) → exec (.loadFirmware value w fails r) s = .next (s.withDev (((s.seen.hostWrites w).mboxTaken value 0x30).mboxEnd 2 [])))) ∧
  (∀ (s : State) (value : Nat), s.calls value 0x40 → 
    (s.seen.mboxSub ≠ 1 → (1 ≤ bits value 24 16 ∧ bits value 24 16 ≤ 256 → exec (.checkpointStatus value) s = .next (s.withDev ((s.seen.mboxTaken value 0x40).ckptReply value))) ∧ (¬(1 ≤ bits value 24 16 ∧ bits value 24 16 ≤ 256) → exec (.checkpointStatus value) s = .next (s.withDev ((s.seen.mboxTaken value 0x40).mboxEnd 2 [])))) ∧
    (s.seen.mboxSub = 1 → (1 ≤ bits value 24 16 ∧ bits value 24 16 ≤ 256 → exec (.baseNow value) s = .next (s.withDev ((s.seen.mboxTaken value 0x40).baseNow value))) ∧ (¬(1 ≤ bits value 24 16 ∧ bits value 24 16 ≤ 256) → exec (.baseNow value) s = .next (s.withDev ((s.seen.mboxTaken value 0x40).mboxEnd 2 []))))) ∧
  (∀ (s : State) (value : Nat) (w : List Host.Cell) (e : Device), s.calls value 0x41 → e = s.seen.hostWrites w → 
    (s.seen.mboxSub = 0 ∨ 3 < s.seen.mboxSub → (16 ≤ bits value 24 16 ∧ bits value 24 16 ≤ 256 → exec (.restoreBegin value) s = .next (s.withDev ((s.seen.mboxTaken value 0x41).restoreBegin ((s.seen.mboxTaken value 0x41).mboxIn value)))) ∧ (¬(16 ≤ bits value 24 16 ∧ bits value 24 16 ≤ 256) → exec (.restoreBegin value) s = .next (s.withDev ((s.seen.mboxTaken value 0x41).mboxEnd 2 [])))) ∧
    (e.mboxSub = 1 → (16 ≤ bits value 24 16 ∧ bits value 24 16 ≤ 256 → exec (.restoreSource value w) s = .next (s.withDev ((e.mboxTaken value 0x41).restoreSource ((e.mboxTaken value 0x41).mboxIn value)))) ∧ (¬(16 ≤ bits value 24 16 ∧ bits value 24 16 ≤ 256) → exec (.restoreSource value w) s = .next (s.withDev ((e.mboxTaken value 0x41).mboxEnd 2 [])))) ∧
    (s.seen.mboxSub = 2 → (2 ≤ bits value 24 16 ∧ bits value 24 16 ≤ 256 → exec (.restoreFinish value) s = .next (s.withDev ((s.seen.mboxTaken value 0x41).restoreLast ((s.seen.mboxTaken value 0x41).mboxIn value)))) ∧ (¬(2 ≤ bits value 24 16 ∧ bits value 24 16 ≤ 256) → exec (.restoreFinish value) s = .next (s.withDev ((s.seen.mboxTaken value 0x41).mboxEnd 2 [])))) ∧
    (s.seen.mboxSub = 3 → (1 ≤ bits value 24 16 ∧ bits value 24 16 ≤ 256 → exec (.restoreAbort value) s = .next (s.withDev ((s.seen.mboxTaken value 0x41).restoreAbort ((s.seen.mboxTaken value 0x41).mboxIn value)))) ∧ (¬(1 ≤ bits value 24 16 ∧ bits value 24 16 ≤ 256) → exec (.restoreAbort value) s = .next (s.withDev ((s.seen.mboxTaken value 0x41).mboxEnd 2 []))))) ∧
  (∀ (s : State) (value : Nat) (p : Bytes) (t : Drone), s.calls value 0x10 → p = s.seen.payload 16 → t = s.drone → 
    (¬(bits value 24 16 = 16) → exec (.setTick value) s = .next (s.withDev ((s.seen.mboxTaken value 0x10).mboxEnd 2 []))) ∧
    (bits value 24 16 = 16 → zeros p 8 8 = false ∨ u64At p 0 % 1000000 ≠ 0 → exec (.setTick value) s = .next (s.withDev ((s.seen.mboxTaken value 0x10).mboxEnd 3 []))) ∧
    (bits value 24 16 = 16 → zeros p 8 8 = true → u64At p 0 % 1000000 = 0 → t.isSet = true → u64At p 0 < t.tick → exec (.setTick value) s = .next (s.withDev ((s.seen.mboxTaken value 0x10).mboxEnd 4 []))) ∧
    (bits value 24 16 = 16 → zeros p 8 8 = true → u64At p 0 % 1000000 = 0 → (t.isSet = false ∨ t.tick ≤ u64At p 0) →
      exec (.setTick value) s = .next { (s.withDev ((s.seen.mboxTaken value 0x10).mboxEnd 0 [])) with drone := t.arm (u64At p 0) })) ∧
  (∀ (d : Device) (r : Nat) (out : Bytes), r < 256 → out.length ≤ 256 → (d.mboxEnd r out).rd F.HOST_MBOX_STATUS_RESULT = r ∧
    (d.mboxEnd r out).rd F.HOST_MBOX_STATUS_OUT_LEN = out.length ∧ (d.mboxEnd r out).flag F.HOST_MBOX_STATUS_BUSY = false ∧
    (d.mboxEnd r out).flag F.HOST_MBOX_CMD_DOORBELL = false) ∧
  (∀ (s : State) (value op : Nat) (f : Nat → Bool) (g : Device → Device), s.reaches F.HOST_MBOX_CMD.key → bit value 31 = true → bits value 15 0 = op → s.seen.flag F.HOST_MBOX_STATUS_BUSY = true → s.seen.mbox value op f g = s.seen.logAccess F.HOST_MBOX_CMD.key)

/-- R440 and R537; the order of LOAD_FIRMWARE's checks is the model's choice (log entry 32). -/
def Obligations.ProgramAndFirmwareLoads : Prop :=
  (∀ (d : Device) (perm : Perm) (fails : Bool) (b img : Bytes) (a len : Nat) (swap : Bool), b = d.payload 16 → a = u64At b 0 → len = u32At b 8 →
    swap = (u8At b 0xC == 1) → img = (d.d2hSend false a len).readKey len a →
    (1 < u8At b 0xC ∨ zeros b 0xD 3 = false ∨ len % 64 ≠ 0 → d.loadProgram perm fails = d.mboxEnd 3 []) ∧
    (u8At b 0xC ≤ 1 → zeros b 0xD 3 = true → len % 64 = 0 →
      (d.domOn domSpine = false ∨ d.phase = .halted → d.loadProgram perm fails = d.mboxEnd 4 []) ∧
      (swap = false → (d.phase ≠ .idle ∨ d.flag F.SPINE_CTL_RUN = true) → d.loadProgram perm fails = d.mboxEnd 4 []) ∧
      (d.domOn domSpine = true → d.phase ≠ .halted → (swap = true ∨ (d.phase = .idle ∧ d.flag F.SPINE_CTL_RUN = false)) →
        (swap = true → d.spine.swap.isSome = true → d.loadProgram perm fails = d.mboxEnd 10 []) ∧
        ((swap = false ∨ d.spine.swap = none) → (2 ^ 52 ≤ a ∨ d.inWindow a len = false → d.loadProgram perm fails = d.mboxEnd 6 []) ∧
          (a < 2 ^ 52 → d.inWindow a len = true → (fails = true → d.loadProgram perm fails = (d.d2hSend false a len).mboxEnd 7 []) ∧
            (fails = false → d.loadProgram perm fails = (d.d2hSend false a len).loadImage perm img len swap)))))) ∧
  (∀ (d : Device) (perm : Perm) (img : Bytes) (len : Nat) (swap : Bool),
    (verifyBlock perm img (imageDigest img len) = false →
      d.loadImage perm img len swap = ((d.inc F.SEC_VERIFY_FAIL).raise F.SEC_INT_STATUS_VERIFY_FAIL).mboxEnd 5 (d.loadOut 0)) ∧
    (verifyBlock perm img (imageDigest img len) = true →
      (∀ c u, d.programFault img len = some (c, u) → d.loadImage perm img len swap = d.loadRefused c u (pUnits img)) ∧
      (d.programFault img len = none → swap = false → ∃ e, e = (d.loadErr 0 0).runProgram (d.programOf img len) ∧
        d.loadImage perm img len swap = e.mboxEnd 0 (e.loadOut (d.programOf img len).units.length)) ∧
      (d.programFault img len = none → swap = true → ∃ e, e = (d.loadErr 0 0).holdSwap (d.programOf img len) ∧
        d.loadImage perm img len swap = e.mboxEnd 0 (e.loadOut (d.programOf img len).units.length)))) ∧
  (∀ (d : Device) (p : Program), (d.runProgram p).spine.prog = some p ∧ (d.runProgram p).spine.swap = none ∧ (d.holdSwap p).spine.swap = some p ∧
    (d.holdSwap p).spine.prog = d.spine.prog ∧ (d.unload.spine.prog = none ∧ d.unload.spine.swap = none)) ∧
  (∀ (d : Device) (perm : Perm) (fails : Bool) (r t : Nat) (p pkg : Bytes) (a len : Nat), p = d.payload 16 → a = u64At p 0 → len = u32At p 8 → t = u8At p 12 →
    pkg = (d.d2hSend false a len).readKey len a →
    (zeros p 13 3 = false → d.loadFirmware perm fails r = d.fwEnd t 3 0) ∧
    (zeros p 13 3 = true → (d.phase = .halted → d.loadFirmware perm fails r = d.fwEnd t 4 0) ∧
      (d.phase ≠ .halted → (t = 15 → d.loadFirmware perm fails r = d.fwEnd t 9 0) ∧ (5 < t → t ≠ 15 → d.loadFirmware perm fails r = d.fwEnd t 3 0) ∧
        (t ≤ 5 → (2 ^ 52 ≤ a ∨ d.inWindow a len = false → d.loadFirmware perm fails r = d.fwEnd t 6 0) ∧
          (a < 2 ^ 52 → d.inWindow a len = true → (fails = true → d.loadFirmware perm fails r = (d.d2hSend false a len).fwEnd t 7 0) ∧
            (fails = false → d.loadFirmware perm fails r = (d.d2hSend false a len).offerPackage perm pkg len t r)))))) ∧
  (∀ (d : Device) (perm : Perm) (pkg : Bytes) (len t r : Nat),
    (packageWhole pkg len t = false → d.offerPackage perm pkg len t r = d.fwEnd t 3 0) ∧
    (packageWhole pkg len t = true → (verifyBlock perm pkg (imageDigest pkg len) = false →
        d.offerPackage perm pkg len t r = ((d.inc F.SEC_VERIFY_FAIL).raise F.SEC_INT_STATUS_VERIFY_FAIL).fwEnd t 5 0) ∧
      (verifyBlock perm pkg (imageDigest pkg len) = true → (r % 256 ≠ 0 → d.offerPackage perm pkg len t r = d.fwEnd t 8 (r % 256)) ∧
        (r % 256 = 0 → d.offerPackage perm pkg len t r = (d.pendPackage pkg t).takeIfIdle))))

/-- R457 and R465 to R468. -/
def Obligations.CheckpointsAndRestores : Prop :=
  (∀ (s : State), s.seen.baseRing = none → exec (.baseDrain) s = .next (s.withDev (s.seen))) ∧
  (∀ (s : State) (r : Nat), s.seen.baseRing = some r → 
    (s.seen.ringHeld r = true → exec (.baseDrain) s = .next (s.withDev (s.seen))) ∧
    (s.seen.ckpt.snap = [] → s.seen.ringHeld r = false → (s.seen.ckpt.run = none → exec (.baseDrain) s = .next (s.withDev (s.seen))) ∧
      (∀ g, s.seen.ckpt.run = some g → (g.whole = true → exec (.baseDrain) s = .next (s.withDev (s.seen.baseClose r g))) ∧ (g.whole = false → exec (.baseDrain) s = .next (s.withDev (s.seen))))) ∧
    (∀ x l e, s.seen.ckpt.snap = x :: l → s.seen.ringHeld r = false → e = (s.seen.setSnap l).produceOrWait r x.2 → exec (.baseDrain) s = .next (s.withDev ((Device.snapDrain r l.length e).baseEnd r)))) ∧
  (∀ (d : Device) (value : Nat), (zerosFrom 1 (d.mboxIn value) = false → d.baseNow value = d.mboxEnd 3 []) ∧
    (zerosFrom 1 (d.mboxIn value) = true → (d.domOn domSpine = false → d.baseNow value = d.mboxEnd 4 []) ∧
      (d.domOn domSpine = true → d.baseNow value = d.baseAbandon.askBase.mboxEnd 0 [] ∧ d.baseAbandon.askBase.ckpt.asked = true ∧
        d.baseAbandon.askBase.ckpt.run = none))) ∧
  (∀ (d : Device) (b : Bytes), d.mboxSub = 0 → zeros b 1 7 = true → zerosFrom 16 b = true →
    (d.restoreMay = false → d.restoreBegin b = (d.restoreErr 6 0).mboxEnd 8 []) ∧
    (d.restoreMay = true → d.restoreBegin b = (d.setRestore (some { resume := u64At b 8, began := d.now })).mboxEnd 0 (pairOut 0 0))) ∧
  (∀ (d : Device) (b : Bytes) (r : Restore), u8At b 1 ≤ 1 → zerosFrom 2 b = true → d.ckpt.restore = some r → r.bad = false →
    (r.complete = false → d.restoreLast b = (d.restoreErr 5 0).mboxEnd 8 []) ∧ (r.complete = true → d.restoreLast b = d.restoreFinish r (u8At b 1 == 1))) ∧
  (∀ (d : Device) (b : Bytes) (r : Restore), u8At b 1 ≤ 1 → u16At b 2 ≤ 4095 → zerosFrom 16 b = true → d.ckpt.restore = some r → r.bad = false →
    (d.inWindow (u64At b 8) (64 * u32At b 4) = false → d.restoreSource b = d.mboxEnd 6 []) ∧
    (d.inWindow (u64At b 8) (64 * u32At b 4) = true →
      (u8At b 1 = 0 → r.delta = true → d.restoreSource b = (d.restoreErr 1 (u16At b 2)).mboxEnd 8 []) ∧
      (u8At b 1 = 1 ∨ r.delta = false → d.restoreSource b = d.takeExtent r (u8At b 1) (u16At b 2) (u32At b 4) (u64At b 8)))) ∧
  (∀ (d : Device) (b : Bytes), (d.ckpt.restore = none → (u8At b 1 ≤ 1 → zerosFrom 2 b = true → d.restoreLast b = d.mboxEnd 4 []) ∧
      (zerosFrom 1 b = true → d.restoreAbort b = d.mboxEnd 4 [])) ∧
    (d.ckpt.restore.isSome = true → zerosFrom 1 b = true → d.restoreAbort b = (d.setRestore none).mboxEnd 0 (pairOut 0 0)) ∧
    (∀ r, (d.setRestore r).ckpt.restore = r))

/-- R481 to R484. -/
def Obligations.PowerDomains : Prop :=
  (∀ (s : State) (v : Nat), s.reaches offDomCtl → 
    exec (.domainEnable v) s = .next (s.withDev (s.seen.enableDoms v)) ∧ exec (.domainDisable v) s = .next (s.withDev (s.seen.disableDoms v))) ∧
  (∀ (d : Device) (n c : Nat), (d.railFailed n = true ∨ d.pwr.tripped = true → d.enableDom n c = d.wr (F.PWR_DOM_STATE_LAST_ERR n) 4) ∧
    (d.railFailed n = false → d.pwr.tripped = false → 2 ≤ n → n < 20 →
      ((d.enableDom n c).flag (F.PWR_DOM_STATE_PENDING_DISABLE n) = false) ∧
      (((d.setEn n true).wr (F.PWR_DOM_STATE_PENDING_DISABLE n) 0).domState n = 3 → (d.enableDom n c).flag (F.PWR_DOM_STATE_PENDING_ENABLE n) = true))) ∧
  (∀ (d e : Device) (n : Nat), (d.disableRefused n = true → d.disableDom n = (d.wr (F.PWR_DOM_STATE_LAST_ERR n) 1).raise F.PWR_INT_STATUS_DOM_REFUSED) ∧
    (d.disableRefused n = false → e = (d.setEn n false).wr (F.PWR_DOM_STATE_PENDING_ENABLE n) 0 →
      (e.domState n = 1 → d.disableDom n = e.wr (F.PWR_DOM_STATE_PENDING_DISABLE n) 1) ∧ (e.domState n ≠ 1 → d.disableDom n = e.stopOrderly n))) ∧
  (∀ (s : State) (n : Nat) (bad : List (Nat × Nat)), 2 ≤ n → n < 20 → 
    (s.seen.domState n = 1 → exec (.domainOn n bad) s = .next (s.withDev (s.seen.domainUp n bad))) ∧ (s.seen.domState n ≠ 1 → exec (.domainOn n bad) s = .next (s.withDev (s.seen)))) ∧
  (∀ (d e : Device) (n : Nat) (bad : List (Nat × Nat)),
    e = (((d.wr (F.PWR_DOM_STATE_STATE n) 2).startTasks n bad).wr { F.PWR_STATUS_ON with lo := n, w := 1 } 1).raise F.PWR_INT_STATUS_DOM_CHANGE →
    (e.flag (F.PWR_DOM_STATE_PENDING_DISABLE n) = true → d.domainUp n bad = (e.wr (F.PWR_DOM_STATE_PENDING_DISABLE n) 0).stopOrderly n) ∧
    (e.flag (F.PWR_DOM_STATE_PENDING_DISABLE n) = false → d.domainUp n bad = e.settle)) ∧
  (∀ (s : State) (n : Nat), 2 ≤ n → n < 20 → 
    (s.seen.domState n = 3 → s.seen.groupBusy n = false → exec (.domainOff n) s = .next (s.withDev (s.seen.domainOff n))) ∧
    (s.seen.domState n ≠ 3 ∨ s.seen.groupBusy n = true → exec (.domainOff n) s = .next (s.withDev (s.seen))) ∧
    (n < 10 → s.seen.domState n = 3 → exec (.drainLimitExpiry n) s = .next (s.withDev (s.seen.requeue (s.seen.drained n)))))

/-- R472 to R479. -/
def Obligations.PowerRails : Prop :=
  (∀ (s : State) (r : Nat), r < 9 → s.seen.railSt r = 1 → 
    (r ∉ s.seen.pwr.retryWait → exec (.railPowerGood r) s = .next (s.withDev (s.seen.railUp r)) ∧
      (s.seen.pgTried r = 0 → exec (.railPgTimeout r) s = .next (s.withDev (s.seen.pgWait r))) ∧ (s.seen.pgTried r ≠ 0 → exec (.railPgTimeout r) s = .next (s.withDev (s.seen.railFault r 1)))) ∧
    (r ∈ s.seen.pwr.retryWait → exec (.railRetryWait r) s = .next (s.withDev (s.seen.pgAgain r)))) ∧
  (∀ (s : State) (r : Nat), r < 9 → 
    (s.seen.railSt r = 2 ∨ s.seen.railSt r = 3 ∨ s.seen.railSt r = 4 → exec (.railPgLost r) s = .next (s.withDev (s.seen.railFault r 2))) ∧
    (s.seen.railSt r = 4 → (s.seen.lowersNext r = true → exec (.railLower r) s = .next (s.withDev (s.seen.railDown r))) ∧ (s.seen.lowersNext r = false → exec (.railLower r) s = .next (s.withDev (s.seen))))) ∧
  (∀ (s : State) (r v : Nat) (d : Device), r < 9 → s.reaches (F.PWR_RAIL_TGT_MV r).key → d = s.seen.wr (F.PWR_RAIL_TGT_MV r) v → 
    (d.railSt r = 3 → exec (.railTargetWrite r v) s = .next (s.withDev (d.avsRequest r (v % 65536)))) ∧ (d.railSt r ≠ 3 → exec (.railTargetWrite r v) s = .next (s.withDev (d)))) ∧
  (∀ (s : State) (b mv : Nat) (vdone good : Bool), 
    (s.seen.avsQueue b = [] → exec (.avsStatusPoll b vdone good mv) s = .next (s.withDev (s.seen)) ∧ exec (.avsTimeout b) s = .next (s.withDev (s.seen))) ∧
    (∀ x l d, s.seen.avsQueue b = x :: l → d = s.seen.emit (.avsStatus b) →
      exec (.avsStatusPoll b vdone false mv) s = .next (s.withDev (d.avsFail b)) ∧ exec (.avsStatusPoll b true true mv) s = .next (s.withDev (d.avsDone b x mv)) ∧
      exec (.avsStatusPoll b false true mv) s = .next (s.withDev (d)) ∧ exec (.avsTimeout b) s = .next (s.withDev (s.seen.avsFail b)))) ∧
  (∀ (d : Device) (b : Nat) (x : AvsReq) (l : List AvsReq), d.avsQueue b = x :: l →
    (x.tries = 0 → d.avsFail b = ((d.setAvs b ({ x with tries := 1 } :: l)).inc F.PWR_AVS_RETRY).emit (.avsWrite b (railSelect x.rail) x.mv)) ∧
    (x.tries ≠ 0 → d.avsFail b = (d.avsNext b).railFault x.rail 3)) ∧
  (∀ (d : Device) (r mv lo hi : Nat), lo = d.rd (F.PWR_RAIL_WIN_MIN_MV r) → hi = d.rd (F.PWR_RAIL_WIN_MAX_MV r) → lo ≤ hi →
    ∀ x, x ∈ (d.avsRequest r mv).avsQueue (railBus r) → x ∈ d.avsQueue (railBus r) ∨ (x.rail = r ∧ lo ≤ x.mv ∧ x.mv ≤ hi))

/-- R489 to R491, R495 and R497; what the mean is before WINDOW samples were taken is the model's choice (log entry 19). -/
def Obligations.StandbyBudgetClamp : Prop :=
  (∀ (s : State) (d : Device), s.reaches F.PWR_CTL_STANDBY.key → 
    (s.seen.phase ≠ .idle → exec (.standby) s = .next (s.withDev (s.seen.raise F.PWR_INT_STATUS_DOM_REFUSED))) ∧
    (s.seen.phase = .idle → d = (s.seen.wr F.PWR_CTL_STANDBY 1).wr F.PWR_DOM_CTL_EN 3 →
      exec (.standby) s = .next (s.withDev (Device.standbyNext { (d) with pwr := { d.pwr with standbyReq := true } })))) ∧
  (∀ (s : State) (d : Device) (set : List Nat), d = (s.seen.wr F.PWR_STATUS_STANDBY 0).raise F.PWR_INT_STATUS_WAKE → set = (switchable.filter fun n => bit (s.seen.rd F.PWR_WAKE_SET) n) → 
    (s.seen.flag F.PWR_STATUS_STANDBY = true → exec (.wakeNEdge) s = .next (s.withDev ((set.foldl (fun d n => d.enableDom n 3) d).settle)) ∧
      (s.seen.alarmDue = true → exec (.wakeAlarm) s = .next (s.withDev ((set.foldl (fun d n => d.enableDom n 5) d).settle)))) ∧
    (s.seen.alarmDue = false → exec (.wakeAlarm) s = .next (s.withDev (s.seen))) ∧
    (s.seen.flag F.PWR_STATUS_STANDBY = false → s.seen.pwr.standbyReq = false → exec (.wakeNEdge) s = .next (s.withDev (s.seen)))) ∧
  (∀ (s : State), 
    (s.seen.pwr.bWindow = some (s.seen.now / 1000) → exec (.budgetWindow) s = .next (s.withDev (s.seen))) ∧ (s.seen.pwr.bWindow ≠ some (s.seen.now / 1000) → exec (.budgetWindow) s = .next (s.withDev (s.seen.newWindow)))) ∧
  (∀ (d : Device), d.newWindow.pwr.bal = ((d.rd F.PWR_CAP_CAP - d.rd F.PWR_RESERVE_WATTS : Nat) : Int) * 256000 + min d.pwr.bal 0 ∧
    d.newWindow.pwr.bWindow = some (d.now / 1000)) ∧
  (∀ (s : State) (a mv : List Nat), exec (.powerSample a mv) s = .next (s.withDev ((s.seen.railsMeasured a mv).powerSample (powerOf a mv)))) ∧
  (∀ (d : Device) (p : Nat), (d.powerSample p).pwr = d.pwr.clamp (d.rd F.PWR_CAP_CAP) (d.rd F.PWR_CLAMP_CFG_WINDOW) (d.sampled p) ∧
    (d.sampled p).length ≤ d.rd F.PWR_CLAMP_CFG_WINDOW) ∧
  (∀ (p : Pwr) (cap w : Nat) (ss : List Nat), (overCap cap ss = true → (p.clamp cap w ss).g = min (p.g + 1) 16 ∧ underCap cap ss = false) ∧
    (overCap cap ss = false → underCap cap ss = true → 8 ≤ p.sinceChange + 1 → (p.clamp cap w ss).g = p.g - 1) ∧
    (overCap cap ss = false → (underCap cap ss = false ∨ p.sinceChange + 1 < 8) → (p.clamp cap w ss).g = p.g) ∧
    (p.g ≤ 16 → (p.clamp cap w ss).g ≤ 16) ∧ (underCap cap ss = true → (p.clamp cap w ss).stage2 = false) ∧
    ((p.clamp cap w ss).stage2 = true → p.stage2 = true ∨ w = 0 ∨ (p.g = 16 ∧ overCap cap ss = true)))

/-- R499 to R501. -/
def Obligations.ThermalProtection : Prop :=
  (∀ (s : State) (rs : List Int), exec (.logicTempSample rs) s = .next (s.withDev (s.seen.logicTemps (logicReadings rs)))) ∧
  (∀ (d : Device) (rs : List Int) (t : Int), t = rs.getD (hotSensor rs) 0 → (d.logicTemps rs).pwr = d.pwr.heated rs t ∧
    (d.pwr.gTherm = 8 → ((d.logicTemps rs).pwr.gTherm = 8 ↔ 1552 ≤ t)) ∧ (d.pwr.gTherm = 0 → ((d.logicTemps rs).pwr.gTherm = 8 ↔ 1600 ≤ t)) ∧
    (d.pwr.warn = false → ((d.logicTemps rs).pwr.warn = true ↔ 1440 ≤ t)) ∧ (d.pwr.warn = true → ((d.logicTemps rs).pwr.warn = true ↔ 1408 ≤ t))) ∧
  (∀ (rs : List Int) (i : Nat), i < 32 → rs.getD i 0 ≤ rs.getD (hotSensor rs) 0) ∧
  (∀ (s : State), exec .thermalTrip s = .next (s.withDev (switchable.foldl (fun d n => d.stopEmergency n 3) ((s.seen.tripLatch.raise F.PWR_INT_STATUS_TRIP).log 0x0402 2 16 0 0 0))) ∧
    s.seen.tripLatch.pwr.tripped = true ∧ s.seen.tripLatch.flag F.PWR_STATUS_TRIP = true) ∧
  (∀ (s : State), (s.seen.rd F.DRONE_START_STATUS_STATE = 1 → s.reaches F.PWR_CTL_TRIP_CLEAR.key) → 
    (s.seen.coolNow = false → exec (.tripClear) s = .next (s.withDev (s.seen))) ∧
    (s.seen.coolNow = true → s.seen.rd F.DRONE_START_STATUS_STATE ≠ 0 → exec (.tripClear) s = .next (s.withDev (s.seen.tripFree))) ∧
    (s.seen.coolNow = true → s.seen.rd F.DRONE_START_STATUS_STATE = 0 → exec (.tripClear) s = .next (s.withDev (s.seen.tripFree.resumeStep6)))) ∧
  (∀ (d : Device), (d.coolNow = true ↔ d.pwr.tripped = true ∧ ∀ e ∈ d.pwr.sensors, e.2 < 1440) ∧ d.tripFree.pwr.tripped = false ∧ d.tripFree.flag F.PWR_STATUS_TRIP = false)

/-- R504 to R508; that a value armed below the tick value leaves it is the model's choice (log entry 21). -/
def Obligations.DroneTicks : Prop :=
  (∀ (s : State) (b : Bool), s.dev.aonUp = false → 
    exec (.droneTick b) s = .next (s) ∧ exec (.epochMarker b) s = .next (s) ∧ exec (.droneEdgeTimeout) s = .next (s) ∧ exec (.holdoverTick) s = .next (s)) ∧
  (∀ (s : State) (b : Bool), s.dev.aonUp = true → s.drone.lock ≠ 2 → 
    exec (.droneTick b) s = .next (s.atTick s.drone.follow id) ∧ exec (.holdoverTick) s = .next (s) ∧
    exec .droneEdgeTimeout s = .next { (s) with drone := s.drone.lose, dev := s.seen.droneLost }) ∧
  (∀ (s : State) (b : Bool) (n : Nat), s.dev.aonUp = true → s.drone.lock = 2 → n = (if b then s.drone.good + 1 else 1) → 
    exec (.holdoverTick) s = .next (s.atTick s.drone.advance Device.heldTick) ∧ exec (.droneEdgeTimeout) s = .next (s) ∧
    (n < 16 → exec (.droneTick b) s = .next { (s) with drone := s.drone.edges n } ∧ exec (.epochMarker b) s = .next { (s) with drone := s.drone.edges n }) ∧
    (16 ≤ n → exec (.droneTick b) s = .next { (s) with drone := s.drone.regain, dev := s.seen.regained } ∧
      exec (.epochMarker b) s = .next { (s) with drone := s.drone.regain, dev := s.seen.regained })) ∧
  (∀ (s : State) (b : Bool) (m : Nat) (t : Drone), s.dev.aonUp = true → s.drone.lock ≠ 2 → t = s.drone.follow → m = nearestEpoch t.tick → 
    (∀ v, s.drone.due = some v → exec (.epochMarker b) s = .next (s.atTick (s.drone.take v) Device.setDone)) ∧
    (s.drone.due = none → (s.drone.isSet = false → exec (.epochMarker b) s = .next (s.atTick t id)) ∧
      (s.drone.isSet = true → (t.tick = m → exec (.epochMarker b) s = .next (s.atTick t id)) ∧
        (t.tick ≠ m → exec (.epochMarker b) s = .next (s.atTick (t.slip m) (Device.slipped ((t.tick : Int) - m))))))) ∧
  (∀ (t : Drone) (v m : Nat), (t.hold = 0 → t.follow.tick = (t.tick + 1) % 2 ^ 64 ∧ t.follow.hold = 0) ∧
    (t.hold ≠ 0 → t.follow.tick = t.tick ∧ t.follow.hold = t.hold - 1) ∧ t.advance.tick = t.follow.tick ∧ t.follow.lock = 1 ∧
    (t.isSet = false → (t.take v).tick = v) ∧ (t.isSet = true → (t.take v).tick = max v t.tick) ∧ (t.take v).isSet = true ∧ (t.take v).armed = none ∧
    (t.tick < m → (t.slip m).tick = m) ∧ (m < t.tick → (t.slip m).tick = t.tick ∧ (t.slip m).hold = t.tick - m) ∧
    (t.due = some v ↔ t.armed = some v ∧ t.armNew = false) ∧ t.lose.lock = 2 ∧ t.lose.tick = t.tick ∧ t.regain.lock = 1 ∧ t.regain.tick = t.tick) ∧
  (∀ v : Nat, nearestEpoch v % 1000000 = 0 ∧ v < nearestEpoch v + 500000 ∧ nearestEpoch v ≤ v + 500000)

/-- R507: "The tick value never decreases." -/
def Obligations.TickNeverFalls : Prop :=
  ∀ (c : Instr) (s t : State), (∃ b, c = .droneTick b ∨ c = .epochMarker b) ∨ c = .droneEdgeTimeout ∨ c = .holdoverTick →
    s.drone.tick + 1 < 2 ^ 64 → (s.drone.isSet = true ∨ s.drone.due = none) → exec c s = .next t → s.drone.tick ≤ t.drone.tick

/-- R513 to R523; that missing image bytes are FAIL_CAUSE 1 is the model's choice. -/
def Obligations.ResetsAndStartup : Prop :=
  (∀ (s : State), 
    exec (.aonPowerGood) s = .next ((s.wholeReset 1).setAon true) ∧ exec (.aonSupplyLoss) s = .next ((s.wholeReset 0).setAon false) ∧
    (s.dev.aonUp = true → exec (.managementReset) s = .next (s.mgmtReset)) ∧ (s.dev.aonUp = false → exec (.managementReset) s = .next (s)) ∧
    (s.dev.boot.aonGood = true → exec (.resetN true) s = .next ((s.wholeReset 2).setResetN false)) ∧
    (s.dev.boot.aonGood = false → exec (.resetN true) s = .next (s.setResetN false)) ∧ exec (.resetN false) s = .next (s.setResetN true)) ∧
  (∀ (s : State) (c : Nat), c < 8 → (s.wholeReset c).drone = {} ∧ (s.wholeReset c).perm = s.perm ∧ (s.wholeReset c).smu = s.smu ∧
    (s.wholeReset c).pending = s.pending ∧ (s.wholeReset c).dev.rd F.DRONE_RESET_CAUSE_CAUSE = c ∧ (s.wholeReset c).dev.phase = .idle ∧
    (∀ f : Fld, f.key ≠ F.DRONE_RESET_CAUSE_CAUSE.key → (s.wholeReset c).dev.rd f = State.reset.dev.rd f) ∧
    (s.wholeReset c).dev.cores = [] ∧ (s.wholeReset c).dev.sparse = {} ∧ (s.wholeReset c).dev.ckpt = {} ∧ (s.wholeReset c).dev.coll = {} ∧
    (∀ k, keptKey k = false → (s.wholeReset c).dev.byte k = 0) ∧ (∀ k, keptKey k = true → (s.wholeReset c).dev.byte k = s.dev.byte k)) ∧
  (∀ (s : State) (b : BootRead), 
    (s.seen.startDue = true → exec (.startup b) s = .next (s.withDev (s.seen.startRun s.perm b))) ∧ (s.seen.startDue = false → exec (.startup b) s = .next (s.withDev (s.seen)))) ∧
  (∀ (d e : Device) (p : Perm) (b : BootRead) (img : Bytes), img = b.image.take (erienLen b.image) → 
    e = (((((d.startStep 2).wr F.SEC_STATUS_PUF_OK 1).putRegs F.SEC_IDENTITY_DATA (padTo 32 (Config.sha3 256 p.edPub))).startStep 3).wr F.DRONE_START_STATUS_SLOW_BOOT (b2n !b.sfdp)) →
    (p.seedOk = false → d.startRun p b = (d.startStep 2).startFail 4 0) ∧
    (p.seedOk = true → (b.headerTry1 = false → b.headerTry2 = false → d.startRun p b = e.startFail 1 0) ∧
      (b.headerTry1 = true ∨ b.headerTry2 = true → (erienHeader b.image = false → d.startRun p b = e.startFail 2 0) ∧
        (erienHeader b.image = true → erienLen b.image ≤ b.image.length → (erienWhole img = false → d.startRun p b = (e.startStep 4).startFail 2 0) ∧
          (erienWhole img = true → (verifyBlock p img (imageDigest img (erienLen img)) = false → d.startRun p b = (e.startStep 4).startFail 3 0) ∧
            (verifyBlock p img (imageDigest img (erienLen img)) = true → ∀ f, f = ((e.startStep 4).imageInForce img).startStep 5 →
              (∀ o, f.loadConfig img = .error o → d.startRun p b = f.startFail 5 o) ∧
              (∀ g, f.loadConfig img = .ok g → d.startRun p b = (g.startStep 6).settle))))))) ∧
  (∀ (s : State) (us : Nat), 
    (s.seen.readyDue = false → exec (.startupReady us) s = .next (s.withDev (s.seen))) ∧
    (s.seen.readyDue = true → (s.seen.readyMay = false → exec (.startupReady us) s = .next (s.withDev (s.seen.startFail 7 0))) ∧ (s.seen.readyMay = true → exec (.startupReady us) s = .next (s.withDev (s.seen.startDone us))))) ∧
  (∀ (d : Device) (us : Nat), us < 2 ^ 32 → (d.startDone us).rd F.DRONE_START_STATUS_STATE = 1 ∧ (d.startDone us).rd F.DRONE_START_STATUS_STEP = 10 ∧
    (d.startDone us).rd F.DRONE_START_US_US = us ∧ (d.startDone us).flag F.HOST_STATUS_MEM_ACTIVE = true ∧ (d.startDone us).boot.locked = true)

/-- R527, R535 and R543; a second of the pair counted as 1,000,000 ticks is the model's choice (log entry 31). -/
def Obligations.FaultPolicyAndRevocation : Prop :=
  (∀ (s : State), s.dev.aonUp = false → 
    exec (.lockstepMismatch) s = .next (s) ∧ exec (.faultEvent) s = .next (s)) ∧
  (∀ (s : State), s.dev.aonUp = true → 
    (secondMismatch s.dev.mgmt.sinceMismatch = true → exec (.lockstepMismatch) s = .next (s.mgmtReset)) ∧
    (secondMismatch s.dev.mgmt.sinceMismatch = false → exec (.lockstepMismatch) s = .next (s.withDev (s.seen.lockstepRestart)))) ∧
  (∀ (s : State) (d : Device) (o : Option FaultEv), s.dev.aonUp = true → d = s.seen.takeEvent.1 → o = s.seen.takeEvent.2 → 
    (o = none → exec (.faultEvent) s = .next (s.withDev (d))) ∧
    (∀ e, o = some e → (d.policy e.cls = 0 → exec (.faultEvent) s = .next (s.withDev (d))) ∧ (d.policy e.cls = 1 → exec (.faultEvent) s = .next (s.withDev (d.drainFor e))) ∧
      (d.policy e.cls = 2 → exec (.faultEvent) s = .next (s.withDev (d.haltReq))) ∧ (d.policy e.cls = 3 → exec (.faultEvent) s = .next ((s.withDev d).mgmtReset)))) ∧
  (∀ (d : Device), d.mgmt.evLost ≠ some 0 → (d.mgmt.evq = [] → d.takeEvent = (d, none)) ∧
    (∀ e q, d.mgmt.evq = e :: q → d.takeEvent.2 = some e ∧ d.takeEvent.1.mgmt.evq = q ∧ d.takeEvent.1.rd F.MGMT_STATUS_EVQ = min q.length 255)) ∧
  (∀ (s : State) (k j : Nat) (d : Device), j = k % 4 → d = s.seen.noteRevoke j → 
    (s.seen.barOpen = false → exec (.secRevoke k) s = .next (s.withDev (s.seen.emit .unsupportedRequest))) ∧
    (s.seen.barOpen = true → (s.revokes s.seen j = false → exec (.secRevoke k) s = .next (s.withDev (d.logAccess F.SEC_REVOKE.key))) ∧
      (s.revokes s.seen j = true → exec (.secRevoke k) s = .next { (s) with perm := s.perm.revoke j, dev := d.revoked (s.perm.revoke j) }))) ∧
  (∀ (s : State) (d : Device) (j : Nat), s.revokes d j = true ↔ (∃ t, d.mgmt.lastRevoke = some (j, t) ∧ d.now ≤ t + 1000000) ∧
    d.rd F.SEC_STATUS_KEY_SLOT ≠ j ∧ bit s.perm.revoked (d.rd F.SEC_STATUS_KEY_SLOT) = false) ∧
  (∀ (p : Perm) (d : Device) (j k : Nat), bit (p.revoke j).revoked k = (bit p.revoked k || decide (k = j)) ∧ (d.noteRevoke j).mgmt.lastRevoke = some (j, d.now))

/-- R545, R553 and R554. -/
def Obligations.TestWindowsAndSmbus : Prop :=
  (∀ (s : State), 
    (s.seen.testDue = true → exec (.testWindowOpen) s = .next (s.withDev (s.seen.testOpen))) ∧ (s.seen.testDue = false → exec (.testWindowOpen) s = .next (s.withDev (s.seen))) ∧
    (s.seen.flag F.TEST_STATUS_IN_WINDOW = true → s.seen.mgmt.testLeft = 0 → exec (.testWindowClose) s = .next (s.withDev (s.seen.testClose))) ∧
    (s.seen.flag F.TEST_STATUS_IN_WINDOW = false ∨ s.seen.mgmt.testLeft ≠ 0 → exec (.testWindowClose) s = .next (s.withDev (s.seen)))) ∧
  (∀ (s : State) (o w : Nat), s.seen.aonUp = true → 
    exec (.smbStatus true) s = .next (s.withDev (s.seen.emit (.smbus s.seen.smbWords))) ∧ exec (.readAon o true) s = .next (s.withDev (s.seen.emit (.smbus (s.seen.smbAon o)))) ∧
    exec (.smbWake true) s = .next (s.withDev (s.seen.wake 4)) ∧ exec (.smbStandby true) s = .next (s.withDev (s.seen.enterStandby)) ∧
    exec (.smbLog true) s = .next (s.withDev ((s.seen.smbTaken.emit (.smbus s.seen.smbEntry)).alertView)) ∧ exec (.smbIdentify true) s = .next (s.withDev (s.seen.emit (.smbus s.seen.identity))) ∧
    (s.seen.flag F.MGMT_SMB_CFG_CAP_EN = true → exec (.setCap w true) s = .next (s.withDev (s.seen.wr F.PWR_CAP_CAP (s.seen.limitField "PWR_CAP" "CAP" (w % 65536))))) ∧
    (s.seen.flag F.MGMT_SMB_CFG_CAP_EN = false → exec (.setCap w true) s = .next (s.withDev (s.seen.inc F.MGMT_SMB_ERR))) ∧
    (s.seen.flag F.MGMT_SMB_CFG_RESET_EN = true → exec (.smbReset 0xA55A true) s = .next (s.mgmtReset)) ∧
    (w ≠ 0xA55A ∨ s.seen.flag F.MGMT_SMB_CFG_RESET_EN = false → exec (.smbReset w true) s = .next (s.withDev (s.seen.inc F.MGMT_SMB_ERR)))) ∧
  (∀ (s : State) (o w : Nat) (c : Instr), s.seen.aonUp = true → (c = .smbStatus false ∨ c = .readAon o false ∨ c = .smbWake false ∨ c = .smbStandby false ∨ c = .smbReset w false ∨ c = .setCap w false ∨ c = .smbLog false ∨ c = .smbIdentify false) → exec (c) s = .next (s.withDev (s.seen.inc F.MGMT_SMB_ERR))) ∧
  (∀ (s : State) (b : Bool) (o w : Nat) (c : Instr), s.seen.aonUp = false → (c = .smbStatus b ∨ c = .readAon o b ∨ c = .smbWake b ∨ c = .smbStandby b ∨ c = .smbReset w b ∨ c = .setCap w b ∨ c = .smbLog b ∨ c = .smbIdentify b ∨ c = .alertResponse) → exec (c) s = .next (s.withDev (s.seen))) ∧
  (∀ (s : State), s.seen.aonUp = true → 
    (s.seen.mgmt.alert = true → exec (.alertResponse) s = .next (s.withDev ((s.seen.alertOff.emit (.smbus [BitVec.ofNat 8 (s.seen.rd F.MGMT_SMB_CFG_ADDR * 2)])).emit (.pin .smbAlertN true)))) ∧
    (s.seen.mgmt.alert = false → exec (.alertResponse) s = .next (s.withDev (s.seen)))) ∧
  (∀ (d : Device), d.alertOff.mgmt.alert = false ∧ ((∀ e ∈ d.mgmt.aonLog, e.2 = false) → d.smbEntry = zeroBytes 64 ∧ d.smbTaken = d))

/-- R558 to R573; the SESSION value and the rounding of a sample's energy are free values (log entries 6 and 16). -/
def Obligations.SealedMeasurement : Prop :=
  (∀ (s : State) (v a : List Int), 
    (s.smu.powered = true → exec (.smuSessionStart) s = .next (s) ∧ exec (.smuSample v a) s = .next (s.smuSampled v a)) ∧
    (s.smu.powered = false → exec (.smuSessionStart) s = .next (s.newSession) ∧ exec (.smuSample v a) s = .next (s))) ∧
  (∀ (s : State), 
    (s.dev.smuPath = [] → exec (.smuStepMessage) s = .next (s)) ∧ (∀ x r, s.dev.smuPath = x :: r → s.smu.powered = true →
      exec .smuStepMessage s = .next { (s) with smu := s.smu.stepMsg x.1 x.2.1 x.2.2, dev := s.dev.setPath r }) ∧
    exec (.smuTickMessage) s = .next { (s) with smu := s.smu.tickMsg s.drone.tick } ∧
    (s.smu.closeDue = true → exec (.smuRecordClose) s = .next { (s) with smu := s.smu.closeRecord }) ∧ (s.smu.closeDue = false → exec (.smuRecordClose) s = .next (s))) ∧
  (∀ (s : State) (b : Bool) (set : Bytes), 
    exec (.crystalStop) s = .next { (s) with smu := s.smu.crystalOff } ∧ exec (.crystalReturn) s = .next { (s) with smu := s.smu.crystalOn } ∧
    exec (.smuSupplyLoss) s = .next { (s) with smu := s.smu.off } ∧ exec (.sealAssert) s = .next { (s) with smu := s.smu.sealOpen } ∧
    exec (.sealDeassert) s = .next { (s) with smu := s.smu.sealClose } ∧ exec (.calStage set b) s = .next { (s) with smu := s.smu.stage set b } ∧
    exec (.calCommit b) s = .next { (s) with smu := s.smu.commit s.smu.staged b } ∧
    (s.smu.powered = true → exec (.calStatus true) s = .next { (s) with dev := s.dev.emit (.calPort s.smu.calReply) }) ∧
    (s.smu.powered = false ∨ b = false → exec (.calStatus b) s = .next (s))) ∧
  (∀ (m : Smu) (n : Nat), (m.newSession n).powered = true ∧ (m.newSession n).session = n % 2 ^ 64 ∧ (m.newSession n).seq = 0 ∧ (m.newSession n).uptime = 0 ∧
    (m.newSession n).applied = 0 ∧ (m.newSession n).skipped = 0 ∧ (m.newSession n).samples = 0 ∧ (m.newSession n).gaps = 0 ∧ (m.newSession n).lastStep = none ∧
    1 ≤ (m.newSession n).calEvents ∧ (m.slots ≠ [] → (m.newSession n).slots = m.slots)) ∧
  (∀ (m : Smu) (x n : Nat) (b : Bool), (m.stepMsg x b n).lastStep = some x ∧ (m.stepMsg x b n).applied + (m.stepMsg x b n).skipped = m.applied + m.skipped + 1 ∧
    (m.stepMsg x b n).samples = m.samples + n ∧ (m.lastStep = none ∨ m.lastStep = some (x - 1) ∧ 0 < x → (m.stepMsg x b n).gaps = m.gaps ∧ (m.stepMsg x b n).flags = m.flags) ∧
    (∀ l, m.lastStep = some l → x ≠ l + 1 → (m.stepMsg x b n).gaps = min (m.gaps + 1) 4294967295 ∧ (m.stepMsg x b n).flags = m.flags ||| 32)) ∧
  (∀ (m : Smu) (h : Bytes), h = m.recordHead (m.flags + (if m.seq = 0 then 1 else 0)) (m.start + calInterval m.calSet * 32768) →
    m.closeRecord.seq = m.seq + 1 ∧ m.closeRecord.start = m.start + calInterval m.calSet * 32768 ∧
    Store.get (fun _ => []) m.closeRecord.store (m.seq % 240) = smuRecord h ∧ m.closeRecord.prev = Config.sha3 256 h ∧ m.closeRecord.slots = m.slots ∧
    (∀ k, k ≠ m.seq % 240 → Store.get (fun _ => []) m.closeRecord.store k = Store.get (fun _ => []) m.store k) ∧
    (∀ n, n < 4 → Store.get (fun _ => 0) m.closeRecord.acc n = Store.get (fun _ => 0) m.acc n % 1000000) ∧
    (∀ l set, m.slots = l ++ [set] → m.closeRecord.calSet = set)) ∧
  (∀ (m : Smu) (set : Bytes) (b : Bool), (m.stage set b).slots = m.slots ∧
    ((m.stage set b).staged = some set ↔ m.staged = some set ∨ (m.powered = true ∧ b = true ∧ m.sealOn = true ∧ calValid set = true)) ∧
    (m.powered = true → m.sealOn = true → m.slots.length < 64 → m.commit (some set) true = m.program set) ∧
    (m.powered = false ∨ b = false ∨ m.sealOn = false ∨ 64 ≤ m.slots.length → m.commit (some set) b = m) ∧ m.commit none b = m ∧
    (m.program set).calEvents = m.calEvents + 1 ∧ (m.program set).staged = none ∧ (m.program set).slots = m.slots ++ [set] ∧
    (m.program set).calSet = m.calSet ∧ m.sealClose.staged = none ∧
    (m.sealOn = false → m.powered = true → m.sealOpen.sealOpens = min (m.sealOpens + 1) 4294967295 ∧ m.sealOpen.flags = m.flags ||| 2))

/-- R505, R535, R558 and R560: each command's frame outside the units of the T24. -/
def Obligations.CommandFrames : Prop :=
  ∀ (c : Instr) (s : State), ∃ t, exec c s = .next t ∧ t.pending = s.pending ∧ (blowsFuse c = false → t.perm = s.perm) ∧
    (ofSmu c = false → t.smu = s.smu) ∧ (movesTick c = false → t.drone = s.drone)

/-- R535 and R570: "The counter cannot decrease." -/
def Obligations.FusesAndSlotsOnlyGrow : Prop :=
  ∀ s t : State, step s = .next t → (∀ k, bit s.perm.revoked k = true → bit t.perm.revoked k = true) ∧
    (t.perm.seedOk = s.perm.seedOk ∧ t.perm.edPub = s.perm.edPub ∧ t.perm.keyHash = s.perm.keyHash) ∧ (∃ r, t.smu.slots = s.smu.slots ++ r) ∧ s.smu.calEvents ≤ t.smu.calEvents

/-- R98, R106 and R112: no bit of an encoding is dropped. -/
def Obligations.InstructionWords : Prop :=
  (∀ i : CoreInstr, i.fits = true → decodeWord (encodeWord i) (encodeWord1 i) = some i ∧ encodeWord i < 2 ^ 128 ∧ encodeWord1 i < 2 ^ 128) ∧
  (∀ i j : CoreInstr, i.fits = true → j.fits = true → encodeWord i = encodeWord j → encodeWord1 i = encodeWord1 j → i = j)

/-- The example at the end of the chapter on matrix cores. -/
def Obligations.SpecWords : Prop :=
  decodeWord 0x10100200004002000400000000000000 0 = some (.mma 2 0 1 0 0 0 0 64 512 1024) ∧ mmaClk 64 512 1024 3 3 = 8232 ∧
  stagesOf (stageWords 0x580004A0) = [0x04A0, 0x5800] ∧ stOp 0x04A0 = 1 ∧ stOp 0x5800 = 0x16 ∧ chainClk 64 512 [0x04A0, 0x5800] = 1048 ∧
  decodeWord (0x0A * 2 ^ 120) 0 = none ∧ decodeTableWord 32 0 = none

/-- R18. -/
def Obligations.CountersSaturate : Prop :=
  (∀ (d : Device) (f : Fld) (n : Nat), f.lo + f.w ≤ 32 → (d.inc f n).rd f = min (d.rd f + n) (2 ^ f.w - 1) ∧ d.rd f ≤ (d.inc f n).rd f ∧
    (∀ g : Fld, g.key ≠ f.key ∨ g.lo + g.w ≤ f.lo ∨ f.lo + f.w ≤ g.lo → (d.inc f n).rd g = d.rd g)) ∧
  (∀ (d : Device) (f : Fld) (n : Nat), f.lo = 0 → f.w = 32 → (d.inc64 f n).rd64 f = min (d.rd64 f + n) (2 ^ 64 - 1) ∧ d.rd64 f ≤ (d.inc64 f n).rd64 f)

/-- R13. -/
def Obligations.EventsAreNeverLost : Prop :=
  (∀ (s : State) (off v hw : Nat) (a : RegAt), RegMap.at? off = some a → off % 4 = 0 → s.reaches off → a.blk ≠ .smu →
    plainReg a.row.name = true → s.seen.writeRefused a.row.name = false →
    s.seen.rwlDiffers a.row (s.seen.reg (s.seen.keyOf off)) (BitVec.ofNat 32 v) = false →
    ∃ new : Word, exec (.registerWrite off 4 v hw) s = .next (s.withDev (s.seen.setReg (s.seen.keyOf off) new)) ∧
      ∀ f ∈ a.row.flds, f.acc = .w1c → ∀ k < f.w, (getBits (BitVec.ofNat 32 hw) f.lo f.w).testBit k = true → (getBits new f.lo f.w).testBit k = true) ∧
  (∀ (s : State) (q off hw : Nat) (a : RegAt), RegMap.at? off = some a → hasRc off = true → s.seen.barOpen = true → s.readable off = true →
    ∃ new : Word, exec (.readToClear q off hw) s =
        .next (s.withDev ((s.seen.setReg (s.seen.keyOf off) new).emit (.readData q (s.seen.readWord off)))) ∧
      ∀ f ∈ a.row.flds, f.acc = .rc → getBits new f.lo f.w = getBits (BitVec.ofNat 32 hw) f.lo f.w)

/-- R16 and R513: what reset leaves; that AON's supply is not yet good is the model's choice. -/
def Obligations.ResetState : Prop :=
  State.reset.pending = [] ∧ State.reset.dev.phase = .idle ∧ State.reset.dev.mem = [] ∧ Memory.wf State.reset.dev.mem = true ∧
  (∀ k, k ≠ F.DRONE_RESET_CAUSE_CAUSE.key → State.reset.dev.reg k = regReset k) ∧ State.reset.dev.rd F.DRONE_RESET_CAUSE_CAUSE = 1 ∧
  State.reset.smu.powered = false
end

