-- ==== Sys2Proof/Laws/Store.lean ====
section
/-! SUPPORT. Laws of sparse data: a read after a write, and the canonical form kept by every operation. -/

namespace Sys2Proof.Machine

variable {α : Type}

/-! ### Reads after writes -/

theorem Store.get_erase_same (d : Nat → α) (m : Store α) (k : Nat) : Store.get d (Store.erase k m) k = d k := by
  induction m with
  | nil => rfl
  | cons e r ih =>
    obtain ⟨k', v⟩ := e
    by_cases h : k' = k <;> simp [Store.erase, Store.get, h, ih]

theorem Store.get_erase_ne (d : Nat → α) (m : Store α) {k j : Nat} (hj : j ≠ k) :
    Store.get d (Store.erase k m) j = Store.get d m j := by
  induction m with
  | nil => rfl
  | cons e r ih =>
    obtain ⟨k', v⟩ := e
    by_cases h : k' = k
    · subst h
      have : ¬k' = j := fun e => hj e.symm
      simp [Store.erase, Store.get, ih, this]
    · by_cases g : k' = j
      · subst g; simp [Store.erase, Store.get, h]
      · simp [Store.erase, Store.get, h, g, ih]

theorem Store.get_insert_ne (d : Nat → α) (m : Store α) {k j : Nat} (v : α) (hj : j ≠ k) :
    Store.get d (Store.insert k v m) j = Store.get d m j := by
  have hk : ¬k = j := fun e => hj e.symm
  induction m with
  | nil => simp [Store.insert, Store.get, hk]
  | cons e r ih =>
    obtain ⟨k', v'⟩ := e
    by_cases g : k' = j
    · subst g
      by_cases h : k < k' <;> simp [Store.insert, Store.get, h, hk]
    · by_cases h : k < k' <;> simp [Store.insert, Store.get, h, g, hk, ih]

theorem Store.get_insert_erase (d : Nat → α) (m : Store α) (k : Nat) (v : α) :
    Store.get d (Store.insert k v (Store.erase k m)) k = v := by
  induction m with
  | nil => simp [Store.insert, Store.erase, Store.get]
  | cons e r ih =>
    obtain ⟨k', v'⟩ := e
    by_cases h : k' = k
    · simpa [Store.erase, h] using ih
    · by_cases g : k < k' <;> simp [Store.erase, Store.insert, Store.get, h, g, ih]

section Writes
variable [DecidableEq α]

/-- The written key reads as the value written. -/
theorem Store.get_set_same (d : Nat → α) (m : Store α) (k : Nat) (v : α) : Store.get d (Store.set d m k v) k = v := by
  unfold Store.set
  split
  · rename_i h; rw [Store.get_erase_same, h]
  · exact Store.get_insert_erase d m k v

/-- Every other key reads as before. -/
theorem Store.get_set_ne (d : Nat → α) (m : Store α) {k j : Nat} (v : α) (hj : j ≠ k) :
    Store.get d (Store.set d m k v) j = Store.get d m j := by
  unfold Store.set
  split
  · exact Store.get_erase_ne d m hj
  · rw [Store.get_insert_ne d _ v hj, Store.get_erase_ne d m hj]

/-! ### The canonical form -/

theorem Store.wfFrom_weaken {d : Nat → α} {lo hi : Nat} {m : Store α} (h : lo ≤ hi) (w : Store.wfFrom d hi m = true) :
    Store.wfFrom d lo m = true := by
  cases m with
  | nil => rfl
  | cons e r =>
    obtain ⟨k, v⟩ := e
    simp only [Store.wfFrom, Bool.and_eq_true, decide_eq_true_eq] at w ⊢
    exact ⟨⟨Nat.le_trans h w.1.1, w.1.2⟩, w.2⟩

theorem Store.wfFrom_erase {d : Nat → α} {lo : Nat} {m : Store α} (k : Nat) (w : Store.wfFrom d lo m = true) :
    Store.wfFrom d lo (Store.erase k m) = true := by
  induction m generalizing lo with
  | nil => rfl
  | cons e r ih =>
    obtain ⟨k', v⟩ := e
    simp only [Store.wfFrom, Bool.and_eq_true, decide_eq_true_eq] at w
    by_cases h : k' = k
    · simp only [Store.erase, h, if_true]
      exact Store.wfFrom_weaken (by omega) (ih w.2)
    · simp only [Store.erase, h, if_false, Store.wfFrom, Bool.and_eq_true, decide_eq_true_eq]
      exact ⟨w.1, ih w.2⟩

/-- An insertion of a key that is not there, at a value that an unlisted key does not have. -/
theorem Store.wfFrom_insert {d : Nat → α} {lo k : Nat} {v : α} {m : Store α} (hk : lo ≤ k) (hv : v ≠ d k)
    (w : Store.wfFrom d lo (Store.erase k m) = true) : Store.wfFrom d lo (Store.insert k v (Store.erase k m)) = true := by
  induction m generalizing lo with
  | nil => simp [Store.erase, Store.insert, Store.wfFrom, hk, hv]
  | cons e r ih =>
    obtain ⟨k', v'⟩ := e
    by_cases h : k' = k
    · simp only [Store.erase, h, if_true] at w ⊢
      exact ih hk w
    · simp only [Store.erase, h, if_false] at w ⊢
      have w' := w
      simp only [Store.wfFrom, Bool.and_eq_true, decide_eq_true_eq] at w'
      by_cases g : k < k'
      · simp only [Store.insert, g, if_true, Store.wfFrom, Bool.and_eq_true, decide_eq_true_eq]
        exact ⟨⟨hk, hv⟩, ⟨⟨by omega, w'.1.2⟩, w'.2⟩⟩
      · simp only [Store.insert, g, if_false, Store.wfFrom, Bool.and_eq_true, decide_eq_true_eq]
        exact ⟨w'.1, ih (by omega) w'.2⟩

/-- A write keeps the canonical form. -/
theorem Store.wf_set {d : Nat → α} {m : Store α} (k : Nat) (v : α) (w : Store.wf d m = true) :
    Store.wf d (Store.set d m k v) = true := by
  unfold Store.set
  split
  · exact Store.wfFrom_erase k w
  · rename_i h
    exact Store.wfFrom_insert (Nat.zero_le _) h (Store.wfFrom_erase k w)

/-- Dropping entries keeps the canonical form. -/
theorem Store.wf_keep {d : Nat → α} {m : Store α} (p : Nat → Bool) (w : Store.wf d m = true) :
    Store.wf d (Store.keep p m) = true := by
  have : ∀ lo, Store.wfFrom d lo m = true → Store.wfFrom d lo (Store.keep p m) = true := by
    unfold Store.keep
    induction m with
    | nil => intro lo h; exact h
    | cons e r ih =>
      obtain ⟨k, v⟩ := e
      intro lo h
      simp only [Store.wfFrom, Bool.and_eq_true, decide_eq_true_eq] at h
      have hr := ih (Store.wfFrom_weaken (Nat.zero_le _) h.2) (k + 1) h.2
      by_cases g : p k
      · simp only [List.filter, g, Store.wfFrom, Bool.and_eq_true, decide_eq_true_eq]
        exact ⟨h.1, hr⟩
      · simp only [List.filter, g]
        exact Store.wfFrom_weaken (by omega) hr
  exact this 0 w

end Writes

/-- A kept key reads as before. -/
theorem Store.get_keep (d : Nat → α) (m : Store α) (p : Nat → Bool) {k : Nat} (h : p k = true) :
    Store.get d (Store.keep p m) k = Store.get d m k := by
  unfold Store.keep
  induction m with
  | nil => rfl
  | cons e r ih =>
    obtain ⟨k', v⟩ := e
    by_cases g : p k'
    · by_cases j : k' = k
      · subst j; simp [List.filter, g, Store.get]
      · simp [List.filter, g, Store.get, j, ih]
    · have : ¬k' = k := fun e => g (e ▸ h)
      simp [List.filter, g, Store.get, this, ih]

/-- A dropped key reads as an unlisted one. -/
theorem Store.get_dropped (d : Nat → α) (m : Store α) (p : Nat → Bool) {k : Nat} (h : p k = false) :
    Store.get d (Store.keep p m) k = d k := by
  unfold Store.keep
  induction m with
  | nil => rfl
  | cons e r ih =>
    obtain ⟨k', v⟩ := e
    by_cases g : p k'
    · have : ¬k' = k := fun e => by rw [e, h] at g; cases g
      simp [List.filter, g, Store.get, this, ih]
    · simp [List.filter, g, ih]

end Sys2Proof.Machine
end

