-- ==== Sys2Proof/Laws/Regs.lean ====
section
/-! SUPPORT. Laws of the registers: what a write of a field leaves in each field (R5, R12). -/

namespace Sys2Proof.Machine

/-! ### Bit fields -/

theorem putBits_toNat_lt (v : Word) {lo w : Nat} (x : Nat) (h : lo + w ≤ 32) :
    v.toNat % 2 ^ lo + x % 2 ^ w * 2 ^ lo + v.toNat / 2 ^ (lo + w) * 2 ^ (lo + w) < 2 ^ 32 := by
  have h1 : v.toNat % 2 ^ lo < 2 ^ lo := Nat.mod_lt _ (Nat.two_pow_pos _)
  have h2 : x % 2 ^ w < 2 ^ w := Nat.mod_lt _ (Nat.two_pow_pos _)
  have h3 : v.toNat / 2 ^ (lo + w) < 2 ^ (32 - (lo + w)) := by
    rw [Nat.div_lt_iff_lt_mul (Nat.two_pow_pos _), ← Nat.pow_add, Nat.sub_add_cancel h]
    exact v.isLt
  have h4 : x % 2 ^ w * 2 ^ lo + 2 ^ lo ≤ 2 ^ (lo + w) := by
    rw [Nat.pow_add, Nat.mul_comm (2 ^ lo) (2 ^ w), ← Nat.succ_mul]
    exact Nat.mul_le_mul_right _ h2
  have h5 : v.toNat / 2 ^ (lo + w) * 2 ^ (lo + w) + 2 ^ (lo + w) ≤ 2 ^ 32 := by
    rw [← Nat.succ_mul]
    calc _ ≤ 2 ^ (32 - (lo + w)) * 2 ^ (lo + w) := Nat.mul_le_mul_right _ h3
      _ = 2 ^ 32 := by rw [← Nat.pow_add, Nat.sub_add_cancel h]
  omega

theorem putBits_toNat (v : Word) {lo w : Nat} (x : Nat) (h : lo + w ≤ 32) :
    (putBits v lo w x).toNat = v.toNat % 2 ^ lo + x % 2 ^ w * 2 ^ lo + v.toNat / 2 ^ (lo + w) * 2 ^ (lo + w) := by
  rw [putBits, BitVec.toNat_ofNat, Nat.mod_eq_of_lt (putBits_toNat_lt v x h)]

/-- The field written reads as the value, cut to its width. -/
theorem getBits_putBits_same (v : Word) {lo w : Nat} (x : Nat) (h : lo + w ≤ 32) :
    getBits (putBits v lo w x) lo w = x % 2 ^ w := by
  rw [getBits, putBits_toNat v x h]
  have e : v.toNat % 2 ^ lo + x % 2 ^ w * 2 ^ lo + v.toNat / 2 ^ (lo + w) * 2 ^ (lo + w)
      = v.toNat % 2 ^ lo + 2 ^ lo * (x % 2 ^ w + 2 ^ w * (v.toNat / 2 ^ (lo + w))) := by
    rw [Nat.pow_add]; ring
  rw [e, Nat.add_mul_div_left _ _ (Nat.two_pow_pos _), Nat.div_eq_of_lt (Nat.mod_lt _ (Nat.two_pow_pos _)), Nat.zero_add,
    Nat.add_mul_mod_self_left, Nat.mod_mod]

/-- A field below the one written keeps its value. -/
theorem getBits_putBits_below (v : Word) {lo w lo' w' : Nat} (x : Nat) (h : lo + w ≤ 32) (b : lo' + w' ≤ lo) :
    getBits (putBits v lo w x) lo' w' = getBits v lo' w' := by
  rw [getBits, putBits_toNat v x h, getBits]
  have e : v.toNat % 2 ^ lo + x % 2 ^ w * 2 ^ lo + v.toNat / 2 ^ (lo + w) * 2 ^ (lo + w)
      = v.toNat % 2 ^ lo + 2 ^ lo * (x % 2 ^ w + 2 ^ w * (v.toNat / 2 ^ (lo + w))) := by
    rw [Nat.pow_add]; ring
  obtain ⟨k, rfl⟩ : ∃ k, lo = lo' + w' + k := ⟨lo - (lo' + w'), by omega⟩
  rw [e]
  have p : (2 : Nat) ^ (lo' + w' + k) = 2 ^ lo' * (2 ^ w' * 2 ^ k) := by rw [Nat.pow_add, Nat.pow_add]; ring
  generalize x % 2 ^ w + 2 ^ w * (v.toNat / 2 ^ (lo' + w' + k + w)) = y
  rw [show v.toNat % 2 ^ (lo' + w' + k) + 2 ^ (lo' + w' + k) * y
      = v.toNat % 2 ^ (lo' + w' + k) + 2 ^ lo' * (2 ^ w' * (2 ^ k * y)) by rw [p]; ring,
    Nat.add_mul_div_left _ _ (Nat.two_pow_pos _), Nat.add_mul_mod_self_left]
  rw [p, Nat.mod_mul_right_div_self, Nat.mod_mul_right_mod]

/-- A field above the one written keeps its value. -/
theorem getBits_putBits_above (v : Word) {lo w lo' w' : Nat} (x : Nat) (h : lo + w ≤ 32) (b : lo + w ≤ lo') :
    getBits (putBits v lo w x) lo' w' = getBits v lo' w' := by
  rw [getBits, putBits_toNat v x h, getBits]
  obtain ⟨k, rfl⟩ : ∃ k, lo' = lo + w + k := ⟨lo' - (lo + w), by omega⟩
  have h1 : v.toNat % 2 ^ lo < 2 ^ lo := Nat.mod_lt _ (Nat.two_pow_pos _)
  have h2 : x % 2 ^ w < 2 ^ w := Nat.mod_lt _ (Nat.two_pow_pos _)
  have h4 : x % 2 ^ w * 2 ^ lo + 2 ^ lo ≤ 2 ^ (lo + w) := by
    rw [Nat.pow_add, Nat.mul_comm (2 ^ lo) (2 ^ w), ← Nat.succ_mul]
    exact Nat.mul_le_mul_right _ h2
  rw [Nat.pow_add _ (lo + w) k, ← Nat.div_div_eq_div_mul, ← Nat.div_div_eq_div_mul]
  congr 2
  rw [Nat.mul_comm (v.toNat / 2 ^ (lo + w)), Nat.add_mul_div_left _ _ (Nat.two_pow_pos _),
    Nat.div_eq_of_lt (by omega), Nat.zero_add]

/-- Writing a field with the value it holds changes nothing. -/
theorem putBits_self (v : Word) {lo w : Nat} (h : lo + w ≤ 32) : putBits v lo w (getBits v lo w) = v := by
  apply BitVec.eq_of_toNat_eq
  rw [putBits_toNat v _ h, getBits, Nat.mod_mod, Nat.pow_add, ← Nat.div_div_eq_div_mul]
  have a := Nat.div_add_mod v.toNat (2 ^ lo)
  have b := Nat.div_add_mod (v.toNat / 2 ^ lo) (2 ^ w)
  have c : 2 ^ lo * (v.toNat / 2 ^ lo) = v.toNat / 2 ^ lo / 2 ^ w * (2 ^ lo * 2 ^ w) + v.toNat / 2 ^ lo % 2 ^ w * 2 ^ lo := by
    conv_lhs => rw [← b]
    ring
  omega

/-! ### Registers and fields -/

@[simp] theorem Device.reg_setReg_same (d : Device) (k : Nat) (v : Word) : (d.setReg k v).reg k = v :=
  Store.get_set_same ..

theorem Device.reg_setReg_ne (d : Device) {k j : Nat} (v : Word) (h : j ≠ k) : (d.setReg k v).reg j = d.reg j :=
  Store.get_set_ne _ _ _ h

theorem Device.reg_wr_ne (d : Device) {f : Fld} {j : Nat} (x : Nat) (h : j ≠ f.key) : (d.wr f x).reg j = d.reg j :=
  Device.reg_setReg_ne d _ h

/-- The field written. -/
theorem Device.rd_wr_same (d : Device) (f : Fld) (x : Nat) (h : f.lo + f.w ≤ 32) : (d.wr f x).rd f = x % 2 ^ f.w := by
  rw [Device.rd, Device.wr, Device.reg_setReg_same, getBits_putBits_same _ _ h]

/-- A field of another register. -/
theorem Device.rd_wr_ne (d : Device) {f g : Fld} (x : Nat) (h : g.key ≠ f.key) : (d.wr f x).rd g = d.rd g := by
  rw [Device.rd, Device.reg_wr_ne d x h, Device.rd]

/-- Another field of the same register. -/
theorem Device.rd_wr_disj (d : Device) {f g : Fld} (x : Nat) (h : f.lo + f.w ≤ 32)
    (b : g.lo + g.w ≤ f.lo ∨ f.lo + f.w ≤ g.lo) : (d.wr f x).rd g = d.rd g := by
  by_cases k : g.key = f.key
  · rw [Device.rd, Device.wr, k, Device.reg_setReg_same, Device.rd, k]
    rcases b with b | b
    · exact getBits_putBits_below _ _ h b
    · exact getBits_putBits_above _ _ h b
  · exact Device.rd_wr_ne d x k

theorem Device.flag_wr_ne (d : Device) {f g : Fld} (x : Nat) (h : g.key ≠ f.key) : (d.wr f x).flag g = d.flag g := by
  rw [Device.flag, Device.rd_wr_ne d x h, Device.flag]

end Sys2Proof.Machine
end

