-- ==== Sys2Proof/Laws/Calm.lean ====
section
/-! SUPPORT. Laws of reporting: interrupt messages, ring entries, the event log and the fault policy's queue leave everything else
as it is. -/

namespace Sys2Proof.Machine

/-- A command that acts on the units answers a next state (R8 to R17 say what it finds). -/
theorem State.onDev_eq (s : State) (f : Device → Device) : s.onDev f = .next (s.withDev (f s.seen)) := id rfl

/-- An access that reaches its register. -/
theorem Device.access_open {d : Device} {off : Nat} (f : Device → Device) (h : d.barOpen = true) (g : d.decodes (keySource off).1 = true) :
    d.access off f = f d := by
  simp [Device.access, h, g]

theorem State.access_reaches {s : State} {off : Nat} (f : Device → Device) (h : s.reaches off) : s.seen.access off f = f s.seen :=
  Device.access_open f h.1 h.2

/-! ### The relation -/

theorem Device.Calm.refl (d : Device) : Device.Calm d d := ⟨fun _ _ => rfl, rfl, fun _ => rfl, fun _ => ⟨rfl, rfl, rfl, rfl, rfl⟩⟩

theorem Device.Calm.trans {d e f : Device} (h : Device.Calm d e) (g : Device.Calm e f) : Device.Calm d f where
  regs k q := (g.regs k q).trans (h.regs k q)
  inner := g.inner.trans h.inner
  types ty := (g.types ty).trans (h.types ty)
  still n := by
    obtain ⟨a, b, c, r, x⟩ := h.still n
    obtain ⟨a', b', c', r', x'⟩ := g.still ((h.types 11).trans n)
    exact ⟨a'.trans a, b'.trans b, c'.trans c, r'.trans r, x'.trans x⟩

/-! ### Which registers give a ring its TYPE -/

/-- A key that is no RING_CFG. -/
def notCfg (k : Nat) : Prop := ¬(0x500000 ≤ k ∧ k < 0x540000 ∧ (k - 0x500000) % 64 = 0)

/-- What ringsOf keeps of one register. -/
def cfgRing (ty : Nat) (e : Nat × Word) : Option Nat :=
  if 0x500000 ≤ e.1 ∧ e.1 < 0x540000 ∧ (e.1 - 0x500000) % 64 = 0 ∧ getBits e.2 28 4 = ty then some ((e.1 - 0x500000) / 64) else none

theorem Device.ringsOf_eq (d : Device) (ty : Nat) : d.ringsOf ty = d.regs.filterMap (cfgRing ty) := rfl

theorem cfgRing_none {k : Nat} (h : notCfg k) (ty : Nat) (v : Word) : cfgRing ty (k, v) = none := by
  unfold cfgRing
  rw [if_neg]
  rintro ⟨a, b, c, -⟩
  exact h ⟨a, b, c⟩

theorem filterMap_erase {k : Nat} (h : notCfg k) (ty : Nat) (m : List (Nat × Word)) :
    (Store.erase k m).filterMap (cfgRing ty) = m.filterMap (cfgRing ty) := by
  induction m with
  | nil => rfl
  | cons e r ih =>
    obtain ⟨k', v⟩ := e
    by_cases g : k' = k
    · subst g; simp [Store.erase, ih, cfgRing_none h]
    · simp [Store.erase, g, ih, List.filterMap_cons]

theorem filterMap_insert {k : Nat} (h : notCfg k) (ty : Nat) (v : Word) (m : List (Nat × Word)) :
    (Store.insert k v m).filterMap (cfgRing ty) = m.filterMap (cfgRing ty) := by
  induction m with
  | nil => simp [Store.insert, cfgRing_none h]
  | cons e r ih =>
    obtain ⟨k', v'⟩ := e
    by_cases g : k < k' <;> simp [Store.insert, g, ih, List.filterMap_cons, cfgRing_none h]

theorem Device.ringsOf_setReg (d : Device) {k : Nat} (v : Word) (h : notCfg k) (ty : Nat) :
    (d.setReg k v).ringsOf ty = d.ringsOf ty := by
  rw [Device.ringsOf_eq, Device.ringsOf_eq]
  unfold Device.setReg Store.set
  dsimp only
  split
  · exact filterMap_erase h ty _
  · rw [filterMap_insert h, filterMap_erase h]

/-- The rings of a TYPE are rings. -/
theorem Device.ringsOf_lt {d : Device} {ty r : Nat} (h : r ∈ d.ringsOf ty) : r < 4096 := by
  rw [Device.ringsOf_eq, List.mem_filterMap] at h
  obtain ⟨e, -, h⟩ := h
  unfold cfgRing at h
  split at h
  · rename_i c; cases h; omega
  · cases h

/-! ### Registers -/

/-- A loud key: one that reporting may write, and no RING_CFG. -/
def loud (k : Nat) : Prop := quiet k = false ∧ notCfg k

theorem Device.setReg_calm (d : Device) {k : Nat} (v : Word) (h : loud k) : Device.Calm d (d.setReg k v) where
  regs j q := Device.reg_setReg_ne d v (by rintro rfl; rw [h.1] at q; cases q)
  inner := rfl
  types := Device.ringsOf_setReg d v h.2
  still _ := ⟨rfl, rfl, rfl, rfl, rfl⟩

theorem Device.wr_calm (d : Device) {f : Fld} (x : Nat) (h : loud f.key) : Device.Calm d (d.wr f x) :=
  Device.setReg_calm d _ h

theorem Device.inc_calm (d : Device) {f : Fld} (n : Nat) (h : loud f.key) : Device.Calm d (d.inc f n) :=
  Device.wr_calm d _ h

/-- A write of a quiet register keeps two devices alike. -/
theorem Device.Calm.setReg {d e : Device} (h : Device.Calm d e) {k : Nat} (v : Word) (c : notCfg k) :
    Device.Calm (d.setReg k v) (e.setReg k v) where
  regs j q := by
    by_cases g : j = k
    · subst g; simp
    · rw [Device.reg_setReg_ne _ _ g, Device.reg_setReg_ne _ _ g, h.regs j q]
  inner := h.inner
  types ty := by rw [Device.ringsOf_setReg _ _ c, Device.ringsOf_setReg _ _ c, h.types]
  still n := h.still (by rwa [Device.ringsOf_setReg _ _ c] at n)

theorem Device.Calm.wr {d e : Device} (h : Device.Calm d e) {f : Fld} (x : Nat) (q : quiet f.key = true) (c : notCfg f.key) :
    Device.Calm (d.wr f x) (e.wr f x) := by
  unfold Device.wr
  rw [h.regs _ q]
  exact h.setReg _ c

theorem Device.Calm.rd {d e : Device} (h : Device.Calm d e) {f : Fld} (q : quiet f.key = true) : e.rd f = d.rd f := by
  rw [Device.rd, h.regs _ q, Device.rd]

theorem Device.Calm.flag {d e : Device} (h : Device.Calm d e) {f : Fld} (q : quiet f.key = true) : e.flag f = d.flag f := by
  rw [Device.flag, h.rd q, Device.flag]

/-! ### Interrupt messages -/

theorem Device.emit_calm (d : Device) (o : Out) : Device.Calm d (d.emit o) :=
  ⟨fun _ _ => rfl, rfl, fun _ => rfl, fun _ => ⟨rfl, rfl, rfl, rfl, rfl⟩⟩

theorem Device.sendMsix_calm (d : Device) {v : Nat} (h : v < 256) : Device.Calm d (d.sendMsix v) := by
  unfold Device.sendMsix
  split
  · refine Device.wr_calm d _ ⟨?_, ?_⟩
    · have : 0x411000 + 4 * (v / 32) < 0x412000 := by omega
      simp [quiet, pendBit, F.MSIX_PBA, this]
    · rintro ⟨a, -, -⟩
      simp only [pendBit, F.MSIX_PBA] at a
      omega
  · exact Device.emit_calm d _

theorem getBits_lt (v : Word) (lo w : Nat) : getBits v lo w < 2 ^ w := Nat.mod_lt _ (Nat.two_pow_pos _)

theorem Device.vector_lt (d : Device) (s : Nat) : d.vector s < 256 := getBits_lt _ _ 8

/-- Setting a status bit does what writing it does, and reports. -/
theorem Device.raise_calm (d : Device) {f : Fld} (one : f.w = 1) (fits : f.lo < 32) (c : notCfg f.key) :
    Device.Calm (d.wr f 1) (d.raise f) := by
  unfold Device.raise
  split
  · rename_i h
    refine ⟨fun k _ => ?_, rfl, fun ty => ((Device.ringsOf_setReg d _ c ty)).symm, fun _ => ⟨rfl, rfl, rfl, rfl, rfl⟩⟩
    by_cases g : k = f.key
    · subst g
      rw [Device.wr, Device.reg_setReg_same]
      have h1 : d.rd f = 1 := by simpa [Device.flag] using h
      have e : (d.reg f.key).toNat / 2 ^ f.lo % 2 = 1 := by simpa [Device.rd, getBits, one] using h1
      apply BitVec.eq_of_toNat_eq
      rw [putBits_toNat _ _ (by omega), one, Nat.pow_succ 2 f.lo, ← Nat.div_div_eq_div_mul, Nat.pow_one,
        show (1 : Nat) % 2 = 1 from rfl, Nat.one_mul]
      generalize (d.reg f.key).toNat = n at *
      have a := Nat.div_add_mod n (2 ^ f.lo)
      have b := Nat.div_add_mod (n / 2 ^ f.lo) 2
      rw [e] at b
      generalize n / 2 ^ f.lo / 2 = q at *
      have : 2 ^ f.lo * (n / 2 ^ f.lo) = q * (2 ^ f.lo * 2) + 2 ^ f.lo := by rw [← b]; ring
      omega
    · rw [Device.reg_wr_ne d 1 g]
  · dsimp only
    split
    · exact Device.sendMsix_calm _ (Device.vector_lt _ _)
    · exact Device.Calm.refl _

/-- Two devices of the same registers, TYPEs included, and inner state, where an event log ring stands. -/
theorem Device.calm_of {d e : Device} (r : e.regs = d.regs) (i : e.inner = d.inner)
    (s : d.ringsOf 11 = [] → e.mem = d.mem ∧ e.poison = d.poison ∧ e.tiles = d.tiles ∧ e.rings = d.rings ∧ e.host = d.host) :
    Device.Calm d e :=
  ⟨fun _ _ => by rw [Device.reg, r, Device.reg], i, fun _ => by rw [Device.ringsOf_eq, r, Device.ringsOf_eq], s⟩

/-! ### Rings and the event log

An entry lands in memory, so here only the first three clauses of the relation hold. -/

/-- `Device.Calm` without its clause on memory. -/
structure Device.Near (d e : Device) : Prop where
  regs : ∀ k, quiet k = true → e.reg k = d.reg k
  inner : e.inner = d.inner
  types : ∀ ty, e.ringsOf ty = d.ringsOf ty

theorem Device.Calm.near {d e : Device} (h : Device.Calm d e) : Device.Near d e := ⟨h.regs, h.inner, h.types⟩

theorem Device.Near.refl (d : Device) : Device.Near d d := (Device.Calm.refl d).near

theorem Device.Near.trans {d e f : Device} (h : Device.Near d e) (g : Device.Near e f) : Device.Near d f :=
  ⟨fun k q => (g.regs k q).trans (h.regs k q), g.inner.trans h.inner, fun ty => (g.types ty).trans (h.types ty)⟩

/-- Devices of the same registers and inner state. -/
theorem Device.near_of {d e : Device} (r : e.regs = d.regs) (i : e.inner = d.inner) : Device.Near d e :=
  ⟨fun _ _ => by rw [Device.reg, r, Device.reg], i, fun _ => by rw [Device.ringsOf_eq, r, Device.ringsOf_eq]⟩

theorem foldl_near {α : Type} (f : Device → α → Device) (l : List α) (d : Device) (h : ∀ d a, a ∈ l → Device.Near d (f d a)) :
    Device.Near d (l.foldl f d) := by
  induction l generalizing d with
  | nil => exact Device.Near.refl d
  | cons a r ih =>
    exact (h d a (List.mem_cons_self ..)).trans (ih (f d a) fun d b m => h d b (List.mem_cons_of_mem _ m))

theorem loud_host {k : Nat} (h : k = 0x400068 ∨ k = 0x40006C ∨ k = 0x400070 ∨ k = 0x400074) : loud k := by
  rcases h with h | h | h | h <;> subst h <;> exact ⟨by decide, by simp [notCfg]⟩

theorem Device.d2hOne_near (d : Device) (kind line : Nat) : Device.Near d (d.d2hOne kind line) := by
  have n : ∀ e : Device, e.regs = d.regs → e.inner = d.inner → Device.Near d
      (if kind = 0 then e.inc64 F.HOST_D2H_RD_LO_COUNT else e.inc64 F.HOST_D2H_WR_LO_COUNT) := by
    intro e r i
    refine (Device.near_of r i).trans ?_
    split <;> exact ((Device.wr_calm _ _ (loud_host (by simp [F.HOST_D2H_RD_LO_COUNT, F.HOST_D2H_WR_LO_COUNT]))).trans
      (Device.wr_calm _ _ (loud_host (by simp [Fld.hi, F.HOST_D2H_RD_LO_COUNT, F.HOST_D2H_WR_LO_COUNT])))).near
  unfold Device.d2hOne
  dsimp only
  split
  · exact (n _ (by rfl) (by rfl)).trans (Device.emit_calm _ _).near
  · exact n _ (by rfl) (by rfl)

theorem Device.d2hSend_near (d : Device) (w : Bool) (hpa n : Nat) : Device.Near d (d.d2hSend w hpa n) :=
  foldl_near _ _ d fun _ _ _ => Device.d2hOne_near _ _ _

theorem Device.unpoison_near (d : Device) (k n f : Nat) : Device.Near d (d.unpoison k n f) := by
  induction f with
  | zero => exact Device.Near.refl d
  | succ f ih =>
    unfold Device.unpoison
    dsimp only
    split
    · exact ih.trans (Device.near_of rfl rfl)
    · exact ih

theorem Device.writeKey_near (d : Device) (k : Nat) (b : Bytes) : Device.Near d (d.writeKey k b) :=
  (Device.unpoison_near d k b.length _).trans (Device.near_of rfl rfl)

theorem loud_flush (t : Nat) : loud (F.MEM_WCB_FLUSH_COUNT t).key := by
  constructor
  · have a : 0x1000000 ≤ 0x1000270 + 0x40000 * t := by omega
    have b : (0x1000270 + 0x40000 * t) % 0x40000 = 0x270 := by omega
    simp [quiet, F.MEM_WCB_FLUSH_COUNT, a, b]
  · rintro ⟨-, b, -⟩
    simp only [F.MEM_WCB_FLUSH_COUNT] at b
    omega

theorem Device.wcbNote_near (d : Device) (k n : Nat) : Device.Near d (d.wcbNote k n) := by
  unfold Device.wcbNote
  split
  · exact Device.Near.refl d
  · dsimp only
    split
    · exact Device.near_of rfl rfl
    · split
      · exact Device.Near.refl d
      · split
        · split <;> exact Device.near_of rfl rfl
        · split
          · exact Device.near_of rfl rfl
          · exact Device.Near.trans (e := d.setTile _ _) (Device.near_of rfl rfl) (Device.inc_calm _ _ (loud_flush _)).near

theorem Device.uniPut_near (d : Device) (f a : Nat) (b : Bytes) : Device.Near d (d.uniPut f a b) := by
  induction f generalizing d a b with
  | zero => exact Device.Near.refl d
  | succ f ih =>
    unfold Device.uniPut
    dsimp only
    split
    · exact Device.Near.refl d
    · exact ((Device.writeKey_near d _ _).trans (Device.wcbNote_near _ _ _)).trans (ih _ _ _)

theorem Device.uniWrite_near {d e : Device} {a : Nat} {b : Bytes} (h : d.uniWrite a b = some e) : Device.Near d e := by
  unfold Device.uniWrite at h
  split at h
  · cases h
    split
    · exact (Device.uniPut_near d _ _ _).trans (Device.d2hSend_near _ _ _ _)
    · exact Device.uniPut_near d _ _ _
  · cases h

theorem loud_ring {r o : Nat} (h : r < 4096) (b : o < 64) (c : o ≠ 0) : loud (0x500000 + o + 0x40 * r) := by
  constructor
  · have a : 0x500000 ≤ 0x500000 + o + 0x40 * r := by omega
    have b : 0x500000 + o + 0x40 * r < 0x540000 := by omega
    simp only [quiet, decide_eq_true a, decide_eq_true b, Bool.and_self, Bool.not_true, Bool.and_false, Bool.false_and]
  · rintro ⟨-, -, x⟩
    omega

theorem Device.setRing_near (d : Device) (r : Nat) (x : RingSt) : Device.Near d (d.setRing r x) := Device.near_of rfl rfl

theorem Device.wrRing_near (d : Device) {r : Nat} (h : r < 4096) {f : Fld} (x : Nat) {o : Nat} (k : f.key = 0x500000 + o + 0x40 * r) (b : o < 64)
    (c : o ≠ 0) : Device.Near d (d.wr f x) :=
  (Device.wr_calm d x (k ▸ loud_ring h b c)).near

theorem Device.ringFlags_near (d : Device) {r : Nat} (h : r < 4096) : Device.Near d (d.ringFlags r) :=
  (Device.wrRing_near d h _ (o := 0x28) rfl (by decide) (by decide)).trans
    (Device.wrRing_near _ h _ (o := 0x28) rfl (by decide) (by decide))

theorem Device.ringSignal_near (d : Device) (r : Nat) : Device.Near d (d.ringSignal r) := by
  unfold Device.ringSignal
  dsimp only
  split
  · exact Device.Near.refl d
  · split
    · exact (Device.setRing_near d _ _).trans (Device.sendMsix_calm _ (getBits_lt _ _ 8)).near
    · exact Device.setRing_near d _ _

theorem Device.ringWriteBack_near (d : Device) (r p : Nat) : Device.Near d (d.ringWriteBack r p).1 := by
  unfold Device.ringWriteBack
  split
  · exact Device.Near.refl d
  · split
    · rename_i h; exact Device.uniWrite_near h
    · exact Device.Near.refl d

theorem Device.ringPut_near (d : Device) {r : Nat} (h : r < 4096) (e : Bytes) : Device.Near d (d.ringPut r e).1 := by
  unfold Device.ringPut
  dsimp only
  split
  · exact Device.Near.refl d
  · rename_i g
    exact ((((Device.uniWrite_near g).trans (Device.wrRing_near _ h _ (o := 0x10) rfl (by decide) (by decide))).trans
      (Device.ringWriteBack_near _ _ _)).trans (Device.ringFlags_near _ h)).trans (Device.ringSignal_near _ _)

theorem Device.ringDrop_near (d : Device) {r : Nat} (h : r < 4096) : Device.Near d (d.ringDrop r) :=
  ((Device.wrRing_near d h _ (o := 0x2C) rfl (by decide) (by decide)).trans
    (Device.wrRing_near _ h _ (o := 0x28) rfl (by decide) (by decide))).trans (Device.setRing_near _ _ _)

theorem Device.passFault_calm (d : Device) (c unit : Nat) : Device.Calm d (d.passFault c unit) := by
  unfold Device.passFault
  split
  · refine Device.Calm.trans ?_ (Device.wr_calm _ _ ?_)
    · exact Device.calm_of rfl rfl fun _ => ⟨rfl, rfl, rfl, rfl, rfl⟩
    · exact ⟨by decide, by simp [notCfg, F.MGMT_STATUS_EVQ]⟩
  · dsimp only
    have n : ∀ e : Device, Device.Calm d e → Device.Calm d ((e.inc F.MGMT_EVQ_DROP).raise F.MGMT_INT_STATUS_EVQ_DROP) := fun e h =>
      ((h.trans (Device.inc_calm e 1 ⟨by decide, by simp [notCfg, F.MGMT_EVQ_DROP]⟩)).trans
        (Device.wr_calm _ 1 ⟨by decide, by simp [notCfg, F.MGMT_INT_STATUS_EVQ_DROP]⟩)).trans
        (Device.raise_calm _ rfl (by decide) (by simp [notCfg, F.MGMT_INT_STATUS_EVQ_DROP]))
    split
    · exact n _ (Device.calm_of rfl rfl fun _ => ⟨rfl, rfl, rfl, rfl, rfl⟩)
    · exact n _ (Device.Calm.refl d)

theorem Device.aonLog_calm (d : Device) (e : LogEntry) : Device.Calm d (d.aonLog e) := by
  unfold Device.aonLog
  dsimp only
  split <;> exact Device.calm_of rfl rfl fun _ => ⟨rfl, rfl, rfl, rfl, rfl⟩

theorem Device.logHead_calm (d : Device) (e : LogEntry) : Device.Calm d (d.logHead e) := by
  refine Device.Calm.trans ?_ (Device.aonLog_calm _ e)
  exact Device.calm_of rfl rfl fun _ => ⟨rfl, rfl, rfl, rfl, rfl⟩

theorem Device.ringLost_near (d : Device) {r : Nat} (h : r < 4096) : Device.Near d (d.ringLost r) := by
  unfold Device.ringLost
  dsimp only
  split
  · exact Device.Near.refl d
  · have p : ∀ m e, Device.Near d (Device.ringPut { d with mgmt := m } r e).1 := fun m e => by
      refine Device.Near.trans ?_ (Device.ringPut_near _ h e)
      exact Device.near_of rfl rfl
    split
    · exact (p _ _).trans (Device.setRing_near _ _ _)
    · exact p _ _

theorem Device.ringLog_near (d : Device) {r : Nat} (h : r < 4096) (b : Bytes) : Device.Near d (d.ringLog r b).1 := by
  unfold Device.ringLog
  dsimp only
  split
  · exact Device.ringDrop_near d h
  · have l := Device.ringLost_near d h
    split
    · exact l.trans (Device.ringDrop_near _ h)
    · dsimp only
      split
      · exact l.trans (Device.ringPut_near _ h b)
      · exact (l.trans (Device.ringPut_near _ h b)).trans (Device.ringDrop_near _ h)

theorem Device.logFuel_near (n : Nat) (d : Device) (code sev src : Nat) (body : Bytes) :
    Device.Near d (Device.logFuel n d code sev src body) := by
  induction n generalizing d code sev src body with
  | zero => exact Device.Near.refl d
  | succ n ih =>
    unfold Device.logFuel
    dsimp only
    refine (Device.logHead_calm d _).near.trans (foldl_near _ _ _ fun d r m => ?_)
    have h := Device.ringsOf_lt m
    split
    · exact (((Device.ringLog_near d h _).trans (Device.wrRing_near _ h _ (o := 0x28) rfl (by decide) (by decide))).trans
        (ih _ _ _ _ _)).trans (Device.passFault_calm _ _ _).near
    · exact Device.ringLog_near d h _

theorem Device.logFuel_still (n : Nat) (d : Device) (code sev src : Nat) (body : Bytes) (h : d.ringsOf 11 = []) :
    Device.Calm d (Device.logFuel n d code sev src body) := by
  cases n with
  | zero => exact Device.Calm.refl d
  | succ n =>
    unfold Device.logFuel
    dsimp only
    rw [((Device.logHead_calm d _).types 11).trans h]
    exact Device.logHead_calm d _

/-- An event logged (R364, R547) changes nothing but what reporting may change. -/
theorem Device.log_calm (d : Device) (code sev src unit cause addr : Nat) : Device.Calm d (d.log code sev src unit cause addr) where
  regs := (Device.logFuel_near _ d _ _ _ _).regs
  inner := (Device.logFuel_near _ d _ _ _ _).inner
  types := (Device.logFuel_near _ d _ _ _ _).types
  still n := (Device.logFuel_still _ d _ _ _ _ n).still n

theorem Device.logAccess_calm (d : Device) (off : Nat) : Device.Calm d (d.logAccess off) := Device.log_calm d _ _ _ _ _ _

/-- So does a lasting event (R541, R543). -/
theorem Device.lasting_calm (d : Device) (code src unit cause addr c target : Nat) (halts : Bool) :
    Device.Calm d (d.lasting code src unit cause addr c target halts) :=
  (Device.log_calm d _ _ _ _ _ _).trans (Device.passFault_calm _ _ _)

end Sys2Proof.Machine
end

