-- ==== Sys2Proof/Laws/Core.lean ====
section
/-! SUPPORT. Laws of the cores: what issuing an instruction whose word is as encoded does. -/

namespace Sys2Proof.Machine

/-- An instruction that stands at the pointer issues. -/
theorem Device.issue_of {d : Device} {c u op : Nat} {i : CoreInstr} (h : d.issues c u op i) (f : Device → Nat → CoreInstr → Device) :
    d.issue c op f = f d u i := by
  obtain ⟨h1, w1, h2, h3, h4, h5⟩ := h
  have h6 : ¬(op = 0x20 ∧ w1 = none) := fun h => h5 h.1 h.2
  simp only [Device.issue, h1, h2, h4, h3, ne_eq, not_true_eq_false, if_false, if_neg h6]

/-- Its reserved bits are zero (R597). -/
theorem Device.wordZero_of {d : Device} {c u op : Nat} {i : CoreInstr} (h : d.issues c u op i) : d.wordZero c i = [] := by
  obtain ⟨-, w1, h2, -⟩ := h
  simp [Device.wordZero, h2, faultIf]

/-- An instruction without a fault runs. -/
theorem Device.checked_of (d : Device) (c u : Nat) (f : Device → Device) : d.checked c u [] f = f d := id rfl

end Sys2Proof.Machine
end

