-- ==== Sys2Proof/Laws/Phase.lean ====
section
/-! SUPPORT. Laws of the step's phase (R28): every operation that leaves it, one lemma each. `Device.ph` stands for the phase in them, so that no proof
compares two devices whole. -/

set_option linter.unusedSimpArgs false

namespace Sys2Proof.Machine

/-- The phase the spine is in. -/
def Device.ph (d : Device) : Phase := d.phase

@[simp] theorem Device.phase_ph (d : Device) : d.phase = d.ph := id rfl

@[simp] theorem Device.ph_mk (regs mem poison free now out phase tier tiles rings chans links carriers optics host pwr boot mgmt
    spine cores sparse num coll hist ckpt smuPath) :
    (Device.mk regs mem poison free now out phase tier tiles rings chans links carriers optics host pwr boot mgmt spine cores
      sparse num coll hist ckpt smuPath).ph = phase := id rfl

theorem foldl_ph {α : Type} (f : Device → α → Device) (h : ∀ d x, (f d x).ph = d.ph) (xs : List α) (d : Device) :
    (xs.foldl f d).ph = d.ph := by
  induction xs generalizing d with
  | nil => rfl
  | cons x r ih => simp [ih, h]

@[simp] theorem Device.used_ph (d : Device) : d.used.ph = d.ph := rfl

/-! ### Ops -/

@[simp] theorem Device.setReg_ph (d : Device) (k : Nat) (v : Word) : (Device.setReg d k v).ph = d.ph := by simp [Device.setReg]

@[simp] theorem Device.wr_ph (d : Device) (f : Fld) (x : Nat) : (Device.wr d f x).ph = d.ph := by simp [Device.wr]

@[simp] theorem Device.inc_ph (d : Device) (f : Fld) (n : Nat) : (Device.inc d f n).ph = d.ph := by simp [Device.inc]

@[simp] theorem Device.wr64_ph (d : Device) (f : Fld) (x : Nat) : (Device.wr64 d f x).ph = d.ph := by simp [Device.wr64]

@[simp] theorem Device.inc64_ph (d : Device) (f : Fld) (n : Nat) : (Device.inc64 d f n).ph = d.ph := by simp [Device.inc64]

@[simp] theorem Device.emit_ph (d : Device) (o : Out) : (Device.emit d o).ph = d.ph := by simp [Device.emit]

@[simp] theorem Device.setByte_ph (d : Device) (k : Nat) (v : Byte) : (Device.setByte d k v).ph = d.ph := by simp [Device.setByte]

@[simp] theorem Device.hostWrites_ph (d : Device) (cs : List Host.Cell) : (Device.hostWrites d cs).ph = d.ph := by simp [Device.hostWrites]

@[simp] theorem Device.setPoison_ph (d : Device) (k : Nat) (p : Bool) : (Device.setPoison d k p).ph = d.ph := by simp [Device.setPoison]

@[simp] theorem Device.unpoison_ph (d : Device) (k n f : Nat) : (Device.unpoison d k n f).ph = d.ph := by
  induction f with
  | zero => rfl
  | succ f ih => simp only [Device.unpoison]; split <;> simp [ih]

@[simp] theorem Device.writeKey_ph (d : Device) (k : Nat) (b : Bytes) : (Device.writeKey d k b).ph = d.ph := by simp [Device.writeKey]

@[simp] theorem Device.d2hOne_ph (d : Device) (kind line : Nat) : (Device.d2hOne d kind line).ph = d.ph := by simp [Device.d2hOne, foldl_ph, apply_ite Device.ph]

@[simp] theorem Device.d2hSend_ph (d : Device) (write : Bool) (hpa n : Nat) : (Device.d2hSend d write hpa n).ph = d.ph := by simp [Device.d2hSend, foldl_ph, apply_ite Device.ph]

@[simp] theorem Device.setTile_ph (d : Device) (t : Nat) (m : MemTile) : (Device.setTile d t m).ph = d.ph := by simp [Device.setTile]

@[simp] theorem Device.setRing_ph (d : Device) (r : Nat) (x : RingSt) : (Device.setRing d r x).ph = d.ph := by simp [Device.setRing]

@[simp] theorem Device.setChan_ph (d : Device) (e c : Nat) (x : Channel) : (Device.setChan d e c x).ph = d.ph := by simp [Device.setChan]

@[simp] theorem Device.setLink_ph (d : Device) (l : Nat) (x : Link) : (Device.setLink d l x).ph = d.ph := by simp [Device.setLink]

@[simp] theorem Device.setCarrier_ph (d : Device) (c : Nat) (x : Carrier) : (Device.setCarrier d c x).ph = d.ph := by simp [Device.setCarrier]

@[simp] theorem Device.wcbNote_ph (d : Device) (k n : Nat) : (Device.wcbNote d k n).ph = d.ph := by unfold Device.wcbNote; dsimp only; (repeat' split) <;> simp_all [foldl_ph, apply_ite Device.ph]

@[simp] theorem Device.setObj_ph (d : Device) (n : Nat) (o : TierObj) : (Device.setObj d n o).ph = d.ph := by simp [Device.setObj]

@[simp] theorem Device.uniPut_ph (d : Device) (f a : Nat) (b : Bytes) : (Device.uniPut d f a b).ph = d.ph := by
  induction f generalizing d a b with
  | zero => rfl
  | succ f ih => simp only [Device.uniPut]; split <;> simp [ih]

theorem Device.uniWrite_ph {d e : Device} {a : Nat} {b : Bytes} (h : d.uniWrite a b = some e) : e.ph = d.ph := by
  unfold Device.uniWrite at h
  split at h
  · cases h; split <;> simp
  · cases h

@[simp] theorem Device.uniWriteD_ph (d : Device) (a : Nat) (b : Bytes) : ((d.uniWrite a b).getD d).ph = d.ph := by
  cases h : d.uniWrite a b with
  | none => rfl
  | some e => exact Device.uniWrite_ph h

@[simp] theorem Device.uniAsk_ph (d : Device) (a n : Nat) : (Device.uniAsk d a n).ph = d.ph := by simp [Device.uniAsk, foldl_ph, apply_ite Device.ph]

/-! ### Flags -/

@[simp] theorem Device.sendMsix_ph (d : Device) (v : Nat) : (Device.sendMsix d v).ph = d.ph := by simp [Device.sendMsix, foldl_ph, apply_ite Device.ph]

@[simp] theorem Device.raise_ph (d : Device) (f : Fld) : (Device.raise d f).ph = d.ph := by simp [Device.raise, foldl_ph, apply_ite Device.ph]

@[simp] theorem Device.ringFlags_ph (d : Device) (r : Nat) : (Device.ringFlags d r).ph = d.ph := by simp [Device.ringFlags]

@[simp] theorem Device.ringSignal_ph (d : Device) (r : Nat) : (Device.ringSignal d r).ph = d.ph := by simp [Device.ringSignal, foldl_ph, apply_ite Device.ph]

@[simp] theorem Device.ringWriteBack_ph (d : Device) (r ptr : Nat) : (d.ringWriteBack r ptr).1.ph = d.ph := by
  rw [Device.ringWriteBack]
  split
  · rfl
  · split
    · rename_i h; exact Device.uniWrite_ph h
    · rfl

@[simp] theorem Device.ringPut_ph (d : Device) (r : Nat) (e : Bytes) : (d.ringPut r e).1.ph = d.ph := by
  rw [Device.ringPut]
  simp only []
  split
  · rfl
  · rename_i h; simp [Device.uniWrite_ph h]

@[simp] theorem Device.ringDrop_ph (d : Device) (r : Nat) : (Device.ringDrop d r).ph = d.ph := by simp [Device.ringDrop]

@[simp] theorem Device.passFault_ph (d : Device) (c unit : Nat) : (Device.passFault d c unit).ph = d.ph := by simp [Device.passFault, foldl_ph, apply_ite Device.ph]

@[simp] theorem Device.aonLog_ph (d : Device) (e : LogEntry) : (Device.aonLog d e).ph = d.ph := by simp [Device.aonLog, foldl_ph, apply_ite Device.ph]

@[simp] theorem Device.ringLost_ph (d : Device) (r : Nat) : (Device.ringLost d r).ph = d.ph := by simp [Device.ringLost, foldl_ph, apply_ite Device.ph]

@[simp] theorem Device.ringLog_ph (d : Device) (r : Nat) (b : Bytes) : (Device.ringLog d r b).1.ph = d.ph := by unfold Device.ringLog; dsimp only; (repeat' split) <;> simp_all [foldl_ph, apply_ite Device.ph]

@[simp] theorem Device.logHead_ph (d : Device) (e : LogEntry) : (Device.logHead d e).ph = d.ph := by simp [Device.logHead]

@[simp] theorem Device.logFuel_ph (n : Nat) (d : Device) (code sev src : Nat) (body : Bytes) :
    (Device.logFuel n d code sev src body).ph = d.ph := by
  induction n generalizing d code sev src body with
  | zero => rfl
  | succ n ih =>
    simp only [Device.logFuel]
    rw [foldl_ph]
    · simp
    · intro d r
      (repeat' split) <;> simp [ih]

@[simp] theorem Device.log_ph (d : Device) (code sev src unit cause addr : Nat) : (Device.log d code sev src unit cause addr).ph = d.ph := by simp [Device.log]

@[simp] theorem Device.logAccess_ph (d : Device) (off : Nat) : (Device.logAccess d off).ph = d.ph := by simp [Device.logAccess]

@[simp] theorem Device.lasting_ph (d : Device) (code src unit cause addr c target : Nat) (halts : Bool) : (Device.lasting d code src unit cause addr c target halts).ph = d.ph := by simp [Device.lasting]

@[simp] theorem Device.dropAhead_ph (d : Device) : (Device.dropAhead d).ph = d.ph := by simp [Device.dropAhead]

@[simp] theorem Device.ckptView_ph (d : Device) : (Device.ckptView d).ph = d.ph := by simp [Device.ckptView]

@[simp] theorem Device.baseAbandon_ph (d : Device) : (Device.baseAbandon d).ph = d.ph := by simp [Device.baseAbandon, foldl_ph, apply_ite Device.ph]

@[simp] theorem Device.ringAccErr_ph (d : Device) (r : Nat) : (Device.ringAccErr d r).ph = d.ph := by simp [Device.ringAccErr, foldl_ph, apply_ite Device.ph]

@[simp] theorem Device.produceOrDrop_ph (d : Device) (r : Nat) (e : Bytes) : (Device.produceOrDrop d r e).ph = d.ph := by simp [Device.produceOrDrop, foldl_ph, apply_ite Device.ph]

@[simp] theorem Device.produceOrWait_ph (d : Device) (r : Nat) (e : Bytes) : (Device.produceOrWait d r e).ph = d.ph := by simp [Device.produceOrWait, foldl_ph, apply_ite Device.ph]

@[simp] theorem Device.ringConsume_ph (d : Device) (r : Nat) : (Device.ringConsume d r).ph = d.ph := by simp [Device.ringConsume, foldl_ph, apply_ite Device.ph]

theorem Device.access_ph (d : Device) (off : Nat) (f : Device → Device) (h : (f d).ph = d.ph) :
    (d.access off f).ph = d.ph := by
  rw [Device.access]
  split
  · exact Device.emit_ph _ _
  · split
    · exact Device.logAccess_ph _ _
    · exact h

/-! ### SpineOps -/

@[simp] theorem Device.setUnit_ph (d : Device) (u : Nat) (st : UnitSt) : (Device.setUnit d u st).ph = d.ph := by simp [Device.setUnit]

@[simp] theorem Device.setPool_ph (d : Device) (c : Nat) (b : Bool) : (Device.setPool d c b).ph = d.ph := by simp [Device.setPool]

@[simp] theorem Device.setCore_ph (d : Device) (c : Nat) (x : CoreSt) : (Device.setCore d c x).ph = d.ph := by simp [Device.setCore]

@[simp] theorem Device.coreIdle_ph (d : Device) (c : Nat) : (Device.coreIdle d c).ph = d.ph := by simp [Device.coreIdle, foldl_ph, apply_ite Device.ph]

@[simp] theorem Device.coreFree_ph (d : Device) (c : Nat) : (Device.coreFree d c).ph = d.ph := by simp [Device.coreFree]

@[simp] theorem Device.requeue_ph (d : Device) (us : List Nat) : (Device.requeue d us).ph = d.ph := by simp [Device.requeue, foldl_ph, apply_ite Device.ph]

@[simp] theorem Device.requeueHeld_ph (d : Device) (c : Nat) : (Device.requeueHeld d c).ph = d.ph := by simp [Device.requeueHeld]

@[simp] theorem Device.charge_ph (d : Device) (u : Nat) : (Device.charge d u).ph = d.ph := by simp [Device.charge]

@[simp] theorem Device.handOut_ph (d : Device) (u place : Nat) : (Device.handOut d u place).ph = d.ph := by simp [Device.handOut]

@[simp] theorem Device.unitEnd_ph (d : Device) (u : Nat) : (Device.unitEnd d u).ph = d.ph := by simp [Device.unitEnd]

@[simp] theorem Device.putPayload_ph (d : Device) (n : Nat) (b : Bytes) : (Device.putPayload d n b).ph = d.ph := by
  induction n generalizing b with
  | zero => rfl
  | succ n ih => simp only [Device.putPayload]; split <;> simp [ih]

@[simp] theorem Device.mboxEnd_ph (d : Device) (result : Nat) (out : Bytes) : (Device.mboxEnd d result out).ph = d.ph := by simp [Device.mboxEnd]

@[simp] theorem Device.fwEnd_ph (d : Device) (target result cause : Nat) : (Device.fwEnd d target result cause).ph = d.ph := by simp [Device.fwEnd, foldl_ph, apply_ite Device.ph]

@[simp] theorem Device.dropFirmware_ph (d : Device) : d.dropFirmware.ph = d.ph := by
  rw [Device.dropFirmware]
  refine (foldl_ph _ (fun d p => Device.fwEnd_ph d _ _ _) _ _).trans ?_
  split
  · rfl
  · exact Device.wr_ph _ _ _

@[simp] theorem Device.takePackage_ph (d : Device) (p : FwPending) : (Device.takePackage d p).ph = d.ph := by simp [Device.takePackage, foldl_ph, apply_ite Device.ph]

@[simp] theorem Device.takeFirmware_ph (d : Device) : (Device.takeFirmware d).ph = d.ph := by simp [Device.takeFirmware, foldl_ph, apply_ite Device.ph]

@[simp] theorem Device.takeIfIdle_ph (d : Device) : (Device.takeIfIdle d).ph = d.ph := by unfold Device.takeIfIdle; (repeat' split) <;> simp

/-! ### NumOps -/

@[simp] theorem Device.tagUpdate_ph (d : Device) (t : Nat) : (Device.tagUpdate d t).ph = d.ph := by simp [Device.tagUpdate]

@[simp] theorem Device.setHist_ph (d : Device) (t : Nat) (h : List Nat) : (Device.setHist d t h).ph = d.ph := by simp [Device.setHist]

@[simp] theorem Device.countSat_ph (d : Device) (t n : Nat) : (Device.countSat d t n).ph = d.ph := by simp [Device.countSat, foldl_ph, apply_ite Device.ph]

@[simp] theorem Device.noteCast_ph (d : Device) (t amax sats : Nat) : (Device.noteCast d t amax sats).ph = d.ph := by simp [Device.noteCast]

@[simp] theorem Device.flagLeaf_ph (d : Device) (leaf tag : Nat) : (Device.flagLeaf d leaf tag).ph = d.ph := by simp [Device.flagLeaf, foldl_ph, apply_ite Device.ph]

@[simp] theorem Device.tagCommit_ph (d : Device) (t amax sats : Nat) : (Device.tagCommit d t amax sats).ph = d.ph := by simp [Device.tagCommit, foldl_ph, apply_ite Device.ph]

@[simp] theorem Device.lossScale_ph (d : Device) (skipped : Bool) : (Device.lossScale d skipped).ph = d.ph := by simp [Device.lossScale, foldl_ph, apply_ite Device.ph]

@[simp] theorem Device.lossStart_ph (d : Device) : (Device.lossStart d).ph = d.ph := by simp [Device.lossStart]

@[simp] theorem Device.nfReport_ph (d : Device) (skipped : Bool) : (d.nfReport skipped).ph = d.ph := by
  have h := Device.inc_ph d F.NUM_NF_LEAVES_LEAVES d.nfLeaves.length
  rw [Device.nfReport]
  dsimp only
  generalize d.inc F.NUM_NF_LEAVES_LEAVES d.nfLeaves.length = e at h ⊢
  rw [← h]
  split
  · rfl
  · split
    · rw [Device.setReg_ph]
    · rw [Device.wr_ph, Device.wr_ph, Device.wr_ph]
      split
      · rw [Device.used_ph]
      · rfl

@[simp] theorem Device.numClear_ph (d : Device) : (Device.numClear d).ph = d.ph := by simp [Device.numClear]

@[simp] theorem Device.norms_ph (d : Device) (t w g u : Nat) : (Device.norms d t w g u).ph = d.ph := by simp [Device.norms]

/-! ### RowOps -/

@[simp] theorem Device.setTable_ph (d : Device) (t : Nat) (x : Table) : (Device.setTable d t x).ph = d.ph := by simp [Device.setTable]

@[simp] theorem Device.setSortEntry_ph (d : Device) (i t : Nat) : (Device.setSortEntry d i t).ph = d.ph := by simp [Device.setSortEntry]

/-! ### TierOps -/

@[simp] theorem Device.setCarrierState_ph (d : Device) (c s : Nat) : (Device.setCarrierState d c s).ph = d.ph := by simp [Device.setCarrierState, foldl_ph, apply_ite Device.ph]

@[simp] theorem Device.t2Count_ph (d : Device) (c : Nat) : (Device.t2Count d c).ph = d.ph := by simp [Device.t2Count]

@[simp] theorem Device.t2Pump_ph (n : Nat) (d : Device) (c : Nat) : (Device.t2Pump n d c).ph = d.ph := by
  induction n generalizing d with
  | zero => simp [Device.t2Pump]
  | succ n ih =>
    simp only [Device.t2Pump]
    (repeat' split) <;> simp [ih]

@[simp] theorem Device.t2Req_ph (d : Device) (c op line n : Nat) (row : Option (Nat × Nat)) : (Device.t2Req d c op line n row).ph = d.ph := by simp [Device.t2Req]

@[simp] theorem Device.clearLines_ph (d : Device) (key n : Nat) : (Device.clearLines d key n).ph = d.ph := by simp [Device.clearLines]

theorem Device.alloc1_ph {d : Device} {t n : Nat} {x : Nat × Device} (h : d.alloc1 t n = some x) : x.2.ph = d.ph := by
  simp only [Device.alloc1, Option.map_eq_some_iff] at h
  obtain ⟨l, -, rfl⟩ := h
  simp

theorem Device.alloc2_ph {d : Device} {t n : Nat} {x : Nat × Device} (h : d.alloc2 t n = some x) : x.2.ph = d.ph := by
  simp only [Device.alloc2, Option.map_eq_some_iff] at h
  obtain ⟨l, -, rfl⟩ := h
  simp

@[simp] theorem Device.free1_ph (d : Device) (t l : Nat) : (Device.free1 d t l).ph = d.ph := by simp [Device.free1]

@[simp] theorem Device.dropSketch_ph (d : Device) (at? : Option (Nat × Nat)) : (Device.dropSketch d at?).ph = d.ph := by unfold Device.dropSketch; (repeat' split) <;> simp

@[simp] theorem Device.free2_ph (d : Device) (c l : Nat) : (Device.free2 d c l).ph = d.ph := by simp [Device.free2]

theorem Device.allocFrames_ph {d : Device} {t n : Nat} {x : List (Nat × Nat) × Device} (h : Device.allocFrames d t n = some x) :
    x.2.ph = d.ph := by
  induction n generalizing d t x with
  | zero => simp only [Device.allocFrames, Option.some.injEq] at h; subst h; rfl
  | succ n ih =>
    simp only [Device.allocFrames] at h
    split at h
    · cases h
    · split at h
      · cases h
      · split at h
        · cases h
        · rename_i g
          simp only [Option.map_eq_some_iff] at h
          obtain ⟨r, hr, rfl⟩ := h
          rw [ih hr]; exact Device.alloc1_ph g

@[simp] theorem Device.setEntry_ph (d : Device) (e : DirEntry) : (Device.setEntry d e).ph = d.ph := by simp [Device.setEntry]

@[simp] theorem Device.delEntry_ph (d : Device) (n r : Nat) : (Device.delEntry d n r).ph = d.ph := by simp [Device.delEntry]

@[simp] theorem Device.dirRoom_ph (d : Device) : (Device.dirRoom d).2.ph = d.ph := by unfold Device.dirRoom; dsimp only; (repeat' split) <;> simp_all [foldl_ph, apply_ite Device.ph]

@[simp] theorem Device.dirRefused_ph (d : Device) : (Device.dirRefused d).ph = d.ph := by simp [Device.dirRefused]

@[simp] theorem Device.bumpVersion_ph (d : Device) (n r : Nat) : (Device.bumpVersion d n r).ph = d.ph := by unfold Device.bumpVersion; (repeat' split) <;> simp

@[simp] theorem Device.askLoc_ph (d : Device) (l : Nat × Nat × Nat) (write : Bool) (n : Nat) (row : Option (Nat × Nat)) : (Device.askLoc d l write n row).ph = d.ph := by unfold Device.askLoc; (repeat' split) <;> simp

@[simp] theorem Device.copyLines_ph (d : Device) (src dst n : Nat) : (Device.copyLines d src dst n).ph = d.ph := by simp [Device.copyLines, foldl_ph, apply_ite Device.ph]

@[simp] theorem Device.biSnoop_ph (d : Device) (line n : Nat) : (Device.biSnoop d line n).ph = d.ph := by simp [Device.biSnoop, foldl_ph, apply_ite Device.ph]

@[simp] theorem Device.biRow_ph (d : Device) (n r : Nat) : (Device.biRow d n r).ph = d.ph := by unfold Device.biRow; (repeat' split) <;> simp

theorem Device.placeIn_ph {d : Device} {n r tier : Nat} {x : Nat × Nat × Device} (h : d.placeIn n r tier = some x) :
    x.2.2.ph = d.ph := by
  unfold Device.placeIn at h
  simp only [] at h
  split at h
  · split at h
    · split at h
      · simp only [Option.map_eq_some_iff] at h
        obtain ⟨y, hy, rfl⟩ := h
        exact Device.alloc1_ph hy
      · cases h
    · cases h
  · obtain ⟨c, -, hc⟩ := List.exists_of_findSome?_eq_some h
    simp only [Option.map_eq_some_iff] at hc
    obtain ⟨y, hy, rfl⟩ := hc
    exact Device.alloc2_ph hy
  · cases h; rfl
  · cases h

@[simp] theorem Device.freeLoc_ph (d : Device) (l : Nat × Nat × Nat) : (Device.freeLoc d l).ph = d.ph := by unfold Device.freeLoc; (repeat' split) <;> simp

@[simp] theorem Device.noteMove_ph (d : Device) (n r src tier : Nat) : (Device.noteMove d n r src tier).ph = d.ph := by simp [Device.noteMove, foldl_ph, apply_ite Device.ph]

@[simp] theorem Device.switchTo_ph (d : Device) (n r tier place line : Nat) : (Device.switchTo d n r tier place line).ph = d.ph := by simp [Device.switchTo, foldl_ph, apply_ite Device.ph]

theorem Device.moveTo_ph {d e : Device} {n r tier : Nat} (h : d.moveTo n r tier = some e) : e.ph = d.ph := by
  unfold Device.moveTo at h
  simp only [Option.ite_none_left_eq_some, Option.map_eq_some_iff] at h
  obtain ⟨-, p, hp, rfl⟩ := h
  rw [Device.switchTo_ph, Device.placeIn_ph hp]
  split
  · rfl
  · exact Device.dirRoom_ph d

theorem Device.allocRow_ph {d e : Device} {n r : Nat} (h : d.allocRow n r = some e) : e.ph = d.ph := by
  unfold Device.allocRow at h
  obtain ⟨t, -, ht⟩ := List.exists_of_findSome?_eq_some h
  exact Device.moveTo_ph ht

@[simp] theorem Device.countHot_ph (d : Device) (n r : Nat) : (Device.countHot d n r).ph = d.ph := by simp [Device.countHot, foldl_ph, apply_ite Device.ph]

@[simp] theorem Device.gatherUp_ph (d : Device) (t n r tier : Nat) : (d.gatherUp t n r tier).1.ph = d.ph := by
  rw [Device.gatherUp]
  split
  · rfl
  · split
    · rfl
    · split
      · rename_i h; exact Device.moveTo_ph h
      · rw [Device.inc_ph]

@[simp] theorem Device.gatherTail_ph (d : Device) (t n r width : Nat) : (d.gatherTail t n r width).ph = d.ph := by
  rw [Device.gatherTail]
  simp only []
  split
  · split
    · rename_i h
      rw [Device.inc_ph]
      split at h
      · cases h
      · obtain ⟨k, -, hk⟩ := List.exists_of_findSome?_eq_some h
        exact Device.moveTo_ph hk
    · rw [Device.inc_ph]; rfl
  · rfl

@[simp] theorem Device.gatherPlace_ph (d : Device) (t n r : Nat) : (Device.gatherPlace d t n r).ph = d.ph := by simp [Device.gatherPlace, foldl_ph, apply_ite Device.ph]

@[simp] theorem Device.wantRow_ph (d : Device) (n r why : Nat) : (Device.wantRow d n r why).ph = d.ph := by simp [Device.wantRow, foldl_ph, apply_ite Device.ph]

@[simp] theorem Device.sweepObj_ph (d : Device) (n : Nat) : (Device.sweepObj d n).ph = d.ph := by simp [Device.sweepObj, foldl_ph, apply_ite Device.ph]

@[simp] theorem Device.sweepPins_ph (d : Device) (n : Nat) : (Device.sweepPins d n).ph = d.ph := by simp [Device.sweepPins, foldl_ph, apply_ite Device.ph]

@[simp] theorem Device.sweepSpace_ph (d : Device) : (Device.sweepSpace d).ph = d.ph := by simp [Device.sweepSpace, foldl_ph, apply_ite Device.ph]

@[simp] theorem Device.remapSort_ph (d : Device) (t : Nat) : (d.remapSort t).ph = d.ph := by
  rw [Device.remapSort]
  refine foldl_ph _ (fun d i => ?_) _ _
  split
  · rfl
  · simp only []
    split
    · rfl
    · exact Device.setSortEntry_ph _ _ _

@[simp] theorem Device.drainRemap_ph (d : Device) : (Device.drainRemap d).ph = d.ph := by unfold Device.drainRemap; (repeat' split) <;> simp [foldl_ph, apply_ite Device.ph]

@[simp] theorem Device.drainIfIdle_ph (d : Device) : (Device.drainIfIdle d).ph = d.ph := by unfold Device.drainIfIdle; (repeat' split) <;> simp

@[simp] theorem Device.wantCarrier_ph (d : Device) (c : Nat) : (Device.wantCarrier d c).ph = d.ph := by simp [Device.wantCarrier, foldl_ph, apply_ite Device.ph]

@[simp] theorem Device.drainBegin_ph (d : Device) (k t : Nat) : (Device.drainBegin d k t).ph = d.ph := by simp [Device.drainBegin, foldl_ph, apply_ite Device.ph]

@[simp] theorem Device.drainQueue_ph (d : Device) (q : List (Nat × Nat)) : (Device.drainQueue d q).ph = d.ph := by simp [Device.drainQueue]

@[simp] theorem Device.drainRequest_ph (d : Device) (k t : Nat) : (Device.drainRequest d k t).2.ph = d.ph := by unfold Device.drainRequest; dsimp only; (repeat' split) <;> simp_all [foldl_ph, apply_ite Device.ph]

@[simp] theorem Device.drainNext_ph (d : Device) : (Device.drainNext d).ph = d.ph := by unfold Device.drainNext; (repeat' split) <;> simp

@[simp] theorem Device.abandonMoves_ph (d : Device) (tier place : Nat) : (d.abandonMoves tier place).ph = d.ph := by
  rw [Device.abandonMoves]
  refine (foldl_ph _ (fun d m => ?_) _ _).trans rfl
  simp only []
  rw [Device.wantRow_ph]
  split
  · rw [Device.delEntry_ph, Device.freeLoc_ph]
  · split
    · rw [Device.setEntry_ph, Device.freeLoc_ph]
    · rw [Device.freeLoc_ph]

@[simp] theorem Device.tierResult_ph (d : Device) (r : Nat) : (Device.tierResult d r).ph = d.ph := by simp [Device.tierResult]

/-! ### LinkOps -/

@[simp] theorem Device.feedEnable_ph (d : Device) (n f : Nat) : (Device.feedEnable d n f).ph = d.ph := by simp [Device.feedEnable, foldl_ph, apply_ite Device.ph]

@[simp] theorem Device.feedEnables_ph (d : Device) (n : Nat) : (Device.feedEnables d n).ph = d.ph := by simp [Device.feedEnables]

@[simp] theorem Device.allFeeds_ph (d : Device) : (Device.allFeeds d).ph = d.ph := by simp [Device.allFeeds, foldl_ph, apply_ite Device.ph]

@[simp] theorem Device.linkInc_ph (d : Device) (l : Nat) (pl tl : Nat → Fld) (n : Nat) : (Device.linkInc d l pl tl n).ph = d.ph := by simp [Device.linkInc, foldl_ph, apply_ite Device.ph]

@[simp] theorem Device.flitPump_ph (n : Nat) (d : Device) (p : Nat) : (Device.flitPump n d p).ph = d.ph := by
  induction n generalizing d with
  | zero => rfl
  | succ n ih =>
    rw [Device.flitPump]
    split
    · rfl
    · simp only [ih, apply_ite Device.ph, Device.inc64_ph, Device.emit_ph, Device.setLink_ph, ite_self]

@[simp] theorem Device.sendMsg_ph (d : Device) (dst vc : Nat) (msg : Bytes) : (Device.sendMsg d dst vc msg).ph = d.ph := by unfold Device.sendMsg; (repeat' split) <;> simp

@[simp] theorem Device.sendWaiting_ph (d : Device) : (Device.sendWaiting d).ph = d.ph := by simp [Device.sendWaiting, foldl_ph, apply_ite Device.ph]

@[simp] theorem Device.ackUpTo_ph (d : Device) (l ack : Nat) : (Device.ackUpTo d l ack).ph = d.ph := by simp [Device.ackUpTo, foldl_ph, apply_ite Device.ph]

@[simp] theorem Device.retrain_ph (d : Device) (l : Nat) (four : Bool) (tell : Bool) : (Device.retrain d l four tell).ph = d.ph := by simp [Device.retrain, foldl_ph, apply_ite Device.ph]

@[simp] theorem Device.setLaneMap_ph (d : Device) (l rx tx : Nat) : (Device.setLaneMap d l rx tx).ph = d.ph := by simp [Device.setLaneMap]

@[simp] theorem Device.applyLanes_ph (d : Device) (l : Nat) : (Device.applyLanes d l).ph = d.ph := by simp [Device.applyLanes, foldl_ph, apply_ite Device.ph]

@[simp] theorem Device.dropMargin_ph (d : Device) (l : Nat) : (Device.dropMargin d l).ph = d.ph := by simp [Device.dropMargin, foldl_ph, apply_ite Device.ph]

@[simp] theorem Device.tierOutage_ph (d : Device) (c : Nat) : (Device.tierOutage d c).ph = d.ph := by simp [Device.tierOutage, foldl_ph, apply_ite Device.ph]

/-! ### PwrOps -/

@[simp] theorem Device.setEn_ph (d : Device) (n : Nat) (b : Bool) : (Device.setEn d n b).ph = d.ph := by simp [Device.setEn]

@[simp] theorem Device.setAvs_ph (d : Device) (bus : Nat) (q : List AvsReq) : (Device.setAvs d bus q).ph = d.ph := by simp [Device.setAvs]

@[simp] theorem Device.avsRequest_ph (d : Device) (r mv : Nat) : (Device.avsRequest d r mv).ph = d.ph := by unfold Device.avsRequest; dsimp only; (repeat' split) <;> simp_all [foldl_ph, apply_ite Device.ph]

@[simp] theorem Device.avsNext_ph (d : Device) (bus : Nat) : (Device.avsNext d bus).ph = d.ph := by unfold Device.avsNext; (repeat' split) <;> simp

@[simp] theorem Device.raiseRails_ph (d : Device) : (Device.raiseRails d).ph = d.ph := by unfold Device.raiseRails; (repeat' split) <;> simp

@[simp] theorem Device.reloadRwl_ph (d : Device) (n : Nat) : (d.reloadRwl n).ph = d.ph := by
  rw [Device.reloadRwl]
  refine foldl_ph _ (fun d e => ?_) _ _
  split
  · split
    · rw [Device.setReg_ph]
    · rfl
  · rfl

@[simp] theorem Device.resetRegs_ph (d : Device) (n : Nat) : (Device.resetRegs d n).ph = d.ph := by simp [Device.resetRegs]

@[simp] theorem Device.loseTile_ph (d : Device) (t : Nat) : (Device.loseTile d t).ph = d.ph := by simp [Device.loseTile]

@[simp] theorem Device.loseCore_ph (d : Device) (c : Nat) : (Device.loseCore d c).ph = d.ph := by simp [Device.loseCore]

@[simp] theorem Device.stopCore_ph (d : Device) (c : Nat) : (Device.stopCore d c).ph = d.ph := by simp [Device.stopCore, foldl_ph, apply_ite Device.ph]

@[simp] theorem Device.stopCores_ph (d : Device) (g : Nat) (all : Bool) : (Device.stopCores d g all).ph = d.ph := by simp [Device.stopCores, foldl_ph, apply_ite Device.ph]

@[simp] theorem Device.loseSpaces_ph (d : Device) (n : Nat) : (Device.loseSpaces d n).ph = d.ph := by simp [Device.loseSpaces, foldl_ph, apply_ite Device.ph]

@[simp] theorem Device.lowerRails_ph (d : Device) : (Device.lowerRails d).ph = d.ph := by simp [Device.lowerRails, foldl_ph, apply_ite Device.ph]

/-! ### TestOps -/

@[simp] theorem Device.selftestRequest_ph (d : Device) (c : Nat) : (Device.selftestRequest d c).ph = d.ph := by simp [Device.selftestRequest, foldl_ph, apply_ite Device.ph]

@[simp] theorem Device.showNextCore_ph (d : Device) : (Device.showNextCore d).ph = d.ph := by unfold Device.showNextCore; (repeat' split) <;> simp

@[simp] theorem Device.testGroup_ph (d : Device) (g : Nat) : (Device.testGroup d g).ph = d.ph := by unfold Device.testGroup; (repeat' split) <;> simp

@[simp] theorem Device.testGroups_ph (d : Device) : (Device.testGroups d).ph = d.ph := by simp [Device.testGroups, foldl_ph, apply_ite Device.ph]

@[simp] theorem Device.itemFail_ph (d : Device) (unit : Nat) : (Device.itemFail d unit).ph = d.ph := by simp [Device.itemFail]

@[simp] theorem Device.windowTested_ph (d : Device) (c : Nat) (pass : Bool) : (Device.windowTested d c pass).ph = d.ph := by simp [Device.windowTested, foldl_ph, apply_ite Device.ph]

/-! ### MemOps -/

@[simp] theorem Device.errLine_ph (d : Device) (tile line : Nat) : (Device.errLine d tile line).ph = d.ph := by simp [Device.errLine]

@[simp] theorem Device.spareBegin_ph (d : Device) (tile die cause : Nat) : (Device.spareBegin d tile die cause).ph = d.ph := by simp [Device.spareBegin]

@[simp] theorem Device.spareStart_ph (d : Device) (tile die cause : Nat) : (Device.spareStart d tile die cause).ph = d.ph := by simp [Device.spareStart, foldl_ph, apply_ite Device.ph]

@[simp] theorem Device.countCE_ph (d : Device) (tile line : Nat) : (Device.countCE d tile line).ph = d.ph := by simp [Device.countCE, foldl_ph, apply_ite Device.ph]

@[simp] theorem Device.decodeLine_ph (d : Device) (cls n : Nat) : (Device.decodeLine d cls n).2.ph = d.ph := by unfold Device.decodeLine; (repeat' split) <;> simp

@[simp] theorem Device.giveLine_ph (d : Device) (giv : Bool) (tile line : Nat) (detected : Bool) : (Device.giveLine d giv tile line detected).ph = d.ph := by simp [Device.giveLine, foldl_ph, apply_ite Device.ph]

@[simp] theorem Device.giveWrong_ph (d : Device) (giv : Bool) (tile line : Nat) : (Device.giveWrong d giv tile line).ph = d.ph := by simp [Device.giveWrong, foldl_ph, apply_ite Device.ph]

@[simp] theorem Device.recompute_ph (d : Device) (tile u : Nat) : (Device.recompute d tile u).ph = d.ph := by simp [Device.recompute, foldl_ph, apply_ite Device.ph]

@[simp] theorem Device.dropWcb_ph (d : Device) (tile line : Nat) : (Device.dropWcb d tile line).ph = d.ph := by simp [Device.dropWcb]

@[simp] theorem Device.flushWcb_ph (d : Device) (tile line : Nat) (bad : List Nat) : (Device.flushWcb d tile line bad).ph = d.ph := by unfold Device.flushWcb; dsimp only; (repeat' split) <;> simp_all [foldl_ph, apply_ite Device.ph]

@[simp] theorem Device.maskWrite_ph (d : Device) (tile line mask : Nat) (data : Bytes) : (Device.maskWrite d tile line mask data).ph = d.ph := by simp [Device.maskWrite]

@[simp] theorem Device.fullWrite_ph (d : Device) (tile line : Nat) (data : Bytes) (keep : Bool) : (Device.fullWrite d tile line data keep).ph = d.ph := by simp [Device.fullWrite]

@[simp] theorem Device.partialWrite_ph (d : Device) (tile line mask : Nat) (data : Bytes) (bad : List Nat) : (Device.partialWrite d tile line mask data bad).ph = d.ph := by unfold Device.partialWrite; (repeat' split) <;> simp

@[simp] theorem Device.touchAcc_ph (d : Device) (tile line : Nat) : (Device.touchAcc d tile line).ph = d.ph := by simp [Device.touchAcc, foldl_ph, apply_ite Device.ph]

@[simp] theorem Device.accumulate_ph (d : Device) (tile line : Nat) (data : Bytes) (first : Bool) (leaf : Nat) (unitDma : Bool) : (Device.accumulate d tile line data first leaf unitDma).ph = d.ph := by simp [Device.accumulate, foldl_ph, apply_ite Device.ph]

@[simp] theorem Device.aged_ph (d : Device) (tile cls waited : Nat) : (Device.aged d tile cls waited).ph = d.ph := by simp [Device.aged, foldl_ph, apply_ite Device.ph]

/-! ### HostRegs -/

@[simp] theorem Device.mboxPlain_ph (d : Device) (v : Nat) : (Device.mboxPlain d v).ph = d.ph := by simp [Device.mboxPlain, foldl_ph, apply_ite Device.ph]

@[simp] theorem Device.writeWord_ph (d : Device) (off : Nat) (v hw : Word) : (Device.writeWord d off v hw).ph = d.ph := by unfold Device.writeWord; (repeat' split) <;> simp [foldl_ph, apply_ite Device.ph]

/-! ### CollOps -/

@[simp] theorem Device.sendColl_ph (d : Device) (ty flags dst step : Nat) (args payload : Bytes) : (Device.sendColl d ty flags dst step args payload).ph = d.ph := by simp [Device.sendColl]

@[simp] theorem Device.sendParts_ph (d : Device) (ty dst step : Nat) (ps : List (Bytes × Bytes)) (last : Bool) : (Device.sendParts d ty dst step ps last).ph = d.ph := by simp [Device.sendParts, foldl_ph, apply_ite Device.ph]

@[simp] theorem Device.sendSet_ph (d : Device) (ty dst step : Nat) (ps : List (Bytes × Bytes)) : (Device.sendSet d ty dst step ps).ph = d.ph := by simp [Device.sendSet, foldl_ph, apply_ite Device.ph]

@[simp] theorem Device.sendNack_ph (d : Device) (ty src step seq : Nat) : (Device.sendNack d ty src step seq).ph = d.ph := by simp [Device.sendNack]

@[simp] theorem Device.seenMsg_ph (d : Device) (ty : Nat) (m : Bytes) : (Device.seenMsg d ty m).ph = d.ph := by simp [Device.seenMsg]

@[simp] theorem Device.keepMsg_ph (d : Device) (m : Bytes) : (Device.keepMsg d m).ph = d.ph := by simp [Device.keepMsg]

theorem Device.atStep_ph (d : Device) (m : Bytes) (h : Device → Device) (hh : (h d).ph = d.ph) :
    (d.atStep m h).ph = d.ph := by
  rw [Device.atStep]
  split
  · exact hh
  · split <;> rfl

@[simp] theorem Device.setNode_ph (d : Device) (n : DNode) : (Device.setNode d n).ph = d.ph := by simp [Device.setNode]

@[simp] theorem Device.sendNode_ph (d : Device) (dst : Nat) (n : DNode) (lines : List (Nat × Bytes)) (last : Bool × Bool) : (Device.sendNode d dst n lines last).ph = d.ph := by simp [Device.sendNode]

@[simp] theorem Device.bumpShards_ph (d : Device) (a n : Nat) : (Device.bumpShards d a n).ph = d.ph := by simp [Device.bumpShards, foldl_ph, apply_ite Device.ph]

@[simp] theorem Device.takeRoot_ph (d : Device) (n : DNode) : (d.takeRoot n).ph = d.ph := by
  rw [Device.takeRoot]
  simp only [Device.ph_mk, Device.phase_ph]
  exact foldl_ph _ (fun d x => Device.uniWriteD_ph d _ _) _ _

@[simp] theorem Device.passRoot_ph (d : Device) (n : DNode) : (Device.passRoot d n).ph = d.ph := by simp [Device.passRoot, foldl_ph, apply_ite Device.ph]

@[simp] theorem Device.deliverRoot_ph (d : Device) (n : DNode) : (Device.deliverRoot d n).ph = d.ph := by simp [Device.deliverRoot, foldl_ph, apply_ite Device.ph]

@[simp] theorem Device.rootTry_ph (d : Device) : (Device.rootTry d).ph = d.ph := by unfold Device.rootTry; (repeat' split) <;> simp

@[simp] theorem Device.passUp_ph (d : Device) (n : DNode) (m : Nat) : (Device.passUp d n m).ph = d.ph := by simp [Device.passUp]

@[simp] theorem Device.growTree_ph (n : Nat) (d : Device) : (Device.growTree n d).ph = d.ph := by
  induction n generalizing d with
  | zero => rfl
  | succ n ih =>
    simp only [Device.growTree]
    (repeat' split) <;> simp [ih]

@[simp] theorem Device.growAll_ph (d : Device) : (Device.growAll d).ph = d.ph := by simp [Device.growAll]

/-! ### DigestOps -/

@[simp] theorem Device.putBlock_ph (d : Device) (b : RegionBlock) (bytes : Bytes) : (d.putBlock b bytes).ph = d.ph := by
  rw [Device.putBlock]
  refine foldl_ph _ (fun d x => ?_) _ _
  simp only []
  split
  · exact Device.uniWriteD_ph d _ _
  · exact Device.writeKey_ph d _ _

@[simp] theorem Device.sendDigests_ph (d : Device) : (Device.sendDigests d).ph = d.ph := by simp [Device.sendDigests, foldl_ph, apply_ite Device.ph]

@[simp] theorem Device.takeOrder_ph (d : Device) (x : Nat × Nat × Nat) : (Device.takeOrder d x).ph = d.ph := by simp [Device.takeOrder, foldl_ph, apply_ite Device.ph]

@[simp] theorem Device.sendOrders_ph (d : Device) (v : Verdict) : (Device.sendOrders d v).ph = d.ph := by simp [Device.sendOrders, foldl_ph, apply_ite Device.ph]

@[simp] theorem Device.judge_ph (d : Device) : (Device.judge d).ph = d.ph := by simp [Device.judge, foldl_ph, apply_ite Device.ph]

@[simp] theorem Device.sendRepairs_ph (d : Device) (n : Nat) : (Device.sendRepairs d n).ph = d.ph := by simp [Device.sendRepairs, foldl_ph, apply_ite Device.ph]

@[simp] theorem Device.repairWhole_ph (d : Device) (i : Nat) (b : RegionBlock) (x : Bytes) : (Device.repairWhole d i b x).ph = d.ph := by simp [Device.repairWhole]

@[simp] theorem Device.repairKeep_ph (d : Device) (i : Nat) (parts : List (Nat × Bytes)) : (Device.repairKeep d i parts).ph = d.ph := by simp [Device.repairKeep]

@[simp] theorem Device.repairTake_ph (d : Device) (i : Nat) (parts : List (Nat × Bytes)) (b : RegionBlock) (x : Option Bytes) : (Device.repairTake d i parts b x).ph = d.ph := by unfold Device.repairTake; (repeat' split) <;> simp

@[simp] theorem Device.repairBlock_ph (d : Device) (i : Nat) (parts : List (Nat × Bytes)) : (Device.repairBlock d i parts).ph = d.ph := by simp [Device.repairBlock]

/-! ### CoreUnits -/

@[simp] theorem Device.startUnit_ph (d : Device) (c u : Nat) : (Device.startUnit d c u).ph = d.ph := by simp [Device.startUnit]

@[simp] theorem Device.countCasts_ph (d : Device) (c u : Nat) : (Device.countCasts d c u).ph = d.ph := by simp [Device.countCasts, foldl_ph, apply_ite Device.ph]

@[simp] theorem Device.illegal_ph (d : Device) (c u cause : Nat) : (Device.illegal d c u cause).ph = d.ph := by simp [Device.illegal]

@[simp] theorem Device.advance_ph (d : Device) (c n : Nat) : (Device.advance d c n).ph = d.ph := by simp [Device.advance]

@[simp] theorem Device.start_ph (d : Device) (c words : Nat) (op : FlightOp) (dur : Nat) : (Device.start d c words op dur).ph = d.ph := by simp [Device.start]

@[simp] theorem Device.coreCorrected_ph (d : Device) (c n : Nat) : (Device.coreCorrected d c n).ph = d.ph := by simp [Device.coreCorrected, foldl_ph, apply_ite Device.ph]

@[simp] theorem Device.loopTurn_ph (d : Device) (c u back : Nat) (left : Nat) (rest : List (Nat × Nat)) : (Device.loopTurn d c u back left rest).ph = d.ph := by simp [Device.loopTurn, foldl_ph, apply_ite Device.ph]

@[simp] theorem Device.figures_ph (d : Device) (c u : Nat) (g : Figures) : (Device.figures d c u g).ph = d.ph := by simp [Device.figures, foldl_ph, apply_ite Device.ph]

@[simp] theorem Device.putCore_ph (d : Device) (c : Nat) (ws : List (Nat × Bytes)) : (Device.putCore d c ws).ph = d.ph := by simp [Device.putCore]

@[simp] theorem Device.putRows_ph (d : Device) (c u : Nat) (dst : Bytes) (rows : List (List Nat)) : (Device.putRows d c u dst rows).ph = d.ph := by simp [Device.putRows, foldl_ph, apply_ite Device.ph]

@[simp] theorem Device.putS12_ph (d : Device) (c u : Nat) (b : Bytes) (e : Nat × Nat) : (Device.putS12 d c u b e).ph = d.ph := by simp [Device.putS12]

@[simp] theorem Device.finishOp_ph (d : Device) (c u : Nat) (op : FlightOp) : (Device.finishOp d c u op).ph = d.ph := by unfold Device.finishOp; (repeat' split) <;> simp [foldl_ph, apply_ite Device.ph]

@[simp] theorem Device.complete_ph (d : Device) (c : Nat) (p : FlightOp → Bool) (clk : Fld) : (Device.complete d c p clk).ph = d.ph := by unfold Device.complete; (repeat' split) <;> simp

@[simp] theorem Device.xferFail_ph (d : Device) (c u index addr : Nat) : (Device.xferFail d c u index addr).ph = d.ph := by simp [Device.xferFail]

@[simp] theorem Device.fenceRead_ph (d : Device) (u uni len : Nat) : (Device.fenceRead d u uni len).ph = d.ph := by simp [Device.fenceRead, foldl_ph, apply_ite Device.ph]

theorem Device.xferMove_ph {d e : Device} {c u : Nat} {out : Bool} {uni addr len : Nat}
    (h : d.xferMove c u out uni addr len = some e) : e.ph = d.ph := by
  unfold Device.xferMove at h
  split at h
  · simp only [Option.map_eq_some_iff] at h
    obtain ⟨x, hx, rfl⟩ := h
    simp [Device.uniWrite_ph hx]
  · simp only [Option.map_eq_some_iff] at h
    obtain ⟨x, -, rfl⟩ := h
    simp

@[simp] theorem Device.hwUnit_ph (d : Device) (c u : Nat) : (Device.hwUnit d c u).ph = d.ph := by simp [Device.hwUnit, foldl_ph, apply_ite Device.ph]

@[simp] theorem Device.hwStops_ph (d : Device) (core : Nat) : (Device.hwStops d core).ph = d.ph := by unfold Device.hwStops; (repeat' split) <;> simp

@[simp] theorem Device.retireCore_ph (d : Device) (c : Nat) : (Device.retireCore d c).ph = d.ph := by simp [Device.retireCore]

/-! ### DmaOps -/

@[simp] theorem Device.chanHalt_ph (d : Device) (e c cause : Nat) : (Device.chanHalt d e c cause).ph = d.ph := by simp [Device.chanHalt, foldl_ph, apply_ite Device.ph]

@[simp] theorem Device.chanFail_ph (d : Device) (e c : Nat) : (Device.chanFail d e c).ph = d.ph := by simp [Device.chanFail, foldl_ph, apply_ite Device.ph]

@[simp] theorem Device.reach_ph (d : Device) (e c addr : Nat) : (Device.reach d e c addr).ph = d.ph := by unfold Device.reach; dsimp only; (repeat' split) <;> simp_all [foldl_ph, apply_ite Device.ph]

@[simp] theorem Device.lineMoved_ph (d : Device) (e c : Nat) : (Device.lineMoved d e c).ph = d.ph := by simp [Device.lineMoved, foldl_ph, apply_ite Device.ph]

@[simp] theorem Device.chainEnd_ph (d : Device) (e c status : Nat) (unitToo : Bool) : (Device.chainEnd d e c status unitToo).ph = d.ph := by unfold Device.chainEnd; dsimp only; (repeat' split) <;> simp_all [foldl_ph, apply_ite Device.ph]

theorem Device.chanCtl_ph (d : Device) (e value b : Nat) (may : ChState → Bool) (f : Device → Nat → Device)
    (h : ∀ d c, (f d c).ph = d.ph) : (d.chanCtl e value b may f).ph = d.ph := by
  rw [Device.chanCtl]
  split
  · rfl
  · refine Device.access_ph _ _ _ ?_
    simp only []
    split
    · exact Device.logAccess_ph _ _
    · exact h _ _

/-! ### HostMemOps -/

@[simp] theorem Device.d2hReissue_ph (d : Device) : (Device.d2hReissue d).ph = d.ph := by simp [Device.d2hReissue, foldl_ph, apply_ite Device.ph]

@[simp] theorem Device.hostRefused_ph (d : Device) (kind hpa : Nat) (src : Nat) : (Device.hostRefused d kind hpa src).ph = d.ph := by simp [Device.hostRefused, foldl_ph, apply_ite Device.ph]

@[simp] theorem Device.track_ph (d : Device) (line : Nat) : (Device.track d line).ph = d.ph := by unfold Device.track; (repeat' split) <;> simp

@[simp] theorem Device.hostRead_ph (d : Device) (n r l off : Nat) (loc : Nat × Nat × Nat) : (Device.hostRead d n r l off loc).ph = d.ph := by simp [Device.hostRead]

@[simp] theorem Device.putLine_ph (d : Device) (p : Nat × Nat × Nat) (mask : Nat) (data : Bytes) (row : Nat × Nat) : (Device.putLine d p mask data row).ph = d.ph := by unfold Device.putLine; (repeat' split) <;> simp [foldl_ph, apply_ite Device.ph]

@[simp] theorem Device.deferWrite_ph (d : Device) (n r l mask : Nat) (data : Bytes) : (Device.deferWrite d n r l mask data).ph = d.ph := by simp [Device.deferWrite]

@[simp] theorem Device.noteWrite_ph (d : Device) (n r : Nat) : (Device.noteWrite d n r).ph = d.ph := by simp [Device.noteWrite, foldl_ph, apply_ite Device.ph]

@[simp] theorem Device.invLine_ph (d : Device) (line : Nat) : (Device.invLine d line).ph = d.ph := by simp [Device.invLine]

@[simp] theorem Device.holdReq_ph (d : Device) (q : HostReq) : (Device.holdReq d q).ph = d.ph := by simp [Device.holdReq]

@[simp] theorem Device.hostWrite_ph (d : Device) (q : HostReq) (n r l : Nat) (loc : Nat × Nat × Nat) :
    (d.hostWrite q n r l loc).ph = d.ph := by
  rw [Device.hostWrite]
  split
  · simp only [Device.emit_ph, Device.inc64_ph, Device.deferWrite_ph]
  · split
    · split
      · simp only [Device.raise_ph, Device.holdReq_ph]
      · rename_i h
        rw [Device.emit_ph, Device.inc64_ph, Device.noteWrite_ph, Device.bumpVersion_ph, Device.putLine_ph,
          Device.allocRow_ph h]
    · rw [Device.emit_ph, Device.inc64_ph, Device.noteWrite_ph, Device.bumpVersion_ph, Device.putLine_ph]

@[simp] theorem Device.hostServe_ph (d : Device) (q : HostReq) (n r l off : Nat) (loc : Nat × Nat × Nat) : (Device.hostServe d q n r l off loc).ph = d.ph := by unfold Device.hostServe; (repeat' split) <;> simp

@[simp] theorem Device.hostReq_ph (d : Device) (q : HostReq) : (Device.hostReq d q).ph = d.ph := by unfold Device.hostReq; dsimp only; (repeat' split) <;> simp_all [foldl_ph, apply_ite Device.ph]

@[simp] theorem Device.heldRun_ph (d : Device) : (Device.heldRun d).ph = d.ph := by simp [Device.heldRun, foldl_ph, apply_ite Device.ph]

/-! ### Tier -/

@[simp] theorem Device.askObjDesc_ph (d : Device) : (Device.askObjDesc d).ph = d.ph := by simp [Device.askObjDesc]

theorem Device.giveSketch_ph {d : Device} {n : Nat} {o : TierObj} {x : TierObj × Device} (h : d.giveSketch n o = some x) :
    x.2.ph = d.ph := by
  unfold Device.giveSketch at h
  split at h
  · cases h; rfl
  · obtain ⟨t, -, ht⟩ := List.exists_of_findSome?_eq_some h
    simp only [Option.map_eq_some_iff] at ht
    obtain ⟨y, hy, rfl⟩ := ht
    exact Device.alloc1_ph hy

theorem Device.giveFrames_ph {d : Device} {n : Nat} {o : TierObj} {x : TierObj × Device} (h : d.giveFrames n o = some x) :
    x.2.ph = d.ph := by
  unfold Device.giveFrames at h
  split at h
  · cases h; rfl
  · simp only [Option.map_eq_some_iff] at h
    obtain ⟨y, hy, rfl⟩ := h
    exact Device.allocFrames_ph hy

@[simp] theorem Device.create_ph (d : Device) (b : Bytes) : (d.create b).ph = d.ph := by
  delta Device.create
  cases d.freeNumber with
  | none => exact Device.tierResult_ph _ _
  | some n =>
    dsimp only
    unfold Device.created
    split
    · exact Device.tierResult_ph _ _
    · rename_i h
      obtain ⟨x, h1, h2⟩ := Option.bind_eq_some_iff.1 h
      rw [Device.tierResult_ph, Device.sweepSpace_ph, Device.wr_ph, Device.setObj_ph,
        Device.giveSketch_ph h2, Device.giveFrames_ph h1]

@[simp] theorem Device.forgetObj_ph (d : Device) (n : Nat) : (Device.forgetObj d n).ph = d.ph := by simp [Device.forgetObj]

@[simp] theorem Device.destroy_ph (d : Device) (n : Nat) : (Device.destroy d n).ph = d.ph := by unfold Device.destroy; dsimp only; (repeat' split) <;> simp_all [foldl_ph, apply_ite Device.ph]

@[simp] theorem Device.evacuate_ph (d : Device) (n old : Nat) : (Device.evacuate d n old).ph = d.ph := by simp [Device.evacuate, foldl_ph, apply_ite Device.ph]

@[simp] theorem Device.policySet_ph (d : Device) (n : Nat) (p : TierObj) : (d.policySet n p).ph = d.ph := by
  rw [Device.policySet]
  split
  · exact Device.tierResult_ph _ _
  · rename_i h
    rw [Device.tierResult_ph, Device.sweepPins_ph, Device.evacuate_ph, Device.setObj_ph, Device.giveSketch_ph h]

@[simp] theorem Device.putLoc_ph (d : Device) (version carrier state tier line : Nat) : (Device.putLoc d version carrier state tier line).ph = d.ph := by simp [Device.putLoc]

@[simp] theorem Device.locateRow_ph (d : Device) (n r : Nat) : (Device.locateRow d n r).ph = d.ph := by unfold Device.locateRow; dsimp only; (repeat' split) <;> simp_all [foldl_ph, apply_ite Device.ph]

@[simp] theorem Device.renameT1_ph (d : Device) (t l u k : Nat) : (Device.renameT1 d t l u k).ph = d.ph := by simp [Device.renameT1]

@[simp] theorem Device.relocate_ph (d : Device) (src dst n : Nat) : (Device.relocate d src dst n).ph = d.ph := by simp [Device.relocate]

theorem Device.moveExtent_ph {d e : Device} {x : Extent} (h : d.moveExtent x = some e) : e.ph = d.ph := by
  unfold Device.moveExtent at h
  obtain ⟨t, -, ht⟩ := List.exists_of_findSome?_eq_some h
  split at ht
  · cases ht
  · simp only [Option.map_eq_some_iff] at ht
    obtain ⟨y, hy, rfl⟩ := ht
    simp [Device.alloc1_ph hy]

theorem foldl_bind_ph {α : Type} (f : Device → α → Option Device) (h : ∀ d x e, f d x = some e → e.ph = d.ph)
    (xs : List α) (o : Option Device) {e : Device} (he : xs.foldl (fun d x => d.bind fun d => f d x) o = some e) :
    ∃ d, o = some d ∧ e.ph = d.ph := by
  induction xs generalizing o with
  | nil => exact ⟨e, he, rfl⟩
  | cons x r ih =>
    obtain ⟨d, hd, hp⟩ := ih _ he
    obtain ⟨d0, h0, h1⟩ := Option.bind_eq_some_iff.1 hd
    exact ⟨d0, h0, hp.trans (h _ _ _ h1)⟩

theorem Device.moveExtents_ph {d e : Device} {t : Nat} (h : d.moveExtents t = some e) : e.ph = d.ph := by
  obtain ⟨d0, h0, hp⟩ := foldl_bind_ph _ (fun _ _ _ h => Device.moveExtent_ph h) _ _ h
  cases h0; exact hp

@[simp] theorem Device.moveStaging_ph (d : Device) (t : Nat) : (Device.moveStaging d t).ph = d.ph := by unfold Device.moveStaging; (repeat' split) <;> simp

@[simp] theorem Device.drainDone_ph (d : Device) (k t : Nat) : (Device.drainDone d k t).ph = d.ph := by simp [Device.drainDone, foldl_ph, apply_ite Device.ph]

@[simp] theorem Device.drainFailed_ph (d : Device) (k t : Nat) : (Device.drainFailed d k t).ph = d.ph := by simp [Device.drainFailed]

@[simp] theorem Device.unwant_ph (d : Device) (n r : Nat) : (Device.unwant d n r).ph = d.ph := by simp [Device.unwant]

@[simp] theorem Device.pinFailed_ph (d : Device) (n : Nat) : (Device.pinFailed d n).ph = d.ph := by simp [Device.pinFailed]

theorem Device.holdMove_ph {d e : Device} {n r tier why : Nat} (h : d.holdMove n r tier why = some e) : e.ph = d.ph := by
  unfold Device.holdMove at h
  simp only [Option.ite_none_left_eq_some, Option.map_eq_some_iff] at h
  obtain ⟨-, p, hp, rfl⟩ := h
  have hq := Device.placeIn_ph hp
  have hd : (if tier = 3 ∨ (d.dirEntry n r).isSome = true then (true, d) else d.dirRoom).2.ph = d.ph := by
    split
    · rfl
    · exact Device.dirRoom_ph d
  simp only [Device.inc_ph, Device.ph_mk, Device.phase_ph]
  split <;> simp only [Device.setEntry_ph, hq, hd]

@[simp] theorem Device.pinElsewhere_ph (d : Device) (n r : Nat) : (Device.pinElsewhere d n r).ph = d.ph := by simp [Device.pinElsewhere, foldl_ph, apply_ite Device.ph]

@[simp] theorem Device.moveWanted_ph (d : Device) (w : WantMove) : (d.moveWanted w).ph = d.ph := by
  rw [Device.moveWanted]
  simp only []
  split
  · rename_i h
    obtain ⟨t, -, ht⟩ := List.exists_of_findSome?_eq_some h
    rw [Device.sweepSpace_ph, Device.pinElsewhere_ph, Device.unwant_ph]
    split at ht
    · cases ht
    · split at ht
      · exact Device.holdMove_ph ht
      · exact Device.moveTo_ph ht
  · split
    · exact Device.pinFailed_ph _ _
    · split
      · rw [Device.unwant_ph, Device.inc_ph]
      · rw [Device.inc_ph]

@[simp] theorem Device.recoveryEnd_ph (d : Device) : (Device.recoveryEnd d).ph = d.ph := by simp [Device.recoveryEnd, foldl_ph, apply_ite Device.ph]

/-! ### EmbOps -/

@[simp] theorem Device.countKeys_ph (d : Device) (secs : List BagSec) : (Device.countKeys d secs).ph = d.ph := by simp [Device.countKeys, foldl_ph, apply_ite Device.ph]

@[simp] theorem Device.countTable_ph (d : Device) (t : Nat) : (Device.countTable d t).ph = d.ph := by simp [Device.countTable]

@[simp] theorem Device.setGather_ph (d : Device) (g : Gather) : (Device.setGather d g).ph = d.ph := by simp [Device.setGather]

@[simp] theorem Device.fenceRow_ph (d : Device) (n r : Nat) : (Device.fenceRow d n r).ph = d.ph := by simp [Device.fenceRow, foldl_ph, apply_ite Device.ph]

@[simp] theorem Device.sliceLines_ph (d : Device) (t r : Nat) : (Device.sliceLines d t r).ph = d.ph := by simp [Device.sliceLines]

@[simp] theorem Device.readOwned_ph (d : Device) (g : Gather) : (Device.readOwned d g).ph = d.ph := by simp [Device.readOwned, foldl_ph, apply_ite Device.ph]

@[simp] theorem Device.sketchCount_ph (d : Device) (t r count : Nat) : (Device.sketchCount d t r count).ph = d.ph := by simp [Device.sketchCount, foldl_ph, apply_ite Device.ph]

@[simp] theorem Device.gatherOwned_ph (d : Device) (t r count : Nat) : (Device.gatherOwned d t r count).ph = d.ph := by unfold Device.gatherOwned; (repeat' split) <;> simp

@[simp] theorem Device.readReplica_ph (d : Device) (g : Gather) (b : BwRow) : (Device.readReplica d g b).ph = d.ph := by simp [Device.readReplica]

@[simp] theorem Device.gatherRow_ph (d : Device) (t r count : Nat) : (Device.gatherRow d t r count).ph = d.ph := by unfold Device.gatherRow; (repeat' split) <;> simp

@[simp] theorem Device.sendRequests_ph (d : Device) : (Device.sendRequests d).ph = d.ph := by simp [Device.sendRequests, foldl_ph, apply_ite Device.ph]

@[simp] theorem Device.beginGathers_ph (d : Device) : (Device.beginGathers d).ph = d.ph := by simp [Device.beginGathers, foldl_ph, apply_ite Device.ph]

@[simp] theorem Device.retryGathers_ph (d : Device) : d.retryGathers.ph = d.ph := by
  rw [Device.retryGathers]
  refine foldl_ph _ (fun d g => ?_) _ _
  split
  · exact Device.readOwned_ph _ _
  · exact Device.readReplica_ph _ _ _
  · rfl

@[simp] theorem Device.bwView_ph (d : Device) (t : Nat) : (Device.bwView d t).ph = d.ph := by simp [Device.bwView]

@[simp] theorem Device.dropReplica_ph (d : Device) (t : Nat) (x : BwRow) : (Device.dropReplica d t x).ph = d.ph := by unfold Device.dropReplica; dsimp only; (repeat' split) <;> simp_all [foldl_ph, apply_ite Device.ph]

@[simp] theorem Device.answer_ph (d : Device) (m : Nat) : (Device.answer d m).ph = d.ph := by simp [Device.answer, foldl_ph, apply_ite Device.ph]

@[simp] theorem Device.answerAll_ph (d : Device) : (Device.answerAll d).ph = d.ph := by simp [Device.answerAll, foldl_ph, apply_ite Device.ph]

@[simp] theorem Device.holdTileUnit_ph (d : Device) (u tile cause addr : Nat) : (Device.holdTileUnit d u tile cause addr).ph = d.ph := by simp [Device.holdTileUnit]

@[simp] theorem Device.lookupErr_ph (d : Device) (u tile cause : Nat) : (Device.lookupErr d u tile cause).ph = d.ph := by simp [Device.lookupErr]

@[simp] theorem Device.lookupCounts_ph (d : Device) (u tile t : Nat) (outs : List (Bytes × Nat × Nat)) (rows : List Nat) (cost : Nat) : (Device.lookupCounts d u tile t outs rows cost).ph = d.ph := by simp [Device.lookupCounts, foldl_ph, apply_ite Device.ph]

theorem Device.writeAll_ph {d e : Device} {ws : List (Nat × Bytes)} (h : d.writeAll ws = some e) : e.ph = d.ph := by
  obtain ⟨d0, h0, hp⟩ := foldl_bind_ph _ (fun _ _ _ h => Device.uniWrite_ph h) _ _ h
  cases h0; exact hp

@[simp] theorem Device.lookup_ph (d : Device) (u tile : Nat) (a : Bytes) : (d.lookup u tile a).ph = d.ph := by
  rw [Device.lookup]
  simp only []
  split
  · exact Device.lookupErr_ph _ _ _ _
  · split
    · exact Device.lookupErr_ph _ _ _ _
    · split
      · exact Device.lookupErr_ph _ _ _ _
      · split
        · exact Device.lookupErr_ph _ _ _ _
        · split
          · rfl
          · split
            · exact Device.holdTileUnit_ph _ _ _ _ _
            · rename_i h
              rw [Device.unitEnd_ph, Device.lookupCounts_ph, Device.writeAll_ph h]

/-! ### HistOps -/

@[simp] theorem Device.putList_ph (d : Device) (c list : Nat) (b : Bytes) : (d.putList c list b).ph = d.ph :=
  Device.uniWriteD_ph d _ _

@[simp] theorem Device.setUsed_ph (d : Device) (c : Nat) (us : List Nat) : (Device.setUsed d c us).ph = d.ph := by simp [Device.setUsed]

@[simp] theorem Device.freeOne_ph (d : Device) (c list : Nat) : (Device.freeOne d c list).ph = d.ph := by simp [Device.freeOne]

@[simp] theorem Device.histResult_ph (d : Device) (r : Nat) : (Device.histResult d r).ph = d.ph := by simp [Device.histResult]

@[simp] theorem Device.commitLists_ph (d : Device) (step : Nat) : (Device.commitLists d step).ph = d.ph := by simp [Device.commitLists, foldl_ph, apply_ite Device.ph]

@[simp] theorem Device.stampPages_ph (d : Device) (step tick : Nat) : (d.stampPages step tick).ph = d.ph := by
  rw [Device.stampPages]
  exact foldl_ph _ (fun d p => Device.uniWriteD_ph d _ _) _ _

@[simp] theorem Device.dropPages_ph (d : Device) : (Device.dropPages d).ph = d.ph := by simp [Device.dropPages]

@[simp] theorem Device.histErr_ph (d : Device) (c u cause : Nat) : (Device.histErr d c u cause).ph = d.ph := by simp [Device.histErr]

/-! ### SparseOps -/

@[simp] theorem Device.setRowNode_ph (d : Device) (n : RowNode) : (Device.setRowNode d n).ph = d.ph := by simp [Device.setRowNode]

@[simp] theorem Device.leafNodes_ph (d : Device) (t leaf : Nat) (gs : Store (List Nat)) : (Device.leafNodes d t leaf gs).ph = d.ph := by simp [Device.leafNodes, foldl_ph, apply_ite Device.ph]

theorem Device.stageRoom_ph {d e : Device} {tile n : Nat} (h : d.stageRoom tile n = some e) : e.ph = d.ph := by
  unfold Device.stageRoom at h
  split at h
  · exact congrArg Device.ph (Option.some.inj h).symm
  · split at h
    · rw [← Option.some.inj h, Device.wr_ph]
    · exact absurd h (by simp)

theorem Device.stageRow_ph {d e : Device} {g : Gather} (h : d.stageRow g = some e) : e.ph = d.ph := by
  unfold Device.stageRow at h
  simp only [] at h
  split at h
  · cases h; rfl
  · have := Device.allocRow_ph h; exact this

theorem Device.reserve_ph {d e : Device} {tile : Nat} (h : d.reserve tile = some e) : e.ph = d.ph := by
  unfold Device.reserve at h
  split at h
  · cases h
  · obtain ⟨d0, h0, h1⟩ := Option.bind_eq_some_iff.1 h
    obtain ⟨d1, h2, hp⟩ := foldl_bind_ph _ (fun _ _ _ h => Device.stageRow_ph h) _ _ h1
    cases h2; exact hp.trans (Device.stageRoom_ph h0)

@[simp] theorem Device.stageWait_ph (d : Device) (tile : Nat) : (Device.stageWait d tile).ph = d.ph := by simp [Device.stageWait, foldl_ph, apply_ite Device.ph]

@[simp] theorem Device.stageGot_ph (d : Device) (tile : Nat) : (Device.stageGot d tile).ph = d.ph := by simp [Device.stageGot]

@[simp] theorem Device.stageTry_ph (d : Device) (tile : Nat) : (d.stageTry tile).1.ph = d.ph := by
  rw [Device.stageTry]
  cases h : d.reserve tile with
  | none =>
    dsimp only
    split
    · exact Device.stageWait_ph _ _
    · rfl
  | some e =>
    dsimp only
    rw [Device.stageGot_ph]
    exact Device.reserve_ph h

@[simp] theorem Device.formRoots_ph (d : Device) (tile : Nat) : (Device.formRoots d tile).ph = d.ph := by simp [Device.formRoots]

@[simp] theorem Device.pendView_ph (d : Device) (tile : Nat) : (Device.pendView d tile).ph = d.ph := by simp [Device.pendView]

@[simp] theorem Device.pendAdd_ph (d : Device) (t r step : Nat) : (Device.pendAdd d t r step).ph = d.ph := by simp [Device.pendAdd, foldl_ph, apply_ite Device.ph]

@[simp] theorem Device.ovfClear_ph (d : Device) : (Device.ovfClear d).ph = d.ph := by simp [Device.ovfClear, foldl_ph, apply_ite Device.ph]

@[simp] theorem Device.tailDrainEnd_ph (d : Device) : (Device.tailDrainEnd d).ph = d.ph := by simp [Device.tailDrainEnd, foldl_ph, apply_ite Device.ph]

@[simp] theorem Device.tailAcked_ph (d : Device) (i m : Nat) : (Device.tailAcked d i m).ph = d.ph := by simp [Device.tailAcked, foldl_ph, apply_ite Device.ph]

/-! ### VoteOps -/

@[simp] theorem Device.blockShown_ph (d : Device) (i : Nat) (b : Option (Nat × Nat)) : (Device.blockShown d i b).ph = d.ph := by unfold Device.blockShown; (repeat' split) <;> simp

@[simp] theorem Device.collView_ph (d : Device) : d.collView.ph = d.ph := by
  rw [Device.collView]
  split <;> simp only [Device.wr_ph, Device.wr64_ph, Device.setReg_ph] <;>
    exact foldl_ph _ (fun d i => Device.blockShown_ph _ _ _) _ _

@[simp] theorem Device.movesTake_ph (d : Device) : (Device.movesTake d).ph = d.ph := by simp [Device.movesTake, foldl_ph, apply_ite Device.ph]

@[simp] theorem Device.memberView_ph (d : Device) (i : Nat) : (Device.memberView d i).ph = d.ph := by simp [Device.memberView]

@[simp] theorem Device.setWindow_ph (d : Device) (i : Nat) (w : List Nat) : (Device.setWindow d i w).ph = d.ph := by simp [Device.setWindow]

@[simp] theorem Device.addWindow_ph (d : Device) (i c : Nat) : (Device.addWindow d i c).ph = d.ph := by simp [Device.addWindow, foldl_ph, apply_ite Device.ph]

@[simp] theorem Device.sinceAdvance_ph (d : Device) (found : List Nat) : (Device.sinceAdvance d found).ph = d.ph := by simp [Device.sinceAdvance, foldl_ph, apply_ite Device.ph]

@[simp] theorem Device.formHdr_ph (d : Device) : (Device.formHdr d).1.ph = d.ph := by simp [Device.formHdr, foldl_ph, apply_ite Device.ph]

@[simp] theorem Device.askChanges_ph (d : Device) : (Device.askChanges d).ph = d.ph := by simp [Device.askChanges, foldl_ph, apply_ite Device.ph]

@[simp] theorem Device.takeHdr_ph (d : Device) (h : Bytes) : (Device.takeHdr d h).ph = d.ph := by simp [Device.takeHdr, foldl_ph, apply_ite Device.ph]

@[simp] theorem Device.takeVote_ph (d : Device) (v : Bytes) : (Device.takeVote d v).ph = d.ph := by simp [Device.takeVote, foldl_ph, apply_ite Device.ph]

@[simp] theorem Device.sendVote_ph (d : Device) : (Device.sendVote d).ph = d.ph := by unfold Device.sendVote; dsimp only; (repeat' split) <;> simp_all [foldl_ph, apply_ite Device.ph]

/-! ### BwOps -/

@[simp] theorem Device.addChange_ph (d : Device) (t r : Nat) (promote : Bool) : (Device.addChange d t r promote).ph = d.ph := by simp [Device.addChange]

@[simp] theorem Device.demotions_ph (d : Device) (t : Nat) : (Device.demotions d t).ph = d.ph := by simp [Device.demotions, foldl_ph, apply_ite Device.ph]

@[simp] theorem Device.promote_ph (d : Device) (t r : Nat) : (d.promote t r).ph = d.ph := by
  rw [Device.promote]
  split
  · rfl
  · split
    · split
      · rfl
      · cases h : d.holdMove (d.tableObj t) r 1 5 with
        | none => rfl
        | some e => exact Device.holdMove_ph h
    · split
      · rw [Device.raise_ph, Device.inc_ph]
      · exact Device.addChange_ph _ _ _ _

@[simp] theorem Device.promotions_ph (d : Device) (t : Nat) : (Device.promotions d t).ph = d.ph := by simp [Device.promotions, foldl_ph, apply_ite Device.ph]

@[simp] theorem Device.bwDecide_ph (d : Device) : (Device.bwDecide d).ph = d.ph := by simp [Device.bwDecide, foldl_ph, apply_ite Device.ph]

@[simp] theorem Device.sendChanges_ph (d : Device) : (Device.sendChanges d).ph = d.ph := by simp [Device.sendChanges, foldl_ph, apply_ite Device.ph]

@[simp] theorem Device.sendRecords_ph (d : Device) : (Device.sendRecords d).ph = d.ph := by simp [Device.sendRecords, foldl_ph, apply_ite Device.ph]

@[simp] theorem Device.addReplica_ph (d : Device) (t : Nat) (b : BwRow) : (Device.addReplica d t b).ph = d.ph := by simp [Device.addReplica]

theorem Device.installOwn_ph {d e : Device} {t r : Nat} (h : d.installOwn t r = some e) : e.ph = d.ph := by
  unfold Device.installOwn at h
  simp only [] at h
  obtain ⟨d0, h0, h1⟩ := Option.bind_eq_some_iff.1 h
  simp only [Option.map_eq_some_iff] at h1
  obtain ⟨x, -, rfl⟩ := h1
  have : d0.ph = d.ph := by
    split at h0
    · cases h0; simp [foldl_ph]
    · rw [Device.moveTo_ph h0]; simp [foldl_ph]
  simpa using this

theorem Device.installOther_ph {d e : Device} {t r : Nat} (h : d.installOther t r = some e) : e.ph = d.ph := by
  unfold Device.installOther at h
  split at h
  · cases h
  · obtain ⟨i, -, hi⟩ := List.exists_of_findSome?_eq_some h
    simp only [Option.map_eq_some_iff] at hi
    obtain ⟨a, ha, rfl⟩ := hi
    simp [Device.alloc1_ph ha]

@[simp] theorem Device.installBw_ph (d : Device) : d.installBw.ph = d.ph := by
  rw [Device.installBw]
  refine foldl_ph _ (fun d c => ?_) _ _
  cases h : (if d.owns c.table c.row then d.installOwn c.table c.row else d.installOther c.table c.row) with
  | none => rfl
  | some e =>
    simp only [Device.ph_mk, Device.phase_ph]
    split at h
    · exact Device.installOwn_ph h
    · exact Device.installOther_ph h

@[simp] theorem Device.takeDigests_ph (d : Device) : (Device.takeDigests d).ph = d.ph := by simp [Device.takeDigests, foldl_ph, apply_ite Device.ph]

@[simp] theorem Device.demoteBw_ph (d : Device) : d.demoteBw.ph = d.ph := by
  rw [Device.demoteBw]
  refine (foldl_ph _ (fun d c => ?_) _ _).trans rfl
  split
  · rw [Device.raise_ph, Device.bwView_ph, Device.dropReplica_ph]
  · rfl

@[simp] theorem Device.countBw_ph (d : Device) : (Device.countBw d).ph = d.ph := by simp [Device.countBw, foldl_ph, apply_ite Device.ph]

@[simp] theorem Device.decayTable_ph (d : Device) (t : Nat) : (Device.decayTable d t).ph = d.ph := by simp [Device.decayTable, foldl_ph, apply_ite Device.ph]

@[simp] theorem Device.decayTables_ph (d : Device) : (Device.decayTables d).ph = d.ph := by simp [Device.decayTables, foldl_ph, apply_ite Device.ph]

/-! ### UpdateOps -/

@[simp] theorem Device.countNf_ph (d : Device) (n : Nat) : (Device.countNf d n).ph = d.ph := by simp [Device.countNf, foldl_ph, apply_ite Device.ph]

@[simp] theorem Device.putRecord_ph (d : Device) (n r : Nat) (b : Bytes) : (Device.putRecord d n r b).ph = d.ph := by simp [Device.putRecord]

@[simp] theorem Device.countUpdate_ph (d : Device) (t r : Nat) (p : Bytes) (tier2 : Bool) : (Device.countUpdate d t r p tier2).ph = d.ph := by simp [Device.countUpdate, foldl_ph, apply_ite Device.ph]

@[simp] theorem Device.putDenseState_ph (d : Device) (e : Bytes) (off : Nat) (x : OptState) :
    (d.putDenseState e off x).ph = d.ph := by
  rw [Device.putDenseState]
  simp only []
  split <;> simp only [Device.uniWriteD_ph]

@[simp] theorem Device.putDenseHeader_ph (d : Device) (e : Bytes) (step t : Nat) :
    (d.putDenseHeader e step t).ph = d.ph := by
  rw [Device.putDenseHeader]
  split <;> simp only [Device.uniWriteD_ph]

@[simp] theorem Device.denseUpdate_ph (d : Device) (e p : Bytes) (step off len t : Nat) (g : List Nat) :
    (d.denseUpdate e p step off len t g).1.ph = d.ph := by
  rw [Device.denseUpdate]
  simp only [Device.ph_mk, Device.phase_ph, Device.bumpShards_ph, Device.putDenseState_ph, Device.uniWriteD_ph]

@[simp] theorem Device.putSlots_ph (d : Device) (ring : Nat) (b : Bytes) : (Device.putSlots d ring b).ph = d.ph := by simp [Device.putSlots, foldl_ph, apply_ite Device.ph]

@[simp] theorem Device.tailRing_ph (d : Device) (s : Nat) (skip : Bool) (i : Nat) : (d.tailRing s skip i).ph = d.ph := by
  rw [Device.tailRing]
  simp only [Device.ph_mk, Device.phase_ph, Device.putSlots_ph]
  refine foldl_ph _ (fun d k => ?_) _ _
  split
  · rfl
  · simp only [Device.pendAdd_ph, Device.inc64_ph, Device.putSlots_ph]

@[simp] theorem Device.actionTail_ph (d : Device) (s : Nat) (skip : Bool) : (Device.actionTail d s skip).ph = d.ph := by simp [Device.actionTail, foldl_ph, apply_ite Device.ph]

/-! ### CkptOps -/

@[simp] theorem Device.actionDelta_ph (d : Device) (s : Nat) (skip : Bool) : (Device.actionDelta d s skip).ph = d.ph := by unfold Device.actionDelta; (repeat' split) <;> simp

@[simp] theorem Device.baseBegin_ph (d : Device) (step : Nat) : (Device.baseBegin d step).ph = d.ph := by unfold Device.baseBegin; (repeat' split) <;> simp [foldl_ph, apply_ite Device.ph]

@[simp] theorem Device.capture_ph (step n : Nat) (d : Device) : (Device.capture step n d).ph = d.ph := by
  induction n generalizing d with
  | zero => rfl
  | succ n ih =>
    simp only [Device.capture]
    (repeat' split) <;> simp [ih]

@[simp] theorem Device.baseCommit_ph (d : Device) (step : Nat) : (Device.baseCommit d step).ph = d.ph := by simp [Device.baseCommit, foldl_ph, apply_ite Device.ph]

@[simp] theorem Device.setSnap_ph (d : Device) (r : List (Bool × Bytes)) : (Device.setSnap d r).ph = d.ph := by simp [Device.setSnap]

@[simp] theorem Device.snapDrain_ph (ring n : Nat) (d : Device) : (Device.snapDrain ring n d).ph = d.ph := by
  induction n generalizing d with
  | zero => rfl
  | succ n ih =>
    simp only [Device.snapDrain]
    (repeat' split) <;> simp [ih]

@[simp] theorem Device.baseClose_ph (d : Device) (ring : Nat) (g : BaseGen) : (Device.baseClose d ring g).ph = d.ph := by simp [Device.baseClose, foldl_ph, apply_ite Device.ph]

@[simp] theorem Device.baseEnd_ph (d : Device) (ring : Nat) : (Device.baseEnd d ring).ph = d.ph := by unfold Device.baseEnd; (repeat' split) <;> simp [foldl_ph, apply_ite Device.ph]

/-! ### AdmitOps -/

@[simp] theorem Device.countReused_ph (d : Device) (es : List HistEntry) : (Device.countReused d es).ph = d.ph := by simp [Device.countReused, foldl_ph, apply_ite Device.ph]

@[simp] theorem Device.batchErr_ph (d : Device) (cause ring : Nat) : (Device.batchErr d cause ring).ph = d.ph := by simp [Device.batchErr]

@[simp] theorem Device.bagErr_ph (d : Device) (f : Nat × Nat × Nat) : (Device.bagErr d f).ph = d.ph := by simp [Device.bagErr]

@[simp] theorem Device.histErrAdmit_ph (d : Device) (f : Nat × Nat) : (Device.histErrAdmit d f).ph = d.ph := by simp [Device.histErrAdmit]

@[simp] theorem Device.askBodies_ph (d : Device) (hs : List (Nat × Bytes)) : (Device.askBodies d hs).ph = d.ph := by simp [Device.askBodies, foldl_ph, apply_ite Device.ph]

/-- The device after the checks of ADMIT. -/
def Admission.dev : Admission → Device
  | .waits d => d
  | .passed d _ _ _ _ => d

theorem Admission.dev_waits (d : Device) : (Admission.waits d).dev = d := id rfl

theorem Admission.dev_passed (d : Device) (bs bags es ps) : (Admission.passed d bs bags es ps).dev = d := id rfl

@[simp] theorem Device.admission_ph (d : Device) (step : Nat) : (d.admission step).dev.ph = d.ph := by
  delta Device.admission
  cases d.heads with
  | none => rw [Admission.dev_waits]
  | some hs =>
    have h := Device.askBodies_ph d hs
    dsimp only
    generalize d.askBodies hs = e at h ⊢
    rw [← h]
    (repeat' split) <;> simp only [Admission.dev_waits, Admission.dev_passed, Device.batchErr_ph, Device.raise_ph,
      Device.bagErr_ph, Device.histErrAdmit_ph, Device.ph_mk, Device.phase_ph]

@[simp] theorem Device.lostWait_ph (d : Device) : (Device.lostWait d).ph = d.ph := by simp [Device.lostWait, foldl_ph, apply_ite Device.ph]

@[simp] theorem Device.admitted'_ph (d : Device) (bs : List Batch) (bags : List BagSec) (es : List HistEntry) (ps : List HistPage) : (Device.admitted' d bs bags es ps).ph = d.ph := by simp [Device.admitted']

@[simp] theorem Device.admitCheck_ph (d : Device) : d.admitCheck.ph = d.ph := by
  have h := Device.admission_ph d d.step64
  rw [Device.admitCheck]
  split <;> rename_i e <;> rw [e] at h
  · rwa [Admission.dev_waits] at h
  · rw [Admission.dev_passed] at h; rwa [Device.admitted'_ph]

@[simp] theorem Device.takeAhead_ph (d : Device) (bs : List Batch) : (Device.takeAhead d bs).ph = d.ph := by simp [Device.takeAhead]

@[simp] theorem Device.admitAhead_ph (d : Device) : d.admitAhead.ph = d.ph := by
  have h := Device.admission_ph d (d.step64 + 1)
  rw [Device.admitAhead]
  split <;> rename_i e <;> rw [e] at h
  · simp only [Device.ph_mk, Device.phase_ph]
    rwa [Admission.dev_waits] at h
  · split
    · rfl
    · rw [Admission.dev_passed] at h
      simp only [Device.wr_ph, Device.ph_mk, Device.phase_ph, Device.countKeys_ph, h]

/-! ### Power -/

@[simp] theorem Device.enableDom_ph (d : Device) (n cause : Nat) : (Device.enableDom d n cause).ph = d.ph := by simp [Device.enableDom, foldl_ph, apply_ite Device.ph]

@[simp] theorem Device.railUp_ph (d : Device) (r : Nat) : (Device.railUp d r).ph = d.ph := by simp [Device.railUp]

@[simp] theorem Device.pgWait_ph (d : Device) (r : Nat) : (Device.pgWait d r).ph = d.ph := by simp [Device.pgWait]

@[simp] theorem Device.pgAgain_ph (d : Device) (r : Nat) : (Device.pgAgain d r).ph = d.ph := by simp [Device.pgAgain]

@[simp] theorem Device.railTarget_ph (d : Device) (r value : Nat) : (Device.railTarget d r value).ph = d.ph := by simp [Device.railTarget, foldl_ph, apply_ite Device.ph]

@[simp] theorem Device.setBalance_ph (d : Device) (b : Int) : (Device.setBalance d b).ph = d.ph := by simp [Device.setBalance]

@[simp] theorem Device.newWindow_ph (d : Device) : (Device.newWindow d).ph = d.ph := by simp [Device.newWindow]

@[simp] theorem Device.showGate_ph (d : Device) : (Device.showGate d).ph = d.ph := by simp [Device.showGate]

@[simp] theorem Device.railsMeasured_ph (d : Device) (decimA mv : List Nat) : (Device.railsMeasured d decimA mv).ph = d.ph := by simp [Device.railsMeasured, foldl_ph, apply_ite Device.ph]

@[simp] theorem Device.clampTo_ph (d : Device) (p : Pwr) : (Device.clampTo d p).ph = d.ph := by simp [Device.clampTo, foldl_ph, apply_ite Device.ph]

@[simp] theorem Device.powerShown_ph (d : Device) (p : Nat) (ss : List Nat) : (Device.powerShown d p ss).ph = d.ph := by simp [Device.powerShown]

@[simp] theorem Device.powerSample_ph (d : Device) (p : Nat) : (Device.powerSample d p).ph = d.ph := by simp [Device.powerSample]

@[simp] theorem Device.logicTemps_ph (d : Device) (rs : List Int) : (Device.logicTemps d rs).ph = d.ph := by simp [Device.logicTemps, foldl_ph, apply_ite Device.ph]

@[simp] theorem Device.tripLatch_ph (d : Device) : (Device.tripLatch d).ph = d.ph := by simp [Device.tripLatch]

@[simp] theorem Device.tripFree_ph (d : Device) : (Device.tripFree d).ph = d.ph := by simp [Device.tripFree]

/-! ### TickOps -/

@[simp] theorem Device.tickStep_ph (d : Device) : (Device.tickStep d).ph = d.ph := by simp [Device.tickStep, foldl_ph, apply_ite Device.ph]

@[simp] theorem Device.tickTail_ph (d : Device) : (Device.tickTail d).ph = d.ph := by simp [Device.tickTail]

@[simp] theorem Device.tickColl_ph (d : Device) : (Device.tickColl d).ph = d.ph := by simp [Device.tickColl]

@[simp] theorem Device.tickPatrol_ph (d : Device) : (Device.tickPatrol d).ph = d.ph := by simp [Device.tickPatrol, foldl_ph, apply_ite Device.ph]

@[simp] theorem Device.tickOutage_ph (d : Device) : (Device.tickOutage d).ph = d.ph := by simp [Device.tickOutage, foldl_ph, apply_ite Device.ph]

@[simp] theorem Device.tickMgmt_ph (d : Device) : (Device.tickMgmt d).ph = d.ph := by simp [Device.tickMgmt]

@[simp] theorem Device.tickTimers_ph (d : Device) : (Device.tickTimers d).ph = d.ph := by simp [Device.tickTimers, foldl_ph, apply_ite Device.ph]

/-! ### Time -/

@[simp] theorem Device.regained_ph (d : Device) : (Device.regained d).ph = d.ph := by simp [Device.regained]

@[simp] theorem Device.slipped_ph (e : Int) (d : Device) : (Device.slipped e d).ph = d.ph := by simp [Device.slipped, foldl_ph, apply_ite Device.ph]

@[simp] theorem Device.setDone_ph (d : Device) : (Device.setDone d).ph = d.ph := by simp [Device.setDone]

@[simp] theorem Device.droneLost_ph (d : Device) : (Device.droneLost d).ph = d.ph := by simp [Device.droneLost]

@[simp] theorem Device.heldTick_ph (d : Device) : (Device.heldTick d).ph = d.ph := by simp [Device.heldTick]

@[simp] theorem Device.mboxTaken_ph (d : Device) (value op : Nat) : (Device.mboxTaken d value op).ph = d.ph := by simp [Device.mboxTaken]

theorem Device.mbox_ph (d : Device) (value op : Nat) (lenOk : Nat → Bool) (f : Device → Device)
    (h : ∀ d, (f d).ph = d.ph) : (d.mbox value op lenOk f).ph = d.ph := by
  rw [Device.mbox]
  split
  · rfl
  · refine Device.access_ph _ _ _ ?_
    split
    · exact Device.logAccess_ph _ _
    · split
      · rw [h]; exact Device.mboxTaken_ph _ _ _
      · rw [Device.mboxEnd_ph]; exact Device.mboxTaken_ph _ _ _

/-! ### Boot -/

@[simp] theorem Device.narrowWindow_ph (d : Device) (r : Nat) : (Device.narrowWindow d r).ph = d.ph := by simp [Device.narrowWindow]

@[simp] theorem Device.loadAon_ph (d : Device) : d.loadAon.ph = d.ph := by
  rw [Device.loadAon]
  refine (foldl_ph _ (fun d t => Device.narrowWindow_ph d t) _ _).trans (foldl_ph _ (fun d e => ?_) _ _)
  split
  · split
    · exact Device.setReg_ph _ _ _
    · split
      · exact Device.setReg_ph _ _ _
      · split
        · exact Device.setReg_ph _ _ _
        · split
          · exact Device.setReg_ph _ _ _
          · rfl
  · rfl

@[simp] theorem Device.startStep_ph (d : Device) (n : Nat) : (Device.startStep d n).ph = d.ph := by simp [Device.startStep]

@[simp] theorem Device.putRegs_ph (d : Device) (f : Nat → Fld) (b : Bytes) : (Device.putRegs d f b).ph = d.ph := by simp [Device.putRegs, foldl_ph, apply_ite Device.ph]

@[simp] theorem Device.imageInForce_ph (d : Device) (img : Bytes) : (Device.imageInForce d img).ph = d.ph := by simp [Device.imageInForce]

theorem Device.loadConfig_ph {d e : Device} {img : Bytes} (h : d.loadConfig img = .ok e) : e.ph = d.ph := by
  unfold Device.loadConfig at h
  split at h
  · cases h
  · simp only [] at h
    split at h
    · cases h
    · cases h; simp

@[simp] theorem Device.lockBoot_ph (d : Device) : (Device.lockBoot d).ph = d.ph := by simp [Device.lockBoot]

@[simp] theorem Device.startDone_ph (d : Device) (us : Nat) : (Device.startDone d us).ph = d.ph := by simp [Device.startDone]

@[simp] theorem Device.cxlCleared_ph (d : Device) : (Device.cxlCleared d).ph = d.ph := by simp [Device.cxlCleared]

/-! ### RestoreOps -/

@[simp] theorem Device.restoreErr_ph (d : Device) (cause src : Nat) : (d.restoreErr cause src).ph = d.ph := by
  rw [Device.restoreErr]
  dsimp only
  rw [Device.raise_ph, Device.wr_ph, Device.wr_ph]
  split <;> rfl

theorem Device.putHeld_ph {d e : Device} {t r : Nat} {b : Bytes} (h : d.putHeld t r b = some e) : e.ph = d.ph := by
  unfold Device.putHeld at h
  simp only [] at h
  split at h
  · cases h; simp
  · split at h
    · cases h; simp
    · simp only [Option.map_eq_some_iff] at h
      obtain ⟨x, hx, rfl⟩ := h
      simp [Device.allocRow_ph hx]

@[simp] theorem Device.dropHeld_ph (d : Device) (t r : Nat) : (Device.dropHeld d t r).ph = d.ph := by unfold Device.dropHeld; dsimp only; (repeat' split) <;> simp_all [foldl_ph, apply_ite Device.ph]

@[simp] theorem Device.loadTag_ph (d : Device) (b : Bytes) (t : Nat) : (Device.loadTag d b t).ph = d.ph := by simp [Device.loadTag]

@[simp] theorem Device.rebuildTags_ph (d : Device) (r : Restore) : (d.rebuildTags r).ph = d.ph := by
  rw [Device.rebuildTags]
  dsimp only
  split
  · rfl
  · rw [foldl_ph, foldl_ph]
    · intro d t; exact Device.loadTag_ph d _ t
    · intro d x; rw [foldl_ph]; intro d t; exact Device.tagCommit_ph d t _ _

/-! ### Coll -/

@[simp] theorem Device.collResult_ph (d : Device) (r : Nat) : (Device.collResult d r).ph = d.ph := by simp [Device.collResult]

@[simp] theorem Device.leaveJob_ph (d : Device) : (Device.leaveJob d).ph = d.ph := by simp [Device.leaveJob]

@[simp] theorem Device.joinOver_ph (d : Device) : (Device.joinOver d).ph = d.ph := by simp [Device.joinOver]

@[simp] theorem Device.inJob_ph (d : Device) (j : Job) : (Device.inJob d j).ph = d.ph := by simp [Device.inJob, foldl_ph, apply_ite Device.ph]

@[simp] theorem Device.joinEnd_ph (d : Device) (ok : Bool) : (Device.joinEnd d ok).ph = d.ph := by unfold Device.joinEnd; (repeat' split) <;> simp [foldl_ph, apply_ite Device.ph]

@[simp] theorem Device.joinAnswer_ph (d : Device) (ok : Bool) : (Device.joinAnswer d ok).ph = d.ph := by unfold Device.joinAnswer; (repeat' split) <;> simp [foldl_ph, apply_ite Device.ph]

@[simp] theorem Device.joinTake_ph (d : Device) (rank : Nat) (g : Bytes) : (Device.joinTake d rank g).ph = d.ph := by unfold Device.joinTake; (repeat' split) <;> simp [foldl_ph, apply_ite Device.ph]

@[simp] theorem Device.askCompare_ph (d : Device) : (Device.askCompare d).ph = d.ph := by simp [Device.askCompare]

@[simp] theorem Device.joinHear_ph (d : Device) (msg : Bytes) : (Device.joinHear d msg).ph = d.ph := by unfold Device.joinHear; (repeat' split) <;> simp

@[simp] theorem Device.joinHeard_ph (d : Device) (msg : Bytes) : (Device.joinHeard d msg).ph = d.ph := by unfold Device.joinHeard; (repeat' split) <;> simp

@[simp] theorem Device.takeNode_ph (d : Device) (m : Bytes) : (Device.takeNode d m).ph = d.ph := by simp [Device.takeNode]

@[simp] theorem Device.takeNodeHdr_ph (d : Device) (m : Bytes) : (Device.takeNodeHdr d m).ph = d.ph := by simp [Device.takeNodeHdr]

@[simp] theorem Device.takeRowReq_ph (d : Device) (m : Bytes) : (Device.takeRowReq d m).ph = d.ph := by simp [Device.takeRowReq, foldl_ph, apply_ite Device.ph]

theorem foldl_fst_ph {α β : Type} (f : Device × β → α → Device × β) (h : ∀ x a, (f x a).1.ph = x.1.ph) (xs : List α)
    (x : Device × β) : (xs.foldl f x).1.ph = x.1.ph := by
  induction xs generalizing x with
  | nil => rfl
  | cons a r ih => rw [List.foldl_cons, ih, h]

@[simp] theorem Device.takeRowData_ph (d : Device) (m : Bytes) : (d.takeRowData m).ph = d.ph := by
  rw [Device.takeRowData]
  dsimp only
  split
  · rfl
  · refine (foldl_fst_ph _ (fun x g => ?_) _ _).trans rfl
    exact Device.setGather_ph _ _

@[simp] theorem Device.gradFault_ph (d : Device) (m e : Bytes) : (Device.gradFault d m e).ph = d.ph := by simp [Device.gradFault, foldl_ph, apply_ite Device.ph]

@[simp] theorem Device.takeRowGrad_ph (d : Device) (m : Bytes) : (Device.takeRowGrad d m).ph = d.ph := by unfold Device.takeRowGrad; dsimp only; (repeat' split) <;> simp_all [foldl_ph, apply_ite Device.ph]

@[simp] theorem Device.takeChanges_ph (d : Device) (m : Bytes) : (Device.takeChanges d m).ph = d.ph := by simp [Device.takeChanges]

@[simp] theorem Device.takeRecord_ph (d : Device) (m : Bytes) : (Device.takeRecord d m).ph = d.ph := by simp [Device.takeRecord]

@[simp] theorem Device.fenceShard_ph (d : Device) (a n : Nat) : (Device.fenceShard d a n).ph = d.ph := by simp [Device.fenceShard]

@[simp] theorem Device.land_ph (d : Device) (k : Nat × Nat × Nat) (n : Nat) : (Device.land d k n).ph = d.ph := by simp [Device.land]

@[simp] theorem Device.takeShardData_ph (d : Device) (m : Bytes) : (d.takeShardData m).ph = d.ph := by
  rw [Device.takeShardData]
  refine foldl_ph _ (fun d u => ?_) _ _
  split
  · split
    · rw [Device.land_ph, Device.uniWriteD_ph]
    · rfl
  · rfl

@[simp] theorem Device.takeStage_ph (d : Device) (m : Bytes) : (d.takeStage m).ph = d.ph := by
  rw [Device.takeStage]
  simp only []
  split
  · rfl
  · split
    · rfl
    · rw [Device.land_ph, Device.uniWriteD_ph]

@[simp] theorem Device.takeDigest_ph (d : Device) (m : Bytes) : (Device.takeDigest d m).ph = d.ph := by simp [Device.takeDigest]

@[simp] theorem Device.takeOrders_ph (d : Device) (m : Bytes) : (Device.takeOrders d m).ph = d.ph := by simp [Device.takeOrders, foldl_ph, apply_ite Device.ph]

@[simp] theorem Device.takeRepair_ph (d : Device) (m : Bytes) : (Device.takeRepair d m).ph = d.ph := by unfold Device.takeRepair; dsimp only; (repeat' split) <;> simp_all [foldl_ph, apply_ite Device.ph]

theorem Device.afterStep_ph (d : Device) (m : Bytes) (h : Device → Device) (hh : (h d).ph = d.ph) :
    (d.afterStep m h).ph = d.ph := by
  rw [Device.afterStep]
  split
  · exact hh
  · rfl

@[simp] theorem Device.resend_ph (d : Device) (msg : Bytes) : (Device.resend d msg).ph = d.ph := by unfold Device.resend; (repeat' split) <;> simp

@[simp] theorem Device.voteLate_ph (d : Device) : (Device.voteLate d).ph = d.ph := by simp [Device.voteLate, foldl_ph, apply_ite Device.ph]

@[simp] theorem Device.holdSpineUnit_ph (d : Device) (u : Nat) : (Device.holdSpineUnit d u).ph = d.ph := by simp [Device.holdSpineUnit]

/-! ### StepOps -/

@[simp] theorem Device.recoveryStop_ph (d : Device) : (Device.recoveryStop d).ph = d.ph := by simp [Device.recoveryStop]

@[simp] theorem Device.modeRefuse_ph (d : Device) : (Device.modeRefuse d).ph = d.ph := by simp [Device.modeRefuse]

@[simp] theorem Device.recoveryTry_ph (d : Device) : (Device.recoveryTry d).ph = d.ph := by simp [Device.recoveryTry, foldl_ph, apply_ite Device.ph]

@[simp] theorem Device.modeTake_ph (d : Device) : (Device.modeTake d).ph = d.ph := by simp [Device.modeTake, foldl_ph, apply_ite Device.ph]

@[simp] theorem Device.modeWrite_ph (d : Device) (recovery : Bool) : (Device.modeWrite d recovery).ph = d.ph := by simp [Device.modeWrite]

@[simp] theorem Device.takeWmark_ph (d : Device) : (Device.takeWmark d).ph = d.ph := by simp [Device.takeWmark, foldl_ph, apply_ite Device.ph]

@[simp] theorem Device.blockNodes_ph (d : Device) : (Device.blockNodes d).ph = d.ph := by unfold Device.blockNodes; (repeat' split) <;> simp [foldl_ph, apply_ite Device.ph]

@[simp] theorem Device.sendGrads_ph (d : Device) : (Device.sendGrads d).ph = d.ph := by simp [Device.sendGrads, foldl_ph, apply_ite Device.ph]

@[simp] theorem Device.readTableParams_ph (d : Device) (t : Nat) : (Device.readTableParams d t).ph = d.ph := by unfold Device.readTableParams; dsimp only; (repeat' split) <;> simp_all [foldl_ph, apply_ite Device.ph]

@[simp] theorem Device.readDenseParams_ph (d : Device) (i : Nat) : (Device.readDenseParams d i).ph = d.ph := by unfold Device.readDenseParams; dsimp only; (repeat' split) <;> simp_all [foldl_ph, apply_ite Device.ph]

/-! ### Ckpt -/

@[simp] theorem Device.ckptReply_ph (d : Device) (value : Nat) : (Device.ckptReply d value).ph = d.ph := by simp [Device.ckptReply, foldl_ph, apply_ite Device.ph]

@[simp] theorem Device.askBase_ph (d : Device) : (Device.askBase d).ph = d.ph := by simp [Device.askBase]

@[simp] theorem Device.baseNow_ph (d : Device) (value : Nat) : (Device.baseNow d value).ph = d.ph := by simp [Device.baseNow, foldl_ph, apply_ite Device.ph]

@[simp] theorem Device.restoreRefuse_ph (d : Device) (cause src : Nat) : (Device.restoreRefuse d cause src).ph = d.ph := by simp [Device.restoreRefuse]

@[simp] theorem Device.setRestore_ph (d : Device) (r : Option Restore) : (Device.setRestore d r).ph = d.ph := by simp [Device.setRestore]

@[simp] theorem Device.restoreBegin_ph (d : Device) (b : Bytes) : (Device.restoreBegin d b).ph = d.ph := by simp [Device.restoreBegin, foldl_ph, apply_ite Device.ph]

@[simp] theorem Device.restoreFinish_ph (d : Device) (r : Restore) (recovery : Bool) : (Device.restoreFinish d r recovery).ph = d.ph := by simp [Device.restoreFinish, foldl_ph, apply_ite Device.ph]

@[simp] theorem Device.restoreEnd_ph (d : Device) (r : Option Restore) (recovery : Bool) : (Device.restoreEnd d r recovery).ph = d.ph := by unfold Device.restoreEnd; (repeat' split) <;> simp

@[simp] theorem Device.restoreLast_ph (d : Device) (b : Bytes) : (Device.restoreLast d b).ph = d.ph := by simp [Device.restoreLast, foldl_ph, apply_ite Device.ph]

@[simp] theorem Device.restoreAbort_ph (d : Device) (b : Bytes) : (Device.restoreAbort d b).ph = d.ph := by simp [Device.restoreAbort, foldl_ph, apply_ite Device.ph]

@[simp] theorem Device.baseDrain_ph (d : Device) (ring : Option Nat) : (Device.baseDrain d ring).ph = d.ph := by unfold Device.baseDrain; (repeat' split) <;> simp

/-! ### CommitOps -/

@[simp] theorem Device.skip123_ph (d : Device) : (Device.skip123 d).ph = d.ph := by simp [Device.skip123]

@[simp] theorem Device.action4_ph (d : Device) (skip : Bool) : (Device.action4 d skip).ph = d.ph := by simp [Device.action4, foldl_ph, apply_ite Device.ph]

@[simp] theorem Device.reportNorms_ph (d : Device) : (Device.reportNorms d).ph = d.ph := by simp [Device.reportNorms, foldl_ph, apply_ite Device.ph]

@[simp] theorem Device.action5_ph (d : Device) : (Device.action5 d).ph = d.ph := by simp [Device.action5, foldl_ph, apply_ite Device.ph]

@[simp] theorem Device.skip5_ph (d : Device) : (Device.skip5 d).ph = d.ph := by simp [Device.skip5]

@[simp] theorem Device.action6_ph (d : Device) : (Device.action6 d).ph = d.ph := by simp [Device.action6]

@[simp] theorem Device.moveAgain_ph (d : Device) (m : Move) : (Device.moveAgain d m).ph = d.ph := by unfold Device.moveAgain; dsimp only; (repeat' split) <;> simp_all [foldl_ph, apply_ite Device.ph]

@[simp] theorem Device.moveSwitch_ph (d : Device) (m : Move) : (Device.moveSwitch d m).ph = d.ph := by simp [Device.moveSwitch]

@[simp] theorem Device.resolveMoves_ph (d : Device) : (Device.resolveMoves d).ph = d.ph := by simp [Device.resolveMoves, foldl_ph, apply_ite Device.ph]

@[simp] theorem Device.landDeferred_ph (d : Device) (w : Deferred) : (d.landDeferred w).ph = d.ph := by
  rw [Device.landDeferred]
  dsimp only
  split
  · rfl
  · split
    · rw [Device.noteWrite_ph, Device.bumpVersion_ph, Device.putLine_ph]
    · split
      · rename_i h
        rw [Device.noteWrite_ph, Device.bumpVersion_ph, Device.putLine_ph, Device.allocRow_ph h]
      · simp only [Device.raise_ph, Device.ph_mk, Device.phase_ph]

@[simp] theorem Device.action7_ph (d : Device) (skip : Bool) (step : Nat) : (Device.action7 d skip step).ph = d.ph := by simp [Device.action7, foldl_ph, apply_ite Device.ph]

@[simp] theorem Device.collEvent_ph (d : Device) (code : Nat) (body : Bytes) : (Device.collEvent d code body).ph = d.ph := by simp [Device.collEvent]

@[simp] theorem Device.blocksEvents_ph (d : Device) (step member : Nat) : (Device.blocksEvents d step member).ph = d.ph := by simp [Device.blocksEvents, foldl_ph, apply_ite Device.ph]

@[simp] theorem Device.moveEvents_ph (d : Device) (h : Bytes) : (Device.moveEvents d h).ph = d.ph := by simp [Device.moveEvents, foldl_ph, apply_ite Device.ph]

@[simp] theorem Device.compareEnd_ph (d : Device) (h : Bytes) : (Device.compareEnd d h).ph = d.ph := by unfold Device.compareEnd; (repeat' split) <;> simp

@[simp] theorem Device.compareBegin_ph (d : Device) (step : Nat) : (Device.compareBegin d step).ph = d.ph := by simp [Device.compareBegin, foldl_ph, apply_ite Device.ph]

@[simp] theorem Device.clearStep_ph (d : Device) : d.clearStep.ph = d.ph := by
  have h : ((List.range Config.tiles).foldl (fun d t => d.setTile t { d.tile t with detected := [] }) d).ph = d.ph := by
    refine foldl_ph _ (fun d t => ?_) _ _
    rw [Device.setTile_ph]
  delta Device.clearStep
  revert h
  generalize (List.range Config.tiles).foldl (fun d t => d.setTile t { d.tile t with detected := [] }) d = e
  intro h
  rw [← h]
  generalize d.step64 = n
  dsimp only
  rw [Device.numClear_ph]
  exact Device.ph_mk ..

@[simp] theorem Device.reportStep_ph (d : Device) (skip : Bool) (step : Nat) : (Device.reportStep d skip step).ph = d.ph := by simp [Device.reportStep, foldl_ph, apply_ite Device.ph]

@[simp] theorem Device.loadTags_ph (d : Device) (ts : List (Nat × Nat × Nat)) : (Device.loadTags d ts).ph = d.ph := by simp [Device.loadTags, foldl_ph, apply_ite Device.ph]

@[simp] theorem Device.runProgram_ph (d : Device) (p : Program) : (Device.runProgram d p).ph = d.ph := by simp [Device.runProgram]

@[simp] theorem Device.swapTake_ph (d : Device) : (Device.swapTake d).ph = d.ph := by unfold Device.swapTake; (repeat' split) <;> simp

@[simp] theorem Device.endRows_ph (d : Device) : (Device.endRows d).ph = d.ph := by simp [Device.endRows]

/-! ### Dma -/

@[simp] theorem Device.chainBegin_ph (d : Device) (engine channel r : Nat) : (Device.chainBegin d engine channel r).ph = d.ph := by simp [Device.chainBegin]

@[simp] theorem Device.retryOk_ph (d : Device) (e c : Nat) : (Device.retryOk d e c).ph = d.ph := by simp [Device.retryOk]

@[simp] theorem Device.pauseChan_ph (d : Device) (engine c : Nat) : (Device.pauseChan d engine c).ph = d.ph := by simp [Device.pauseChan]

@[simp] theorem Device.resumeChan_ph (d : Device) (engine c : Nat) : (Device.resumeChan d engine c).ph = d.ph := by simp [Device.resumeChan, foldl_ph, apply_ite Device.ph]

@[simp] theorem Device.abortChan_ph (d : Device) (engine c : Nat) : (Device.abortChan d engine c).ph = d.ph := by simp [Device.abortChan, foldl_ph, apply_ite Device.ph]

@[simp] theorem Device.queueUnit_ph (d : Device) (engine r u : Nat) : (Device.queueUnit d engine r u).ph = d.ph := by simp [Device.queueUnit]

/-! ### DomainOn -/

@[simp] theorem Device.tileOut_ph (d : Device) (t : Nat) : (Device.tileOut d t).ph = d.ph := by simp [Device.tileOut]

@[simp] theorem Device.trainTile_ph (d : Device) (t : Nat) (bad : List Nat) : (Device.trainTile d t bad).ph = d.ph := by unfold Device.trainTile; dsimp only; (repeat' split) <;> simp_all [foldl_ph, apply_ite Device.ph]

@[simp] theorem Device.coreStart_ph (d : Device) (c : Nat) : (Device.coreStart d c).ph = d.ph := by simp [Device.coreStart]

@[simp] theorem Device.linksTrain_ph (d : Device) (n : Nat) : (Device.linksTrain d n).ph = d.ph := by simp [Device.linksTrain, foldl_ph, apply_ite Device.ph]

@[simp] theorem Device.engineStart_ph (d : Device) (t : Nat) : (Device.engineStart d t).ph = d.ph := by simp [Device.engineStart, foldl_ph, apply_ite Device.ph]

@[simp] theorem Device.startTasks_ph (d : Device) (n : Nat) (bad : List (Nat × Nat)) : (Device.startTasks d n bad).ph = d.ph := by simp [Device.startTasks, foldl_ph, apply_ite Device.ph]

/-! ### Emb -/

@[simp] theorem Device.tableResult_ph (d : Device) (r : Nat) : (Device.tableResult d r).ph = d.ph := by simp [Device.tableResult]

@[simp] theorem Device.clearTable_ph (d : Device) (t : Nat) : (Device.clearTable d t).ph = d.ph := by simp [Device.clearTable]

theorem Device.tableSketch_ph {d : Device} {t : Nat} {b : Bytes} {x : Option (Nat × Nat) × Device}
    (h : d.tableSketch t b = some x) : x.2.ph = d.ph := by
  unfold Device.tableSketch at h
  split at h
  · cases h; rfl
  · obtain ⟨i, -, hi⟩ := List.exists_of_findSome?_eq_some h
    simp only [Option.map_eq_some_iff] at hi
    obtain ⟨y, hy, rfl⟩ := hi
    exact Device.alloc1_ph hy

@[simp] theorem Device.tableOn_ph (d : Device) (t : Nat) (b : Bytes) : (d.tableOn t b).ph = d.ph := by
  rw [Device.tableOn]
  split
  · exact Device.tableResult_ph _ _
  · rename_i h
    simp only []
    split
    · exact Device.tableResult_ph _ _
    · rename_i g
      simp only [Device.tableResult_ph, Device.bwView_ph, Device.wr64_ph, Device.wr_ph, Device.clearTable_ph,
        Device.setTable_ph]
      rw [Device.alloc1_ph g, Device.tableSketch_ph h]

@[simp] theorem Device.forgetTable_ph (d : Device) (t : Nat) : (Device.forgetTable d t).ph = d.ph := by simp [Device.forgetTable]

@[simp] theorem Device.tableOff_ph (d : Device) (t : Nat) : (Device.tableOff d t).ph = d.ph := by simp [Device.tableOff, foldl_ph, apply_ite Device.ph]

/-! ### Links -/

@[simp] theorem Device.interlockSet_ph (d : Device) (closed hold : Bool) : (Device.interlockSet d closed hold).ph = d.ph := by simp [Device.interlockSet]

@[simp] theorem Device.feedLost_ph (d : Device) (engine feed : Nat) : (Device.feedLost d engine feed).ph = d.ph := by simp [Device.feedLost]

@[simp] theorem Device.feedOff_ph (d : Device) (n f v : Nat) : (Device.feedOff d n f v).ph = d.ph := by simp [Device.feedOff, foldl_ph, apply_ite Device.ph]

@[simp] theorem Device.notOpening_ph (d : Device) (engine feed : Nat) : (Device.notOpening d engine feed).ph = d.ph := by simp [Device.notOpening]

@[simp] theorem Device.badFlit_ph (d : Device) (l : Nat) : (Device.badFlit d l).ph = d.ph := by simp [Device.badFlit, foldl_ph, apply_ite Device.ph]

@[simp] theorem Device.countLane_ph (d : Device) (l f n : Nat) : (Device.countLane d l f n).ph = d.ph := by simp [Device.countLane, foldl_ph, apply_ite Device.ph]

@[simp] theorem Device.txSpare_ph (d : Device) (link lane : Nat) : (Device.txSpare d link lane).ph = d.ph := by simp [Device.txSpare]

@[simp] theorem Device.spareTakes_ph (d : Device) (link lane : Nat) : (Device.spareTakes d link lane).ph = d.ph := by simp [Device.spareTakes]

@[simp] theorem Device.planeIn_ph (d : Device) (p : Nat) : (Device.planeIn d p).ph = d.ph := by simp [Device.planeIn, foldl_ph, apply_ite Device.ph]

@[simp] theorem Device.tierPump_ph (d : Device) (c : Nat) : (Device.tierPump d c).ph = d.ph := by simp [Device.tierPump]

@[simp] theorem Device.linkIn_ph (d : Device) (l : Nat) : (Device.linkIn d l).ph = d.ph := by simp [Device.linkIn, foldl_ph, apply_ite Device.ph]

@[simp] theorem Device.degraded_ph (d : Device) (l : Nat) : (Device.degraded d l).ph = d.ph := by simp [Device.degraded, foldl_ph, apply_ite Device.ph]

@[simp] theorem Device.retrainedWell_ph (d : Device) (link : Nat) (fell : Bool) : (Device.retrainedWell d link fell).ph = d.ph := by simp [Device.retrainedWell, foldl_ph, apply_ite Device.ph]

@[simp] theorem Device.lit_ph (d : Device) (link : Nat) : (Device.lit d link).ph = d.ph := by simp [Device.lit]

@[simp] theorem Device.linkFresh_ph (d : Device) (link : Nat) : (Device.linkFresh d link).ph = d.ph := by simp [Device.linkFresh]

@[simp] theorem Device.dropPart_ph (d : Device) (plane src : Nat) : (Device.dropPart d plane src).ph = d.ph := by simp [Device.dropPart]

@[simp] theorem Device.planeOn_ph (d : Device) (plane : Nat) : (Device.planeOn d plane).ph = d.ph := by simp [Device.planeOn, foldl_ph, apply_ite Device.ph]

@[simp] theorem Device.retrainWrite_ph (d : Device) (l : Nat) : (Device.retrainWrite d l).ph = d.ph := by simp [Device.retrainWrite, foldl_ph, apply_ite Device.ph]

@[simp] theorem Device.marginStart_ph (d : Device) (l : Nat) : (Device.marginStart d l).ph = d.ph := by simp [Device.marginStart, foldl_ph, apply_ite Device.ph]

@[simp] theorem Device.marginOver_ph (d : Device) (link : Nat) : (Device.marginOver d link).ph = d.ph := by simp [Device.marginOver]

@[simp] theorem Device.marginShown_ph (d : Device) (link eyeW eyeH : Nat) : (Device.marginShown d link eyeW eyeH).ph = d.ph := by simp [Device.marginShown, foldl_ph, apply_ite Device.ph]

@[simp] theorem Device.spareBad_ph (d : Device) (link : Nat) (test : Bool) : (Device.spareBad d link test).ph = d.ph := by simp [Device.spareBad, foldl_ph, apply_ite Device.ph]

@[simp] theorem Device.carrierIn_ph (d : Device) (c : Nat) : (Device.carrierIn d c).ph = d.ph := by simp [Device.carrierIn]

@[simp] theorem Device.tagDone_ph (d : Device) (c : Nat) (t : Tag) : (Device.tagDone d c t).ph = d.ph := by simp [Device.tagDone]

@[simp] theorem Device.dupResponse_ph (d : Device) (c : Nat) : (Device.dupResponse d c).ph = d.ph := by simp [Device.dupResponse]

@[simp] theorem Device.poisonAgain_ph (d : Device) (carrier : Nat) (t : Tag) : (Device.poisonAgain d carrier t).ph = d.ph := by simp [Device.poisonAgain]

@[simp] theorem Device.nowQuiet_ph (d : Device) (carrier : Nat) : (Device.nowQuiet d carrier).ph = d.ph := by simp [Device.nowQuiet]

@[simp] theorem Device.quiesced_ph (d : Device) (carrier : Nat) : (d.quiesced carrier).ph = d.ph := by
  rw [Device.quiesced]
  split
  · rfl
  · split
    · rw [Device.dupResponse_ph]
    · rw [Device.nowQuiet_ph, Device.tagDone_ph]

@[simp] theorem Device.helloTake_ph (d : Device) (c : Nat) (b : Bytes) : (Device.helloTake d c b).ph = d.ph := by simp [Device.helloTake]

@[simp] theorem Device.helloNew_ph (d : Device) (carrier : Nat) (line : Bytes) : (Device.helloNew d carrier line).ph = d.ph := by simp [Device.helloNew, foldl_ph, apply_ite Device.ph]

@[simp] theorem Device.tagAgain_ph (d : Device) (carrier : Nat) (t : Tag) : (Device.tagAgain d carrier t).ph = d.ph := by simp [Device.tagAgain]

/-! ### Flits -/

@[simp] theorem Device.grant_ph (d : Device) (l vc : Nat) : (Device.grant d l vc).ph = d.ph := by simp [Device.grant]

@[simp] theorem Device.takeEntry_ph (d : Device) (b : Bytes) : (Device.takeEntry d b).ph = d.ph := by simp [Device.takeEntry, foldl_ph, apply_ite Device.ph]

@[simp] theorem Device.seqMiss_ph (d : Device) (link : Nat) : (Device.seqMiss d link).ph = d.ph := by simp [Device.seqMiss, foldl_ph, apply_ite Device.ph]

@[simp] theorem Device.seqTaken_ph (d : Device) (link : Nat) : (Device.seqTaken d link).ph = d.ph := by simp [Device.seqTaken]

/-! ### Hist -/

@[simp] theorem Device.setSpace_ph (d : Device) (c : Nat) (on : Bool) : (Device.setSpace d c on).ph = d.ph := by simp [Device.setSpace]

@[simp] theorem Device.freeLists_ph (d : Device) (c : Nat) : (d.freeLists c).ph = d.ph := by
  rw [Device.freeLists]
  exact foldl_ph _ (fun d l => Device.putList_ph d c l _) _ _

@[simp] theorem Device.enableSpace_ph (d : Device) (c : Nat) : (Device.enableSpace d c).ph = d.ph := by simp [Device.enableSpace, foldl_ph, apply_ite Device.ph]

@[simp] theorem Device.emptySpace_ph (d : Device) (c : Nat) : (Device.emptySpace d c).ph = d.ph := by simp [Device.emptySpace]

theorem Device.freeCmd_ph (d : Device) (c : Nat) (bad : Bool) (p : Nat → Bool) (f : Device → Device)
    (h : (f d).ph = d.ph) : (d.freeCmd c bad p f).ph = d.ph := by
  rw [Device.freeCmd]
  (repeat' split) <;> simp only [Device.histResult_ph, h]

@[simp] theorem Device.attnCounts_ph (d : Device) (sp u negInf empty nf : Nat) (bad : Bool) : (Device.attnCounts d sp u negInf empty nf bad).ph = d.ph := by simp [Device.attnCounts, foldl_ph, apply_ite Device.ph]

@[simp] theorem Device.histEnd_ph (d : Device) (c u : Nat) : (Device.histEnd d c u).ph = d.ph := by simp [Device.histEnd]

@[simp] theorem Device.attnForward_ph (d : Device) (c u : Nat) (b : Bytes) : (d.attnForward c u b).ph = d.ph := by
  rw [Device.attnForward]
  split
  · exact Device.xferFail_ph _ _ _ _ _
  · rename_i h
    rw [Device.histEnd_ph, Device.attnCounts_ph, Device.writeAll_ph h]

@[simp] theorem Device.attnBackward_ph (d : Device) (c u : Nat) (b : Bytes) : (d.attnBackward c u b).ph = d.ph := by
  rw [Device.attnBackward]
  split
  · exact Device.xferFail_ph _ _ _ _ _
  · rename_i h
    rw [Device.histEnd_ph, Device.attnCounts_ph, Device.writeAll_ph h]

@[simp] theorem Device.putPage_ph (d : Device) (c : Nat) (x : HistPage) (b : Bytes) : (d.putPage c x b).ph = d.ph := by
  rw [Device.putPage]
  simp only [Device.ph_mk, Device.phase_ph]
  exact Device.uniWriteD_ph d _ _

@[simp] theorem Device.makePages_ph (d : Device) (c u : Nat) (b : Bytes) : (Device.makePages d c u b).ph = d.ph := by simp [Device.makePages, foldl_ph, apply_ite Device.ph]

@[simp] theorem Device.fenceUps_ph (d : Device) (u : Nat) (b : Bytes) : (Device.fenceUps d u b).ph = d.ph := by simp [Device.fenceUps]

/-! ### HostMem -/

@[simp] theorem Device.linkEnds_ph (d : Device) (outside en : Bool) : (Device.linkEnds d outside en).ph = d.ph := by simp [Device.linkEnds]

@[simp] theorem Device.linkShown_ph (d : Device) (speed width : Nat) : (Device.linkShown d speed width).ph = d.ph := by simp [Device.linkShown]

@[simp] theorem Device.linkLost_ph (d : Device) (cause : Nat) : (Device.linkLost d cause).ph = d.ph := by simp [Device.linkLost]

@[simp] theorem Device.d2hDrop_ph (d : Device) (line : Nat) : (Device.d2hDrop d line).ph = d.ph := by simp [Device.d2hDrop]

@[simp] theorem Device.biDone_ph (d : Device) (line : Nat) : (Device.biDone d line).ph = d.ph := by simp [Device.biDone]

@[simp] theorem Device.biAgain_ph (d : Device) (line : Nat) : (Device.biAgain d line).ph = d.ph := by simp [Device.biAgain]

@[simp] theorem Device.hdmSet_ph (d : Device) (base size : Nat) : (Device.hdmSet d base size).ph = d.ph := by simp [Device.hdmSet]

@[simp] theorem Device.setIde_ph (d : Device) (v : Nat) : (Device.setIde d v).ph = d.ph := by simp [Device.setIde]

@[simp] theorem Device.doeTaken_ph (d : Device) (object : Bytes) : (Device.doeTaken d object).ph = d.ph := by simp [Device.doeTaken, foldl_ph, apply_ite Device.ph]

/-! ### SmuOps -/

@[simp] theorem Device.useFree_ph (d : Device) (n : Nat) : (Device.useFree d n).ph = d.ph := by simp [Device.useFree]

@[simp] theorem Device.setPath_ph (d : Device) (r : List (Nat × Bool × Nat)) : (Device.setPath d r).ph = d.ph := by simp [Device.setPath]

/-! ### HostReads -/

@[simp] theorem Device.dropShadow_ph (d : Device) (requester off : Nat) : (Device.dropShadow d requester off).ph = d.ph := by simp [Device.dropShadow]

/-! ### Mem -/

@[simp] theorem Device.passStart_ph (d : Device) (tile : Nat) : (Device.passStart d tile).ph = d.ph := by simp [Device.passStart]

@[simp] theorem Device.periodStart_ph (d : Device) (tile : Nat) : (Device.periodStart d tile).ph = d.ph := by simp [Device.periodStart]

@[simp] theorem Device.passLate_ph (d : Device) (tile : Nat) : (Device.passLate d tile).ph = d.ph := by simp [Device.passLate]

@[simp] theorem Device.passOver_ph (d : Device) (tile : Nat) : (Device.passOver d tile).ph = d.ph := by simp [Device.passOver]

@[simp] theorem Device.passEnd_ph (d : Device) (tile : Nat) : (Device.passEnd d tile).ph = d.ph := by simp [Device.passEnd, foldl_ph, apply_ite Device.ph]

@[simp] theorem Device.patrolAt_ph (d : Device) (tile l : Nat) : (Device.patrolAt d tile l).ph = d.ph := by simp [Device.patrolAt]

@[simp] theorem Device.spareTaken_ph (d : Device) (tile die : Nat) : (Device.spareTaken d tile die).ph = d.ph := by simp [Device.spareTaken]

@[simp] theorem Device.thermStep_ph (d : Device) (tile : Nat) (t : Int) : (Device.thermStep d tile t).ph = d.ph := by simp [Device.thermStep, foldl_ph, apply_ite Device.ph]

@[simp] theorem Device.tempTaken_ph (d : Device) (tile : Nat) (fail : Bool) (hot : Option (Nat × Int)) : (Device.tempTaken d tile fail hot).ph = d.ph := by unfold Device.tempTaken; (repeat' split) <;> simp

@[simp] theorem Device.tempsNoted_ph (d : Device) (tile : Nat) (readings : List (Option Int)) : (Device.tempsNoted d tile readings).ph = d.ph := by simp [Device.tempsNoted]

/-! ### Mgmt -/

@[simp] theorem Device.lockstepRestart_ph (d : Device) : (Device.lockstepRestart d).ph = d.ph := by simp [Device.lockstepRestart]

@[simp] theorem Device.takeEvent_ph (d : Device) : (Device.takeEvent d).1.ph = d.ph := by unfold Device.takeEvent; (repeat' split) <;> simp

@[simp] theorem Device.drainFor_ph (d : Device) (e : FaultEv) : (Device.drainFor d e).ph = d.ph := by simp [Device.drainFor, foldl_ph, apply_ite Device.ph]

@[simp] theorem Device.noteRevoke_ph (d : Device) (slot : Nat) : (Device.noteRevoke d slot).ph = d.ph := by simp [Device.noteRevoke]

@[simp] theorem Device.revoked_ph (d : Device) (p : Perm) : (Device.revoked d p).ph = d.ph := by simp [Device.revoked]

@[simp] theorem Device.pendPackage_ph (d : Device) (pkg : Bytes) (target : Nat) : (Device.pendPackage d pkg target).ph = d.ph := by simp [Device.pendPackage]

@[simp] theorem Device.offerPackage_ph (d : Device) (p : Perm) (pkg : Bytes) (len target refusal : Nat) : (Device.offerPackage d p pkg len target refusal).ph = d.ph := by simp [Device.offerPackage, foldl_ph, apply_ite Device.ph]

@[simp] theorem Device.loadFirmware_ph (d : Device) (perm : Perm) (readFails : Bool) (refusal : Nat) : (Device.loadFirmware d perm readFails refusal).ph = d.ph := by simp [Device.loadFirmware, foldl_ph, apply_ite Device.ph]

@[simp] theorem Device.testMargin_ph (d : Device) (l : Nat) : (Device.testMargin d l).ph = d.ph := by simp [Device.testMargin]

@[simp] theorem Device.testFeed_ph (d : Device) (n f : Nat) : (Device.testFeed d n f).ph = d.ph := by simp [Device.testFeed, foldl_ph, apply_ite Device.ph]

@[simp] theorem Device.testItems_ph (d : Device) : (Device.testItems d).ph = d.ph := by simp [Device.testItems, foldl_ph, apply_ite Device.ph]

@[simp] theorem Device.testLeft_ph (d : Device) (n : Nat) : (Device.testLeft d n).ph = d.ph := by simp [Device.testLeft]

@[simp] theorem Device.testOpen_ph (d : Device) : (Device.testOpen d).ph = d.ph := by simp [Device.testOpen]

@[simp] theorem Device.testClose_ph (d : Device) : (Device.testClose d).ph = d.ph := by simp [Device.testClose]

@[simp] theorem Device.smbCap_ph (d : Device) (watts : Nat) : (Device.smbCap d watts).ph = d.ph := by simp [Device.smbCap, foldl_ph, apply_ite Device.ph]

@[simp] theorem Device.alertView_ph (d : Device) : (Device.alertView d).ph = d.ph := by simp [Device.alertView, foldl_ph, apply_ite Device.ph]

@[simp] theorem Device.smbTaken_ph (d : Device) : (Device.smbTaken d).ph = d.ph := by simp [Device.smbTaken]

@[simp] theorem Device.alertOff_ph (d : Device) : (Device.alertOff d).ph = d.ph := by simp [Device.alertOff]

/-! ### Num -/

@[simp] theorem Device.tagCfgWrite_ph (d : Device) (off value : Nat) : (Device.tagCfgWrite d off value).ph = d.ph := by simp [Device.tagCfgWrite, foldl_ph, apply_ite Device.ph]

/-! ### Program -/

@[simp] theorem Device.loadErr_ph (d : Device) (cause unit : Nat) : (Device.loadErr d cause unit).ph = d.ph := by simp [Device.loadErr]

@[simp] theorem Device.loadRefused_ph (d : Device) (cause unit units : Nat) : (Device.loadRefused d cause unit units).ph = d.ph := by simp [Device.loadRefused]

@[simp] theorem Device.holdSwap_ph (d : Device) (p : Program) : (Device.holdSwap d p).ph = d.ph := by simp [Device.holdSwap]

@[simp] theorem Device.loadSound_ph (d : Device) (p : Program) (swap : Bool) : (Device.loadSound d p swap).ph = d.ph := by simp [Device.loadSound, foldl_ph, apply_ite Device.ph]

@[simp] theorem Device.loadImage_ph (d : Device) (perm : Perm) (img : Bytes) (len : Nat) (swap : Bool) : (Device.loadImage d perm img len swap).ph = d.ph := by unfold Device.loadImage; (repeat' split) <;> simp

@[simp] theorem Device.loadProgram_ph (d : Device) (perm : Perm) (readFails : Bool) : (Device.loadProgram d perm readFails).ph = d.ph := by simp [Device.loadProgram, foldl_ph, apply_ite Device.ph]

@[simp] theorem Device.unload_ph (d : Device) : (Device.unload d).ph = d.ph := by simp [Device.unload]

@[simp] theorem Device.unloadReply_ph (d : Device) : (Device.unloadReply d).ph = d.ph := by simp [Device.unloadReply, foldl_ph, apply_ite Device.ph]

/-! ### Rings -/

@[simp] theorem Device.durable_ph (d : Device) (old new : Nat) : (Device.durable d old new).ph = d.ph := by unfold Device.durable; dsimp only; (repeat' split) <;> simp_all [foldl_ph, apply_ite Device.ph]

@[simp] theorem Device.ptrWrite_ph (d : Device) (r : Nat) (producer : Bool) (value : Nat) :
    (d.ptrWrite r producer value).ph = d.ph := by
  delta Device.ptrWrite
  refine Device.access_ph _ _ _ ?_
  dsimp only
  (repeat' split) <;> simp only [Device.logAccess_ph, Device.wr_ph, Device.inc_ph, Device.durable_ph,
    Device.ringFlags_ph]

@[simp] theorem Device.modDone_ph (d : Device) (ring : Nat) : (Device.modDone d ring).ph = d.ph := by simp [Device.modDone]

@[simp] theorem Device.ringResume_ph (d : Device) (r : Nat) : (Device.ringResume d r).ph = d.ph := by unfold Device.ringResume; (repeat' split) <;> simp [foldl_ph, apply_ite Device.ph]

/-! ### Sparse -/

@[simp] theorem Device.tailDrainAsk_ph (d : Device) : (Device.tailDrainAsk d).ph = d.ph := by simp [Device.tailDrainAsk]

end Sys2Proof.Machine
end

