-- ==== Sys2Proof/Laws/Fell.lean ====
section
/-! SUPPORT. Laws of the step's phase (R28), continued: the operations that may drop the step in ADMIT (R31, R57), reset the spine or halt it (R52). -/

set_option linter.unusedSimpArgs false
set_option linter.unusedVariables false

namespace Sys2Proof.Machine

/-- The phase stays, or the step admitted is dropped. -/
def Fell (p q : Phase) : Prop := q = p ∨ (p = .admitting ∧ q = .idle)

/-- The phase stays, the spine is reset to IDLE, or it halts. -/
def Sunk (p q : Phase) : Prop := q = p ∨ q = .idle ∨ q = .halted

/-- The phase stays, or is COMMIT, IDLE or HALTED. -/
def Done (p q : Phase) : Prop := q = p ∨ q = .commit ∨ q = .idle ∨ q = .halted

@[simp] theorem Fell.refl (p : Phase) : Fell p p := .inl rfl
@[simp] theorem Sunk.refl (p : Phase) : Sunk p p := .inl rfl
@[simp] theorem Done.refl (p : Phase) : Done p p := .inl rfl

theorem Fell.trans {p q r : Phase} (a : Fell p q) (b : Fell q r) : Fell p r := by
  rcases a with rfl | ⟨rfl, rfl⟩
  · exact b
  · rcases b with rfl | ⟨c, rfl⟩
    · exact .inr ⟨rfl, rfl⟩
    · cases c

theorem Sunk.trans {p q r : Phase} (a : Sunk p q) (b : Sunk q r) : Sunk p r := by
  unfold Sunk at *
  rcases b with rfl | b
  · exact a
  · exact .inr b

theorem Fell.sunk {p q : Phase} (a : Fell p q) : Sunk p q := by
  rcases a with rfl | ⟨rfl, rfl⟩
  · exact .inl rfl
  · exact .inr (.inl rfl)

theorem Sunk.done {p q : Phase} (a : Sunk p q) : Done p q := by
  rcases a with rfl | rfl | rfl
  · exact .inl rfl
  · exact .inr (.inr (.inl rfl))
  · exact .inr (.inr (.inr rfl))

theorem Done.trans {p q r : Phase} (a : Done p q) (b : Done q r) : Done p r := by
  unfold Done at *
  rcases b with rfl | h
  · exact a
  · exact .inr h

theorem foldl_fell {α : Type} {ρ : Phase} (f : Device → α → Device) (h : ∀ d x, Fell ρ d.ph → Fell ρ (f d x).ph) (xs : List α) {d : Device}
    (g : Fell ρ d.ph) : Fell ρ (xs.foldl f d).ph := by
  induction xs generalizing d with
  | nil => exact g
  | cons x r ih => exact ih (h d x g)

theorem foldl_sunk {α : Type} {ρ : Phase} (f : Device → α → Device) (h : ∀ d x, Sunk ρ d.ph → Sunk ρ (f d x).ph) (xs : List α) {d : Device}
    (g : Sunk ρ d.ph) : Sunk ρ (xs.foldl f d).ph := by
  induction xs generalizing d with
  | nil => exact g
  | cons x r ih => exact ih (h d x g)

/-! ### Flags -/

@[simp] theorem Device.dropStep_fell {ρ : Phase} (d : Device) (hρ : Fell ρ d.ph) : Fell ρ d.dropStep.ph := by
  have : Fell d.ph d.dropStep.ph := by
    unfold Device.dropStep
    dsimp only
    split <;> split <;> simp_all [Fell]
  exact hρ.trans this

@[simp] theorem Device.haltReq_fell {ρ : Phase} (d : Device) (hρ : Fell ρ d.ph) : Fell ρ (Device.haltReq d).ph := by unfold Device.haltReq; (repeat' split) <;> simp (maxDischargeDepth := 30) [*]

/-! ### SpineOps -/

@[simp] theorem Device.commitFault_sunk {ρ : Phase} (d : Device) : Sunk ρ d.commitFault.ph := by
  have : d.commitFault.ph = .halted := by simp [Device.commitFault]
  exact .inr (.inr this)

/-! ### LinkOps -/

@[simp] theorem Device.noPlane_fell {ρ : Phase} (d : Device) (hρ : Fell ρ d.ph) : Fell ρ (Device.noPlane d).ph := by unfold Device.noPlane; (repeat' split) <;> simp (maxDischargeDepth := 30) [*]

@[simp] theorem Device.planeLeaves_fell {ρ : Phase} (d : Device) (p : Nat) (hρ : Fell ρ d.ph) : Fell ρ (Device.planeLeaves d p).ph := by unfold Device.planeLeaves; dsimp only; (repeat' split) <;> simp_all (maxDischargeDepth := 30) [foldl_ph]

@[simp] theorem Device.carrierFail_fell {ρ : Phase} (d : Device) (c : Nat) (hρ : Fell ρ d.ph) : Fell ρ (Device.carrierFail d c).ph := by unfold Device.carrierFail; dsimp only; (repeat' split) <;> simp_all (maxDischargeDepth := 30) [foldl_ph]

@[simp] theorem Device.linkOut_fell {ρ : Phase} (d : Device) (l : Nat) (hρ : Fell ρ d.ph) : Fell ρ (d.linkOut l).ph := by
  unfold Device.linkOut
  split
  · dsimp only
    simp (maxDischargeDepth := 30) [hρ]
  · simp (maxDischargeDepth := 30) [hρ]

@[simp] theorem Device.linkFault_fell {ρ : Phase} (d : Device) (l : Nat) (hρ : Fell ρ d.ph) : Fell ρ (Device.linkFault d l).ph := by unfold Device.linkFault; dsimp only; (repeat' split) <;> simp (maxDischargeDepth := 30) [*]

@[simp] theorem Device.replayFrom_fell {ρ : Phase} (d : Device) (l seq : Nat) (hρ : Fell ρ d.ph) : Fell ρ (Device.replayFrom d l seq).ph := by unfold Device.replayFrom; dsimp only; (repeat' split) <;> simp_all (maxDischargeDepth := 30) [foldl_ph]

@[simp] theorem Device.engineOff_fell {ρ : Phase} (d : Device) (n : Nat) (hρ : Fell ρ d.ph) : Fell ρ (d.engineOff n).ph := by
  refine foldl_fell _ (fun d x h => ?_) _ hρ
  split <;> simp (maxDischargeDepth := 30) [h]

/-! ### PwrOps -/

@[simp] theorem Device.resetDomain_sunk {ρ : Phase} (d : Device) (n : Nat) (hρ : Sunk ρ d.ph) : Sunk ρ (d.resetDomain n).ph := by
  have : Sunk d.ph (d.resetDomain n).ph := by
    unfold Device.resetDomain
    dsimp only
    split
    · simp
    · split
      · simp [foldl_ph]
      · split
        · simp [foldl_ph]
        · split
          · rw [foldl_ph]
            · simp
            · intro d x; split <;> simp
          · split <;> simp [Sunk]
  exact hρ.trans this

@[simp] theorem Device.tryStart_sunk {ρ : Phase} (d : Device) (n : Nat) (hρ : Sunk ρ d.ph) : Sunk ρ (Device.tryStart d n).ph := by unfold Device.tryStart; (repeat' split) <;> simp (maxDischargeDepth := 30) [*]

@[simp] theorem Device.settle_sunk {ρ : Phase} (d : Device) (hρ : Sunk ρ d.ph) : Sunk ρ d.settle.ph := by
  unfold Device.settle
  rw [Device.raiseRails_ph]
  exact foldl_sunk _ (fun d x h => Device.tryStart_sunk d x h) _ hρ

@[simp] theorem Device.stopOrderly_sunk {ρ : Phase} (d : Device) (n : Nat) (hρ : Sunk ρ d.ph) : Sunk ρ (d.stopOrderly n).ph := by
  have : Fell d.ph (d.stopOrderly n).ph := by
    unfold Device.stopOrderly
    split
    · simp
    · dsimp only
      split
      · simp
      · split
        · exact Device.engineOff_fell _ _ (by simp)
        · simp
  exact hρ.trans this.sunk

@[simp] theorem Device.stopEmergency_sunk {ρ : Phase} (d : Device) (n err : Nat) (hρ : Sunk ρ d.ph) : Sunk ρ (d.stopEmergency n err).ph := by
  unfold Device.stopEmergency
  dsimp only
  split
  · simpa using hρ
  · split
    · split
      · exact Device.commitFault_sunk _
      · simpa using hρ
    · split
      · exact Device.commitFault_sunk _
      · split
        · exact hρ.trans (Fell.sunk (Device.engineOff_fell _ _ (by simp)))
        · simpa using hρ

@[simp] theorem Device.standbyNext_sunk {ρ : Phase} (d : Device) (hρ : Sunk ρ d.ph) : Sunk ρ d.standbyNext.ph := by
  unfold Device.standbyNext
  dsimp only
  split
  · exact hρ
  · split
    · exact foldl_sunk _ (fun d x h => Device.stopOrderly_sunk d x h) _ hρ
    · (repeat' split) <;> simp (maxDischargeDepth := 30) [hρ]

@[simp] theorem Device.startFail_sunk {ρ : Phase} (d : Device) (cause err : Nat) (hρ : Sunk ρ d.ph) : Sunk ρ (d.startFail cause err).ph := by
  unfold Device.startFail
  dsimp only
  refine Device.settle_sunk _ ?_
  rw [Device.lowerRails_ph, Device.setEn_ph]
  refine foldl_sunk _ (fun d x h => ?_) _ (by simpa using hρ)
  simp (maxDischargeDepth := 30) [h]

@[simp] theorem Device.railFault_sunk {ρ : Phase} (d : Device) (r cause : Nat) (hρ : Sunk ρ d.ph) : Sunk ρ (d.railFault r cause).ph := by
  have h : ∀ (l : List Nat) (e : Device), e.ph = d.ph → Sunk ρ (l.foldl (fun d n => d.stopEmergency n 2) e).ph := fun l e he =>
    foldl_sunk _ (fun d x h => Device.stopEmergency_sunk d x 2 h) _ (he ▸ hρ)
  unfold Device.railFault
  dsimp only
  generalize (if r = 0 then [2, 3, 4, 5] else if r = 1 then [6, 7, 8, 9] else if r = 8 then [14, 15, 16, 17] else switchable) = l
  split
  · exact Device.startFail_sunk _ _ _ (h _ _ (by simp))
  · exact Device.settle_sunk _ (h _ _ (by simp))

/-! ### MemOps -/

@[simp] theorem Device.lastingLine_fell {ρ : Phase} (d : Device) (tile line : Nat) (hρ : Fell ρ d.ph) : Fell ρ (Device.lastingLine d tile line).ph := by unfold Device.lastingLine; (repeat' split) <;> simp (maxDischargeDepth := 30) [*]

@[simp] theorem Device.secondRead_fell {ρ : Phase} (d : Device) (giv : Bool) (tile line : Nat) (bad2 : List Nat) (hρ : Fell ρ d.ph) : Fell ρ (Device.secondRead d giv tile line bad2).ph := by unfold Device.secondRead; dsimp only; (repeat' split) <;> simp (maxDischargeDepth := 30) [*]

@[simp] theorem Device.read0_fell {ρ : Phase} (d : Device) (giv : Bool) (tile line : Nat) (bad1 bad2 : List Nat) (hρ : Fell ρ d.ph) : Fell ρ (Device.read0 d giv tile line bad1 bad2).ph := by unfold Device.read0; dsimp only; (repeat' split) <;> simp (maxDischargeDepth := 30) [*]

@[simp] theorem Device.detected_fell {ρ : Phase} (d : Device) (tile line : Nat) (reader : Reader) (hρ : Fell ρ d.ph) : Fell ρ (Device.detected d tile line reader).ph := by unfold Device.detected; dsimp only; (repeat' split) <;> simp (maxDischargeDepth := 30) [*]

@[simp] theorem Device.read1_fell {ρ : Phase} (d : Device) (tile line : Nat) (reader : Reader) (bad1 : List Nat) (hρ : Fell ρ d.ph) : Fell ρ (Device.read1 d tile line reader bad1).ph := by unfold Device.read1; dsimp only; (repeat' split) <;> simp (maxDischargeDepth := 30) [*]

/-! ### CollOps -/

@[simp] theorem Device.badMsg_fell {ρ : Phase} (d : Device) (m : Bytes) (cause : Nat) (hρ : Fell ρ d.ph) : Fell ρ (Device.badMsg d m cause).ph := by unfold Device.badMsg; dsimp only; (repeat' split) <;> simp (maxDischargeDepth := 30) [*]

@[simp] theorem Device.receive_fell {ρ : Phase} (d : Device) (ty : Nat) (m : Bytes) (h : Device → Device) (hh : ∀ d, Fell ρ d.ph → Fell ρ (h d).ph) (hρ : Fell ρ d.ph) :
    Fell ρ (d.receive ty m h).ph := by
  unfold Device.receive
  dsimp only
  (repeat' split) <;> first | (simp (maxDischargeDepth := 30) [hρ]; done) | exact hh _ (by simpa using hρ)

@[simp] theorem Device.atStep_fell {ρ : Phase} (d : Device) (m : Bytes) (h : Device → Device) (hh : ∀ d, Fell ρ d.ph → Fell ρ (h d).ph) (hρ : Fell ρ d.ph) :
    Fell ρ (d.atStep m h).ph := by
  unfold Device.atStep
  split
  · exact hh d hρ
  · split <;> simpa using hρ

/-! ### DmaOps -/

/-- What a line's move leaves of the phase. -/
def LineEnd.Ends (ρ : Phase) : LineEnd → Prop
  | .moved d => Fell ρ d.ph
  | .failed d => Fell ρ d.ph
  | .sentBack d => Fell ρ d.ph
  | .held => True

theorem Device.dmaPut_fell {ρ : Phase} (d : Device) (a : Nat) (b : Bytes) (p : Bool) (hρ : Fell ρ d.ph) : (d.dmaPut a b p).Ends ρ := by
  unfold Device.dmaPut
  split
  · exact hρ
  · rename_i e h
    have := Device.uniWrite_ph h
    dsimp only
    show Fell ρ _
    split <;> simpa [this] using hρ

theorem Device.chanMeets_fell {ρ : Phase} (d : Device) (u : Option Nat) (x : Option (Nat × Nat)) (hρ : Fell ρ d.ph) : Fell ρ (d.chanMeets u x).ph := by
  cases x with
  | none => exact hρ
  | some x => exact Device.detected_fell _ _ _ _ hρ

@[simp] theorem Device.chanFence_ph (d : Device) (a : Nat) (u : Option Nat) : (d.chanFence a u).ph = d.ph := by
  cases u with
  | none => rfl
  | some u => exact Device.fenceRead_ph ..


theorem Device.readLine_fell {ρ : Phase} (d : Device) (h : Channel) (a n : Nat) (f : Device → Bytes → Bool → LineEnd)
    (hf : ∀ d b p, Fell ρ d.ph → (f d b p).Ends ρ) (hρ : Fell ρ d.ph) : (d.readLine h a n f).Ends ρ := by
  have g := Device.chanMeets_fell d h.unit (d.detectedAt a n) hρ
  unfold Device.readLine
  dsimp only
  split
  · exact hρ
  · generalize d.chanMeets h.unit (d.detectedAt a n) = e at g
    (repeat' split) <;> first
      | trivial
      | exact g
      | (refine hf _ _ _ ?_; rw [Device.uniAsk_ph, Device.chanFence_ph]; exact g)

theorem Device.walkLine_fell {ρ : Phase} (d : Device) (e c : Nat) (h : Channel) (hρ : Fell ρ d.ph) : (d.walkLine e c h).Ends ρ := by
  unfold Device.walkLine
  dsimp only
  split
  · exact hρ
  · split
    · have g := Device.dmaPut_fell d ‹_› (zeroBytes 64) false hρ
      split
      · rename_i e' x
        rw [x] at g
        show Fell ρ _
        have g : Fell ρ e'.ph := g
        split <;> simpa using g
      · exact g
    · exact Device.readLine_fell _ _ _ _ _ (fun d b p k => Device.dmaPut_fell d _ b p k) hρ

theorem Device.moveLine_fell {ρ : Phase} (d : Device) (e c : Nat) (h : Channel) (hρ : Fell ρ d.ph) : (d.moveLine e c h).Ends ρ := by
  unfold Device.moveLine
  dsimp only
  split
  · exact Device.walkLine_fell d e c h hρ
  · split
    · exact hρ
    · split
      · exact Device.dmaPut_fell d _ _ _ hρ
      · split
        · exact hρ
        · refine Device.readLine_fell _ _ _ _ _ (fun d b p k => ?_) hρ
          split
          · exact Device.dmaPut_fell _ _ _ _ k
          · split
            · exact k
            · show Fell ρ _
              simpa using k

theorem Device.moveLines_fell {ρ : Phase} (e c n : Nat) (fail : Option Nat) (d : Device) (hρ : Fell ρ d.ph) :
    Fell ρ (Device.moveLines e c n fail d).ph := by
  induction n generalizing fail d with
  | zero => exact hρ
  | succ n ih =>
    unfold Device.moveLines
    have g : (if fail = some 0 then LineEnd.failed d else d.moveLine e c (d.chan e c)).Ends ρ := by
      split
      · exact hρ
      · exact Device.moveLine_fell d e c _ hρ
    split
    all_goals (try rename_i x; rw [x] at g)
    · exact ih _ _ (by simpa using (show Fell ρ _ from g))
    · simpa using (show Fell ρ _ from g)
    · simpa using (show Fell ρ _ from g)
    · exact hρ

@[simp] theorem Device.runDesc_fell {ρ : Phase} (d : Device) (e c op : Nat) (fail : Option Nat) (hρ : Fell ρ d.ph) : Fell ρ (d.runDesc e c op fail).ph := by
  unfold Device.runDesc
  dsimp only
  split
  · exact hρ
  · exact Device.moveLines_fell _ _ _ _ _ hρ

/-! ### Tier -/

@[simp] theorem Device.moveLost_fell {ρ : Phase} (d : Device) (n r : Nat) (hρ : Fell ρ d.ph) : Fell ρ (Device.moveLost d n r).ph := by unfold Device.moveLost; dsimp only; (repeat' split) <;> simp (maxDischargeDepth := 30) [*]

/-! ### HistOps -/

@[simp] theorem Device.badRead_fell {ρ : Phase} (d : Device) (c u : Nat) (r : Nat × Nat) (hρ : Fell ρ d.ph) : Fell ρ (Device.badRead d c u r).ph := by unfold Device.badRead; (repeat' split) <;> simp (maxDischargeDepth := 30) [*]

@[simp] theorem Device.withReads_fell {ρ : Phase} (d : Device) (c u : Nat) (rs : List (Nat × Nat)) (f : Device → Device) (hf : ∀ d, Fell ρ d.ph → Fell ρ (f d).ph) (hρ : Fell ρ d.ph) :
    Fell ρ (d.withReads c u rs f).ph := by
  unfold Device.withReads
  split
  · exact Device.badRead_fell _ _ _ _ hρ
  · exact hf _ (by rw [foldl_ph _ fun d x => by simp]; exact hρ)

/-! ### Power -/

@[simp] theorem Device.enableDoms_sunk {ρ : Phase} (d : Device) (value : Nat) (hρ : Sunk ρ d.ph) : Sunk ρ (d.enableDoms value).ph := by
  unfold Device.enableDoms
  refine Device.settle_sunk _ (by rw [foldl_ph _ fun d x => by simp]; exact hρ)

@[simp] theorem Device.disableDom_sunk {ρ : Phase} (d : Device) (n : Nat) (hρ : Sunk ρ d.ph) : Sunk ρ (Device.disableDom d n).ph := by unfold Device.disableDom; dsimp only; (repeat' split) <;> simp (maxDischargeDepth := 30) [*]

@[simp] theorem Device.disableDoms_sunk {ρ : Phase} (d : Device) (value : Nat) (hρ : Sunk ρ d.ph) : Sunk ρ (d.disableDoms value).ph := by
  unfold Device.disableDoms
  exact foldl_sunk _ (fun d n h => Device.disableDom_sunk _ _ h) _ hρ

@[simp] theorem Device.domainOff_sunk {ρ : Phase} (d : Device) (n : Nat) (hρ : Sunk ρ d.ph) : Sunk ρ (Device.domainOff d n).ph := by unfold Device.domainOff; (repeat' split) <;> simp (maxDischargeDepth := 30) [*]

@[simp] theorem Device.railDown_sunk {ρ : Phase} (d : Device) (r : Nat) (hρ : Sunk ρ d.ph) : Sunk ρ (Device.railDown d r).ph := by unfold Device.railDown; (repeat' split) <;> simp (maxDischargeDepth := 30) [*]

@[simp] theorem Device.avsDone_sunk {ρ : Phase} (d : Device) (bus : Nat) (x : AvsReq) (mv : Nat) (hρ : Sunk ρ d.ph) : Sunk ρ (Device.avsDone d bus x mv).ph := by unfold Device.avsDone; dsimp only; (repeat' split) <;> simp (maxDischargeDepth := 30) [*]

@[simp] theorem Device.avsFail_sunk {ρ : Phase} (d : Device) (bus : Nat) (hρ : Sunk ρ d.ph) : Sunk ρ (Device.avsFail d bus).ph := by unfold Device.avsFail; (repeat' split) <;> simp (maxDischargeDepth := 30) [*]

@[simp] theorem Device.avsHeard_sunk {ρ : Phase} (d : Device) (bus : Nat) (q : List AvsReq) (vdone good : Bool) (mv : Nat) (hρ : Sunk ρ d.ph) : Sunk ρ (Device.avsHeard d bus q vdone good mv).ph := by unfold Device.avsHeard; (repeat' split) <;> simp (maxDischargeDepth := 30) [*]

@[simp] theorem Device.enterStandby_sunk {ρ : Phase} (d : Device) (hρ : Sunk ρ d.ph) : Sunk ρ (Device.enterStandby d).ph := by unfold Device.enterStandby; (repeat' split) <;> simp (maxDischargeDepth := 30) [*]

@[simp] theorem Device.wake_sunk {ρ : Phase} (d : Device) (cause : Nat) (hρ : Sunk ρ d.ph) : Sunk ρ (Device.wake d cause).ph := by unfold Device.wake; dsimp only; (repeat' split) <;> simp_all (maxDischargeDepth := 30) [foldl_ph]

@[simp] theorem Device.trip_sunk {ρ : Phase} (d : Device) (hρ : Sunk ρ d.ph) : Sunk ρ d.trip.ph := by
  unfold Device.trip
  exact foldl_sunk _ (fun d n h => Device.stopEmergency_sunk _ _ _ h) _ (by simpa using hρ)

@[simp] theorem Device.resumeStep6_sunk {ρ : Phase} (d : Device) (hρ : Sunk ρ d.ph) : Sunk ρ (Device.resumeStep6 d).ph := by unfold Device.resumeStep6; dsimp only; (repeat' split) <;> simp_all (maxDischargeDepth := 30) [foldl_ph]

@[simp] theorem Device.tripClear_sunk {ρ : Phase} (d : Device) (hρ : Sunk ρ d.ph) : Sunk ρ (Device.tripClear d).ph := by unfold Device.tripClear; (repeat' split) <;> simp (maxDischargeDepth := 30) [*]

/-! ### Boot -/

@[simp] theorem Device.startRun_sunk {ρ : Phase} (d : Device) (p : Perm) (b : BootRead) (hρ : Sunk ρ d.ph) : Sunk ρ (d.startRun p b).ph := by
  unfold Device.startRun
  dsimp only
  (repeat' split) <;> first | (simp (maxDischargeDepth := 30) [hρ]; done) | skip
  rename_i e
  have := Device.loadConfig_ph e
  simp (maxDischargeDepth := 30) [hρ, this]

theorem Device.wholeReset_ph (d : Device) (cause : Nat) : (d.wholeReset cause).ph = .idle := by
  unfold Device.wholeReset
  dsimp only
  rw [Device.wr_ph, Device.ph_mk]
  rfl

/-! ### Coll -/

@[simp] theorem Device.joinBegin_fell {ρ : Phase} (d : Device) (b : Bytes) (ranks : List Nat) (hρ : Fell ρ d.ph) : Fell ρ (d.joinBegin b ranks).ph := by
  unfold Device.joinBegin
  dsimp only
  split
  · refine foldl_fell _ (fun d x h => Device.receive_fell _ _ _ _ (fun d h => by simpa using h) h) _ (by simpa using hρ)
  · simpa using hρ

@[simp] theorem Device.joinMsg_fell {ρ : Phase} (d : Device) (msg : Bytes) (hρ : Fell ρ d.ph) : Fell ρ (d.joinMsg msg).ph := by
  unfold Device.joinMsg
  split
  · simpa using hρ
  · refine Device.receive_fell _ _ _ _ (fun d h => ?_) hρ
    (repeat' split) <;> simpa using h

@[simp] theorem Device.joinOutcome_fell {ρ : Phase} (d : Device) (msg : Bytes) (hρ : Fell ρ d.ph) : Fell ρ (d.joinOutcome msg).ph := by
  unfold Device.joinOutcome
  refine Device.receive_fell _ _ _ _ (fun d h => ?_) hρ
  (repeat' split) <;> simpa using h

@[simp] theorem Device.shardTag_fell {ρ : Phase} (d : Device) (member entry block : Nat) (hρ : Fell ρ d.ph) : Fell ρ (Device.shardTag d member entry block).ph := by unfold Device.shardTag; dsimp only; (repeat' split) <;> simp (maxDischargeDepth := 30) [*]


@[simp] theorem Device.sendShard_ph (d : Device) (dst e b : Nat) (y : Option Bytes) : (d.sendShard dst e b y).ph = d.ph := by
  cases y with
  | none => rfl
  | some y => exact Device.sendParts_ph ..

@[simp] theorem Device.takeShardReq_fell {ρ : Phase} (d : Device) (m : Bytes) (hρ : Fell ρ d.ph) : Fell ρ (Device.takeShardReq d m).ph := by
  unfold Device.takeShardReq
  dsimp only
  rw [Device.sendShard_ph, Device.fenceShard_ph]
  exact Device.shardTag_fell _ _ _ _ hρ

@[simp] theorem Device.afterStep_fell {ρ : Phase} (d : Device) (m : Bytes) (h : Device → Device) (hh : ∀ d, Fell ρ d.ph → Fell ρ (h d).ph) (hρ : Fell ρ d.ph) :
    Fell ρ (d.afterStep m h).ph := by
  unfold Device.afterStep
  split
  · exact hh d hρ
  · simpa using hρ

@[simp] theorem Device.takeMsg_fell {ρ : Phase} (d : Device) (m : Bytes) (hρ : Fell ρ d.ph) : Fell ρ (d.takeMsg m).ph := by
  unfold Device.takeMsg
  split <;> first | exact Device.atStep_fell _ _ _ (fun d h => by simp (maxDischargeDepth := 30) [h]) hρ | exact Device.afterStep_fell _ _ _ (fun d h => by simp (maxDischargeDepth := 30) [h]) hρ | simp (maxDischargeDepth := 30) [hρ]

@[simp] theorem Device.drainInbox_fell {ρ : Phase} (d : Device) (hρ : Fell ρ d.ph) : Fell ρ d.drainInbox.ph := by
  exact foldl_fell _ (fun d x h => Device.takeMsg_fell d x h) _ (by simpa using hρ)

@[simp] theorem Device.nacked_fell {ρ : Phase} (d : Device) (msg : Bytes) (hρ : Fell ρ d.ph) : Fell ρ (d.nacked msg).ph := by
  unfold Device.nacked
  refine Device.receive_fell _ _ _ _ (fun d h => ?_) hρ
  simpa using h

@[simp] theorem Device.arrive_fell {ρ : Phase} (d : Device) (m : Bytes) (hρ : Fell ρ d.ph) : Fell ρ (d.arrive m).ph := by
  unfold Device.arrive
  (repeat' split) <;> first | (simp (maxDischargeDepth := 30) [hρ]; done) | exact Device.receive_fell _ _ _ _ (fun d h => Device.takeMsg_fell d _ h) hρ

theorem Device.sendStage_ph {d e : Device} {a : Bytes} (h : d.sendStage a = some e) : e.ph = d.ph := by
  unfold Device.sendStage at h
  rw [Option.map_eq_some_iff] at h
  obtain ⟨b, -, h⟩ := h
  split at h <;> cases h
  · rfl
  · exact Device.sendParts_ph ..

theorem Device.fetchShard_fell {ρ : Phase} {d : Device} {u : Nat} {a : Bytes} {r : Device × Bool} (h : d.fetchShard u a = some r) (hρ : Fell ρ d.ph) :
    Fell ρ r.1.ph := by
  unfold Device.fetchShard at h
  dsimp only at h
  split at h
  · rw [Option.bind_eq_some_iff] at h
    obtain ⟨b, -, h⟩ := h
    rw [Option.map_eq_some_iff] at h
    obtain ⟨e, h, rfl⟩ := h
    rw [Device.uniWrite_ph h, Device.fenceShard_ph]
    exact Device.shardTag_fell _ _ _ _ hρ
  · cases h
    simpa using hρ

@[simp] theorem Device.stepStart_fell {ρ : Phase} (d : Device) (u : Nat) (a : Bytes) (hρ : Fell ρ d.ph) : Fell ρ (d.stepStart u a).ph := by
  unfold Device.stepStart
  split
  · split
    · rename_i h
      simpa [Device.sendStage_ph h] using hρ
    · simpa using hρ
  · split <;> simpa using hρ
  · split
    · rename_i h
      have := Device.fetchShard_fell h hρ
      simpa using this
    · rename_i h
      exact Device.fetchShard_fell h hρ
    · simpa using hρ

@[simp] theorem Device.stepMove_fell {ρ : Phase} (d : Device) (u : Nat) (a : Bytes) (hρ : Fell ρ d.ph) : Fell ρ (Device.stepMove d u a).ph := by unfold Device.stepMove; (repeat' split) <;> simp (maxDischargeDepth := 30) [*]

/-! ### CommitOps -/

@[simp] theorem Device.commitEntry_done {ρ : Phase} (d : Device) (skip : Bool) (hρ : Done ρ d.ph) : Done ρ (d.commitEntry skip).ph := by
  unfold Device.commitEntry
  dsimp only
  split
  · exact .inr (.inl (by simp))
  · refine .inr (.inl ?_)
    rw [foldl_ph _ fun d x => by simp]
    simp

theorem foldl_sums {α : Type} (f : Sums → α → Sums) (h : ∀ x a, (f x a).1.ph = x.1.ph) (l : List α) (x : Sums) :
    (l.foldl f x).1.ph = x.1.ph := by
  induction l generalizing x with
  | nil => rfl
  | cons a r ih => exact (ih _).trans (h x a)

theorem noteUpdate_ph (x : Sums) (tag : Nat) (g : List Nat) (u : Updated) : (noteUpdate x tag g u).1.ph = x.1.ph := by
  simp only [noteUpdate, Device.countNf_ph, Device.countSat_ph]

theorem updateOwned_ph (s : Nat) (x : Sums) (t r : Nat) (root : List Nat) : (updateOwned s x t r root).1.ph = x.1.ph := by
  unfold updateOwned
  dsimp only
  split
  · rfl
  · simp only [noteUpdate_ph, Device.countUpdate_ph, Device.putRecord_ph, Device.askLoc_ph]

theorem updateReplica_ph (s : Nat) (x : Sums) (t r : Nat) (root : List Nat) : (updateReplica s x t r root).1.ph = x.1.ph := by
  unfold updateReplica
  dsimp only
  split
  · rfl
  · split
    · rfl
    · simp only [noteUpdate_ph, Device.countUpdate_ph, Device.bumpVersion_ph, Device.writeKey_ph]

theorem actionRows_ph (s : Nat) (x : Sums) : (actionRows s x).1.ph = x.1.ph := by
  unfold actionRows
  exact (foldl_sums _ (fun x e => updateReplica_ph ..) _ _).trans (foldl_sums _ (fun x r => updateOwned_ph ..) _ _)

theorem updateDense_ph (s : Nat) (x : Sums) (i : Nat) : (updateDense s x i).1.ph = x.1.ph := by
  unfold updateDense
  dsimp only
  split
  · rfl
  · dsimp only
    rw [Device.putDenseHeader_ph]
    exact foldl_sums _ (fun x part => by simp only [noteUpdate_ph, Device.denseUpdate_ph]) _ _

theorem actionDense_ph (s : Nat) (x : Sums) : (actionDense s x).1.ph = x.1.ph :=
  foldl_sums _ (updateDense_ph s) _ _

@[simp] theorem Device.actions123_done {ρ : Phase} (d : Device) (hρ : Done ρ d.ph) : Done ρ d.actions123.ph := by
  unfold Device.actions123
  dsimp only
  split
  · exact (Device.commitFault_sunk _).done
  · split
    · exact (Device.commitFault_sunk _).done
    · simpa [actionRows_ph, actionDense_ph] using hρ

@[simp] theorem Device.haltOutcome_fell {ρ : Phase} (d : Device) (m : Bytes) (hρ : Fell ρ d.ph) : Fell ρ (d.haltOutcome m).ph := by
  unfold Device.haltOutcome
  dsimp only
  (repeat' split) <;> simp (maxDischargeDepth := 30) [hρ]

/-- A step's end leaves the spine in IDLE (R28). -/
theorem Device.toIdle_ph (d : Device) : d.toIdle.ph = .idle := by
  have h : Fell .idle d.toIdle.ph := by
    unfold Device.toIdle
    dsimp only
    split <;> simp (maxDischargeDepth := 30)
  rcases h with h | ⟨h, -⟩
  · exact h
  · cases h

@[simp] theorem Device.toIdle_done {ρ : Phase} (d : Device) : Done ρ d.toIdle.ph := .inr (.inr (.inl d.toIdle_ph))

@[simp] theorem Device.endColl_fell {ρ : Phase} (d : Device) (step : Nat) (hρ : Fell ρ d.ph) : Fell ρ (d.endColl step).ph := by
  unfold Device.endColl
  dsimp only
  simp (maxDischargeDepth := 30) [hρ]

@[simp] theorem Device.finish_done {ρ : Phase} (d : Device) (skip : Bool) (hρ : Done ρ d.ph) : Done ρ (Device.finish d skip).ph := by unfold Device.finish; (repeat' split) <;> simp (maxDischargeDepth := 30) [*]

@[simp] theorem Device.commitRun_done {ρ : Phase} (d : Device) (skip : Bool) (hρ : Done ρ d.ph) : Done ρ (Device.commitRun d skip).ph := by unfold Device.commitRun; dsimp only; (repeat' split) <;> simp (maxDischargeDepth := 30) [*]

@[simp] theorem Device.commitStep_done {ρ : Phase} (d : Device) (skip : Bool) (hρ : Done ρ d.ph) : Done ρ (Device.commitStep d skip).ph := by unfold Device.commitStep; dsimp only; (repeat' split) <;> simp (maxDischargeDepth := 30) [*]

/-! ### DomainOn -/

@[simp] theorem Device.onReached_sunk {ρ : Phase} (d : Device) (n : Nat) (hρ : Sunk ρ d.ph) : Sunk ρ (Device.onReached d n).ph := by unfold Device.onReached; dsimp only; (repeat' split) <;> simp (maxDischargeDepth := 30) [*]

@[simp] theorem Device.domainUp_sunk {ρ : Phase} (d : Device) (n : Nat) (bad : List (Nat × Nat)) (hρ : Sunk ρ d.ph) : Sunk ρ (Device.domainUp d n bad).ph := by unfold Device.domainUp; (repeat' split) <;> simp (maxDischargeDepth := 30) [*]

/-! ### Links -/

@[simp] theorem Device.laneFails_fell {ρ : Phase} (d : Device) (l : Nat) (lanes : List Nat) (hρ : Fell ρ d.ph) : Fell ρ (Device.laneFails d l lanes).ph := by unfold Device.laneFails; (repeat' split) <;> simp (maxDischargeDepth := 30) [*]

@[simp] theorem Device.spareShown_fell {ρ : Phase} (d : Device) (link lane : Nat) (hρ : Fell ρ d.ph) : Fell ρ (Device.spareShown d link lane).ph := by unfold Device.spareShown; dsimp only; (repeat' split) <;> simp (maxDischargeDepth := 30) [*]

@[simp] theorem Device.planeOut_fell {ρ : Phase} (d : Device) (link : Nat) (hρ : Fell ρ d.ph) : Fell ρ (Device.planeOut d link).ph := by unfold Device.planeOut; (repeat' split) <;> simp (maxDischargeDepth := 30) [*]

@[simp] theorem Device.planeOff_fell {ρ : Phase} (d : Device) (plane : Nat) (hρ : Fell ρ d.ph) : Fell ρ (Device.planeOff d plane).ph := by unfold Device.planeOff; (repeat' split) <;> simp (maxDischargeDepth := 30) [*]

@[simp] theorem Device.twicePoison_fell {ρ : Phase} (d : Device) (c : Nat) (t : Tag) (hρ : Fell ρ d.ph) : Fell ρ (Device.twicePoison d c t).ph := by unfold Device.twicePoison; dsimp only; (repeat' split) <;> simp_all (maxDischargeDepth := 30) [foldl_ph]

@[simp] theorem Device.readDone_fell {ρ : Phase} (d : Device) (carrier tag status : Nat) (hρ : Fell ρ d.ph) : Fell ρ (Device.readDone d carrier tag status).ph := by unfold Device.readDone; (repeat' split) <;> simp (maxDischargeDepth := 30) [*]

@[simp] theorem Device.writeDone_fell {ρ : Phase} (d : Device) (carrier tag status : Nat) (hρ : Fell ρ d.ph) : Fell ρ (Device.writeDone d carrier tag status).ph := by unfold Device.writeDone; (repeat' split) <;> simp (maxDischargeDepth := 30) [*]

@[simp] theorem Device.helloBack_fell {ρ : Phase} (d : Device) (carrier : Nat) (line : Bytes) (hρ : Fell ρ d.ph) : Fell ρ (Device.helloBack d carrier line).ph := by unfold Device.helloBack; dsimp only; (repeat' split) <;> simp (maxDischargeDepth := 30) [*]

@[simp] theorem Device.hello_fell {ρ : Phase} (d : Device) (carrier : Nat) (line : Bytes) (hρ : Fell ρ d.ph) : Fell ρ (Device.hello d carrier line).ph := by unfold Device.hello; dsimp only; (repeat' split) <;> simp (maxDischargeDepth := 30) [*]

/-! ### Flits -/

@[simp] theorem Device.reassemble_fell {ρ : Phase} (d : Device) (l : Nat) (b : Bytes) (hρ : Fell ρ d.ph) : Fell ρ (Device.reassemble d l b).ph := by unfold Device.reassemble; dsimp only; (repeat' split) <;> simp (maxDischargeDepth := 30) [*]

@[simp] theorem Device.takeFlit_fell {ρ : Phase} (d : Device) (l : Nat) (b : Bytes) (hρ : Fell ρ d.ph) : Fell ρ (Device.takeFlit d l b).ph := by unfold Device.takeFlit; (repeat' split) <;> simp (maxDischargeDepth := 30) [*]

/-! ### Hist -/

@[simp] theorem Device.attend_fell {ρ : Phase} (d : Device) (c u : Nat) (b : Bytes) (f : Device → Device) (hf : ∀ d, Fell ρ d.ph → Fell ρ (f d).ph) (hρ : Fell ρ d.ph) :
    Fell ρ (d.attend c u b f).ph := by
  unfold Device.attend
  refine Device.withReads_fell _ _ _ _ _ (fun d h => ?_) hρ
  (repeat' split) <;> first | (simp (maxDischargeDepth := 30) [h]; done) | skip
  exact Device.withReads_fell _ _ _ _ _ (fun d h => hf _ (by simp (maxDischargeDepth := 30) [h])) h

@[simp] theorem Device.histUnit_fell {ρ : Phase} (d : Device) (c op : Nat) (f : Device → Nat → Bytes → Device) (hf : ∀ d u b, Fell ρ d.ph → Fell ρ (f d u b).ph) (hρ : Fell ρ d.ph) :
    Fell ρ (d.histUnit c op f).ph := by
  unfold Device.histUnit
  split
  · exact hρ
  · split
    · exact hρ
    · refine Device.withReads_fell _ _ _ _ _ (fun d h => ?_) hρ
      dsimp only
      (repeat' split) <;> first | exact hf _ _ _ h | simp (maxDischargeDepth := 30) [h]

/-! ### Mem -/

@[simp] theorem Device.copyLost_fell {ρ : Phase} (d : Device) (tile line : Nat) (hρ : Fell ρ d.ph) : Fell ρ (Device.copyLost d tile line).ph := by unfold Device.copyLost; (repeat' split) <;> simp (maxDischargeDepth := 30) [*]

@[simp] theorem Device.copyEnd_fell {ρ : Phase} (d : Device) (tile die : Nat) (lost : List Nat) (hρ : Fell ρ d.ph) :
    Fell ρ (d.copyEnd tile die lost).ph := by
  unfold Device.copyEnd
  dsimp only
  rw [Device.log_ph, Device.raise_ph, Device.spareTaken_ph, Device.setTile_ph]
  exact foldl_fell _ (fun d x h => Device.copyLost_fell _ _ _ h) _ (by rw [foldl_ph _ fun d x => by simp]; exact hρ)

end Sys2Proof.Machine
end

