-- ==== Sys2Proof/Laws/State.lean ====
section
/-! SUPPORT. Laws of the state: what each elementary operation leaves in each part of the units, so that no later proof unfolds a
record update, and what the elementary operations read back. -/

namespace Sys2Proof.Machine

@[simp] theorem Device.setReg_mem (d : Device) (k : Nat) (v : Word) : (d.setReg k v).mem = d.mem := id rfl
@[simp] theorem Device.setReg_poison (d : Device) (k : Nat) (v : Word) : (d.setReg k v).poison = d.poison := id rfl
@[simp] theorem Device.setReg_free (d : Device) (k : Nat) (v : Word) : (d.setReg k v).free = d.free := id rfl
@[simp] theorem Device.setReg_now (d : Device) (k : Nat) (v : Word) : (d.setReg k v).now = d.now := id rfl
@[simp] theorem Device.setReg_out (d : Device) (k : Nat) (v : Word) : (d.setReg k v).out = d.out := id rfl
@[simp] theorem Device.setReg_phase (d : Device) (k : Nat) (v : Word) : (d.setReg k v).phase = d.phase := id rfl
@[simp] theorem Device.setReg_tier (d : Device) (k : Nat) (v : Word) : (d.setReg k v).tier = d.tier := id rfl
@[simp] theorem Device.setReg_tiles (d : Device) (k : Nat) (v : Word) : (d.setReg k v).tiles = d.tiles := id rfl
@[simp] theorem Device.setReg_rings (d : Device) (k : Nat) (v : Word) : (d.setReg k v).rings = d.rings := id rfl
@[simp] theorem Device.setReg_chans (d : Device) (k : Nat) (v : Word) : (d.setReg k v).chans = d.chans := id rfl
@[simp] theorem Device.setReg_links (d : Device) (k : Nat) (v : Word) : (d.setReg k v).links = d.links := id rfl
@[simp] theorem Device.setReg_carriers (d : Device) (k : Nat) (v : Word) : (d.setReg k v).carriers = d.carriers := id rfl
@[simp] theorem Device.setReg_optics (d : Device) (k : Nat) (v : Word) : (d.setReg k v).optics = d.optics := id rfl
@[simp] theorem Device.setReg_host (d : Device) (k : Nat) (v : Word) : (d.setReg k v).host = d.host := id rfl
@[simp] theorem Device.setReg_pwr (d : Device) (k : Nat) (v : Word) : (d.setReg k v).pwr = d.pwr := id rfl
@[simp] theorem Device.setReg_boot (d : Device) (k : Nat) (v : Word) : (d.setReg k v).boot = d.boot := id rfl
@[simp] theorem Device.setReg_mgmt (d : Device) (k : Nat) (v : Word) : (d.setReg k v).mgmt = d.mgmt := id rfl
@[simp] theorem Device.setReg_spine (d : Device) (k : Nat) (v : Word) : (d.setReg k v).spine = d.spine := id rfl
@[simp] theorem Device.setReg_cores (d : Device) (k : Nat) (v : Word) : (d.setReg k v).cores = d.cores := id rfl
@[simp] theorem Device.setReg_sparse (d : Device) (k : Nat) (v : Word) : (d.setReg k v).sparse = d.sparse := id rfl
@[simp] theorem Device.setReg_num (d : Device) (k : Nat) (v : Word) : (d.setReg k v).num = d.num := id rfl
@[simp] theorem Device.setReg_coll (d : Device) (k : Nat) (v : Word) : (d.setReg k v).coll = d.coll := id rfl
@[simp] theorem Device.setReg_hist (d : Device) (k : Nat) (v : Word) : (d.setReg k v).hist = d.hist := id rfl
@[simp] theorem Device.setReg_ckpt (d : Device) (k : Nat) (v : Word) : (d.setReg k v).ckpt = d.ckpt := id rfl
@[simp] theorem Device.setReg_smuPath (d : Device) (k : Nat) (v : Word) : (d.setReg k v).smuPath = d.smuPath := id rfl

@[simp] theorem Device.wr_mem (d : Device) (f : Fld) (x : Nat) : (d.wr f x).mem = d.mem := id rfl
@[simp] theorem Device.wr_poison (d : Device) (f : Fld) (x : Nat) : (d.wr f x).poison = d.poison := id rfl
@[simp] theorem Device.wr_free (d : Device) (f : Fld) (x : Nat) : (d.wr f x).free = d.free := id rfl
@[simp] theorem Device.wr_now (d : Device) (f : Fld) (x : Nat) : (d.wr f x).now = d.now := id rfl
@[simp] theorem Device.wr_out (d : Device) (f : Fld) (x : Nat) : (d.wr f x).out = d.out := id rfl
@[simp] theorem Device.wr_phase (d : Device) (f : Fld) (x : Nat) : (d.wr f x).phase = d.phase := id rfl
@[simp] theorem Device.wr_tier (d : Device) (f : Fld) (x : Nat) : (d.wr f x).tier = d.tier := id rfl
@[simp] theorem Device.wr_tiles (d : Device) (f : Fld) (x : Nat) : (d.wr f x).tiles = d.tiles := id rfl
@[simp] theorem Device.wr_rings (d : Device) (f : Fld) (x : Nat) : (d.wr f x).rings = d.rings := id rfl
@[simp] theorem Device.wr_chans (d : Device) (f : Fld) (x : Nat) : (d.wr f x).chans = d.chans := id rfl
@[simp] theorem Device.wr_links (d : Device) (f : Fld) (x : Nat) : (d.wr f x).links = d.links := id rfl
@[simp] theorem Device.wr_carriers (d : Device) (f : Fld) (x : Nat) : (d.wr f x).carriers = d.carriers := id rfl
@[simp] theorem Device.wr_optics (d : Device) (f : Fld) (x : Nat) : (d.wr f x).optics = d.optics := id rfl
@[simp] theorem Device.wr_host (d : Device) (f : Fld) (x : Nat) : (d.wr f x).host = d.host := id rfl
@[simp] theorem Device.wr_pwr (d : Device) (f : Fld) (x : Nat) : (d.wr f x).pwr = d.pwr := id rfl
@[simp] theorem Device.wr_boot (d : Device) (f : Fld) (x : Nat) : (d.wr f x).boot = d.boot := id rfl
@[simp] theorem Device.wr_mgmt (d : Device) (f : Fld) (x : Nat) : (d.wr f x).mgmt = d.mgmt := id rfl
@[simp] theorem Device.wr_spine (d : Device) (f : Fld) (x : Nat) : (d.wr f x).spine = d.spine := id rfl
@[simp] theorem Device.wr_cores (d : Device) (f : Fld) (x : Nat) : (d.wr f x).cores = d.cores := id rfl
@[simp] theorem Device.wr_sparse (d : Device) (f : Fld) (x : Nat) : (d.wr f x).sparse = d.sparse := id rfl
@[simp] theorem Device.wr_num (d : Device) (f : Fld) (x : Nat) : (d.wr f x).num = d.num := id rfl
@[simp] theorem Device.wr_coll (d : Device) (f : Fld) (x : Nat) : (d.wr f x).coll = d.coll := id rfl
@[simp] theorem Device.wr_hist (d : Device) (f : Fld) (x : Nat) : (d.wr f x).hist = d.hist := id rfl
@[simp] theorem Device.wr_ckpt (d : Device) (f : Fld) (x : Nat) : (d.wr f x).ckpt = d.ckpt := id rfl
@[simp] theorem Device.wr_smuPath (d : Device) (f : Fld) (x : Nat) : (d.wr f x).smuPath = d.smuPath := id rfl

@[simp] theorem Device.inc_mem (d : Device) (f : Fld) (n : Nat) : (d.inc f n).mem = d.mem := id rfl
@[simp] theorem Device.inc_poison (d : Device) (f : Fld) (n : Nat) : (d.inc f n).poison = d.poison := id rfl
@[simp] theorem Device.inc_free (d : Device) (f : Fld) (n : Nat) : (d.inc f n).free = d.free := id rfl
@[simp] theorem Device.inc_now (d : Device) (f : Fld) (n : Nat) : (d.inc f n).now = d.now := id rfl
@[simp] theorem Device.inc_out (d : Device) (f : Fld) (n : Nat) : (d.inc f n).out = d.out := id rfl
@[simp] theorem Device.inc_phase (d : Device) (f : Fld) (n : Nat) : (d.inc f n).phase = d.phase := id rfl
@[simp] theorem Device.inc_tier (d : Device) (f : Fld) (n : Nat) : (d.inc f n).tier = d.tier := id rfl
@[simp] theorem Device.inc_tiles (d : Device) (f : Fld) (n : Nat) : (d.inc f n).tiles = d.tiles := id rfl
@[simp] theorem Device.inc_rings (d : Device) (f : Fld) (n : Nat) : (d.inc f n).rings = d.rings := id rfl
@[simp] theorem Device.inc_chans (d : Device) (f : Fld) (n : Nat) : (d.inc f n).chans = d.chans := id rfl
@[simp] theorem Device.inc_links (d : Device) (f : Fld) (n : Nat) : (d.inc f n).links = d.links := id rfl
@[simp] theorem Device.inc_carriers (d : Device) (f : Fld) (n : Nat) : (d.inc f n).carriers = d.carriers := id rfl
@[simp] theorem Device.inc_optics (d : Device) (f : Fld) (n : Nat) : (d.inc f n).optics = d.optics := id rfl
@[simp] theorem Device.inc_host (d : Device) (f : Fld) (n : Nat) : (d.inc f n).host = d.host := id rfl
@[simp] theorem Device.inc_pwr (d : Device) (f : Fld) (n : Nat) : (d.inc f n).pwr = d.pwr := id rfl
@[simp] theorem Device.inc_boot (d : Device) (f : Fld) (n : Nat) : (d.inc f n).boot = d.boot := id rfl
@[simp] theorem Device.inc_mgmt (d : Device) (f : Fld) (n : Nat) : (d.inc f n).mgmt = d.mgmt := id rfl
@[simp] theorem Device.inc_spine (d : Device) (f : Fld) (n : Nat) : (d.inc f n).spine = d.spine := id rfl
@[simp] theorem Device.inc_cores (d : Device) (f : Fld) (n : Nat) : (d.inc f n).cores = d.cores := id rfl
@[simp] theorem Device.inc_sparse (d : Device) (f : Fld) (n : Nat) : (d.inc f n).sparse = d.sparse := id rfl
@[simp] theorem Device.inc_num (d : Device) (f : Fld) (n : Nat) : (d.inc f n).num = d.num := id rfl
@[simp] theorem Device.inc_coll (d : Device) (f : Fld) (n : Nat) : (d.inc f n).coll = d.coll := id rfl
@[simp] theorem Device.inc_hist (d : Device) (f : Fld) (n : Nat) : (d.inc f n).hist = d.hist := id rfl
@[simp] theorem Device.inc_ckpt (d : Device) (f : Fld) (n : Nat) : (d.inc f n).ckpt = d.ckpt := id rfl
@[simp] theorem Device.inc_smuPath (d : Device) (f : Fld) (n : Nat) : (d.inc f n).smuPath = d.smuPath := id rfl

@[simp] theorem Device.wr64_mem (d : Device) (f : Fld) (x : Nat) : (d.wr64 f x).mem = d.mem := id rfl
@[simp] theorem Device.wr64_poison (d : Device) (f : Fld) (x : Nat) : (d.wr64 f x).poison = d.poison := id rfl
@[simp] theorem Device.wr64_free (d : Device) (f : Fld) (x : Nat) : (d.wr64 f x).free = d.free := id rfl
@[simp] theorem Device.wr64_now (d : Device) (f : Fld) (x : Nat) : (d.wr64 f x).now = d.now := id rfl
@[simp] theorem Device.wr64_out (d : Device) (f : Fld) (x : Nat) : (d.wr64 f x).out = d.out := id rfl
@[simp] theorem Device.wr64_phase (d : Device) (f : Fld) (x : Nat) : (d.wr64 f x).phase = d.phase := id rfl
@[simp] theorem Device.wr64_tier (d : Device) (f : Fld) (x : Nat) : (d.wr64 f x).tier = d.tier := id rfl
@[simp] theorem Device.wr64_tiles (d : Device) (f : Fld) (x : Nat) : (d.wr64 f x).tiles = d.tiles := id rfl
@[simp] theorem Device.wr64_rings (d : Device) (f : Fld) (x : Nat) : (d.wr64 f x).rings = d.rings := id rfl
@[simp] theorem Device.wr64_chans (d : Device) (f : Fld) (x : Nat) : (d.wr64 f x).chans = d.chans := id rfl
@[simp] theorem Device.wr64_links (d : Device) (f : Fld) (x : Nat) : (d.wr64 f x).links = d.links := id rfl
@[simp] theorem Device.wr64_carriers (d : Device) (f : Fld) (x : Nat) : (d.wr64 f x).carriers = d.carriers := id rfl
@[simp] theorem Device.wr64_optics (d : Device) (f : Fld) (x : Nat) : (d.wr64 f x).optics = d.optics := id rfl
@[simp] theorem Device.wr64_host (d : Device) (f : Fld) (x : Nat) : (d.wr64 f x).host = d.host := id rfl
@[simp] theorem Device.wr64_pwr (d : Device) (f : Fld) (x : Nat) : (d.wr64 f x).pwr = d.pwr := id rfl
@[simp] theorem Device.wr64_boot (d : Device) (f : Fld) (x : Nat) : (d.wr64 f x).boot = d.boot := id rfl
@[simp] theorem Device.wr64_mgmt (d : Device) (f : Fld) (x : Nat) : (d.wr64 f x).mgmt = d.mgmt := id rfl
@[simp] theorem Device.wr64_spine (d : Device) (f : Fld) (x : Nat) : (d.wr64 f x).spine = d.spine := id rfl
@[simp] theorem Device.wr64_cores (d : Device) (f : Fld) (x : Nat) : (d.wr64 f x).cores = d.cores := id rfl
@[simp] theorem Device.wr64_sparse (d : Device) (f : Fld) (x : Nat) : (d.wr64 f x).sparse = d.sparse := id rfl
@[simp] theorem Device.wr64_num (d : Device) (f : Fld) (x : Nat) : (d.wr64 f x).num = d.num := id rfl
@[simp] theorem Device.wr64_coll (d : Device) (f : Fld) (x : Nat) : (d.wr64 f x).coll = d.coll := id rfl
@[simp] theorem Device.wr64_hist (d : Device) (f : Fld) (x : Nat) : (d.wr64 f x).hist = d.hist := id rfl
@[simp] theorem Device.wr64_ckpt (d : Device) (f : Fld) (x : Nat) : (d.wr64 f x).ckpt = d.ckpt := id rfl
@[simp] theorem Device.wr64_smuPath (d : Device) (f : Fld) (x : Nat) : (d.wr64 f x).smuPath = d.smuPath := id rfl

@[simp] theorem Device.inc64_mem (d : Device) (f : Fld) (n : Nat) : (d.inc64 f n).mem = d.mem := id rfl
@[simp] theorem Device.inc64_poison (d : Device) (f : Fld) (n : Nat) : (d.inc64 f n).poison = d.poison := id rfl
@[simp] theorem Device.inc64_free (d : Device) (f : Fld) (n : Nat) : (d.inc64 f n).free = d.free := id rfl
@[simp] theorem Device.inc64_now (d : Device) (f : Fld) (n : Nat) : (d.inc64 f n).now = d.now := id rfl
@[simp] theorem Device.inc64_out (d : Device) (f : Fld) (n : Nat) : (d.inc64 f n).out = d.out := id rfl
@[simp] theorem Device.inc64_phase (d : Device) (f : Fld) (n : Nat) : (d.inc64 f n).phase = d.phase := id rfl
@[simp] theorem Device.inc64_tier (d : Device) (f : Fld) (n : Nat) : (d.inc64 f n).tier = d.tier := id rfl
@[simp] theorem Device.inc64_tiles (d : Device) (f : Fld) (n : Nat) : (d.inc64 f n).tiles = d.tiles := id rfl
@[simp] theorem Device.inc64_rings (d : Device) (f : Fld) (n : Nat) : (d.inc64 f n).rings = d.rings := id rfl
@[simp] theorem Device.inc64_chans (d : Device) (f : Fld) (n : Nat) : (d.inc64 f n).chans = d.chans := id rfl
@[simp] theorem Device.inc64_links (d : Device) (f : Fld) (n : Nat) : (d.inc64 f n).links = d.links := id rfl
@[simp] theorem Device.inc64_carriers (d : Device) (f : Fld) (n : Nat) : (d.inc64 f n).carriers = d.carriers := id rfl
@[simp] theorem Device.inc64_optics (d : Device) (f : Fld) (n : Nat) : (d.inc64 f n).optics = d.optics := id rfl
@[simp] theorem Device.inc64_host (d : Device) (f : Fld) (n : Nat) : (d.inc64 f n).host = d.host := id rfl
@[simp] theorem Device.inc64_pwr (d : Device) (f : Fld) (n : Nat) : (d.inc64 f n).pwr = d.pwr := id rfl
@[simp] theorem Device.inc64_boot (d : Device) (f : Fld) (n : Nat) : (d.inc64 f n).boot = d.boot := id rfl
@[simp] theorem Device.inc64_mgmt (d : Device) (f : Fld) (n : Nat) : (d.inc64 f n).mgmt = d.mgmt := id rfl
@[simp] theorem Device.inc64_spine (d : Device) (f : Fld) (n : Nat) : (d.inc64 f n).spine = d.spine := id rfl
@[simp] theorem Device.inc64_cores (d : Device) (f : Fld) (n : Nat) : (d.inc64 f n).cores = d.cores := id rfl
@[simp] theorem Device.inc64_sparse (d : Device) (f : Fld) (n : Nat) : (d.inc64 f n).sparse = d.sparse := id rfl
@[simp] theorem Device.inc64_num (d : Device) (f : Fld) (n : Nat) : (d.inc64 f n).num = d.num := id rfl
@[simp] theorem Device.inc64_coll (d : Device) (f : Fld) (n : Nat) : (d.inc64 f n).coll = d.coll := id rfl
@[simp] theorem Device.inc64_hist (d : Device) (f : Fld) (n : Nat) : (d.inc64 f n).hist = d.hist := id rfl
@[simp] theorem Device.inc64_ckpt (d : Device) (f : Fld) (n : Nat) : (d.inc64 f n).ckpt = d.ckpt := id rfl
@[simp] theorem Device.inc64_smuPath (d : Device) (f : Fld) (n : Nat) : (d.inc64 f n).smuPath = d.smuPath := id rfl

@[simp] theorem Device.emit_regs (d : Device) (o : Out) : (d.emit o).regs = d.regs := id rfl
@[simp] theorem Device.emit_mem (d : Device) (o : Out) : (d.emit o).mem = d.mem := id rfl
@[simp] theorem Device.emit_poison (d : Device) (o : Out) : (d.emit o).poison = d.poison := id rfl
@[simp] theorem Device.emit_free (d : Device) (o : Out) : (d.emit o).free = d.free := id rfl
@[simp] theorem Device.emit_now (d : Device) (o : Out) : (d.emit o).now = d.now := id rfl
@[simp] theorem Device.emit_phase (d : Device) (o : Out) : (d.emit o).phase = d.phase := id rfl
@[simp] theorem Device.emit_tier (d : Device) (o : Out) : (d.emit o).tier = d.tier := id rfl
@[simp] theorem Device.emit_tiles (d : Device) (o : Out) : (d.emit o).tiles = d.tiles := id rfl
@[simp] theorem Device.emit_rings (d : Device) (o : Out) : (d.emit o).rings = d.rings := id rfl
@[simp] theorem Device.emit_chans (d : Device) (o : Out) : (d.emit o).chans = d.chans := id rfl
@[simp] theorem Device.emit_links (d : Device) (o : Out) : (d.emit o).links = d.links := id rfl
@[simp] theorem Device.emit_carriers (d : Device) (o : Out) : (d.emit o).carriers = d.carriers := id rfl
@[simp] theorem Device.emit_optics (d : Device) (o : Out) : (d.emit o).optics = d.optics := id rfl
@[simp] theorem Device.emit_host (d : Device) (o : Out) : (d.emit o).host = d.host := id rfl
@[simp] theorem Device.emit_pwr (d : Device) (o : Out) : (d.emit o).pwr = d.pwr := id rfl
@[simp] theorem Device.emit_boot (d : Device) (o : Out) : (d.emit o).boot = d.boot := id rfl
@[simp] theorem Device.emit_mgmt (d : Device) (o : Out) : (d.emit o).mgmt = d.mgmt := id rfl
@[simp] theorem Device.emit_spine (d : Device) (o : Out) : (d.emit o).spine = d.spine := id rfl
@[simp] theorem Device.emit_cores (d : Device) (o : Out) : (d.emit o).cores = d.cores := id rfl
@[simp] theorem Device.emit_sparse (d : Device) (o : Out) : (d.emit o).sparse = d.sparse := id rfl
@[simp] theorem Device.emit_num (d : Device) (o : Out) : (d.emit o).num = d.num := id rfl
@[simp] theorem Device.emit_coll (d : Device) (o : Out) : (d.emit o).coll = d.coll := id rfl
@[simp] theorem Device.emit_hist (d : Device) (o : Out) : (d.emit o).hist = d.hist := id rfl
@[simp] theorem Device.emit_ckpt (d : Device) (o : Out) : (d.emit o).ckpt = d.ckpt := id rfl
@[simp] theorem Device.emit_smuPath (d : Device) (o : Out) : (d.emit o).smuPath = d.smuPath := id rfl

@[simp] theorem Device.used_regs (d : Device) : (d.used).regs = d.regs := id rfl
@[simp] theorem Device.used_mem (d : Device) : (d.used).mem = d.mem := id rfl
@[simp] theorem Device.used_poison (d : Device) : (d.used).poison = d.poison := id rfl
@[simp] theorem Device.used_now (d : Device) : (d.used).now = d.now := id rfl
@[simp] theorem Device.used_out (d : Device) : (d.used).out = d.out := id rfl
@[simp] theorem Device.used_phase (d : Device) : (d.used).phase = d.phase := id rfl
@[simp] theorem Device.used_tier (d : Device) : (d.used).tier = d.tier := id rfl
@[simp] theorem Device.used_tiles (d : Device) : (d.used).tiles = d.tiles := id rfl
@[simp] theorem Device.used_rings (d : Device) : (d.used).rings = d.rings := id rfl
@[simp] theorem Device.used_chans (d : Device) : (d.used).chans = d.chans := id rfl
@[simp] theorem Device.used_links (d : Device) : (d.used).links = d.links := id rfl
@[simp] theorem Device.used_carriers (d : Device) : (d.used).carriers = d.carriers := id rfl
@[simp] theorem Device.used_optics (d : Device) : (d.used).optics = d.optics := id rfl
@[simp] theorem Device.used_host (d : Device) : (d.used).host = d.host := id rfl
@[simp] theorem Device.used_pwr (d : Device) : (d.used).pwr = d.pwr := id rfl
@[simp] theorem Device.used_boot (d : Device) : (d.used).boot = d.boot := id rfl
@[simp] theorem Device.used_mgmt (d : Device) : (d.used).mgmt = d.mgmt := id rfl
@[simp] theorem Device.used_spine (d : Device) : (d.used).spine = d.spine := id rfl
@[simp] theorem Device.used_cores (d : Device) : (d.used).cores = d.cores := id rfl
@[simp] theorem Device.used_sparse (d : Device) : (d.used).sparse = d.sparse := id rfl
@[simp] theorem Device.used_num (d : Device) : (d.used).num = d.num := id rfl
@[simp] theorem Device.used_coll (d : Device) : (d.used).coll = d.coll := id rfl
@[simp] theorem Device.used_hist (d : Device) : (d.used).hist = d.hist := id rfl
@[simp] theorem Device.used_ckpt (d : Device) : (d.used).ckpt = d.ckpt := id rfl
@[simp] theorem Device.used_smuPath (d : Device) : (d.used).smuPath = d.smuPath := id rfl

@[simp] theorem Device.setByte_regs (d : Device) (k : Nat) (v : Byte) : (d.setByte k v).regs = d.regs := id rfl
@[simp] theorem Device.setByte_poison (d : Device) (k : Nat) (v : Byte) : (d.setByte k v).poison = d.poison := id rfl
@[simp] theorem Device.setByte_free (d : Device) (k : Nat) (v : Byte) : (d.setByte k v).free = d.free := id rfl
@[simp] theorem Device.setByte_now (d : Device) (k : Nat) (v : Byte) : (d.setByte k v).now = d.now := id rfl
@[simp] theorem Device.setByte_out (d : Device) (k : Nat) (v : Byte) : (d.setByte k v).out = d.out := id rfl
@[simp] theorem Device.setByte_phase (d : Device) (k : Nat) (v : Byte) : (d.setByte k v).phase = d.phase := id rfl
@[simp] theorem Device.setByte_tier (d : Device) (k : Nat) (v : Byte) : (d.setByte k v).tier = d.tier := id rfl
@[simp] theorem Device.setByte_tiles (d : Device) (k : Nat) (v : Byte) : (d.setByte k v).tiles = d.tiles := id rfl
@[simp] theorem Device.setByte_rings (d : Device) (k : Nat) (v : Byte) : (d.setByte k v).rings = d.rings := id rfl
@[simp] theorem Device.setByte_chans (d : Device) (k : Nat) (v : Byte) : (d.setByte k v).chans = d.chans := id rfl
@[simp] theorem Device.setByte_links (d : Device) (k : Nat) (v : Byte) : (d.setByte k v).links = d.links := id rfl
@[simp] theorem Device.setByte_carriers (d : Device) (k : Nat) (v : Byte) : (d.setByte k v).carriers = d.carriers := id rfl
@[simp] theorem Device.setByte_optics (d : Device) (k : Nat) (v : Byte) : (d.setByte k v).optics = d.optics := id rfl
@[simp] theorem Device.setByte_host (d : Device) (k : Nat) (v : Byte) : (d.setByte k v).host = d.host := id rfl
@[simp] theorem Device.setByte_pwr (d : Device) (k : Nat) (v : Byte) : (d.setByte k v).pwr = d.pwr := id rfl
@[simp] theorem Device.setByte_boot (d : Device) (k : Nat) (v : Byte) : (d.setByte k v).boot = d.boot := id rfl
@[simp] theorem Device.setByte_mgmt (d : Device) (k : Nat) (v : Byte) : (d.setByte k v).mgmt = d.mgmt := id rfl
@[simp] theorem Device.setByte_spine (d : Device) (k : Nat) (v : Byte) : (d.setByte k v).spine = d.spine := id rfl
@[simp] theorem Device.setByte_cores (d : Device) (k : Nat) (v : Byte) : (d.setByte k v).cores = d.cores := id rfl
@[simp] theorem Device.setByte_sparse (d : Device) (k : Nat) (v : Byte) : (d.setByte k v).sparse = d.sparse := id rfl
@[simp] theorem Device.setByte_num (d : Device) (k : Nat) (v : Byte) : (d.setByte k v).num = d.num := id rfl
@[simp] theorem Device.setByte_coll (d : Device) (k : Nat) (v : Byte) : (d.setByte k v).coll = d.coll := id rfl
@[simp] theorem Device.setByte_hist (d : Device) (k : Nat) (v : Byte) : (d.setByte k v).hist = d.hist := id rfl
@[simp] theorem Device.setByte_ckpt (d : Device) (k : Nat) (v : Byte) : (d.setByte k v).ckpt = d.ckpt := id rfl
@[simp] theorem Device.setByte_smuPath (d : Device) (k : Nat) (v : Byte) : (d.setByte k v).smuPath = d.smuPath := id rfl

@[simp] theorem Device.setPoison_regs (d : Device) (k : Nat) (p : Bool) : (d.setPoison k p).regs = d.regs := id rfl
@[simp] theorem Device.setPoison_mem (d : Device) (k : Nat) (p : Bool) : (d.setPoison k p).mem = d.mem := id rfl
@[simp] theorem Device.setPoison_free (d : Device) (k : Nat) (p : Bool) : (d.setPoison k p).free = d.free := id rfl
@[simp] theorem Device.setPoison_now (d : Device) (k : Nat) (p : Bool) : (d.setPoison k p).now = d.now := id rfl
@[simp] theorem Device.setPoison_out (d : Device) (k : Nat) (p : Bool) : (d.setPoison k p).out = d.out := id rfl
@[simp] theorem Device.setPoison_phase (d : Device) (k : Nat) (p : Bool) : (d.setPoison k p).phase = d.phase := id rfl
@[simp] theorem Device.setPoison_tier (d : Device) (k : Nat) (p : Bool) : (d.setPoison k p).tier = d.tier := id rfl
@[simp] theorem Device.setPoison_tiles (d : Device) (k : Nat) (p : Bool) : (d.setPoison k p).tiles = d.tiles := id rfl
@[simp] theorem Device.setPoison_rings (d : Device) (k : Nat) (p : Bool) : (d.setPoison k p).rings = d.rings := id rfl
@[simp] theorem Device.setPoison_chans (d : Device) (k : Nat) (p : Bool) : (d.setPoison k p).chans = d.chans := id rfl
@[simp] theorem Device.setPoison_links (d : Device) (k : Nat) (p : Bool) : (d.setPoison k p).links = d.links := id rfl
@[simp] theorem Device.setPoison_carriers (d : Device) (k : Nat) (p : Bool) : (d.setPoison k p).carriers = d.carriers := id rfl
@[simp] theorem Device.setPoison_optics (d : Device) (k : Nat) (p : Bool) : (d.setPoison k p).optics = d.optics := id rfl
@[simp] theorem Device.setPoison_host (d : Device) (k : Nat) (p : Bool) : (d.setPoison k p).host = d.host := id rfl
@[simp] theorem Device.setPoison_pwr (d : Device) (k : Nat) (p : Bool) : (d.setPoison k p).pwr = d.pwr := id rfl
@[simp] theorem Device.setPoison_boot (d : Device) (k : Nat) (p : Bool) : (d.setPoison k p).boot = d.boot := id rfl
@[simp] theorem Device.setPoison_mgmt (d : Device) (k : Nat) (p : Bool) : (d.setPoison k p).mgmt = d.mgmt := id rfl
@[simp] theorem Device.setPoison_spine (d : Device) (k : Nat) (p : Bool) : (d.setPoison k p).spine = d.spine := id rfl
@[simp] theorem Device.setPoison_cores (d : Device) (k : Nat) (p : Bool) : (d.setPoison k p).cores = d.cores := id rfl
@[simp] theorem Device.setPoison_sparse (d : Device) (k : Nat) (p : Bool) : (d.setPoison k p).sparse = d.sparse := id rfl
@[simp] theorem Device.setPoison_num (d : Device) (k : Nat) (p : Bool) : (d.setPoison k p).num = d.num := id rfl
@[simp] theorem Device.setPoison_coll (d : Device) (k : Nat) (p : Bool) : (d.setPoison k p).coll = d.coll := id rfl
@[simp] theorem Device.setPoison_hist (d : Device) (k : Nat) (p : Bool) : (d.setPoison k p).hist = d.hist := id rfl
@[simp] theorem Device.setPoison_ckpt (d : Device) (k : Nat) (p : Bool) : (d.setPoison k p).ckpt = d.ckpt := id rfl
@[simp] theorem Device.setPoison_smuPath (d : Device) (k : Nat) (p : Bool) : (d.setPoison k p).smuPath = d.smuPath := id rfl

@[simp] theorem Device.setTile_regs (d : Device) (t : Nat) (m : MemTile) : (d.setTile t m).regs = d.regs := id rfl
@[simp] theorem Device.setTile_mem (d : Device) (t : Nat) (m : MemTile) : (d.setTile t m).mem = d.mem := id rfl
@[simp] theorem Device.setTile_poison (d : Device) (t : Nat) (m : MemTile) : (d.setTile t m).poison = d.poison := id rfl
@[simp] theorem Device.setTile_free (d : Device) (t : Nat) (m : MemTile) : (d.setTile t m).free = d.free := id rfl
@[simp] theorem Device.setTile_now (d : Device) (t : Nat) (m : MemTile) : (d.setTile t m).now = d.now := id rfl
@[simp] theorem Device.setTile_out (d : Device) (t : Nat) (m : MemTile) : (d.setTile t m).out = d.out := id rfl
@[simp] theorem Device.setTile_phase (d : Device) (t : Nat) (m : MemTile) : (d.setTile t m).phase = d.phase := id rfl
@[simp] theorem Device.setTile_tier (d : Device) (t : Nat) (m : MemTile) : (d.setTile t m).tier = d.tier := id rfl
@[simp] theorem Device.setTile_rings (d : Device) (t : Nat) (m : MemTile) : (d.setTile t m).rings = d.rings := id rfl
@[simp] theorem Device.setTile_chans (d : Device) (t : Nat) (m : MemTile) : (d.setTile t m).chans = d.chans := id rfl
@[simp] theorem Device.setTile_links (d : Device) (t : Nat) (m : MemTile) : (d.setTile t m).links = d.links := id rfl
@[simp] theorem Device.setTile_carriers (d : Device) (t : Nat) (m : MemTile) : (d.setTile t m).carriers = d.carriers := id rfl
@[simp] theorem Device.setTile_optics (d : Device) (t : Nat) (m : MemTile) : (d.setTile t m).optics = d.optics := id rfl
@[simp] theorem Device.setTile_host (d : Device) (t : Nat) (m : MemTile) : (d.setTile t m).host = d.host := id rfl
@[simp] theorem Device.setTile_pwr (d : Device) (t : Nat) (m : MemTile) : (d.setTile t m).pwr = d.pwr := id rfl
@[simp] theorem Device.setTile_boot (d : Device) (t : Nat) (m : MemTile) : (d.setTile t m).boot = d.boot := id rfl
@[simp] theorem Device.setTile_mgmt (d : Device) (t : Nat) (m : MemTile) : (d.setTile t m).mgmt = d.mgmt := id rfl
@[simp] theorem Device.setTile_spine (d : Device) (t : Nat) (m : MemTile) : (d.setTile t m).spine = d.spine := id rfl
@[simp] theorem Device.setTile_cores (d : Device) (t : Nat) (m : MemTile) : (d.setTile t m).cores = d.cores := id rfl
@[simp] theorem Device.setTile_sparse (d : Device) (t : Nat) (m : MemTile) : (d.setTile t m).sparse = d.sparse := id rfl
@[simp] theorem Device.setTile_num (d : Device) (t : Nat) (m : MemTile) : (d.setTile t m).num = d.num := id rfl
@[simp] theorem Device.setTile_coll (d : Device) (t : Nat) (m : MemTile) : (d.setTile t m).coll = d.coll := id rfl
@[simp] theorem Device.setTile_hist (d : Device) (t : Nat) (m : MemTile) : (d.setTile t m).hist = d.hist := id rfl
@[simp] theorem Device.setTile_ckpt (d : Device) (t : Nat) (m : MemTile) : (d.setTile t m).ckpt = d.ckpt := id rfl
@[simp] theorem Device.setTile_smuPath (d : Device) (t : Nat) (m : MemTile) : (d.setTile t m).smuPath = d.smuPath := id rfl

@[simp] theorem Device.setRing_regs (d : Device) (r : Nat) (x : RingSt) : (d.setRing r x).regs = d.regs := id rfl
@[simp] theorem Device.setRing_mem (d : Device) (r : Nat) (x : RingSt) : (d.setRing r x).mem = d.mem := id rfl
@[simp] theorem Device.setRing_poison (d : Device) (r : Nat) (x : RingSt) : (d.setRing r x).poison = d.poison := id rfl
@[simp] theorem Device.setRing_free (d : Device) (r : Nat) (x : RingSt) : (d.setRing r x).free = d.free := id rfl
@[simp] theorem Device.setRing_now (d : Device) (r : Nat) (x : RingSt) : (d.setRing r x).now = d.now := id rfl
@[simp] theorem Device.setRing_out (d : Device) (r : Nat) (x : RingSt) : (d.setRing r x).out = d.out := id rfl
@[simp] theorem Device.setRing_phase (d : Device) (r : Nat) (x : RingSt) : (d.setRing r x).phase = d.phase := id rfl
@[simp] theorem Device.setRing_tier (d : Device) (r : Nat) (x : RingSt) : (d.setRing r x).tier = d.tier := id rfl
@[simp] theorem Device.setRing_tiles (d : Device) (r : Nat) (x : RingSt) : (d.setRing r x).tiles = d.tiles := id rfl
@[simp] theorem Device.setRing_chans (d : Device) (r : Nat) (x : RingSt) : (d.setRing r x).chans = d.chans := id rfl
@[simp] theorem Device.setRing_links (d : Device) (r : Nat) (x : RingSt) : (d.setRing r x).links = d.links := id rfl
@[simp] theorem Device.setRing_carriers (d : Device) (r : Nat) (x : RingSt) : (d.setRing r x).carriers = d.carriers := id rfl
@[simp] theorem Device.setRing_optics (d : Device) (r : Nat) (x : RingSt) : (d.setRing r x).optics = d.optics := id rfl
@[simp] theorem Device.setRing_host (d : Device) (r : Nat) (x : RingSt) : (d.setRing r x).host = d.host := id rfl
@[simp] theorem Device.setRing_pwr (d : Device) (r : Nat) (x : RingSt) : (d.setRing r x).pwr = d.pwr := id rfl
@[simp] theorem Device.setRing_boot (d : Device) (r : Nat) (x : RingSt) : (d.setRing r x).boot = d.boot := id rfl
@[simp] theorem Device.setRing_mgmt (d : Device) (r : Nat) (x : RingSt) : (d.setRing r x).mgmt = d.mgmt := id rfl
@[simp] theorem Device.setRing_spine (d : Device) (r : Nat) (x : RingSt) : (d.setRing r x).spine = d.spine := id rfl
@[simp] theorem Device.setRing_cores (d : Device) (r : Nat) (x : RingSt) : (d.setRing r x).cores = d.cores := id rfl
@[simp] theorem Device.setRing_sparse (d : Device) (r : Nat) (x : RingSt) : (d.setRing r x).sparse = d.sparse := id rfl
@[simp] theorem Device.setRing_num (d : Device) (r : Nat) (x : RingSt) : (d.setRing r x).num = d.num := id rfl
@[simp] theorem Device.setRing_coll (d : Device) (r : Nat) (x : RingSt) : (d.setRing r x).coll = d.coll := id rfl
@[simp] theorem Device.setRing_hist (d : Device) (r : Nat) (x : RingSt) : (d.setRing r x).hist = d.hist := id rfl
@[simp] theorem Device.setRing_ckpt (d : Device) (r : Nat) (x : RingSt) : (d.setRing r x).ckpt = d.ckpt := id rfl
@[simp] theorem Device.setRing_smuPath (d : Device) (r : Nat) (x : RingSt) : (d.setRing r x).smuPath = d.smuPath := id rfl

@[simp] theorem Device.setChan_regs (d : Device) (e c : Nat) (x : Channel) : (d.setChan e c x).regs = d.regs := id rfl
@[simp] theorem Device.setChan_mem (d : Device) (e c : Nat) (x : Channel) : (d.setChan e c x).mem = d.mem := id rfl
@[simp] theorem Device.setChan_poison (d : Device) (e c : Nat) (x : Channel) : (d.setChan e c x).poison = d.poison := id rfl
@[simp] theorem Device.setChan_free (d : Device) (e c : Nat) (x : Channel) : (d.setChan e c x).free = d.free := id rfl
@[simp] theorem Device.setChan_now (d : Device) (e c : Nat) (x : Channel) : (d.setChan e c x).now = d.now := id rfl
@[simp] theorem Device.setChan_out (d : Device) (e c : Nat) (x : Channel) : (d.setChan e c x).out = d.out := id rfl
@[simp] theorem Device.setChan_phase (d : Device) (e c : Nat) (x : Channel) : (d.setChan e c x).phase = d.phase := id rfl
@[simp] theorem Device.setChan_tier (d : Device) (e c : Nat) (x : Channel) : (d.setChan e c x).tier = d.tier := id rfl
@[simp] theorem Device.setChan_tiles (d : Device) (e c : Nat) (x : Channel) : (d.setChan e c x).tiles = d.tiles := id rfl
@[simp] theorem Device.setChan_rings (d : Device) (e c : Nat) (x : Channel) : (d.setChan e c x).rings = d.rings := id rfl
@[simp] theorem Device.setChan_links (d : Device) (e c : Nat) (x : Channel) : (d.setChan e c x).links = d.links := id rfl
@[simp] theorem Device.setChan_carriers (d : Device) (e c : Nat) (x : Channel) : (d.setChan e c x).carriers = d.carriers := id rfl
@[simp] theorem Device.setChan_optics (d : Device) (e c : Nat) (x : Channel) : (d.setChan e c x).optics = d.optics := id rfl
@[simp] theorem Device.setChan_host (d : Device) (e c : Nat) (x : Channel) : (d.setChan e c x).host = d.host := id rfl
@[simp] theorem Device.setChan_pwr (d : Device) (e c : Nat) (x : Channel) : (d.setChan e c x).pwr = d.pwr := id rfl
@[simp] theorem Device.setChan_boot (d : Device) (e c : Nat) (x : Channel) : (d.setChan e c x).boot = d.boot := id rfl
@[simp] theorem Device.setChan_mgmt (d : Device) (e c : Nat) (x : Channel) : (d.setChan e c x).mgmt = d.mgmt := id rfl
@[simp] theorem Device.setChan_spine (d : Device) (e c : Nat) (x : Channel) : (d.setChan e c x).spine = d.spine := id rfl
@[simp] theorem Device.setChan_cores (d : Device) (e c : Nat) (x : Channel) : (d.setChan e c x).cores = d.cores := id rfl
@[simp] theorem Device.setChan_sparse (d : Device) (e c : Nat) (x : Channel) : (d.setChan e c x).sparse = d.sparse := id rfl
@[simp] theorem Device.setChan_num (d : Device) (e c : Nat) (x : Channel) : (d.setChan e c x).num = d.num := id rfl
@[simp] theorem Device.setChan_coll (d : Device) (e c : Nat) (x : Channel) : (d.setChan e c x).coll = d.coll := id rfl
@[simp] theorem Device.setChan_hist (d : Device) (e c : Nat) (x : Channel) : (d.setChan e c x).hist = d.hist := id rfl
@[simp] theorem Device.setChan_ckpt (d : Device) (e c : Nat) (x : Channel) : (d.setChan e c x).ckpt = d.ckpt := id rfl
@[simp] theorem Device.setChan_smuPath (d : Device) (e c : Nat) (x : Channel) : (d.setChan e c x).smuPath = d.smuPath := id rfl

@[simp] theorem Device.setLink_regs (d : Device) (l : Nat) (x : Link) : (d.setLink l x).regs = d.regs := id rfl
@[simp] theorem Device.setLink_mem (d : Device) (l : Nat) (x : Link) : (d.setLink l x).mem = d.mem := id rfl
@[simp] theorem Device.setLink_poison (d : Device) (l : Nat) (x : Link) : (d.setLink l x).poison = d.poison := id rfl
@[simp] theorem Device.setLink_free (d : Device) (l : Nat) (x : Link) : (d.setLink l x).free = d.free := id rfl
@[simp] theorem Device.setLink_now (d : Device) (l : Nat) (x : Link) : (d.setLink l x).now = d.now := id rfl
@[simp] theorem Device.setLink_out (d : Device) (l : Nat) (x : Link) : (d.setLink l x).out = d.out := id rfl
@[simp] theorem Device.setLink_phase (d : Device) (l : Nat) (x : Link) : (d.setLink l x).phase = d.phase := id rfl
@[simp] theorem Device.setLink_tier (d : Device) (l : Nat) (x : Link) : (d.setLink l x).tier = d.tier := id rfl
@[simp] theorem Device.setLink_tiles (d : Device) (l : Nat) (x : Link) : (d.setLink l x).tiles = d.tiles := id rfl
@[simp] theorem Device.setLink_rings (d : Device) (l : Nat) (x : Link) : (d.setLink l x).rings = d.rings := id rfl
@[simp] theorem Device.setLink_chans (d : Device) (l : Nat) (x : Link) : (d.setLink l x).chans = d.chans := id rfl
@[simp] theorem Device.setLink_carriers (d : Device) (l : Nat) (x : Link) : (d.setLink l x).carriers = d.carriers := id rfl
@[simp] theorem Device.setLink_optics (d : Device) (l : Nat) (x : Link) : (d.setLink l x).optics = d.optics := id rfl
@[simp] theorem Device.setLink_host (d : Device) (l : Nat) (x : Link) : (d.setLink l x).host = d.host := id rfl
@[simp] theorem Device.setLink_pwr (d : Device) (l : Nat) (x : Link) : (d.setLink l x).pwr = d.pwr := id rfl
@[simp] theorem Device.setLink_boot (d : Device) (l : Nat) (x : Link) : (d.setLink l x).boot = d.boot := id rfl
@[simp] theorem Device.setLink_mgmt (d : Device) (l : Nat) (x : Link) : (d.setLink l x).mgmt = d.mgmt := id rfl
@[simp] theorem Device.setLink_spine (d : Device) (l : Nat) (x : Link) : (d.setLink l x).spine = d.spine := id rfl
@[simp] theorem Device.setLink_cores (d : Device) (l : Nat) (x : Link) : (d.setLink l x).cores = d.cores := id rfl
@[simp] theorem Device.setLink_sparse (d : Device) (l : Nat) (x : Link) : (d.setLink l x).sparse = d.sparse := id rfl
@[simp] theorem Device.setLink_num (d : Device) (l : Nat) (x : Link) : (d.setLink l x).num = d.num := id rfl
@[simp] theorem Device.setLink_coll (d : Device) (l : Nat) (x : Link) : (d.setLink l x).coll = d.coll := id rfl
@[simp] theorem Device.setLink_hist (d : Device) (l : Nat) (x : Link) : (d.setLink l x).hist = d.hist := id rfl
@[simp] theorem Device.setLink_ckpt (d : Device) (l : Nat) (x : Link) : (d.setLink l x).ckpt = d.ckpt := id rfl
@[simp] theorem Device.setLink_smuPath (d : Device) (l : Nat) (x : Link) : (d.setLink l x).smuPath = d.smuPath := id rfl

@[simp] theorem Device.setCarrier_regs (d : Device) (c : Nat) (x : Carrier) : (d.setCarrier c x).regs = d.regs := id rfl
@[simp] theorem Device.setCarrier_mem (d : Device) (c : Nat) (x : Carrier) : (d.setCarrier c x).mem = d.mem := id rfl
@[simp] theorem Device.setCarrier_poison (d : Device) (c : Nat) (x : Carrier) : (d.setCarrier c x).poison = d.poison := id rfl
@[simp] theorem Device.setCarrier_free (d : Device) (c : Nat) (x : Carrier) : (d.setCarrier c x).free = d.free := id rfl
@[simp] theorem Device.setCarrier_now (d : Device) (c : Nat) (x : Carrier) : (d.setCarrier c x).now = d.now := id rfl
@[simp] theorem Device.setCarrier_out (d : Device) (c : Nat) (x : Carrier) : (d.setCarrier c x).out = d.out := id rfl
@[simp] theorem Device.setCarrier_phase (d : Device) (c : Nat) (x : Carrier) : (d.setCarrier c x).phase = d.phase := id rfl
@[simp] theorem Device.setCarrier_tier (d : Device) (c : Nat) (x : Carrier) : (d.setCarrier c x).tier = d.tier := id rfl
@[simp] theorem Device.setCarrier_tiles (d : Device) (c : Nat) (x : Carrier) : (d.setCarrier c x).tiles = d.tiles := id rfl
@[simp] theorem Device.setCarrier_rings (d : Device) (c : Nat) (x : Carrier) : (d.setCarrier c x).rings = d.rings := id rfl
@[simp] theorem Device.setCarrier_chans (d : Device) (c : Nat) (x : Carrier) : (d.setCarrier c x).chans = d.chans := id rfl
@[simp] theorem Device.setCarrier_links (d : Device) (c : Nat) (x : Carrier) : (d.setCarrier c x).links = d.links := id rfl
@[simp] theorem Device.setCarrier_optics (d : Device) (c : Nat) (x : Carrier) : (d.setCarrier c x).optics = d.optics := id rfl
@[simp] theorem Device.setCarrier_host (d : Device) (c : Nat) (x : Carrier) : (d.setCarrier c x).host = d.host := id rfl
@[simp] theorem Device.setCarrier_pwr (d : Device) (c : Nat) (x : Carrier) : (d.setCarrier c x).pwr = d.pwr := id rfl
@[simp] theorem Device.setCarrier_boot (d : Device) (c : Nat) (x : Carrier) : (d.setCarrier c x).boot = d.boot := id rfl
@[simp] theorem Device.setCarrier_mgmt (d : Device) (c : Nat) (x : Carrier) : (d.setCarrier c x).mgmt = d.mgmt := id rfl
@[simp] theorem Device.setCarrier_spine (d : Device) (c : Nat) (x : Carrier) : (d.setCarrier c x).spine = d.spine := id rfl
@[simp] theorem Device.setCarrier_cores (d : Device) (c : Nat) (x : Carrier) : (d.setCarrier c x).cores = d.cores := id rfl
@[simp] theorem Device.setCarrier_sparse (d : Device) (c : Nat) (x : Carrier) : (d.setCarrier c x).sparse = d.sparse := id rfl
@[simp] theorem Device.setCarrier_num (d : Device) (c : Nat) (x : Carrier) : (d.setCarrier c x).num = d.num := id rfl
@[simp] theorem Device.setCarrier_coll (d : Device) (c : Nat) (x : Carrier) : (d.setCarrier c x).coll = d.coll := id rfl
@[simp] theorem Device.setCarrier_hist (d : Device) (c : Nat) (x : Carrier) : (d.setCarrier c x).hist = d.hist := id rfl
@[simp] theorem Device.setCarrier_ckpt (d : Device) (c : Nat) (x : Carrier) : (d.setCarrier c x).ckpt = d.ckpt := id rfl
@[simp] theorem Device.setCarrier_smuPath (d : Device) (c : Nat) (x : Carrier) : (d.setCarrier c x).smuPath = d.smuPath := id rfl

@[simp] theorem Device.setObj_regs (d : Device) (n : Nat) (o : TierObj) : (d.setObj n o).regs = d.regs := id rfl
@[simp] theorem Device.setObj_mem (d : Device) (n : Nat) (o : TierObj) : (d.setObj n o).mem = d.mem := id rfl
@[simp] theorem Device.setObj_poison (d : Device) (n : Nat) (o : TierObj) : (d.setObj n o).poison = d.poison := id rfl
@[simp] theorem Device.setObj_free (d : Device) (n : Nat) (o : TierObj) : (d.setObj n o).free = d.free := id rfl
@[simp] theorem Device.setObj_now (d : Device) (n : Nat) (o : TierObj) : (d.setObj n o).now = d.now := id rfl
@[simp] theorem Device.setObj_out (d : Device) (n : Nat) (o : TierObj) : (d.setObj n o).out = d.out := id rfl
@[simp] theorem Device.setObj_phase (d : Device) (n : Nat) (o : TierObj) : (d.setObj n o).phase = d.phase := id rfl
@[simp] theorem Device.setObj_tiles (d : Device) (n : Nat) (o : TierObj) : (d.setObj n o).tiles = d.tiles := id rfl
@[simp] theorem Device.setObj_rings (d : Device) (n : Nat) (o : TierObj) : (d.setObj n o).rings = d.rings := id rfl
@[simp] theorem Device.setObj_chans (d : Device) (n : Nat) (o : TierObj) : (d.setObj n o).chans = d.chans := id rfl
@[simp] theorem Device.setObj_links (d : Device) (n : Nat) (o : TierObj) : (d.setObj n o).links = d.links := id rfl
@[simp] theorem Device.setObj_carriers (d : Device) (n : Nat) (o : TierObj) : (d.setObj n o).carriers = d.carriers := id rfl
@[simp] theorem Device.setObj_optics (d : Device) (n : Nat) (o : TierObj) : (d.setObj n o).optics = d.optics := id rfl
@[simp] theorem Device.setObj_host (d : Device) (n : Nat) (o : TierObj) : (d.setObj n o).host = d.host := id rfl
@[simp] theorem Device.setObj_pwr (d : Device) (n : Nat) (o : TierObj) : (d.setObj n o).pwr = d.pwr := id rfl
@[simp] theorem Device.setObj_boot (d : Device) (n : Nat) (o : TierObj) : (d.setObj n o).boot = d.boot := id rfl
@[simp] theorem Device.setObj_mgmt (d : Device) (n : Nat) (o : TierObj) : (d.setObj n o).mgmt = d.mgmt := id rfl
@[simp] theorem Device.setObj_spine (d : Device) (n : Nat) (o : TierObj) : (d.setObj n o).spine = d.spine := id rfl
@[simp] theorem Device.setObj_cores (d : Device) (n : Nat) (o : TierObj) : (d.setObj n o).cores = d.cores := id rfl
@[simp] theorem Device.setObj_sparse (d : Device) (n : Nat) (o : TierObj) : (d.setObj n o).sparse = d.sparse := id rfl
@[simp] theorem Device.setObj_num (d : Device) (n : Nat) (o : TierObj) : (d.setObj n o).num = d.num := id rfl
@[simp] theorem Device.setObj_coll (d : Device) (n : Nat) (o : TierObj) : (d.setObj n o).coll = d.coll := id rfl
@[simp] theorem Device.setObj_hist (d : Device) (n : Nat) (o : TierObj) : (d.setObj n o).hist = d.hist := id rfl
@[simp] theorem Device.setObj_ckpt (d : Device) (n : Nat) (o : TierObj) : (d.setObj n o).ckpt = d.ckpt := id rfl
@[simp] theorem Device.setObj_smuPath (d : Device) (n : Nat) (o : TierObj) : (d.setObj n o).smuPath = d.smuPath := id rfl

@[simp] theorem Device.setUnit_regs (d : Device) (u : Nat) (st : UnitSt) : (d.setUnit u st).regs = d.regs := id rfl
@[simp] theorem Device.setUnit_mem (d : Device) (u : Nat) (st : UnitSt) : (d.setUnit u st).mem = d.mem := id rfl
@[simp] theorem Device.setUnit_poison (d : Device) (u : Nat) (st : UnitSt) : (d.setUnit u st).poison = d.poison := id rfl
@[simp] theorem Device.setUnit_free (d : Device) (u : Nat) (st : UnitSt) : (d.setUnit u st).free = d.free := id rfl
@[simp] theorem Device.setUnit_now (d : Device) (u : Nat) (st : UnitSt) : (d.setUnit u st).now = d.now := id rfl
@[simp] theorem Device.setUnit_out (d : Device) (u : Nat) (st : UnitSt) : (d.setUnit u st).out = d.out := id rfl
@[simp] theorem Device.setUnit_phase (d : Device) (u : Nat) (st : UnitSt) : (d.setUnit u st).phase = d.phase := id rfl
@[simp] theorem Device.setUnit_tier (d : Device) (u : Nat) (st : UnitSt) : (d.setUnit u st).tier = d.tier := id rfl
@[simp] theorem Device.setUnit_tiles (d : Device) (u : Nat) (st : UnitSt) : (d.setUnit u st).tiles = d.tiles := id rfl
@[simp] theorem Device.setUnit_rings (d : Device) (u : Nat) (st : UnitSt) : (d.setUnit u st).rings = d.rings := id rfl
@[simp] theorem Device.setUnit_chans (d : Device) (u : Nat) (st : UnitSt) : (d.setUnit u st).chans = d.chans := id rfl
@[simp] theorem Device.setUnit_links (d : Device) (u : Nat) (st : UnitSt) : (d.setUnit u st).links = d.links := id rfl
@[simp] theorem Device.setUnit_carriers (d : Device) (u : Nat) (st : UnitSt) : (d.setUnit u st).carriers = d.carriers := id rfl
@[simp] theorem Device.setUnit_optics (d : Device) (u : Nat) (st : UnitSt) : (d.setUnit u st).optics = d.optics := id rfl
@[simp] theorem Device.setUnit_host (d : Device) (u : Nat) (st : UnitSt) : (d.setUnit u st).host = d.host := id rfl
@[simp] theorem Device.setUnit_pwr (d : Device) (u : Nat) (st : UnitSt) : (d.setUnit u st).pwr = d.pwr := id rfl
@[simp] theorem Device.setUnit_boot (d : Device) (u : Nat) (st : UnitSt) : (d.setUnit u st).boot = d.boot := id rfl
@[simp] theorem Device.setUnit_mgmt (d : Device) (u : Nat) (st : UnitSt) : (d.setUnit u st).mgmt = d.mgmt := id rfl
@[simp] theorem Device.setUnit_cores (d : Device) (u : Nat) (st : UnitSt) : (d.setUnit u st).cores = d.cores := id rfl
@[simp] theorem Device.setUnit_sparse (d : Device) (u : Nat) (st : UnitSt) : (d.setUnit u st).sparse = d.sparse := id rfl
@[simp] theorem Device.setUnit_num (d : Device) (u : Nat) (st : UnitSt) : (d.setUnit u st).num = d.num := id rfl
@[simp] theorem Device.setUnit_coll (d : Device) (u : Nat) (st : UnitSt) : (d.setUnit u st).coll = d.coll := id rfl
@[simp] theorem Device.setUnit_hist (d : Device) (u : Nat) (st : UnitSt) : (d.setUnit u st).hist = d.hist := id rfl
@[simp] theorem Device.setUnit_ckpt (d : Device) (u : Nat) (st : UnitSt) : (d.setUnit u st).ckpt = d.ckpt := id rfl
@[simp] theorem Device.setUnit_smuPath (d : Device) (u : Nat) (st : UnitSt) : (d.setUnit u st).smuPath = d.smuPath := id rfl

@[simp] theorem Device.setCore_regs (d : Device) (c : Nat) (x : CoreSt) : (d.setCore c x).regs = d.regs := id rfl
@[simp] theorem Device.setCore_mem (d : Device) (c : Nat) (x : CoreSt) : (d.setCore c x).mem = d.mem := id rfl
@[simp] theorem Device.setCore_poison (d : Device) (c : Nat) (x : CoreSt) : (d.setCore c x).poison = d.poison := id rfl
@[simp] theorem Device.setCore_free (d : Device) (c : Nat) (x : CoreSt) : (d.setCore c x).free = d.free := id rfl
@[simp] theorem Device.setCore_now (d : Device) (c : Nat) (x : CoreSt) : (d.setCore c x).now = d.now := id rfl
@[simp] theorem Device.setCore_out (d : Device) (c : Nat) (x : CoreSt) : (d.setCore c x).out = d.out := id rfl
@[simp] theorem Device.setCore_phase (d : Device) (c : Nat) (x : CoreSt) : (d.setCore c x).phase = d.phase := id rfl
@[simp] theorem Device.setCore_tier (d : Device) (c : Nat) (x : CoreSt) : (d.setCore c x).tier = d.tier := id rfl
@[simp] theorem Device.setCore_tiles (d : Device) (c : Nat) (x : CoreSt) : (d.setCore c x).tiles = d.tiles := id rfl
@[simp] theorem Device.setCore_rings (d : Device) (c : Nat) (x : CoreSt) : (d.setCore c x).rings = d.rings := id rfl
@[simp] theorem Device.setCore_chans (d : Device) (c : Nat) (x : CoreSt) : (d.setCore c x).chans = d.chans := id rfl
@[simp] theorem Device.setCore_links (d : Device) (c : Nat) (x : CoreSt) : (d.setCore c x).links = d.links := id rfl
@[simp] theorem Device.setCore_carriers (d : Device) (c : Nat) (x : CoreSt) : (d.setCore c x).carriers = d.carriers := id rfl
@[simp] theorem Device.setCore_optics (d : Device) (c : Nat) (x : CoreSt) : (d.setCore c x).optics = d.optics := id rfl
@[simp] theorem Device.setCore_host (d : Device) (c : Nat) (x : CoreSt) : (d.setCore c x).host = d.host := id rfl
@[simp] theorem Device.setCore_pwr (d : Device) (c : Nat) (x : CoreSt) : (d.setCore c x).pwr = d.pwr := id rfl
@[simp] theorem Device.setCore_boot (d : Device) (c : Nat) (x : CoreSt) : (d.setCore c x).boot = d.boot := id rfl
@[simp] theorem Device.setCore_mgmt (d : Device) (c : Nat) (x : CoreSt) : (d.setCore c x).mgmt = d.mgmt := id rfl
@[simp] theorem Device.setCore_spine (d : Device) (c : Nat) (x : CoreSt) : (d.setCore c x).spine = d.spine := id rfl
@[simp] theorem Device.setCore_sparse (d : Device) (c : Nat) (x : CoreSt) : (d.setCore c x).sparse = d.sparse := id rfl
@[simp] theorem Device.setCore_num (d : Device) (c : Nat) (x : CoreSt) : (d.setCore c x).num = d.num := id rfl
@[simp] theorem Device.setCore_coll (d : Device) (c : Nat) (x : CoreSt) : (d.setCore c x).coll = d.coll := id rfl
@[simp] theorem Device.setCore_hist (d : Device) (c : Nat) (x : CoreSt) : (d.setCore c x).hist = d.hist := id rfl
@[simp] theorem Device.setCore_ckpt (d : Device) (c : Nat) (x : CoreSt) : (d.setCore c x).ckpt = d.ckpt := id rfl
@[simp] theorem Device.setCore_smuPath (d : Device) (c : Nat) (x : CoreSt) : (d.setCore c x).smuPath = d.smuPath := id rfl

/-! ### Reading back -/

@[simp] theorem Device.tile_setTile (d : Device) (t : Nat) (x : MemTile) : (d.setTile t x).tile t = x := Store.get_set_same ..

theorem Device.tile_setTile_ne (d : Device) {t j : Nat} (x : MemTile) (h : j ≠ t) : (d.setTile t x).tile j = d.tile j := Store.get_set_ne _ _ _ h

@[simp] theorem Device.ring_setRing (d : Device) (r : Nat) (x : RingSt) : (d.setRing r x).ring r = x := Store.get_set_same ..

theorem Device.ring_setRing_ne (d : Device) {r j : Nat} (x : RingSt) (h : j ≠ r) : (d.setRing r x).ring j = d.ring j := Store.get_set_ne _ _ _ h

@[simp] theorem Device.link_setLink (d : Device) (l : Nat) (x : Link) : (d.setLink l x).link l = x := Store.get_set_same ..

theorem Device.link_setLink_ne (d : Device) {l j : Nat} (x : Link) (h : j ≠ l) : (d.setLink l x).link j = d.link j := Store.get_set_ne _ _ _ h

@[simp] theorem Device.carrier_setCarrier (d : Device) (c : Nat) (x : Carrier) : (d.setCarrier c x).carrier c = x := Store.get_set_same ..

theorem Device.carrier_setCarrier_ne (d : Device) {c j : Nat} (x : Carrier) (h : j ≠ c) : (d.setCarrier c x).carrier j = d.carrier j := Store.get_set_ne _ _ _ h

@[simp] theorem Device.obj_setObj (d : Device) (n : Nat) (x : TierObj) : (d.setObj n x).obj n = x := Store.get_set_same ..

theorem Device.obj_setObj_ne (d : Device) {n j : Nat} (x : TierObj) (h : j ≠ n) : (d.setObj n x).obj j = d.obj j := Store.get_set_ne _ _ _ h

@[simp] theorem Device.unitSt_setUnit (d : Device) (u : Nat) (x : UnitSt) : (d.setUnit u x).unitSt u = x := Store.get_set_same ..

theorem Device.unitSt_setUnit_ne (d : Device) {u j : Nat} (x : UnitSt) (h : j ≠ u) : (d.setUnit u x).unitSt j = d.unitSt j := Store.get_set_ne _ _ _ h

@[simp] theorem Device.core_setCore (d : Device) (c : Nat) (x : CoreSt) : (d.setCore c x).core c = x := Store.get_set_same ..

theorem Device.core_setCore_ne (d : Device) {c j : Nat} (x : CoreSt) (h : j ≠ c) : (d.setCore c x).core j = d.core j := Store.get_set_ne _ _ _ h

@[simp] theorem Device.chan_setChan (d : Device) (e c : Nat) (x : Channel) : (d.setChan e c x).chan e c = x := Store.get_set_same ..

theorem Device.chan_setChan_ne (d : Device) {e c e' c' : Nat} (x : Channel) (h : e' * 128 + c' ≠ e * 128 + c) :
    (d.setChan e c x).chan e' c' = d.chan e' c' := Store.get_set_ne _ _ _ h

@[simp] theorem Device.byte_setByte (d : Device) (k : Nat) (v : Byte) : (d.setByte k v).byte k = v := Store.get_set_same ..

theorem Device.byte_setByte_ne (d : Device) {k j : Nat} (v : Byte) (h : j ≠ k) : (d.setByte k v).byte j = d.byte j :=
  Store.get_set_ne _ _ _ h

@[simp] theorem Device.tile_wr (d : Device) (f : Fld) (x t : Nat) : (d.wr f x).tile t = d.tile t := id rfl

@[simp] theorem Device.ring_wr (d : Device) (f : Fld) (x t : Nat) : (d.wr f x).ring t = d.ring t := id rfl

@[simp] theorem Device.link_wr (d : Device) (f : Fld) (x t : Nat) : (d.wr f x).link t = d.link t := id rfl

@[simp] theorem Device.carrier_wr (d : Device) (f : Fld) (x t : Nat) : (d.wr f x).carrier t = d.carrier t := id rfl

@[simp] theorem Device.obj_wr (d : Device) (f : Fld) (x t : Nat) : (d.wr f x).obj t = d.obj t := id rfl

@[simp] theorem Device.unitSt_wr (d : Device) (f : Fld) (x t : Nat) : (d.wr f x).unitSt t = d.unitSt t := id rfl

@[simp] theorem Device.core_wr (d : Device) (f : Fld) (x t : Nat) : (d.wr f x).core t = d.core t := id rfl

@[simp] theorem Device.unitAt_wr (d : Device) (f : Fld) (x t : Nat) : (d.wr f x).unitAt t = d.unitAt t := id rfl

@[simp] theorem Device.workUnit_wr (d : Device) (f : Fld) (x t : Nat) : (d.wr f x).workUnit t = d.workUnit t := id rfl

@[simp] theorem Device.byte_wr (d : Device) (f : Fld) (x t : Nat) : (d.wr f x).byte t = d.byte t := id rfl

end Sys2Proof.Machine
end

