-- ==== Sys2Proof/Laws/Memory.lean ====
section
/-! SUPPORT. Laws of memory: what a write leaves at every byte, that a read gives back what was written, and that every memory
operation keeps the canonical form, which the memory after reset has. -/

namespace Sys2Proof.Machine

/-! ### Reads after writes -/

/-- Every byte after a write of `b` at `k`. -/
theorem get_writeMem (b : Bytes) (m : Store Byte) (k j : Nat) :
    Store.get memReset (writeMem m k b) j = if k ≤ j ∧ j < k + b.length then b.getD (j - k) 0 else Store.get memReset m j := by
  induction b generalizing m k with
  | nil => rw [if_neg (by simp), writeMem]
  | cons x r ih =>
    rw [writeMem, ih]
    by_cases h : j = k
    · subst h
      rw [if_neg (by omega), if_pos (by simp), Store.get_set_same, Nat.sub_self]; rfl
    · rw [Store.get_set_ne _ _ _ h]
      by_cases g : k + 1 ≤ j ∧ j < k + 1 + r.length
      · rw [if_pos g, if_pos (by simp; omega)]
        obtain ⟨n, hn⟩ : ∃ n, j - k = n + 1 := ⟨j - k - 1, by omega⟩
        rw [hn, show j - (k + 1) = n by omega]; rfl
      · rw [if_neg g, if_neg (by simp; omega)]

@[simp] theorem readMem_length (m : Store Byte) (n k : Nat) : (readMem m n k).length = n := by
  induction n generalizing k with
  | zero => rfl
  | succ n ih => simp [readMem, ih]

/-- Two memories that agree on the bytes read are read alike. -/
theorem readMem_congr {m m' : Store Byte} {n k : Nat} (h : ∀ j, k ≤ j → j < k + n → Store.get memReset m j = Store.get memReset m' j) :
    readMem m n k = readMem m' n k := by
  induction n generalizing k with
  | zero => rfl
  | succ n ih =>
    rw [readMem, readMem, h k (Nat.le_refl k) (by omega), ih fun j a b => h j (by omega) (by omega)]

/-- What was written is read back. -/
theorem readMem_writeMem (m : Store Byte) (k : Nat) (b : Bytes) : readMem (writeMem m k b) b.length k = b := by
  induction b generalizing m k with
  | nil => rfl
  | cons x r ih =>
    rw [List.length_cons, readMem, get_writeMem, if_pos (by simp), Nat.sub_self, writeMem, ih]; rfl

@[simp] theorem padTo_length (n : Nat) (b : Bytes) : (padTo n b).length = n := by
  simp only [padTo, zeroBytes, List.length_append, List.length_take, List.length_replicate]
  omega

theorem unpoison_mem (d : Device) (k n f : Nat) : (Device.unpoison d k n f).mem = d.mem := by
  induction f with
  | zero => rfl
  | succ f ih =>
    simp only [Device.unpoison]
    split
    · rw [Device.setPoison_mem, ih]
    · exact ih

theorem Device.writeKey_mem (d : Device) (k : Nat) (b : Bytes) : (d.writeKey k b).mem = writeMem d.mem k b := rfl

/-- Every byte after a masked write of a line. -/
theorem byte_maskFold (data : Bytes) (mask k : Nat) (l : List Nat) (m : Store Byte) (j : Nat) (nd : l.Nodup) :
    Store.get memReset (l.foldl (fun m i => if bit mask i then Store.set memReset m (k + i) (data.getD i 0) else m) m) j =
      if k ≤ j ∧ j - k ∈ l ∧ bit mask (j - k) = true then data.getD (j - k) 0 else Store.get memReset m j := by
  induction l generalizing m with
  | nil => rw [if_neg (by simp)]; rfl
  | cons i r ih =>
    rw [List.foldl_cons, ih _ (List.nodup_cons.mp nd).2]
    have hi := (List.nodup_cons.mp nd).1
    by_cases h : j = k + i
    · subst h
      rw [Nat.add_sub_cancel_left, if_neg (fun g => hi g.2.1)]
      cases hb : bit mask i
      · rw [if_neg (by simp), if_neg (by simp)]
      · rw [if_pos rfl, Store.get_set_same, if_pos ⟨by omega, by simp, rfl⟩]
    · have hn : ∀ v, Store.get memReset (Store.set memReset m (k + i) v) j = Store.get memReset m j := fun v => Store.get_set_ne _ _ _ h
      have ha : (if bit mask i then Store.set memReset m (k + i) (data.getD i 0) else m) = m ∨
          (if bit mask i then Store.set memReset m (k + i) (data.getD i 0) else m) = Store.set memReset m (k + i) (data.getD i 0) := by
        split
        · exact .inr rfl
        · exact .inl rfl
      have hm : Store.get memReset (if bit mask i then Store.set memReset m (k + i) (data.getD i 0) else m) j = Store.get memReset m j := by
        rcases ha with ha | ha <;> rw [ha]
        exact hn _
      rw [hm]
      by_cases g : k ≤ j ∧ j - k ∈ r ∧ bit mask (j - k) = true
      · rw [if_pos g, if_pos ⟨g.1, List.mem_cons_of_mem _ g.2.1, g.2.2⟩]
      · rw [if_neg g, if_neg (fun q => g ⟨q.1, (List.mem_cons.mp q.2.1).resolve_left (by omega), q.2.2⟩)]

theorem Device.maskWrite_byte (d : Device) (tile line mask : Nat) (data : Bytes) (j : Nat) :
    (d.maskWrite tile line mask data).byte j =
      if t1Key tile line 0 ≤ j ∧ j < t1Key tile line 0 + 64 ∧ bit mask (j - t1Key tile line 0) = true then data.getD (j - t1Key tile line 0) 0
      else d.byte j := by
  unfold Device.byte Device.maskWrite t1Key
  rw [byte_maskFold _ _ _ _ _ _ List.nodup_range, Nat.add_zero]
  refine if_congr ?_ rfl rfl
  rw [List.mem_range]
  constructor
  · rintro ⟨a, b, c⟩; exact ⟨a, by omega, c⟩
  · rintro ⟨a, b, c⟩; exact ⟨a, by omega, c⟩

/-! ### The canonical form -/

theorem Memory.wf_set {m : Store Byte} (k : Nat) (v : Byte) (h : Memory.wf m = true) : Memory.wf (Store.set memReset m k v) = true :=
  Store.wf_set k v h

theorem Memory.wf_keep {m : Store Byte} (p : Nat → Bool) (h : Memory.wf m = true) : Memory.wf (Store.keep p m) = true :=
  Store.wf_keep p h

/-- Dropping the bytes of some keys keeps the form. -/
theorem Memory.wf_filter {m : Store Byte} (p : Nat → Bool) (h : Memory.wf m = true) : Memory.wf (m.filter fun e => p e.1) = true :=
  Store.wf_keep p h

theorem Memory.wf_writeMem {m : Store Byte} (k : Nat) (b : Bytes) (h : Memory.wf m = true) : Memory.wf (writeMem m k b) = true := by
  induction b generalizing m k with
  | nil => exact h
  | cons x r ih => exact ih _ (Memory.wf_set _ _ h)

theorem Memory.wf_writeCells {m : Store Byte} (cs : List Host.Cell) (h : Memory.wf m = true) : Memory.wf (writeCells m cs) = true := by
  induction cs generalizing m with
  | nil => exact h
  | cons x r ih => exact ih (Memory.wf_set _ _ h)

theorem Memory.wf_foldl {α : Type} {f : Store Byte → α → Store Byte} (hf : ∀ m a, Memory.wf m = true → Memory.wf (f m a) = true)
    (l : List α) {m : Store Byte} (h : Memory.wf m = true) : Memory.wf (l.foldl f m) = true := by
  induction l generalizing m with
  | nil => exact h
  | cons x r ih => exact ih (hf _ _ h)

theorem Device.setByte_wf {d : Device} (k : Nat) (v : Byte) (h : Memory.wf d.mem = true) : Memory.wf (d.setByte k v).mem = true :=
  Memory.wf_set _ _ h

theorem Device.hostWrites_wf {d : Device} (cs : List Host.Cell) (h : Memory.wf d.mem = true) : Memory.wf (d.hostWrites cs).mem = true :=
  Memory.wf_writeCells _ h

theorem Device.writeKey_wf {d : Device} (k : Nat) (b : Bytes) (h : Memory.wf d.mem = true) : Memory.wf (d.writeKey k b).mem = true :=
  Memory.wf_writeMem _ _ h

theorem Device.maskWrite_wf {d : Device} (tile line mask : Nat) (data : Bytes) (h : Memory.wf d.mem = true) :
    Memory.wf (d.maskWrite tile line mask data).mem = true := by
  refine Memory.wf_foldl (fun m i hm => ?_) _ h
  split
  · exact Memory.wf_set _ _ hm
  · exact hm

theorem Device.loseTile_wf {d : Device} (t : Nat) (h : Memory.wf d.mem = true) : Memory.wf (d.loseTile t).mem = true :=
  Memory.wf_filter (fun k => decide (k < t1Key t 0 0) || decide (t1Key (t + 1) 0 0 ≤ k)) h

theorem Device.loseCore_wf {d : Device} (c : Nat) (h : Memory.wf d.mem = true) : Memory.wf (d.loseCore c).mem = true :=
  Memory.wf_filter (fun k => decide (k < coreKey c 0) || decide (coreKey (c + 1) 0 ≤ k)) h

/-- The memory after reset lists nothing, and so has the form. -/
theorem reset_memory_wf : Memory.wf State.reset.dev.mem = true := rfl

end Sys2Proof.Machine
end

