-- ==== Sys2Proof/Laws/RegWrite.lean ====
section
/-! SUPPORT. Laws of a register write: the register tables give each register fields that lie apart, so a write leaves in each field
what its access code says (R12). -/

namespace Sys2Proof.Machine

/-- Fields of a register lie in its 32 bits and no two share a bit. -/
def fieldsApart : List FldRow → Bool
  | [] => true
  | f :: r => decide (f.lo + f.w ≤ 32) && r.all (fun g => decide (f.lo + f.w ≤ g.lo ∨ g.lo + g.w ≤ f.lo)) && fieldsApart r

theorem RegMap.blocks_apart : RegMap.blocks.all (fun b => b.rows.all fun r => fieldsApart r.flds) = true := by decide

theorem RegMap.findRow_mem {rows : List RegRow} {rel : Nat} {p : RegRow × Nat} (h : RegMap.findRow rows rel = some p) : p.1 ∈ rows := by
  unfold RegMap.findRow at h
  obtain ⟨r, m, g⟩ := List.exists_of_findSome?_eq_some h
  split at g
  · cases g; exact m
  · cases g

/-- Every register of the map has fields that lie apart. -/
theorem RegMap.at_apart {off : Nat} {a : RegAt} (h : RegMap.at? off = some a) : fieldsApart a.row.flds = true := by
  unfold RegMap.at? at h
  obtain ⟨b, m, g⟩ := List.exists_of_findSome?_eq_some h
  dsimp only at g
  generalize (if b.stride = 0 then 0 else (off - b.base) / b.stride) = inst at g
  split at g
  · rw [Option.map_eq_some_iff] at g
    obtain ⟨p, e, rfl⟩ := g
    exact List.all_eq_true.mp (List.all_eq_true.mp RegMap.blocks_apart b m) p.1 (RegMap.findRow_mem e)
  · cases g

theorem fieldsApart_fits {l : List FldRow} (h : fieldsApart l = true) {f : FldRow} (m : f ∈ l) : f.lo + f.w ≤ 32 := by
  induction l with
  | nil => cases m
  | cons g r ih =>
    simp only [fieldsApart, Bool.and_eq_true, decide_eq_true_eq] at h
    rcases List.mem_cons.mp m with rfl | m
    · exact h.1.1
    · exact ih h.2 m

/-- Writing fields that lie apart from one leaves it. -/
theorem getBits_foldl_other (x : FldRow → Nat) (g : FldRow) (l : List FldRow) (v : Word)
    (h : ∀ f ∈ l, f.lo + f.w ≤ 32 ∧ (g.lo + g.w ≤ f.lo ∨ f.lo + f.w ≤ g.lo)) :
    getBits (l.foldl (fun acc f => putBits acc f.lo f.w (x f)) v) g.lo g.w = getBits v g.lo g.w := by
  induction l generalizing v with
  | nil => rfl
  | cons f r ih =>
    rw [List.foldl_cons, ih _ fun f m => h f (List.mem_cons_of_mem _ m)]
    obtain ⟨a, b⟩ := h f (List.mem_cons_self ..)
    rcases b with b | b
    · exact getBits_putBits_below _ _ a b
    · exact getBits_putBits_above _ _ a b

/-- Each of the fields that lie apart ends with its own value. -/
theorem getBits_foldl_field (x : FldRow → Nat) (l : List FldRow) (v : Word) (h : fieldsApart l = true) {f : FldRow} (m : f ∈ l) :
    getBits (l.foldl (fun acc f => putBits acc f.lo f.w (x f)) v) f.lo f.w = x f % 2 ^ f.w := by
  induction l generalizing v with
  | nil => cases m
  | cons g r ih =>
    simp only [fieldsApart, Bool.and_eq_true, decide_eq_true_eq, List.all_eq_true] at h
    obtain ⟨⟨a, b⟩, c⟩ := h
    rw [List.foldl_cons]
    rcases List.mem_cons.mp m with rfl | m
    · rw [getBits_foldl_other x _ r _ fun g n => ⟨fieldsApart_fits c n, b g n⟩]
      exact getBits_putBits_same _ _ a
    · exact ih _ c m

/-- R12: what a write leaves in each field of its register. -/
theorem Device.afterWrite_field (d : Device) {off : Nat} {a : RegAt} (h : RegMap.at? off = some a) (old v hw : Word) {f : FldRow}
    (m : f ∈ a.row.flds) :
    getBits (d.afterWrite a.row old v hw) f.lo f.w =
      fieldAfter f.acc d.boot.locked (getBits old f.lo f.w) (d.limitField a.row.name f.name (getBits v f.lo f.w)) (getBits hw f.lo f.w) % 2 ^ f.w :=
  getBits_foldl_field _ _ _ (RegMap.at_apart h) m

/-- Writing only the fields that pass a test leaves the others. -/
theorem getBits_foldl_some (p : FldRow → Prop) [DecidablePred p] (x : FldRow → Nat) (l : List FldRow) (v : Word) (h : fieldsApart l = true)
    {f : FldRow} (m : f ∈ l) :
    getBits (l.foldl (fun w f => if p f then putBits w f.lo f.w (x f) else w) v) f.lo f.w =
      if p f then x f % 2 ^ f.w else getBits v f.lo f.w := by
  have q : ∀ (l : List FldRow) (v : Word) (g : FldRow), (∀ f ∈ l, f.lo + f.w ≤ 32 ∧ (g.lo + g.w ≤ f.lo ∨ f.lo + f.w ≤ g.lo)) →
      getBits (l.foldl (fun w f => if p f then putBits w f.lo f.w (x f) else w) v) g.lo g.w = getBits v g.lo g.w := by
    intro l
    induction l with
    | nil => intro _ _ _; rfl
    | cons f r ih =>
      intro v g h
      rw [List.foldl_cons, ih _ g fun f m => h f (List.mem_cons_of_mem _ m)]
      obtain ⟨a, b⟩ := h f (List.mem_cons_self ..)
      split
      · rcases b with b | b
        · exact getBits_putBits_below _ _ a b
        · exact getBits_putBits_above _ _ a b
      · rfl
  induction l generalizing v with
  | nil => cases m
  | cons g r ih =>
    have h' := h
    simp only [fieldsApart, Bool.and_eq_true, decide_eq_true_eq, List.all_eq_true] at h
    obtain ⟨⟨a, b⟩, c⟩ := h
    rw [List.foldl_cons]
    rcases List.mem_cons.mp m with rfl | m
    · rw [q r _ f fun g n => ⟨fieldsApart_fits c n, b g n⟩]
      split
      · exact getBits_putBits_same _ _ a
      · rfl
    · rw [ih _ c m]
      split
      · rfl
      · split
        · rcases b f m with b | b
          · exact getBits_putBits_above _ _ a b
          · exact getBits_putBits_below _ _ a b
        · rfl

end Sys2Proof.Machine
end

