-- ==== Sys2Proof/Laws/Sparse.lean ====
section
/-! SUPPORT. Laws of the sparse and tier state: what the operations on tables, directory entries, T1 extents, gathers and histories
leave in each part of the units. -/

namespace Sys2Proof.Machine

@[simp] theorem Device.setTable_mem (d : Device) (t : Nat) (x : Table) : (d.setTable t x).mem = d.mem := id rfl
@[simp] theorem Device.setTable_poison (d : Device) (t : Nat) (x : Table) : (d.setTable t x).poison = d.poison := id rfl
@[simp] theorem Device.setTable_free (d : Device) (t : Nat) (x : Table) : (d.setTable t x).free = d.free := id rfl
@[simp] theorem Device.setTable_now (d : Device) (t : Nat) (x : Table) : (d.setTable t x).now = d.now := id rfl
@[simp] theorem Device.setTable_out (d : Device) (t : Nat) (x : Table) : (d.setTable t x).out = d.out := id rfl
@[simp] theorem Device.setTable_phase (d : Device) (t : Nat) (x : Table) : (d.setTable t x).phase = d.phase := id rfl
@[simp] theorem Device.setTable_tier (d : Device) (t : Nat) (x : Table) : (d.setTable t x).tier = d.tier := id rfl
@[simp] theorem Device.setTable_tiles (d : Device) (t : Nat) (x : Table) : (d.setTable t x).tiles = d.tiles := id rfl
@[simp] theorem Device.setTable_rings (d : Device) (t : Nat) (x : Table) : (d.setTable t x).rings = d.rings := id rfl
@[simp] theorem Device.setTable_chans (d : Device) (t : Nat) (x : Table) : (d.setTable t x).chans = d.chans := id rfl
@[simp] theorem Device.setTable_links (d : Device) (t : Nat) (x : Table) : (d.setTable t x).links = d.links := id rfl
@[simp] theorem Device.setTable_carriers (d : Device) (t : Nat) (x : Table) : (d.setTable t x).carriers = d.carriers := id rfl
@[simp] theorem Device.setTable_optics (d : Device) (t : Nat) (x : Table) : (d.setTable t x).optics = d.optics := id rfl
@[simp] theorem Device.setTable_host (d : Device) (t : Nat) (x : Table) : (d.setTable t x).host = d.host := id rfl
@[simp] theorem Device.setTable_pwr (d : Device) (t : Nat) (x : Table) : (d.setTable t x).pwr = d.pwr := id rfl
@[simp] theorem Device.setTable_boot (d : Device) (t : Nat) (x : Table) : (d.setTable t x).boot = d.boot := id rfl
@[simp] theorem Device.setTable_mgmt (d : Device) (t : Nat) (x : Table) : (d.setTable t x).mgmt = d.mgmt := id rfl
@[simp] theorem Device.setTable_spine (d : Device) (t : Nat) (x : Table) : (d.setTable t x).spine = d.spine := id rfl
@[simp] theorem Device.setTable_cores (d : Device) (t : Nat) (x : Table) : (d.setTable t x).cores = d.cores := id rfl
@[simp] theorem Device.setTable_num (d : Device) (t : Nat) (x : Table) : (d.setTable t x).num = d.num := id rfl
@[simp] theorem Device.setTable_coll (d : Device) (t : Nat) (x : Table) : (d.setTable t x).coll = d.coll := id rfl
@[simp] theorem Device.setTable_hist (d : Device) (t : Nat) (x : Table) : (d.setTable t x).hist = d.hist := id rfl
@[simp] theorem Device.setTable_ckpt (d : Device) (t : Nat) (x : Table) : (d.setTable t x).ckpt = d.ckpt := id rfl
@[simp] theorem Device.setTable_smuPath (d : Device) (t : Nat) (x : Table) : (d.setTable t x).smuPath = d.smuPath := id rfl
@[simp] theorem Device.setTable_regs (d : Device) (t : Nat) (x : Table) : (d.setTable t x).regs = d.regs := id rfl

@[simp] theorem Device.setEntry_mem (d : Device) (x : DirEntry) : (d.setEntry x).mem = d.mem := id rfl
@[simp] theorem Device.setEntry_poison (d : Device) (x : DirEntry) : (d.setEntry x).poison = d.poison := id rfl
@[simp] theorem Device.setEntry_free (d : Device) (x : DirEntry) : (d.setEntry x).free = d.free := id rfl
@[simp] theorem Device.setEntry_now (d : Device) (x : DirEntry) : (d.setEntry x).now = d.now := id rfl
@[simp] theorem Device.setEntry_out (d : Device) (x : DirEntry) : (d.setEntry x).out = d.out := id rfl
@[simp] theorem Device.setEntry_phase (d : Device) (x : DirEntry) : (d.setEntry x).phase = d.phase := id rfl
@[simp] theorem Device.setEntry_tiles (d : Device) (x : DirEntry) : (d.setEntry x).tiles = d.tiles := id rfl
@[simp] theorem Device.setEntry_rings (d : Device) (x : DirEntry) : (d.setEntry x).rings = d.rings := id rfl
@[simp] theorem Device.setEntry_chans (d : Device) (x : DirEntry) : (d.setEntry x).chans = d.chans := id rfl
@[simp] theorem Device.setEntry_links (d : Device) (x : DirEntry) : (d.setEntry x).links = d.links := id rfl
@[simp] theorem Device.setEntry_carriers (d : Device) (x : DirEntry) : (d.setEntry x).carriers = d.carriers := id rfl
@[simp] theorem Device.setEntry_optics (d : Device) (x : DirEntry) : (d.setEntry x).optics = d.optics := id rfl
@[simp] theorem Device.setEntry_host (d : Device) (x : DirEntry) : (d.setEntry x).host = d.host := id rfl
@[simp] theorem Device.setEntry_pwr (d : Device) (x : DirEntry) : (d.setEntry x).pwr = d.pwr := id rfl
@[simp] theorem Device.setEntry_boot (d : Device) (x : DirEntry) : (d.setEntry x).boot = d.boot := id rfl
@[simp] theorem Device.setEntry_mgmt (d : Device) (x : DirEntry) : (d.setEntry x).mgmt = d.mgmt := id rfl
@[simp] theorem Device.setEntry_spine (d : Device) (x : DirEntry) : (d.setEntry x).spine = d.spine := id rfl
@[simp] theorem Device.setEntry_cores (d : Device) (x : DirEntry) : (d.setEntry x).cores = d.cores := id rfl
@[simp] theorem Device.setEntry_sparse (d : Device) (x : DirEntry) : (d.setEntry x).sparse = d.sparse := id rfl
@[simp] theorem Device.setEntry_num (d : Device) (x : DirEntry) : (d.setEntry x).num = d.num := id rfl
@[simp] theorem Device.setEntry_coll (d : Device) (x : DirEntry) : (d.setEntry x).coll = d.coll := id rfl
@[simp] theorem Device.setEntry_hist (d : Device) (x : DirEntry) : (d.setEntry x).hist = d.hist := id rfl
@[simp] theorem Device.setEntry_ckpt (d : Device) (x : DirEntry) : (d.setEntry x).ckpt = d.ckpt := id rfl
@[simp] theorem Device.setEntry_smuPath (d : Device) (x : DirEntry) : (d.setEntry x).smuPath = d.smuPath := id rfl
@[simp] theorem Device.setEntry_regs (d : Device) (x : DirEntry) : (d.setEntry x).regs = d.regs := id rfl

@[simp] theorem Device.free1_mem (d : Device) (t l : Nat) : (d.free1 t l).mem = d.mem := id rfl
@[simp] theorem Device.free1_poison (d : Device) (t l : Nat) : (d.free1 t l).poison = d.poison := id rfl
@[simp] theorem Device.free1_free (d : Device) (t l : Nat) : (d.free1 t l).free = d.free := id rfl
@[simp] theorem Device.free1_now (d : Device) (t l : Nat) : (d.free1 t l).now = d.now := id rfl
@[simp] theorem Device.free1_out (d : Device) (t l : Nat) : (d.free1 t l).out = d.out := id rfl
@[simp] theorem Device.free1_phase (d : Device) (t l : Nat) : (d.free1 t l).phase = d.phase := id rfl
@[simp] theorem Device.free1_tiles (d : Device) (t l : Nat) : (d.free1 t l).tiles = d.tiles := id rfl
@[simp] theorem Device.free1_rings (d : Device) (t l : Nat) : (d.free1 t l).rings = d.rings := id rfl
@[simp] theorem Device.free1_chans (d : Device) (t l : Nat) : (d.free1 t l).chans = d.chans := id rfl
@[simp] theorem Device.free1_links (d : Device) (t l : Nat) : (d.free1 t l).links = d.links := id rfl
@[simp] theorem Device.free1_carriers (d : Device) (t l : Nat) : (d.free1 t l).carriers = d.carriers := id rfl
@[simp] theorem Device.free1_optics (d : Device) (t l : Nat) : (d.free1 t l).optics = d.optics := id rfl
@[simp] theorem Device.free1_host (d : Device) (t l : Nat) : (d.free1 t l).host = d.host := id rfl
@[simp] theorem Device.free1_pwr (d : Device) (t l : Nat) : (d.free1 t l).pwr = d.pwr := id rfl
@[simp] theorem Device.free1_boot (d : Device) (t l : Nat) : (d.free1 t l).boot = d.boot := id rfl
@[simp] theorem Device.free1_mgmt (d : Device) (t l : Nat) : (d.free1 t l).mgmt = d.mgmt := id rfl
@[simp] theorem Device.free1_spine (d : Device) (t l : Nat) : (d.free1 t l).spine = d.spine := id rfl
@[simp] theorem Device.free1_cores (d : Device) (t l : Nat) : (d.free1 t l).cores = d.cores := id rfl
@[simp] theorem Device.free1_sparse (d : Device) (t l : Nat) : (d.free1 t l).sparse = d.sparse := id rfl
@[simp] theorem Device.free1_num (d : Device) (t l : Nat) : (d.free1 t l).num = d.num := id rfl
@[simp] theorem Device.free1_coll (d : Device) (t l : Nat) : (d.free1 t l).coll = d.coll := id rfl
@[simp] theorem Device.free1_hist (d : Device) (t l : Nat) : (d.free1 t l).hist = d.hist := id rfl
@[simp] theorem Device.free1_ckpt (d : Device) (t l : Nat) : (d.free1 t l).ckpt = d.ckpt := id rfl
@[simp] theorem Device.free1_smuPath (d : Device) (t l : Nat) : (d.free1 t l).smuPath = d.smuPath := id rfl
@[simp] theorem Device.free1_regs (d : Device) (t l : Nat) : (d.free1 t l).regs = d.regs := id rfl

@[simp] theorem Device.hostWrites_poison (d : Device) (w : List Host.Cell) : (d.hostWrites w).poison = d.poison := id rfl
@[simp] theorem Device.hostWrites_free (d : Device) (w : List Host.Cell) : (d.hostWrites w).free = d.free := id rfl
@[simp] theorem Device.hostWrites_now (d : Device) (w : List Host.Cell) : (d.hostWrites w).now = d.now := id rfl
@[simp] theorem Device.hostWrites_out (d : Device) (w : List Host.Cell) : (d.hostWrites w).out = d.out := id rfl
@[simp] theorem Device.hostWrites_phase (d : Device) (w : List Host.Cell) : (d.hostWrites w).phase = d.phase := id rfl
@[simp] theorem Device.hostWrites_tier (d : Device) (w : List Host.Cell) : (d.hostWrites w).tier = d.tier := id rfl
@[simp] theorem Device.hostWrites_tiles (d : Device) (w : List Host.Cell) : (d.hostWrites w).tiles = d.tiles := id rfl
@[simp] theorem Device.hostWrites_rings (d : Device) (w : List Host.Cell) : (d.hostWrites w).rings = d.rings := id rfl
@[simp] theorem Device.hostWrites_chans (d : Device) (w : List Host.Cell) : (d.hostWrites w).chans = d.chans := id rfl
@[simp] theorem Device.hostWrites_links (d : Device) (w : List Host.Cell) : (d.hostWrites w).links = d.links := id rfl
@[simp] theorem Device.hostWrites_carriers (d : Device) (w : List Host.Cell) : (d.hostWrites w).carriers = d.carriers := id rfl
@[simp] theorem Device.hostWrites_optics (d : Device) (w : List Host.Cell) : (d.hostWrites w).optics = d.optics := id rfl
@[simp] theorem Device.hostWrites_host (d : Device) (w : List Host.Cell) : (d.hostWrites w).host = d.host := id rfl
@[simp] theorem Device.hostWrites_pwr (d : Device) (w : List Host.Cell) : (d.hostWrites w).pwr = d.pwr := id rfl
@[simp] theorem Device.hostWrites_boot (d : Device) (w : List Host.Cell) : (d.hostWrites w).boot = d.boot := id rfl
@[simp] theorem Device.hostWrites_mgmt (d : Device) (w : List Host.Cell) : (d.hostWrites w).mgmt = d.mgmt := id rfl
@[simp] theorem Device.hostWrites_spine (d : Device) (w : List Host.Cell) : (d.hostWrites w).spine = d.spine := id rfl
@[simp] theorem Device.hostWrites_cores (d : Device) (w : List Host.Cell) : (d.hostWrites w).cores = d.cores := id rfl
@[simp] theorem Device.hostWrites_sparse (d : Device) (w : List Host.Cell) : (d.hostWrites w).sparse = d.sparse := id rfl
@[simp] theorem Device.hostWrites_num (d : Device) (w : List Host.Cell) : (d.hostWrites w).num = d.num := id rfl
@[simp] theorem Device.hostWrites_coll (d : Device) (w : List Host.Cell) : (d.hostWrites w).coll = d.coll := id rfl
@[simp] theorem Device.hostWrites_hist (d : Device) (w : List Host.Cell) : (d.hostWrites w).hist = d.hist := id rfl
@[simp] theorem Device.hostWrites_ckpt (d : Device) (w : List Host.Cell) : (d.hostWrites w).ckpt = d.ckpt := id rfl
@[simp] theorem Device.hostWrites_smuPath (d : Device) (w : List Host.Cell) : (d.hostWrites w).smuPath = d.smuPath := id rfl
@[simp] theorem Device.hostWrites_regs (d : Device) (w : List Host.Cell) : (d.hostWrites w).regs = d.regs := id rfl

@[simp] theorem Device.setGather_mem (d : Device) (g : Gather) : (d.setGather g).mem = d.mem := id rfl
@[simp] theorem Device.setGather_poison (d : Device) (g : Gather) : (d.setGather g).poison = d.poison := id rfl
@[simp] theorem Device.setGather_free (d : Device) (g : Gather) : (d.setGather g).free = d.free := id rfl
@[simp] theorem Device.setGather_now (d : Device) (g : Gather) : (d.setGather g).now = d.now := id rfl
@[simp] theorem Device.setGather_out (d : Device) (g : Gather) : (d.setGather g).out = d.out := id rfl
@[simp] theorem Device.setGather_phase (d : Device) (g : Gather) : (d.setGather g).phase = d.phase := id rfl
@[simp] theorem Device.setGather_tier (d : Device) (g : Gather) : (d.setGather g).tier = d.tier := id rfl
@[simp] theorem Device.setGather_tiles (d : Device) (g : Gather) : (d.setGather g).tiles = d.tiles := id rfl
@[simp] theorem Device.setGather_rings (d : Device) (g : Gather) : (d.setGather g).rings = d.rings := id rfl
@[simp] theorem Device.setGather_chans (d : Device) (g : Gather) : (d.setGather g).chans = d.chans := id rfl
@[simp] theorem Device.setGather_links (d : Device) (g : Gather) : (d.setGather g).links = d.links := id rfl
@[simp] theorem Device.setGather_carriers (d : Device) (g : Gather) : (d.setGather g).carriers = d.carriers := id rfl
@[simp] theorem Device.setGather_optics (d : Device) (g : Gather) : (d.setGather g).optics = d.optics := id rfl
@[simp] theorem Device.setGather_host (d : Device) (g : Gather) : (d.setGather g).host = d.host := id rfl
@[simp] theorem Device.setGather_pwr (d : Device) (g : Gather) : (d.setGather g).pwr = d.pwr := id rfl
@[simp] theorem Device.setGather_boot (d : Device) (g : Gather) : (d.setGather g).boot = d.boot := id rfl
@[simp] theorem Device.setGather_mgmt (d : Device) (g : Gather) : (d.setGather g).mgmt = d.mgmt := id rfl
@[simp] theorem Device.setGather_spine (d : Device) (g : Gather) : (d.setGather g).spine = d.spine := id rfl
@[simp] theorem Device.setGather_cores (d : Device) (g : Gather) : (d.setGather g).cores = d.cores := id rfl
@[simp] theorem Device.setGather_num (d : Device) (g : Gather) : (d.setGather g).num = d.num := id rfl
@[simp] theorem Device.setGather_coll (d : Device) (g : Gather) : (d.setGather g).coll = d.coll := id rfl
@[simp] theorem Device.setGather_hist (d : Device) (g : Gather) : (d.setGather g).hist = d.hist := id rfl
@[simp] theorem Device.setGather_ckpt (d : Device) (g : Gather) : (d.setGather g).ckpt = d.ckpt := id rfl
@[simp] theorem Device.setGather_smuPath (d : Device) (g : Gather) : (d.setGather g).smuPath = d.smuPath := id rfl
@[simp] theorem Device.setGather_regs (d : Device) (g : Gather) : (d.setGather g).regs = d.regs := id rfl

@[simp] theorem Device.setHist_mem (d : Device) (t : Nat) (h : List Nat) : (d.setHist t h).mem = d.mem := id rfl
@[simp] theorem Device.setHist_poison (d : Device) (t : Nat) (h : List Nat) : (d.setHist t h).poison = d.poison := id rfl
@[simp] theorem Device.setHist_free (d : Device) (t : Nat) (h : List Nat) : (d.setHist t h).free = d.free := id rfl
@[simp] theorem Device.setHist_now (d : Device) (t : Nat) (h : List Nat) : (d.setHist t h).now = d.now := id rfl
@[simp] theorem Device.setHist_out (d : Device) (t : Nat) (h : List Nat) : (d.setHist t h).out = d.out := id rfl
@[simp] theorem Device.setHist_phase (d : Device) (t : Nat) (h : List Nat) : (d.setHist t h).phase = d.phase := id rfl
@[simp] theorem Device.setHist_tier (d : Device) (t : Nat) (h : List Nat) : (d.setHist t h).tier = d.tier := id rfl
@[simp] theorem Device.setHist_tiles (d : Device) (t : Nat) (h : List Nat) : (d.setHist t h).tiles = d.tiles := id rfl
@[simp] theorem Device.setHist_rings (d : Device) (t : Nat) (h : List Nat) : (d.setHist t h).rings = d.rings := id rfl
@[simp] theorem Device.setHist_chans (d : Device) (t : Nat) (h : List Nat) : (d.setHist t h).chans = d.chans := id rfl
@[simp] theorem Device.setHist_links (d : Device) (t : Nat) (h : List Nat) : (d.setHist t h).links = d.links := id rfl
@[simp] theorem Device.setHist_carriers (d : Device) (t : Nat) (h : List Nat) : (d.setHist t h).carriers = d.carriers := id rfl
@[simp] theorem Device.setHist_optics (d : Device) (t : Nat) (h : List Nat) : (d.setHist t h).optics = d.optics := id rfl
@[simp] theorem Device.setHist_host (d : Device) (t : Nat) (h : List Nat) : (d.setHist t h).host = d.host := id rfl
@[simp] theorem Device.setHist_pwr (d : Device) (t : Nat) (h : List Nat) : (d.setHist t h).pwr = d.pwr := id rfl
@[simp] theorem Device.setHist_boot (d : Device) (t : Nat) (h : List Nat) : (d.setHist t h).boot = d.boot := id rfl
@[simp] theorem Device.setHist_mgmt (d : Device) (t : Nat) (h : List Nat) : (d.setHist t h).mgmt = d.mgmt := id rfl
@[simp] theorem Device.setHist_spine (d : Device) (t : Nat) (h : List Nat) : (d.setHist t h).spine = d.spine := id rfl
@[simp] theorem Device.setHist_cores (d : Device) (t : Nat) (h : List Nat) : (d.setHist t h).cores = d.cores := id rfl
@[simp] theorem Device.setHist_sparse (d : Device) (t : Nat) (h : List Nat) : (d.setHist t h).sparse = d.sparse := id rfl
@[simp] theorem Device.setHist_coll (d : Device) (t : Nat) (h : List Nat) : (d.setHist t h).coll = d.coll := id rfl
@[simp] theorem Device.setHist_hist (d : Device) (t : Nat) (h : List Nat) : (d.setHist t h).hist = d.hist := id rfl
@[simp] theorem Device.setHist_ckpt (d : Device) (t : Nat) (h : List Nat) : (d.setHist t h).ckpt = d.ckpt := id rfl
@[simp] theorem Device.setHist_smuPath (d : Device) (t : Nat) (h : List Nat) : (d.setHist t h).smuPath = d.smuPath := id rfl
@[simp] theorem Device.setHist_regs (d : Device) (t : Nat) (h : List Nat) : (d.setHist t h).regs = d.regs := id rfl

end Sys2Proof.Machine
end

