-- ==== Sys2Proof/WellFormed.lean ====
section
/-! DEFINITION. When a command is one of this chip: the units and registers its operands name are there, and what it
carries has the size the spec gives it. `exec` is total and does not ask: a command that is not well formed is one
that nothing outside the T24 can send. -/

namespace Sys2Proof

/-! ### Ranges of operands -/

/-- A core, 0 to 95 (Scope, R4). -/
def okCore (c : Nat) : Bool := decide (c < Config.cores)
/-- A tile, 0 to 23 (Scope, R4). -/
def okTile (t : Nat) : Bool := decide (t < Config.tiles)
/-- A carrier, 0 to 3 (R385). -/
def okCarrier (c : Nat) : Bool := decide (c < Config.carriers)
/-- A fabric plane, 0 to 7 (R385). -/
def okPlane (p : Nat) : Bool := decide (p < Config.planes)
/-- A link of light: a plane, or 8 more than a carrier (R385). -/
def okLink (l : Nat) : Bool := decide (l < Config.planes + Config.carriers)
/-- An optical engine, 0 to 3 (R385). -/
def okOptical (n : Nat) : Bool := decide (n < Config.engines)
/-- A ring, 0 to 4,095 (R352). -/
def okRing (r : Nat) : Bool := decide (r < Config.rings)
/-- A DMA engine, 0 to 27 (Scope, R4). -/
def okEngine (e : Nat) : Bool := decide (e < Config.dmaEngines)
/-- A power domain, 0 to 19 (R480). -/
def okDomain (n : Nat) : Bool := decide (n < Config.domains)
/-- A regulated rail, 0 to 8 (R471). -/
def okRail (r : Nat) : Bool := decide (r < Config.rails)
/-- One of the two AVSBus buses (R471). -/
def okBus (b : Nat) : Bool := decide (b < 2)
/-- A line of a tile's stack (R235). -/
def okLine (l : Nat) : Bool := decide (l < Config.stackLines)
/-- A physical die of a stack, 0 to 8 (R234). -/
def okDie (d : Nat) : Bool := decide (d < 9)
/-- A channel of a stack, 0 to 31 (R234). -/
def okChannel (c : Nat) : Bool := decide (c < 32)
/-- A channel of a DMA engine: at most 128 of them (Scope). -/
def okDmaChannel (c : Nat) : Bool := decide (c < 128)
/-- A request's class, 0 to 3 (R248). -/
def okClass (c : Nat) : Bool := decide (c < 4)
/-- A BAR0 register's offset: one of its 32-bit words (R8). -/
def okOffset (off : Nat) : Bool := decide (off < 2 ^ 26) && decide (off % 4 = 0)
/-- A 32-bit value. -/
def okWord (v : Nat) : Bool := decide (v < 2 ^ 32)
/-- A 64-byte line (R235). -/
def okData (b : Bytes) : Bool := decide (b.length = 64)
/-- A message: a 64-byte header and whole lines after it (R323). -/
def okMsg (m : Bytes) : Bool := decide (64 ≤ m.length) && decide (m.length % 64 = 0)
/-- A flit of a plane or a frame of a carrier's link (R395). -/
def okFlit (l : Nat) (f : Bytes) : Bool := decide (f.length = if l < Config.planes then 256 else 320)
/-- A host physical address: below 2^52 (R204). -/
def okHpa (a : Nat) : Bool := decide (a < 2 ^ 52)
/-- The symbols in error that a decode meets: of the 36 of a codeword (R237). -/
def okSymbols (bad : List Nat) : Bool := bad.all fun s => decide (s < 36)
/-- What the host wrote to its memory before a command that reads it: bytes at host addresses. -/
def okHost (ws : List Host.Cell) : Bool := ws.all fun c => decide (c.1 < 2 ^ 52)

/-! ### Commands -/

/-- The command is one of this chip. -/
def Instr.wf : Instr → Bool
  | .registerWrite off bytes value hw => decide (off < 2 ^ 26) && decide (bytes ≤ 8) && okWord value && okWord hw
  | .lowWordRead _ off | .readToClear _ off _ => decide (off < 2 ^ 26)
  | .intEnWrite off value => okOffset off && okWord value
  | .msixUnmask vector => decide (vector < 256)
  | .stepAdmit | .admitAhead | .computeEntry | .phaseReduce | .phaseDecide | .commitApply _ | .commitSkip
  | .stepWatchdog | .spineRun _ | .spineHaltReq _ | .spineModeReq _ | .recoveryModeEnter | .lsLoad => true
  | .spineStepWrite _ value => okWord value
  | .numTagCfgWrite off value => okOffset off && okWord value
  | .coreTakeUnit core | .nop core | .endUnit core | .ldodr core | .seta core | .adda core | .setc core
  | .xfer core | .addodr core | .loopEnd core | .fence core | .mmaComplete core | .vchainComplete core
  | .s12chain core | .s12chainComplete core | .coreHwError core | .coreSelftestEnd core _ | .selftestReq core
  | .coreRequeue core | .coreDrain core _ | .histForward core | .histBackward core | .writePages core => okCore core
  | .xferComplete core index _ => okCore core && okWord index
  | .mma core corrected | .vchain core corrected => okCore core && okWord corrected
  | .tileTakeUnit tile | .lookupUnit tile | .sortScanUnit tile | .optStagingUnit tile | .stagingReserve tile
  | .ownerRowTrees tile | .drainTile tile | .scrubPassStart tile | .scrubNow tile => okTile tile
  | .unitFinish unit | .collectiveStepUnit unit | .commitUnit unit => decide (unit < 2 ^ 20)
  | .tableEnable table hostWrites => decide (table < 4096) && okHost hostWrites
  | .tableDisable table | .tableClearCounters table => decide (table < 4096)
  | .tailAck ring => okRing ring
  | .tailAckTimeout | .tailDrain | .destroyObj | .locate => true
  | .createObj hostWrites | .setPolicy hostWrites | .join hostWrites => okHost hostWrites
  | .drainCarrier carrier | .carrierMargin carrier | .carrierRetrain carrier | .accept carrier | .quiesced carrier
  | .carrierOutageLimit carrier => okCarrier carrier
  | .drainComplete _ => true
  | .hotnessDecay obj => decide (obj < 2 ^ 14)
  | .rowMove obj row _ => decide (obj < 2 ^ 14) && decide (row < 2 ^ 40)
  | .memRead tile line _ cls _ bad1 bad2 => okTile tile && okLine line && okClass cls && okSymbols bad1 && okSymbols bad2
  | .memWrite tile line data _ cls _ => okTile tile && okLine line && okData data && okClass cls
  | .memPartialWrite tile line mask data bad =>
    okTile tile && okLine line && decide (mask < 2 ^ 64) && okData data && okSymbols bad
  | .accumulateWrite tile line data _ leaf _ => okTile tile && okLine line && okData data && decide (leaf < 2 ^ 16)
  | .wcbAgeFlush tile bad => okTile tile && okSymbols bad
  | .patrolRead tile bad1 bad2 => okTile tile && okSymbols bad1 && okSymbols bad2
  | .spareReq tile die => okTile tile && okDie die
  | .spareCopyDone tile lost => okTile tile && lost.all okLine
  | .stackIfError tile channel _ | .bankRefresh tile channel => okTile tile && okChannel channel
  | .stackTempSample tile readings => okTile tile && decide (readings.length = 9)
  | .enableSpace space hostWrites => decide (space < 8) && okHost hostWrites
  | .disableSpace space | .freeAll space => decide (space < 8)
  | .freeList space _ => decide (space < 8)
  | .dmaTransferUnit engine => okEngine engine
  | .leave | .compareNext | .resetWindows | .joinTimeout | .voteSend | .voteTimeout => true
  | .joinMsg msg | .joinOutcome msg | .node msg | .nodeHdr msg | .rowReq msg | .rowData msg | .rowGrad msg
  | .bwChange msg | .bwRecord msg | .shardReq msg | .shardData msg | .stageMsg msg | .vote msg | .rootHdr msg
  | .digest msg | .repairOrder msg | .repair msg | .nack msg => okMsg msg
  | .ringProdWrite ring value hostWrites => okRing ring && okWord value && okHost hostWrites
  | .ringConsWrite ring value | .ringCtlWrite ring value => okRing ring && okWord value
  | .ringModTimer ring | .ringFullResume ring | .ringWriteRetry ring _ | .fabricSendEntry ring => okRing ring
  | .chainStart engine channel | .dmaCopy engine channel _ | .dmaAccumulate engine channel _
  | .dmaFill engine channel _ | .pageWalk engine channel _ | .chainComplete engine channel
  | .dmaLineRetry engine channel _ => okEngine engine && okDmaChannel channel
  | .dmaPause engine value | .dmaResume engine value | .dmaAbort engine value => okEngine engine && okWord value
  | .laserInterlockOpen | .interlockHoldDone | .laserInterlockClose => true
  | .laneGroupDark link | .openFibreProbe link | .probeEnd link _ | .idleFlit link _ _ | .laneSwitchReq link _
  | .laneSwitchAck link _ | .spareDeskewed link | .replayTimeout link | .linkRetrainDone link _ _
  | .linkOutage link | .lightReturn link | .linkTrained link | .spareMarginDone link _ _
  | .laneLossOfLock link _ => okLink link
  | .feedOverPower engine | .clearOver engine => okOptical engine
  | .feedFail engine feed | .feedWindowTimeout engine feed => okOptical engine && decide (feed < 2)
  | .feedOffWrite engine value => okOptical engine && okWord value
  | .dataFlit link flit _ => okLink link && okFlit link flit
  | .laneCheck link errors => okLink link && decide (errors.length = if link < Config.planes then 9 else 6)
  | .nak link seq => okLink link && decide (seq < 2 ^ 16)
  | .credit link vc count => okLink link && decide (vc < 2 ^ 8) && okWord count
  | .retrainReq link width => okLink link && decide (width < 2 ^ 8)
  | .reasmTimeout plane src => okPlane plane && decide (src < 2 ^ 16)
  | .planeDisable plane _ | .planeRetrain plane | .planeMargin plane => okPlane plane
  | .readData carrier tag _ | .writeDone carrier tag _ | .tagTimeout carrier tag =>
    okCarrier carrier && decide (tag < 2 ^ 16)
  | .hello carrier line => okCarrier carrier && okData line
  | .hostLinkUp speed width => decide (speed < 2 ^ 4) && decide (width < 2 ^ 5)
  | .hostLinkDown cause => decide (cause < 2 ^ 4)
  | .hostRetrainTimer | .hostRetrain | .cxlReset => true
  | .memRd hpa | .memInv hpa => okHpa hpa
  | .memWr hpa data => okHpa hpa && okData data
  | .memWrPtl hpa mask data => okHpa hpa && decide (mask < 2 ^ 64) && okData data
  | .h2dSnoop line | .d2hResponse line | .cplTimeout line | .birsp line | .biTimeout line => decide (line < 2 ^ 46)
  | .hdmCommit base size ways => okHpa base && decide (size ≤ 2 ^ 52) && decide (ways < 2 ^ 4)
  | .doeObject _ => true
  | .ideFail stream => decide (stream < 2 ^ 8)
  | .identify value | .setTick value | .unloadProgram value | .checkpointStatus value | .baseNow value
  | .restoreBegin value | .restoreFinish value | .restoreAbort value => okWord value
  | .loadProgram value hostWrites _ | .restoreSource value hostWrites => okWord value && okHost hostWrites
  | .loadFirmware value hostWrites _ refusal => okWord value && okHost hostWrites && decide (refusal < 2 ^ 16)
  | .baseDrain => true
  | .domainEnable value | .domainDisable value => okWord value
  | .domainOn domain badDies =>
    okDomain domain && badDies.all fun e => okTile e.1 && okDie e.2
  | .drainLimitExpiry domain | .domainOff domain => okDomain domain
  | .railPowerGood rail | .railPgTimeout rail | .railRetryWait rail | .railPgLost rail | .railLower rail => okRail rail
  | .railTargetWrite rail value => okRail rail && okWord value
  | .avsStatusPoll bus _ _ mv => okBus bus && decide (mv < 2 ^ 16)
  | .avsTimeout bus => okBus bus
  | .standby | .wakeNEdge | .wakeAlarm | .budgetWindow | .thermalTrip | .tripClear => true
  | .powerSample decimA mv => decide (decimA.length = Config.rails) && decide (mv.length = Config.rails)
  | .logicTempSample readings => decide (readings.length = 32)
  | .droneTick _ | .epochMarker _ | .droneEdgeTimeout | .holdoverTick => true
  | .aonPowerGood | .aonSupplyLoss | .resetN _ | .startup _ | .startupReady _ | .managementReset
  | .lockstepMismatch | .faultEvent => true
  | .secRevoke slot => decide (slot < 4)
  | .testWindowOpen | .testWindowClose => true
  | .smbStatus _ | .smbWake _ | .smbStandby _ | .smbLog _ | .smbIdentify _ | .alertResponse => true
  | .readAon off _ => okOffset off
  | .smbReset word _ => okWord word
  | .setCap watts _ => decide (watts < 2 ^ 16)
  | .smuSessionStart | .smuStepMessage | .smuTickMessage | .smuRecordClose | .crystalStop | .calStatus _
  | .calCommit _ | .sealAssert | .sealDeassert | .smuSupplyLoss | .crystalReturn => true
  | .smuSample volts amps => decide (volts.length = 4) && decide (amps.length = 4)
  | .calStage set _ => decide (set.length = 80)

end Sys2Proof
end

