-- ==== Sys2Proof/Tests/Slice0.lean ====
section
/-! SUPPORT. The smoke tests of WellFormed, the spec's own worked examples as one step or one function each, and for every
statement of Certificates/Slice0 with hypotheses a concrete state and operands that meet them, clause by clause. -/

open Sys2Proof Sys2Proof.Machine

namespace Sys2Proof.Tests

/-! ### Small states -/

/-- A state in which start-up has reached ready and every domain is ON (R521, R481). -/
def ready : State :=
  let d := Device.wr {} F.DRONE_START_STATUS_STATE 1
  { dev := (List.range 18).foldl (fun d i => d.wr (F.PWR_DOM_STATE_STATE (i + 2)) 2) d }

/-- `ready` with some fields written and its units as `f` makes them. -/
def made (ws : List (Fld × Nat)) (f : Device → Device) : State :=
  { ready with dev := f (ws.foldl (fun d w => d.wr w.1 w.2) ready.dev) }

/-- `ready` in a phase. -/
def inPhase (p : Phase) : State := made [] fun d => { d with phase := p }

/-- Core 0 in unit 0, whose code is the words given, at its first instruction. -/
def runsCode (ws : List Nat) (core : CoreSt) (mem : List (Nat × Byte)) : State :=
  made [] fun d => { d with
    phase := .compute, cores := [(0, core)], mem := mem
    spine := { prog := some { units := [{}, {}], code := [(0, ws.flatMap (leBytes 16))] }, units := [(0, .running 0)] } }

/-- An operand descriptor of one element at line `base` in a format (R102). -/
def oneElem (base fmt : Nat) : Bytes :=
  leBytes 2 base ++ leBytes 2 0 ++ leBytes 2 1 ++ leBytes 2 1 ++ leBytes 4 64 ++ leBytes 20 fmt

/-- Bytes as memory cells from a key on, zeros left out. -/
def cells (k : Nat) (b : Bytes) : List (Nat × Byte) :=
  ((List.range b.length).map fun i => (k + i, b.getD i 0)).filter fun c => c.2 ≠ 0

/-- The host link up, and window 0 open over the first 4 GiB (R422, R372). -/
def hostWindow : List (Fld × Nat) :=
  [(F.HOST_STATUS_LINK_UP, 1), (F.DMA_WIN_LIMIT_HI 0, 1)]

/-- A table descriptor: 3 rows of 16 FP32 elements, every row here, no Bellwether set, optimiser 0 (R131). -/
def tableDesc : Bytes :=
  leBytes 8 3 ++ leBytes 4 0 ++ leBytes 4 16 ++ leBytes 5 0 ++ [1, 0, 0] ++ leBytes 8 1 ++ leBytes 8 (2 ^ 60 + 0x8000) ++ zeroBytes 24

/-- Every tile in service, and a directory of 24 lines (R208). -/
def tilesUp : List (Fld × Nat) :=
  (F.TIER_DIR_LINES_LINES, 24) :: (List.range 24).map fun t => (F.MEM_STATUS_STATE t, 1)

/-- A message of no payload, from rank 1 to rank 0 in job 1, with its CRC (R323, R325). -/
def message (ty step : Nat) : Bytes :=
  let h := leBytes 2 ty ++ leBytes 2 1 ++ leBytes 4 0 ++ leBytes 8 step ++ leBytes 8 1 ++ zeroBytes 36
  h ++ leBytes 4 (crc32c (h ++ zeroBytes 4))

/-- A device of a job of one: the spine in a phase. -/
def joined (p : Phase) : State :=
  made [] fun d => { d with phase := p, coll := { job := some { id := 1, ranks := [0] } } }

/-- A link in a STATE, its link layer as given. -/
def linked (l st : Nat) (x : Link) : State := made [(linkState l, st)] fun d => { d with links := [(l, x)] }

/-- A carrier in a STATE of R417, its link up, and what it holds. -/
def carried (c st : Nat) (x : Carrier) : State :=
  made [(linkState (8 + c), 2), ({ F.TIER_CARRIER_STATE with lo := 4 * c, w := 4 }, st)] fun d => { d with carriers := [(c, x)] }

/-- A write of MBOX_CMD: DOORBELL, an OPCODE and IN_LEN (R439). -/
def doorbell (op len : Nat) : Nat := 2 ^ 31 + len * 2 ^ 16 + op

/-- The mailbox's input words (R438). -/
def mailed (ws : List Nat) : List (Fld × Nat) :=
  (List.range ws.length).map fun i => (F.HOST_MBOX_PAYLOAD_DATA i, ws.getD i 0)

/-- A COMMIT that the header decides: bit 0 of its flags as given. -/
def deciding (p : Phase) (skip : Nat) (x : Spine) : State :=
  made [(F.CKPT_CFG_DELTA_RING, 9), (F.RING_CFG_TYPE 9, 7)] fun d => { d with
    phase := p, coll := { hdr := some (leBytes 4 skip ++ zeroBytes 60), root := true }, spine := x }

/-! ### WellFormed refuses an ill-formed term at each check -/

set_option maxRecDepth 100000 in
/-- Units that the chip does not have (Scope, R4, R248, R352, R385, R471, R480). -/
theorem test_wf_units :
    ([.nop 96, .scrubNow 24, .drainCarrier 4, .planeDisable 8 true, .linkOutage 12, .clearOver 4, .tailAck 4096,
      .dmaTransferUnit 28, .chainStart 0 128, .domainOff 20, .railPowerGood 9, .avsTimeout 2, .feedFail 0 2, .secRevoke 4,
      .freeAll 8, .tableDisable 4096, .spareReq 0 9, .bankRefresh 0 32, .msixUnmask 256, .hotnessDecay 16384,
      .rowMove 16384 0 0, .rowMove 0 (2 ^ 40) 0, .unitFinish (2 ^ 20)] : List Instr).map Instr.wf = List.replicate 23 false := by
  decide

set_option maxRecDepth 100000 in
/-- Offsets, addresses, words and counts out of range (R8, R204, R235, R439). -/
theorem test_wf_ranges :
    ([.registerWrite (2 ^ 26) 4 0 0, .registerWrite 0 9 0 0, .registerWrite 0 4 (2 ^ 32) 0, .registerWrite 0 4 0 (2 ^ 32),
      .lowWordRead 0 (2 ^ 26), .intEnWrite 2 0, .intEnWrite (2 ^ 26) 0, .intEnWrite 0 (2 ^ 32), .readAon 2 true, .memRd (2 ^ 52),
      .memInv (2 ^ 52), .h2dSnoop (2 ^ 46), .hdmCommit 0 (2 ^ 53) 0, .hdmCommit 0 0 16, .setCap 65536 true,
      .identify (2 ^ 32), .hostLinkUp 16 8, .hostLinkUp 6 32, .hostLinkDown 16, .ideFail 256, .nak 0 65536, .credit 0 256 1,
      .retrainReq 0 256, .reasmTimeout 0 65536, .readData 0 65536 0, .tagTimeout 0 65536, .memRead 0 201326592 .other 0 0 [] [],
      .memRead 0 0 .other 4 0 [] [], .memRead 0 0 .other 0 0 [36] [], .memPartialWrite 0 0 (2 ^ 64) (zeroBytes 64) []] : List Instr).all
      (fun i => !i.wf) = true := by
  decide

set_option maxRecDepth 100000 in
/-- Data of the wrong size, and host bytes beyond the address space (R203, R235, R323, R395, R495, R499, R563). -/
theorem test_wf_sizes :
    ([.memWr 0 (zeroBytes 63), .memWrPtl 0 1 (zeroBytes 65), .memWrite 0 0 [] false 0 0, .dataFlit 0 (zeroBytes 320) true,
      .dataFlit 8 (zeroBytes 256) true, .laneCheck 0 [0], .laneCheck 8 (List.replicate 9 0), .hello 0 [], .joinMsg (zeroBytes 63),
      .joinMsg (zeroBytes 65), .stackTempSample 0 [], .powerSample [] [], .logicTempSample [], .smuSample [0] [0, 0, 0, 0],
      .calStage (zeroBytes 79) true, .createObj [(2 ^ 52, 1)], .spareCopyDone 0 [2 ^ 30], .domainOn 0 [(24, 0)]] : List Instr).all
      (fun i => !i.wf) = true := by
  decide

set_option maxRecDepth 100000 in
/-- The same commands with what they carry in range. -/
theorem test_wf_accepts :
    ([.nop 95, .scrubNow 23, .planeDisable 7 true, .linkOutage 11, .tailAck 4095, .chainStart 27 127, .feedFail 3 1, .domainOff 19,
      .registerWrite (2 ^ 26 - 4) 4 (2 ^ 32 - 1) 0, .readAon 4 true, .memRd (2 ^ 52 - 64), .memWr 0 (zeroBytes 64),
      .dataFlit 7 (zeroBytes 256) true, .dataFlit 8 (zeroBytes 320) true, .laneCheck 8 (List.replicate 6 0),
      .joinMsg (zeroBytes 128), .calStage (zeroBytes 80) true, .stackTempSample 0 (List.replicate 9 none)] : List Instr).all
      Instr.wf = true := by
  decide


/-! ### The spec's worked examples -/

set_option maxRecDepth 100000 in
/-- R70: 2^24 and 63 ones reduce to 16,777,280, in one reduction or split at 32. Source: the example under R70. -/
theorem test_reduction_splits_exactly :
    reduce f32NegZero (.ofInt (2 ^ 24) 0 :: List.replicate 63 (.ofInt 1 0)) = 0x4B800020 ∧
    reduce (reduce f32NegZero (.ofInt (2 ^ 24) 0 :: List.replicate 31 (.ofInt 1 0))) (List.replicate 32 (.ofInt 1 0)) = 0x4B800020 := by
  decide

set_option maxRecDepth 100000 in
/-- R240's example: 16,777,248 plus 32 is 16,777,280. -/
theorem test_accumulate_adds : f32Add 0x4B800010 0x42000000 = 0x4B800020 := by decide

/-- The tag of the example under R79: E4M3, HIST_LEN 16, threshold 0, and 3.0 as its largest entry. -/
def taggedE4m3 : Device :=
  ((Device.wr {} (F.NUM_TAG_CFG_HIST_LEN 0) 16).wr (F.NUM_TAG_CFG_ENABLE 0) 1).wr (F.NUM_TAG_CFG_FORMAT 0) 3

set_option maxRecDepth 100000 in
/-- R77: with 3.0 as its largest entry the tag's exponent is 5. Source: the example under R79. -/
theorem test_tag_exponent : ((taggedE4m3.setHist 0 [0x40400000]).tagUpdate 0).tagExp 0 = 5 := by decide

set_option maxRecDepth 100000 in
/-- R79: 1,204 saturations at 30.0 fill all slots with 60.0; NUM_TAG_SCALE reads 0x0001_0001. Source: its example. -/
theorem test_saturation_correction :
    (((taggedE4m3.setHist 0 [0x40400000]).tagUpdate 0).tagCommit 0 0x41F00000 1204).reg (F.NUM_TAG_SCALE_E 0).key = 0x00010001 ∧
    (((taggedE4m3.setHist 0 [0x40400000]).tagUpdate 0).tagCommit 0 0x41F00000 1204).tagHist 0 = List.replicate 16 0x42700000 := by
  decide

set_option maxRecDepth 100000 in
/-- R88: NUM_NF_FIRST of leaf 2,630 and tag 419 reads 0x81A3_0A46. Source: the example under R88. -/
theorem test_first_non_finite :
    (Device.nfReport { num := { nf := [(2630, 419)] } } true).reg F.NUM_NF_FIRST.key = 0x81A30A46 := by decide

set_option maxRecDepth 100000 in
/-- R84: a skip at s = 16 with a clean count of 1,437 leaves NUM_LS_STATUS at 0x0000_000F. Source: the example under R88. -/
theorem test_loss_scale_after_skip :
    (((Device.wr {} F.NUM_LS_STATUS_CUR_LOG2 16).wr F.NUM_LS_STATUS_CLEAN 1437).lossScale true).reg F.NUM_LS_STATUS_CLEAN.key = 0xF := by
  decide

set_option maxRecDepth 100000 in
/-- R104: word 0 of the forward MMA of the tower example, bit for bit. Source: the example under R120. -/
theorem test_mma_word : encodeWord (.mma 2 0 1 0 0 0 0 64 512 1024) = 0x10100200004002000400000000000000 := by decide

set_option maxRecDepth 100000 in
/-- R110: the tower example's MMA takes 8,232 clk in E4M3, 16,424 with an FP16 operand. Source: the same example. -/
theorem test_mma_clk : mmaClk 64 512 1024 3 3 = 8232 ∧ mmaClk 64 1024 512 2 3 = 16424 := by decide

set_option maxRecDepth 100000 in
/-- R119: the epilogue of the same example takes 1,048 clk. -/
theorem test_vchain_clk : chainClk 64 512 (stageWords 0x580004A0) = 1048 := by decide

set_option maxRecDepth 100000 in
/-- R142: the bag 5, 9, 5, 12 of the lookup example pools to 0.46875. -/
theorem test_mean_pooling :
    poolBag 1 1 [([0x3F000000], f32One), ([0x3FA00000], f32One), ([0x3F000000], f32One), ([0xBEC00000], f32One)] =
      [0x3EF00000] := by decide

set_option maxRecDepth 100000 in
/-- R178: element-operations of an Adam and a row-wise Adagrad row of 128 elements. Source: the example under R178. -/
theorem test_optimiser_cost : optCost 4 128 [] = 128 * 25 + 12 ∧ optCost 3 128 [] = 128 * 7 + 10 := by decide

set_option maxRecDepth 100000 in
/-- R183: Adagrad with LR 0.5 and EPS 0 takes 1.25 to 0.75, and v to 0.25, for g = 0.5. Source: the example "one row, two
chips". -/
theorem test_adagrad_row :
    optApply 2 (zeroBytes 8 ++ leBytes 4 0x3F000000 ++ zeroBytes 52) 7 [0x3FA00000]
        [f32Scale (f32Add 0x46000000 0x46C00000) (-16)] ⟨0, 0, 0, [], [0]⟩ =
      ([0x3F400000], { last := 7, t := 1, g2 := 0, m := [0], v := [0x3E800000] }) := by decide

set_option maxRecDepth 100000 in
/-- R229: the sort map entries 7, 31, 55 and 79 of a drained tile 7 go to tiles 0, 1, 2 and 3. Source: the drain example. -/
theorem test_drain_remaps :
    let d := (made tilesUp fun d => (List.range 96).foldl (fun d i => d.setSortEntry i (i % 24)) d).dev.remapSort 7
    [7, 31, 55, 79].map d.sortEntry = [0, 1, 2, 3] := by decide

set_option maxRecDepth 100000 in
/-- R285, R286: keys 62, 63 and 64 at scores 0 give 3.0 and LSE 1.0986123. Source: the example under R286. -/
theorem test_attention_row :
    attendRow 1 [⟨62, 0⟩, ⟨63, 0⟩, ⟨64, 0⟩] (fun j => [if j = 62 then 0x40400000 else if j = 63 then 0x40C00000 else 0]) =
      ([0x40400000], 0x3F8C9F54, false) := by decide

set_option maxRecDepth 100000 in
/-- R81: a page block of 5.0 and 0.3 takes the scale 0x79 and the codes 0x7A and 0x5A. Source: the history example. -/
theorem test_page_scale : castBlock 5 [fp32.dec 0x40A00000, fp32.dec 0x3E99999A] = (0x79, [0x7A, 0x5A], 0) := by decide

set_option maxRecDepth 100000 in
/-- R264: slot 1,002 of a space with L = 256 and 262,144 lists starts at byte 0x0AF5_FA80. Source: the history example. -/
theorem test_history_slot :
    (((Device.wr {} (F.HIST_SPACE_GEOM_L 0) 256).wr (F.HIST_SPACE_LISTS_LISTS 0) 262144).slotOff 0 1002) = 0x0AF5FA80 := by
  decide

set_option maxRecDepth 100000 in
/-- R348: a member of 64 leaves at 40,400 ticks against 38,000 gives leaves 1,150 and 1,151. Source: the example under R351. -/
theorem test_straggler_piece : movePiece [(6, 1088)] 40400 38000 = some (1, 1150) := by decide

set_option maxRecDepth 100000 in
/-- R322, R348: what the donor keeps, and what the receiver holds. Source: the same example. -/
theorem test_straggler_blocks :
    withoutPiece [(6, 1088)] (1, 1150) = [(5, 1088), (4, 1120), (3, 1136), (2, 1144), (1, 1148)] ∧
    withPiece [(6, 1152)] (1, 1150) = [(1, 1150), (6, 1152)] := by decide

set_option maxRecDepth 100000 in
/-- R57: block (6, 1,088) shows as 0x8006_0440. Source: the example under R57. -/
theorem test_block_register : (Device.blockShown {} 0 (some (6, 1088))).reg (F.SPINE_BLOCK 0).key = 0x80060440 := by decide

set_option maxRecDepth 100000 in
/-- R383: the registers of a channel halted at i1 = 2, i0 = 37, line 5 on its fourth attempt. Source: the example under R383. -/
theorem test_halted_channel :
    let d : Device := Device.setChan ((Device.wr {} (F.RING_CFG_TYPE 300) 1).wr (F.RING_CFG_ENGINE 300) 5 |>.wr (F.RING_CFG_CHANNEL 300) 2
      |>.wr (F.RING_CTL_ENABLE 300) 1 |>.wr (F.DMA_CH_SEL_CHANNEL 5) 2) 5 2 { st := .halted, cause := 1, attempts := 4, i1 := 2, i0 := 37, line := 5 }
    d.engView 5 (F.DMA_CH_STATE 5 0).key = some 0xA000012C ∧ d.engView 5 (F.DMA_CH_ERR 5 0).key = some 0x14000000 ∧
    d.engView 5 (F.DMA_CH_POS0 5 0).key = some 0x00020025 ∧ d.engView 5 (F.DMA_CH_POS1 5 0).key = some 5 := by decide

set_option maxRecDepth 100000 in
/-- R412: 21 lines from 0x0410_0A80 take five READs of 4 lines and one of 1. Source: the example under R420. -/
theorem test_tier_reads :
    (made [({ F.TIER_CARRIER_STATE with lo := 8, w := 4 }, 2), (linkState 10, 2)] fun d =>
        (d.setCarrier 2 { d.carrier 2 with queue := 64 }).t2Req 2 1 0x04100A80 21 none).dev.out.reverse.map (fun o => match o with
      | .tierCmd c op n _ a => (c, op, n, a)
      | _ => (0, 0, 0, 0)) =
      [(2, 1, 4, 0x04100A80), (2, 1, 4, 0x04100A84), (2, 1, 4, 0x04100A88), (2, 1, 4, 0x04100A8C), (2, 1, 4, 0x04100A90),
        (2, 1, 1, 0x04100A94)] := by decide

set_option maxRecDepth 100000 in
/-- R451: COST 300 s and MTBF 144,000 s give an interval of 9,295 s. Source: the example under R463. -/
theorem test_base_interval :
    Device.interval (((Device.wr {} F.CKPT_COST_SECONDS 300).wr F.CKPT_MTBF_SECONDS 144000).wr F.CKPT_CTL_ADAPT 1) = 9295 := by
  decide

set_option maxRecDepth 100000 in
/-- R490, R491: CAP 1,200 W and RESERVE 350 W give 0x0CF8_5000; a debt of 27,262 carries over. Source: the example under R493. -/
theorem test_budget_window :
    Device.budget ((Device.wr {} F.PWR_CAP_CAP 1200).wr F.PWR_RESERVE_WATTS 350) = 0x0CF85000 ∧
    (((Device.wr {} F.PWR_CAP_CAP 1200).wr F.PWR_RESERVE_WATTS 350).setBalance (-27262)).newWindow.pwr.bal = 217572738 := by
  decide

set_option maxRecDepth 100000 in
/-- R547: the log entry of a core retired by its self-test starts 02 01 02 08 21 4A 00 00 and names unit 0x28. Source: the
example under R553. -/
theorem test_log_entry :
    (LogEntry.bytes ⟨0x0102, 2, 8, 0x4A21, 1736410060002586, logBody 0x28 0 0 0⟩).take 8 = [2, 1, 2, 8, 0x21, 0x4A, 0, 0] ∧
    u32At (LogEntry.bytes ⟨0x0102, 2, 8, 0x4A21, 1736410060002586, logBody 0x28 0 0 0⟩) 16 = 0x28 := by decide

/-! ### Witnesses of the statements' hypotheses -/

set_option maxRecDepth 100000 in
/-- The hypotheses of QueueFront hold together, clause by clause. -/
theorem wit_QueueFront :
    ∃ (s : State), s.pending = [] :=
  ⟨State.reset, by decide⟩

set_option maxRecDepth 100000 in
/-- The hypotheses of RegisterWriteByField hold together, clause by clause. -/
theorem wit_RegisterWriteByField :
    ∃ (s : State), ∃ (off v : Nat), ∃ (a : RegAt), RegMap.at? off = some a ∧ off % 4 = 0 ∧ s.seen.barOpen = true ∧ s.seen.decodes (keySource off).1 = true ∧ a.blk ≠ .smu ∧ plainReg a.row.name = true ∧ s.seen.writeRefused a.row.name = false ∧ s.seen.rwlDiffers a.row (s.seen.reg (s.seen.keyOf off)) (BitVec.ofNat 32 v) = false :=
  ⟨ready, 0x5000DC, 0x05000000, _, rfl, by decide, by decide, by decide, by decide, by decide, by decide, by decide⟩

set_option maxRecDepth 100000 in
/-- The hypotheses of RegisterWriteTurnedAway hold together, clause by clause. -/
theorem wit_RegisterWriteTurnedAway :
    (∃ (s : State), s.seen.barOpen = false) ∧
    (∃ (s : State), ∃ (off : Nat), s.seen.barOpen = true ∧ s.seen.decodes (keySource off).1 = false) ∧
    (∃ (s : State), ∃ (off bytes : Nat), s.seen.barOpen = true ∧ s.seen.decodes (keySource off).1 = true ∧ (¬(bytes = 4 ∧ off % 4 = 0)) ∧ (¬(bytes = 8 ∧ off % 8 = 0))) ∧
    (∃ (s : State), ∃ (off : Nat), ∃ (a : RegAt), RegMap.at? off = some a ∧ off % 4 = 0 ∧ s.seen.barOpen = true ∧ s.seen.decodes (keySource off).1 = true ∧ a.blk ≠ .smu ∧ plainReg a.row.name = true ∧ s.seen.writeRefused a.row.name = true) ∧
    (∃ (s : State), ∃ (off : Nat), s.seen.barOpen = true ∧ s.seen.decodes (keySource off).1 = true ∧ off % 8 = 0) :=
  ⟨⟨State.reset, by decide⟩,
   ⟨{ dev := Device.wr {} F.DRONE_START_STATUS_STATE 1 }, 0xA00000, by decide, by decide⟩,
   ⟨ready, 0xA00014, 8, by decide, by decide, by decide, by decide⟩,
   ⟨inPhase .compute, 0xB00000, _, rfl, by decide, by decide, by decide, by decide, by decide, by decide⟩,
   ⟨ready, 0xA00008, by decide, by decide, by decide⟩⟩

set_option maxRecDepth 100000 in
/-- The hypotheses of RegisterReads hold together, clause by clause. -/
theorem wit_RegisterReads :
    (∃ (s : State), ∃ (q off : Nat), hasRc (off / 4 * 4) = false ∧ isPairLow (off / 4 * 4) = false ∧ s.seen.barOpen = true ∧ s.readable (off / 4 * 4) = true ∧ s.seen.shadow q (off / 4 * 4) = none) ∧
    (∃ (s : State), ∃ (q off : Nat), off % 4 = 0 ∧ hasRc off = false ∧ isPairLow off = true ∧ s.seen.barOpen = true ∧ s.readable off = true ∧ s.seen.shadow q off = none) ∧
    (∃ (s : State), ∃ (q off : Nat), ∃ (v : Word), off % 4 = 0 ∧ hasRc off = false ∧ isPairLow off = false ∧ s.seen.barOpen = true ∧ s.readable off = true ∧ s.seen.shadow q off = some v) ∧
    (∃ (s : State), ∃ (off : Nat), ∃ (a : RegAt), RegMap.at? off = some a ∧ hasRc off = true ∧ s.seen.barOpen = true ∧ s.readable off = true) ∧
    (∃ (s : State), ∃ (off : Nat), hasRc (off / 4 * 4) = false ∧ s.seen.barOpen = true ∧ s.readable (off / 4 * 4) = false) :=
  ⟨⟨ready, 0, 0xA00007, by decide, by decide, by decide, by decide, by decide⟩,
   ⟨ready, 0, 0xA00008, by decide, by decide, by decide, by decide, by decide, by decide⟩,
   ⟨made [] fun d => { d with mgmt := { shadows := [(3, 0xA0000C, 7)] } }, 3, 0xA0000C, 7, by decide, by decide, by decide, by decide, by decide, by decide⟩,
   ⟨ready, 0xA0001C, _, rfl, by decide, by decide, by decide⟩,
   ⟨{ dev := Device.wr {} F.DRONE_START_STATUS_STATE 1 }, 0xA00004, by decide, by decide, by decide⟩⟩

set_option maxRecDepth 100000 in
/-- The hypotheses of InterruptMessages hold together, clause by clause. -/
theorem wit_InterruptMessages :
    (∃ (s : State), ∃ (off : Nat), ∃ (a : RegAt), RegMap.at? off = some a ∧ a.row.name ∈ RegMap.intEn ∧ s.seen.barOpen = true ∧ s.seen.decodes (keySource off).1 = true) ∧
    (∃ (s : State), ∃ (v : Nat), v < 256 ∧ s.seen.barOpen = true ∧ s.seen.decodes (keySource (F.MSIX_CTL_MASK v).key).1 = true ∧ s.seen.flag (pendBit v) = false) ∧
    (∃ (s : State), ∃ (v : Nat), v < 256 ∧ s.seen.barOpen = true ∧ s.seen.decodes (keySource (F.MSIX_CTL_MASK v).key).1 = true ∧ s.seen.flag (pendBit v) = true) ∧
    (∃ (d : Device), ∃ (v : Nat), d.flag (F.MSIX_CTL_MASK v) = true ∧ v < 256) ∧
    (∃ (d : Device), ∃ (f : Fld), d.flag f = true) :=
  ⟨⟨ready, 0xA00034, _, rfl, by decide, by decide, by decide⟩,
   ⟨ready, 255, by decide, by decide, by decide, by decide⟩,
   ⟨made [(pendBit 0, 1)] id, 0, by decide, by decide, by decide, by decide⟩,
   ⟨ready.dev, 255, by decide, by decide⟩,
   ⟨ready.dev, F.MSIX_CTL_MASK 0, by decide⟩⟩

set_option maxRecDepth 100000 in
/-- The hypotheses of StepPhases hold together, clause by clause. -/
theorem wit_StepPhases :
    (∃ (s : State), s.seen.spine.modeAsk = false ∧ s.seen.mayAdmit = true ∧ ((s.seen.spine.ahead.isSome ∨ s.seen.heads.isSome))) ∧
    (∃ (s : State), s.seen.mayAhead = true) ∧
    (∃ (s : State), s.seen.phase = .admitting ∧ s.seen.installBw.takeDigests.mayCompute = true) ∧
    (∃ (s : State), s.seen.mayReduce = true) ∧
    (∃ (s : State), s.seen.mayDecide = true) ∧
    (∃ (s : State), (s.seen.mayCommit false || s.seen.commits false) = true) :=
  ⟨⟨made [(F.SPINE_CTL_RUN, 1)] fun d => { d with spine := { prog := some {}, ahead := some [] } }, by decide, by decide, by decide⟩,
   ⟨made [(F.SPINE_CTL_RUN, 1)] fun d => { d with phase := .reduce }, by decide⟩,
   ⟨made [] fun d => { d with phase := .admitting, spine := { admitOk := true } }, by decide, by decide⟩,
   ⟨inPhase .compute, by decide⟩,
   ⟨inPhase .reduce, by decide⟩,
   ⟨deciding .decide 0 {}, by decide⟩⟩

set_option maxRecDepth 100000 in
/-- The hypotheses of CommitActions hold together, clause by clause. -/
theorem wit_CommitActions :
    (∃ (s : State), ∃ (skip : Bool), s.seen.mayCommit skip = true ∧ (s.seen.commitEntry skip).commits skip = true) ∧
    (∃ (s : State), ∃ (skip : Bool), s.seen.mayCommit skip = false ∧ s.seen.commits skip = true ∧ s.seen.spine.action = 0 ∧ s.seen.mayAct = false) ∧
    (∃ (s : State), ∃ (skip : Bool), s.seen.mayCommit skip = false ∧ s.seen.commits skip = true ∧ s.seen.spine.action = 4 ∧ s.seen.deltaFull = true) ∧
    (∃ (s : State), ∃ (skip : Bool), s.seen.mayCommit skip = false ∧ s.seen.commits skip = true ∧ s.seen.spine.action = 4 ∧ s.seen.deltaFull = false) :=
  ⟨⟨deciding .decide 1 {}, true, by decide, by decide⟩,
   ⟨deciding .commit 0 { prog := some { units := [{}] } }, false, by decide, by decide, by decide, by decide⟩,
   ⟨made [] fun _ => { (deciding .commit 0 { action := 4 }).dev with rings := [(9, { waiting := [[]] })] }, false, by decide, by decide, by decide, by decide⟩,
   ⟨deciding .commit 1 { action := 4 }, true, by decide, by decide, by decide, by decide⟩⟩

set_option maxRecDepth 100000 in
/-- The hypotheses of SpineControl hold together, clause by clause. -/
theorem wit_SpineControl :
    (∃ (s : State), s.seen.inStep = true ∧ s.seen.spine.wdogFired = false ∧ s.seen.rd F.SPINE_WDOG_LIMIT ≤ s.seen.spine.wdog) ∧
    (∃ (s : State), s.seen.barOpen = true ∧ s.seen.decodes (keySource F.SPINE_CTL.key).1 = true ∧ s.seen.phase ≠ .idle) ∧
    (∃ (s : State), s.seen.barOpen = true ∧ s.seen.decodes (keySource F.SPINE_CTL.key).1 = true ∧ s.seen.phase = .idle) ∧
    (∃ (s : State), s.seen.barOpen = true ∧ s.seen.decodes (keySource F.SPINE_STEP_LO_STEP.key).1 = true ∧ s.seen.phase = .idle ∧ s.seen.flag F.SPINE_CTL_RUN = false) ∧
    (∃ (s : State), s.seen.barOpen = true ∧ s.seen.decodes (keySource F.SPINE_STEP_HI_STEP.key).1 = true ∧ s.seen.phase = .idle ∧ s.seen.flag F.SPINE_CTL_RUN = false) ∧
    (∃ (s : State), s.seen.barOpen = true ∧ s.seen.decodes (keySource F.SPINE_STEP_LO_STEP.key).1 = true ∧ (¬(s.seen.phase = .idle ∧ s.seen.flag F.SPINE_CTL_RUN = false))) ∧
    (∃ (s : State), s.seen.phase = .idle ∧ s.seen.spine.modeAsk = false ∧ s.seen.flag F.SPINE_STATUS_MODE_PEND = true ∧ s.seen.sparse.tailDrain = false ∧ s.seen.tier.recovering = false ∧ s.seen.t3Rows = []) :=
  ⟨⟨made [] fun d => { d with phase := .compute, spine := { wdog := 5000000 } }, by decide, by decide, by decide⟩,
   ⟨inPhase .commit, by decide, by decide, by decide⟩,
   ⟨ready, by decide, by decide, by decide⟩,
   ⟨ready, by decide, by decide, by decide, by decide⟩,
   ⟨ready, by decide, by decide, by decide, by decide⟩,
   ⟨made [(F.SPINE_CTL_RUN, 1)] id, by decide, by decide, by decide⟩,
   ⟨made [(F.SPINE_STATUS_MODE_PEND, 1)] id, by decide, by decide, by decide, by decide, by decide, by decide⟩⟩

set_option maxRecDepth 100000 in
/-- The hypotheses of NumericsControls hold together, clause by clause. -/
theorem wit_NumericsControls :
    (∃ (s : State), s.reaches F.NUM_LS_CTL.key ∧ s.seen.phase = .idle) ∧
    (∃ (s : State), s.reaches F.NUM_LS_CTL.key ∧ s.seen.phase ≠ .idle) ∧
    (∃ (s : State), s.reaches (F.NUM_TAG_CFG 0).key ∧ s.seen.phase = .idle) ∧
    (∃ (s : State), s.reaches (F.NUM_TAG_SAT_THRESH 0).key ∧ s.seen.phase = .idle) ∧
    (∃ (s : State), ∃ (off : Nat), (off = (F.NUM_TAG_CFG 0).key ∨ off = (F.NUM_TAG_SAT_THRESH 0).key) ∧ s.reaches off ∧ s.seen.phase ≠ .idle) ∧
    (∃ (k : Nat), k ≠ F.NUM_LS_STATUS_CLEAN.key) :=
  ⟨⟨ready, ⟨by decide, by decide⟩, by decide⟩,
   ⟨inPhase .compute, ⟨by decide, by decide⟩, by decide⟩,
   ⟨ready, ⟨by decide, by decide⟩, by decide⟩,
   ⟨ready, ⟨by decide, by decide⟩, by decide⟩,
   ⟨inPhase .commit, (F.NUM_TAG_CFG 0).key, by decide, ⟨by decide, by decide⟩, by decide⟩,
   ⟨0, by decide⟩⟩

set_option maxRecDepth 100000 in
/-- The hypotheses of CoreScalarInstructions hold together, clause by clause. -/
theorem wit_CoreScalarInstructions :
    (∃ (s : State), ∃ (c u : Nat), s.seen.issues c u 0x00 (.nop)) ∧
    (∃ (s : State), ∃ (c u : Nat), s.seen.issues c u 0x01 (.endUnit) ∧ (s.seen.core c).flight = []) ∧
    (∃ (s : State), ∃ (c u : Nat), ∃ (dd a : Nat), s.seen.issues c u 0x02 (.ldodr dd a) ∧ a * 64 + 32 ≤ coreMemory ∧ s.seen.mustWait c [(a * 64, 32)] [] = false) ∧
    (∃ (s : State), ∃ (c u : Nat), ∃ (an v : Nat), s.seen.issues c u 0x03 (.seta an v)) ∧
    (∃ (s : State), ∃ (c u : Nat), ∃ (an v : Nat), s.seen.issues c u 0x04 (.adda an v)) ∧
    (∃ (s : State), ∃ (c u : Nat), ∃ (sel v : Nat), s.seen.issues c u 0x05 (.setc sel v)) ∧
    (∃ (s : State), ∃ (c u : Nat), ∃ (dd off : Nat), s.seen.issues c u 0x07 (.addodr dd off) ∧ s.seen.descReg c dd ≠ []) ∧
    (∃ (s : State), ∃ (c u : Nat), s.seen.issues c u 0x09 (.fence) ∧ (s.seen.core c).flight = []) :=
  ⟨⟨runsCode [encodeWord (.nop)] {} ([]), 0, 0, ⟨by decide, none, by decide, by decide, by decide, by decide⟩⟩,
   ⟨runsCode [encodeWord (.endUnit)] {} ([]), 0, 0, ⟨by decide, none, by decide, by decide, by decide, by decide⟩, by decide⟩,
   ⟨runsCode [encodeWord (.ldodr 31 49151)] {} ([]), 0, 0, 31, 49151, ⟨by decide, none, by decide, by decide, by decide, by decide⟩, by decide, by decide⟩,
   ⟨runsCode [encodeWord (.seta 15 0xFFFFFFFFFFFFFFFF)] {} ([]), 0, 0, 15, 0xFFFFFFFFFFFFFFFF, ⟨by decide, none, by decide, by decide, by decide, by decide⟩⟩,
   ⟨runsCode [encodeWord (.adda 0 0xFFFFFFFFFFFFFFFF)] {} ([]), 0, 0, 0, 0xFFFFFFFFFFFFFFFF, ⟨by decide, none, by decide, by decide, by decide, by decide⟩⟩,
   ⟨runsCode [encodeWord (.setc 1 0)] {} ([]), 0, 0, 1, 0, ⟨by decide, none, by decide, by decide, by decide, by decide⟩⟩,
   ⟨runsCode [encodeWord (.addodr 3 0xFFFF)] { desc := [(3, oneElem 1 0)] } ([]), 0, 0, 3, 0xFFFF, ⟨by decide, none, by decide, by decide, by decide, by decide⟩, by decide⟩,
   ⟨runsCode [encodeWord (.fence)] {} ([]), 0, 0, ⟨by decide, none, by decide, by decide, by decide, by decide⟩, by decide⟩⟩

/-- An S12 descriptor of one element: D = −X, both FP32 (R121). -/
def s12Desc : Bytes :=
  [0x12, 1, 0, 0] ++ leBytes 8 0x2080 ++ leBytes 6 (1 + 2 * 2 ^ 16 + 3 * 2 ^ 32) ++ leBytes 2 0 ++
    leBytes 8 0x0001000100010001 ++ leBytes 36 0

set_option maxRecDepth 100000 in
/-- The hypotheses of CoreTimedInstructions hold together, clause by clause. -/
theorem wit_CoreTimedInstructions :
    (∃ (s : State), ∃ (c u : Nat), ∃ (an dir a len : Nat), s.seen.issues c u 0x06 (.xfer an dir a len) ∧ (a + len) * 64 ≤ coreMemory ∧ 1 ≤ len ∧ len ≤ 49152 ∧ s.seen.mustWait c (FlightOp.xfer (dir == 1) (s.seen.addrReg c an) a len).reads (FlightOp.xfer (dir == 1) (s.seen.addrReg c an) a len).writes = false) ∧
    (∃ (s : State), ∃ (c u : Nat), ∃ (count back : Nat), s.seen.issues c u 0x08 (.loop count back) ∧ 1 ≤ count ∧ 1 ≤ back ∧ back ≤ (s.seen.core c).index ∧ (s.seen.core c).loops.length < 4 ∧ ((∀ e ∈ (s.seen.core c).loops.head?, e.1 ≠ (s.seen.core c).index))) ∧
    (∃ (s : State), ∃ (c u : Nat), ∃ (count back left : Nat), ∃ (rest : List (Nat × Nat)), s.seen.issues c u 0x08 (.loop count back) ∧ 1 ≤ count ∧ 1 ≤ back ∧ back ≤ (s.seen.core c).index ∧ (s.seen.core c).loops = ((s.seen.core c).index, left) :: rest) ∧
    (∃ (s : State), ∃ (c u : Nat), ∃ (dst a b acc ta tb accEn m nn k : Nat), ∃ op, s.seen.issues c u 0x10 (.mma dst a b acc ta tb accEn m nn k) ∧ mmaFaults (ta == 1) (tb == 1) (accEn == 1) m nn k (s.seen.descReg c dst) (s.seen.descReg c a) (s.seen.descReg c b) (s.seen.descReg c acc) = [] ∧ op = FlightOp.mma (ta == 1) (tb == 1) m nn k (s.seen.descReg c dst) (s.seen.descReg c a) (s.seen.descReg c b) (if accEn = 1 then s.seen.descReg c acc else []) ∧ s.seen.mustWait c op.reads op.writes = false) ∧
    (∃ (s : State), ∃ (c u : Nat), ∃ (dst x y z count rows c0 c1 stages : Nat), ∃ op, s.seen.issues c u 0x20 (.vchain dst x y z count rows c0 c1 stages) ∧ chainFaults count rows (stageWords stages) (s.seen.descReg c dst) (s.seen.descReg c x) (s.seen.descReg c y) (s.seen.descReg c z) = [] ∧ op = FlightOp.chain count rows (stageWords stages) (s.seen.constants c c0 c1) (s.seen.descReg c dst) (if selects (stageWords stages) 1 then s.seen.descReg c x else []) (if selects (stageWords stages) 2 then s.seen.descReg c y else []) (if selects (stageWords stages) 3 then s.seen.descReg c z else []) ∧ s.seen.mustWait c op.reads op.writes = false) ∧
    (∃ (s : State), ∃ (c u a : Nat), ∃ (b : Bytes), ∃ op, s.seen.issues c u 0x28 (.s12 a) ∧ a * 64 + 64 ≤ coreMemory ∧ s.seen.mustWait c [(a * 64, 64)] [] = false ∧ b = readMem s.seen.mem 64 (coreKey c (a * 64)) ∧ s12Bad b = false ∧ op = FlightOp.s12 b (s.seen.constants c (u32At b 0x38) (u32At b 0x3C)) ∧ s.seen.mustWait c op.reads op.writes = false) ∧
    (∃ (s : State), ∃ (c u w : Nat), ∃ (w1 : Option Nat), s.seen.unitAt c = some u ∧ s.seen.fetch (s.seen.core c).pc = some (w, w1) ∧ decodeWord w (w1.getD 0) = none) :=
  ⟨⟨runsCode [encodeWord (.xfer 1 1 0 49152)] {} ([]), 0, 0, 1, 1, 0, 49152, ⟨by decide, none, by decide, by decide, by decide, by decide⟩, by decide, by decide, by decide, by decide⟩,
   ⟨runsCode [0, encodeWord (.loop 2 1)] { pc := 16, index := 1 } [], 0, 0, 2, 1, ⟨by decide, none, by decide, by decide, by decide, by decide⟩, by decide, by decide, by decide, by decide, by decide⟩,
   ⟨runsCode [0, encodeWord (.loop 2 1)] { pc := 16, index := 1, loops := [(1, 1)] } [], 0, 0, 2, 1, 1, [], ⟨by decide, none, by decide, by decide, by decide, by decide⟩, by decide, by decide, by decide, by decide⟩,
   ⟨runsCode [encodeWord (.mma 2 0 1 2 0 0 1 1 1 1)] { desc := [(0, oneElem 1 1), (1, oneElem 2 1), (2, oneElem 3 0)] } ([]), 0, 0, 2, 0, 1, 2, 0, 0, 1, 1, 1, 1, _, ⟨by decide, none, by decide, by decide, by decide, by decide⟩, by decide, rfl, by decide⟩,
   ⟨runsCode [encodeWord (.vchain 1 0 0 0 1 1 0 0 0x2080), 0x2080] { desc := [(0, oneElem 1 0), (1, oneElem 2 0)] } ([]), 0, 0, 1, 0, 0, 0, 1, 1, 0, 0, 0x2080, _, ⟨by decide, some 0x2080, by decide, by decide, by decide, by decide⟩, by decide, rfl, by decide⟩,
   ⟨runsCode [encodeWord (.s12 0)] {} (cells (coreKey 0 0) s12Desc), 0, 0, 0, s12Desc, _, ⟨by decide, none, by decide, by decide, by decide, by decide⟩, by decide, by decide, by decide, by decide, rfl, by decide⟩,
   ⟨runsCode [0xFF * 2 ^ 120] {} [], 0, 0, 0xFF * 2 ^ 120, none, by decide, by decide, by decide⟩⟩

/-- A step in COMPUTE with one unit of a KIND that waits, its eligible mask all ones, and a core in the pool or a tile in service. -/
def offered (kind tile energy : Nat) : State :=
  made [(F.SPINE_POOL0_IN_POOL, 1), (F.CORE_STATUS_STATE 0, 1), (F.MEM_STATUS_STATE tile, 1)] fun d => { d with
    phase := .compute
    spine := { prog := some { units := [{ kind := kind, eligible := 0xFFFFFF, energy := energy }] } } }

set_option maxRecDepth 100000 in
/-- The hypotheses of UnitsHandedOut hold together, clause by clause. -/
theorem wit_UnitsHandedOut :
    (∃ (s : State), ∃ (c u : Nat), ∃ (swapped passed : Bool), c < 96 ∧ s.seen.inPool c = true ∧ s.seen.unitAt c = none ∧ s.seen.rd (F.CORE_STATUS_STATE c) = 1 ∧ s.seen.pick c = some (u, swapped, passed)) ∧
    (∃ (s : State), ∃ (c : Nat), s.seen.pick c = none) ∧
    (∃ (s : State), ∃ (t u : Nat), t < 24 ∧ s.seen.tileServes t = true ∧ s.seen.unitAt (placeTile t) = none ∧ (s.seen.nextReady fun u => tileKind (s.seen.workUnit u).kind && bit (s.seen.workUnit u).eligible t) = some u) ∧
    (∃ (s : State), ∃ (u : Nat), ∃ v, s.seen.unitSt u = .ended ∧ v ≠ u) ∧
    (∃ (s : State), ∃ (u : Nat), s.seen.unitSt u ≠ .ended) :=
  ⟨⟨offered 1 0 0, 0, 0, false, false, by decide, by decide, by decide, by decide, by decide⟩,
   ⟨ready, 95, by decide⟩,
   ⟨offered 3 23 0, 23, 0, by decide, by decide, by decide, by decide⟩,
   ⟨made [] fun d => { d with spine := { units := [(4, .ended)] } }, 4, 5, by decide, by decide⟩,
   ⟨ready, 0, by decide⟩⟩

/-- Core 0 in unit 0 with instructions in flight, the host link up. -/
def flying (fs : List Flight) : State :=
  made hostWindow fun d => { d with
    phase := .compute, cores := [(0, { pc := 16, index := 1, flight := fs })], host := { cacheEn := true }
    spine := { prog := some { units := [{}], code := [(0, zeroBytes 16)] }, units := [(0, .running 0)] } }

set_option maxRecDepth 100000 in
/-- The hypotheses of CoreCompletions hold together, clause by clause. -/
theorem wit_CoreCompletions :
    (∃ (s : State), ∃ (c u : Nat), ∃ (f : Flight), ∃ (rest : List Flight), s.seen.unitAt c = some u ∧ (s.seen.oldest c fun x => x.op.isMma) = some (f, rest)) ∧
    (∃ (s : State), ∃ (c u : Nat), ∃ (f : Flight), ∃ (rest : List Flight), s.seen.unitAt c = some u ∧ (s.seen.oldest c fun x => x.op.isChain) = some (f, rest)) ∧
    (∃ (s : State), ∃ (c u : Nat), ∃ (f : Flight), ∃ (rest : List Flight), s.seen.unitAt c = some u ∧ (s.seen.oldest c fun x => x.op.isS12) = some (f, rest)) ∧
    (∃ (s : State), ∃ (c u i a len uni dur : Nat), ∃ (rest : List Flight), ∃ (d : Device), s.seen.unitAt c = some u ∧ (s.seen.oldest c fun x => x.index == i && x.op.isXfer) = some (⟨i, .xfer true uni a len, dur⟩, rest) ∧ xferOrdered ((s.seen.core c).flight.takeWhile fun x => x.index ≠ i) true uni len = true ∧ s.seen.uniOk uni (len * 64) = true ∧ (s.seen.setCore c { (s.seen.core c) with flight := rest }).uniWrite uni (readMem s.seen.mem (len * 64) (coreKey c (a * 64))) = some d) ∧
    (∃ (s : State), ∃ (c u i a len uni dur n : Nat), ∃ (rest : List Flight), ∃ (out : Bool), s.seen.unitAt c = some u ∧ (s.seen.oldest c fun x => x.index == i && x.op.isXfer) = some (⟨i, .xfer out uni a len, dur⟩, rest) ∧ xferOrdered ((s.seen.core c).flight.takeWhile fun x => x.index ≠ i) out uni len = true ∧ (!out && bit (s.seen.workUnit u).flags 2 && s.seen.repairHolds true uni (len * 64)) = false ∧ s.seen.rd F.DMA_XFER_RETRY_RETRY < n) :=
  ⟨⟨flying [⟨0, .mma false false 1 1 1 [] [] [] [], 5⟩], 0, 0, ⟨0, .mma false false 1 1 1 [] [] [] [], 5⟩, [], by decide, by decide⟩,
   ⟨flying [⟨0, .chain 1 1 [] [] [] [] [] [], 5⟩], 0, 0, ⟨0, .chain 1 1 [] [] [] [] [] [], 5⟩, [], by decide, by decide⟩,
   ⟨flying [⟨0, .s12 [] [], 5⟩], 0, 0, ⟨0, .s12 [] [], 5⟩, [], by decide, by decide⟩,
   ⟨flying [⟨0, .xfer true (2 ^ 60) 0 1, 0⟩], 0, 0, 0, 0, 1, 2 ^ 60, 0, [], _, by decide, by decide, by decide, by decide, rfl⟩,
   ⟨flying [⟨0, .xfer false (2 ^ 60) 0 1, 0⟩], 0, 0, 0, 0, 1, 2 ^ 60, 0, 16, [], false, by decide, by decide, by decide, by decide, by decide⟩⟩

/-- A core in unit 0. -/
def offered2 (c : Nat) : State := made [(F.CORE_STATUS_STATE c, 2)] fun d => { d with spine := { units := [(0, .running c)] } }

set_option maxRecDepth 100000 in
/-- The hypotheses of CoreErrors hold together, clause by clause. -/
theorem wit_CoreErrors :
    (∃ (s : State), ∃ (c : Nat), ∃ (d : Device), c < 96 ∧ s.seen.domOn (domOfCore c) = true ∧ s.seen.boot.retiredCores.contains c = false ∧ d = s.seen.inc (F.CORE_UE_CNT_COUNT c) ∧ d.coreTesting c = true) ∧
    (∃ (s : State), ∃ (c : Nat), ∃ (d : Device), ∃ e, c < 96 ∧ s.seen.domOn (domOfCore c) = true ∧ s.seen.boot.retiredCores.contains c = false ∧ d = s.seen.inc (F.CORE_UE_CNT_COUNT c) ∧ d.coreTesting c = false ∧ e = (d.raise (F.CORE_INT_STATUS_HW_ERR c)).setCore c { (d.core c) with hwTest := true }) ∧
    (∃ (d : Device), ∃ (c : Nat), ∃ u, d.unitAt c = some u) ∧
    (∃ (d : Device), ∃ (c : Nat), d.unitAt c = none) ∧
    (∃ (s : State), ∃ (c : Nat), ∃ e, c < 96 ∧ s.seen.domOn (domOfCore c) = true ∧ s.seen.coreTesting c = true ∧ (s.seen.core c).testFail = false ∧ (s.seen.core c).hwTest = false ∧ c ∉ s.seen.mgmt.testing ∧ e = ((((s.seen.inc (F.CORE_SELFTEST_RUNS c)).wr (F.CORE_SELFTEST_RESULT c) 1).wr (F.CORE_CTL_SELFTEST_REQ c) 0).setCore c { (s.seen.core c) with hwTest := false, testFail := false }).raise (F.CORE_INT_STATUS_SELFTEST_DONE c) ∧ (e.coreIdle c).mgmt.testing.contains c = false) ∧
    (∃ (s : State), ∃ (c : Nat), ∃ e, c < 96 ∧ s.seen.domOn (domOfCore c) = true ∧ s.seen.coreTesting c = true ∧ e = ((((s.seen.inc (F.CORE_SELFTEST_RUNS c)).wr (F.CORE_SELFTEST_RESULT c) 2).wr (F.CORE_CTL_SELFTEST_REQ c) 0).setCore c { (s.seen.core c) with hwTest := false, testFail := false }).raise (F.CORE_INT_STATUS_SELFTEST_DONE c)) ∧
    (∃ (s : State), ∃ (c : Nat), c < 96 ∧ s.seen.barOpen = true ∧ s.seen.decodes (keySource (F.CORE_CTL c).key).1 = true ∧ s.seen.domOn (domOfCore c) = true) ∧
    (∃ (s : State), ∃ (c : Nat), ∃ (dr : Bool), c < 96 ∧ s.seen.barOpen = true ∧ s.seen.decodes (keySource (F.CORE_CTL c).key).1 = true ∧ ((s.seen.wr (F.CORE_CTL_DRAIN c) (b2n dr)).coreTesting c || s.seen.boot.retiredCores.contains c || !(s.seen.wr (F.CORE_CTL_DRAIN c) (b2n dr)).domOn (domOfCore c)) = false ∧ s.seen.unitAt c = none) ∧
    (∃ (s : State), ∃ (c : Nat), ∃ (dr : Bool), c < 96 ∧ s.seen.barOpen = true ∧ s.seen.decodes (keySource (F.CORE_CTL c).key).1 = true ∧ ((s.seen.wr (F.CORE_CTL_DRAIN c) (b2n dr)).coreTesting c || s.seen.boot.retiredCores.contains c || !(s.seen.wr (F.CORE_CTL_DRAIN c) (b2n dr)).domOn (domOfCore c)) = false ∧ s.seen.unitAt c ≠ none) ∧
    (∃ (d : Device), ∃ (c : Nat), d.boot.retiredCores.contains c = false ∧ d.domOn (domOfCore c) = true ∧ (d.core c).hwTest = false ∧ d.flag (F.CORE_CTL_SELFTEST_REQ c) = false) ∧
    (∃ (d : Device), ∃ (c : Nat), d.boot.retiredCores.contains c = false ∧ d.domOn (domOfCore c) = true ∧ (((d.core c).hwTest = true ∨ d.flag (F.CORE_CTL_SELFTEST_REQ c) = true))) :=
  ⟨⟨made [(F.CORE_STATUS_STATE 95, 3)] id, 95, _, by decide, by decide, by decide, rfl, by decide⟩,
   ⟨made [(F.CORE_STATUS_STATE 0, 1)] id, 0, _, _, by decide, by decide, by decide, rfl, by decide, rfl⟩,
   ⟨(offered2 1).seen, 1, 0, by decide⟩,
   ⟨{}, 0, by decide⟩,
   ⟨made [(F.CORE_STATUS_STATE 0, 3)] id, 0, _, by decide, by decide, by decide, by decide, by decide, by decide, rfl, by decide⟩,
   ⟨made [(F.CORE_STATUS_STATE 95, 3)] id, 95, _, by decide, by decide, by decide, rfl⟩,
   ⟨ready, 0, by decide, by decide, by decide, by decide⟩,
   ⟨made [(F.CORE_STATUS_STATE 0, 1)] id, 0, true, by decide, by decide, by decide, by decide, by decide⟩,
   ⟨offered2 95, 95, false, by decide, by decide, by decide, by decide, by decide⟩,
   ⟨ready.dev, 0, by decide, by decide, by decide, by decide⟩,
   ⟨{ ready.dev with cores := [(5, { hwTest := true })] }, 5, by decide, by decide, by decide⟩⟩

/-- TDA at host address 0x1000, object 0 ready to be a table's. -/
def tabled : State :=
  made (hostWindow ++ [(F.EMB_TDA_LO_ADDR, 0x1000), (F.EMB_TDA_LO_ADDR.hi, 2 ^ 28)]) fun d => { d with
    host := { cacheEn := true }
    tier := { objs := [(0, { live := true, kind := 1, allowed := 1, size := 4, recLines := 1 })] } }

set_option maxRecDepth 100000 in
/-- The hypotheses of TableCommands hold together, clause by clause. -/
theorem wit_TableCommands :
    (∃ (s : State), ∃ (t : Nat), ∃ (w : List Host.Cell), ∃ (d e : Device), ∃ (a : Nat), ∃ (b : Bytes), s.reaches F.EMB_TBL_CMD.key ∧ s.seen.phase = .idle ∧ t < 4096 ∧ d = s.seen.hostWrites w ∧ (d.table t).on = false ∧ a = d.rd64 F.EMB_TDA_LO_ADDR + 64 * t ∧ d.uniRead a 64 = some b ∧ e = d.uniAsk a 64 ∧ e.tableFault b = 0) ∧
    (∃ (s : State), ∃ (t : Nat), ∃ (w : List Host.Cell), ∃ (d e : Device), ∃ (a : Nat), ∃ (b : Bytes), s.reaches F.EMB_TBL_CMD.key ∧ s.seen.phase = .idle ∧ t < 4096 ∧ d = s.seen.hostWrites w ∧ (d.table t).on = false ∧ a = d.rd64 F.EMB_TDA_LO_ADDR + 64 * t ∧ d.uniRead a 64 = some b ∧ e = d.uniAsk a 64 ∧ e.tableFault b ≠ 0) ∧
    (∃ (s : State), ∃ (t : Nat), ∃ (w : List Host.Cell), ∃ (d : Device), s.reaches F.EMB_TBL_CMD.key ∧ s.seen.phase = .idle ∧ t < 4096 ∧ d = s.seen.hostWrites w ∧ (d.table t).on = true) ∧
    (∃ (s : State), ∃ (t : Nat), ∃ (w : List Host.Cell), ∃ (d : Device), ∃ a, s.reaches F.EMB_TBL_CMD.key ∧ s.seen.phase = .idle ∧ t < 4096 ∧ d = s.seen.hostWrites w ∧ (d.table t).on = false ∧ a = d.rd64 F.EMB_TDA_LO_ADDR + 64 * t ∧ d.uniRead a 64 = none) ∧
    (∃ (s : State), ∃ (t : Nat), s.reaches F.EMB_TBL_CMD.key ∧ s.seen.phase = .idle ∧ t < 4096 ∧ (s.seen.table t).on = true) ∧
    (∃ (s : State), ∃ (t : Nat), s.reaches F.EMB_TBL_CMD.key ∧ s.seen.phase = .idle ∧ t < 4096 ∧ (s.seen.table t).on = false) ∧
    (∃ (s : State), ∃ (t : Nat), ∃ (w : List Host.Cell), ∃ c, s.reaches F.EMB_TBL_CMD.key ∧ s.seen.phase ≠ .idle ∧ (c = Instr.tableEnable t w ∨ c = .tableDisable t ∨ c = .tableClearCounters t)) ∧
    (∃ (d e f : Device), ∃ (t i l : Nat), ∃ (b : Bytes), ∃ (sk : Option (Nat × Nat)), d.tableSketch t b = some (sk, e) ∧ i = e.sortTile t (dRows b) ∧ e.alloc1 i (dRecLines b) = some (l, f)) ∧
    (∃ (d : Device), ∃ (t : Nat), ∃ (b : Bytes), d.tableSketch t b = none) :=
  ⟨⟨tabled, 0, cells 0x1000 tableDesc, tabled.seen.hostWrites (cells 0x1000 tableDesc), _, 2 ^ 60 + 0x1000, tableDesc, ⟨by decide, by decide⟩, by decide, by decide, by decide, by decide, by decide, by decide, rfl, by decide⟩,
   ⟨tabled, 4095, [], tabled.seen.hostWrites [], _, 2 ^ 60 + 0x1000 + 64 * 4095, zeroBytes 64, ⟨by decide, by decide⟩, by decide, by decide, by decide, by decide, by decide, by decide, rfl, by decide⟩,
   ⟨made [] fun d => { d with sparse := { tables := [(7, { on := true })] } }, 7, [], _, ⟨by decide, by decide⟩, by decide, by decide, rfl, by decide⟩,
   ⟨ready, 0, [], _, _, ⟨by decide, by decide⟩, by decide, by decide, rfl, by decide, rfl, by decide⟩,
   ⟨made [] fun d => { d with sparse := { tables := [(4095, { on := true })] } }, 4095, ⟨by decide, by decide⟩, by decide, by decide, by decide⟩,
   ⟨ready, 0, ⟨by decide, by decide⟩, by decide, by decide, by decide⟩,
   ⟨inPhase .compute, 0, [], .tableDisable 0, ⟨by decide, by decide⟩, by decide, by decide⟩,
   ⟨tabled.seen, tabled.seen, _, 0, _, _, tableDesc, none, rfl, rfl, rfl⟩,
   ⟨{}, 0, List.replicate 64 0xFF, by decide⟩⟩

/-- A tile in unit 0 of a KIND, its operand block at the open window's address 0. -/
def tileRuns (kind flags tile : Nat) : State :=
  made hostWindow fun d => { d with
    phase := .compute, host := { cacheEn := true }
    spine := { prog := some { units := [{ kind := kind, flags := flags, argPtr := 2 ^ 60 }] }
               units := [(0, .running (placeTile tile))] } }

/-- A lookup's operand block: table 0, feature 0, outputs from host address 0x2000 on, 64 bytes apart. -/
def lookArgs : Bytes := zeroBytes 8 ++ leBytes 8 (2 ^ 60 + 0x2000) ++ leBytes 16 64

/-- Table 0 enabled, one sample's bag of one row, and that row gathered. -/
def looked : Device :=
  { (made hostWindow id).dev with
    spine := { prog := some { units := [{ kind := 3 }] } }, host := { cacheEn := true }
    sparse := { tables := [(0, { on := true, desc := tableDesc })]
                bags := [⟨0, 0, 0, false, [[(1, 0x3F800000)]]⟩]
                gathers := [⟨0, 1, 1, 1, true, zeroBytes 64, 0, 0⟩] } }

/-- A tile whose stack has no room for a staging line set. -/
def staging (d : Device) : State :=
  made [] fun _ => { d with
    tier := { d.tier with t1 := [⟨0, 0, Config.stackLines⟩] }
    sparse := { gathers := [⟨0, 0, 1, 1, true, [], 0, 0⟩] } }

set_option maxRecDepth 100000 in
/-- The hypotheses of TileUnits hold together, clause by clause. -/
theorem wit_TileUnits :
    (∃ (s : State), ∃ (t u : Nat), ∃ (a : Bytes), s.seen.unitAt (placeTile t) = some u ∧ (s.seen.workUnit u).kind = 3 ∧ s.seen.unitRead (s.seen.workUnit u).argPtr 32 = .bytes a) ∧
    (∃ (d e : Device), ∃ (u t : Nat), ∃ (a : Bytes), ∃ (sec : BagSec), ∃ (x : Bytes), ∃ bags, ∃ rows, ∃ outs, t = u16At a 0 ∧ t < 4096 ∧ (d.table t).on = true ∧ x = (d.table t).desc ∧ (((d.secsOf t).find? fun s => s.feature = u16At a 2 ∧ (s.bag d.leafSamples (d.workUnit u).leaf 0).isSome) = some sec) ∧ (zeros a 4 4 && zeros a 0x14 12) = true ∧ u32At a 0x10 % 64 = 0 ∧ packedBytes (dOutFormat x) (dWidth x) ≤ u32At a 0x10 ∧ bags = ((List.range d.leafSamples).map fun i => policyBag x ((sec.bag d.leafSamples (d.workUnit u).leaf i).getD [])) ∧ rows = ((bags.flatMap id).map (·.1)).eraseDups ∧ (rows.all fun r => (d.gathered t r).isSome) = true ∧ outs = (bags.map fun b => d.poolOut x (poolBag (dPool x) (dWidth x) (b.map fun e => (rowValues (dFormat x) (dWidth x) ((d.gathered t e.1).getD []), e.2)))) ∧ d.writeAll ((List.range outs.length).map fun i => (u64At a 8 + i * u32At a 0x10, (outs.getD i ([], 0, 0)).1)) = some e) ∧
    (∃ (s : State), ∃ (t u : Nat), ∃ (a : Bytes), s.seen.unitAt (placeTile t) = some u ∧ (s.seen.workUnit u).kind = 4 ∧ bit (s.seen.workUnit u).flags 0 = true ∧ s.seen.unitRead (s.seen.workUnit u).argPtr 32 = .bytes a) ∧
    (∃ (s : State), ∃ (t u : Nat), s.seen.unitAt (placeTile t) = some u ∧ (s.seen.workUnit u).kind = 4 ∧ bit (s.seen.workUnit u).flags 0 = false) ∧
    (∃ (d : Device), ∃ (u t : Nat), ∃ (a desc : Bytes), ∃ (os : List Occ), ∃ (bs : List Bytes), t = Config.sortTable a ∧ desc = (d.table t).desc ∧ (d.table t).on = true ∧ os = d.occsOf t (d.workUnit u).leaf ∧ d.unitReads (os.map fun o => (Config.sortGrad a o.feature + o.sample * Config.sortStride a o.feature, 2 * dWidth desc)) = .ok bs) ∧
    (∃ (s : State), ∃ (t u : Nat), ∃ (e : Device), s.seen.unitAt (placeTile t) = some u ∧ (s.seen.workUnit u).kind = 5 ∧ s.seen.reserve t = some e ∧ s.seen.sparse.wantStage.contains t = true) ∧
    (∃ (s : State), ∃ (t : Nat), ∃ u, s.seen.reserve t = none ∧ (s.seen.others.all fun m => s.seen.setComplete 3 s.seen.step64 (s.seen.memberRank m)) = true ∧ s.seen.unitAt (placeTile t) = some u ∧ (s.seen.workUnit u).kind = 5) ∧
    (∃ (s : State), ∃ (t : Nat), ∃ (e : Device), t < 24 ∧ s.seen.phase = .reduce ∧ s.seen.sparse.stopped = false ∧ s.seen.sparse.treesDone.contains t = false ∧ (s.seen.others.all fun m => s.seen.setComplete 5 s.seen.step64 (s.seen.memberRank m)) = true ∧ s.seen.reserve t = some e) ∧
    (∃ (d : Device), ∃ (t : Nat), ∃ s, s ∈ d.sparse.staged ∧ d.sortTile s.table s.row ≠ t) ∧
    (∃ (d : Device), ∃ (t : Nat), ∃ s, ∃ v, ∃ nf, s ∈ d.sparse.staged ∧ d.sortTile s.table s.row = t ∧ rowTree s.table s.row d.sparse.nodes d.leafLog 0 = some (v, nf)) :=
  ⟨⟨tileRuns 3 0 23, 23, 0, zeroBytes 32, by decide, by decide, by decide⟩,
   ⟨looked, _, 0, 0, lookArgs, ⟨0, 0, 0, false, [[(1, 0x3F800000)]]⟩, tableDesc, _, _, _, by decide, by decide, by decide, by decide, by decide, by decide, by decide, by decide, rfl, rfl, by decide, rfl, rfl⟩,
   ⟨tileRuns 4 1 0, 0, 0, zeroBytes 32, by decide, by decide, by decide, by decide⟩,
   ⟨tileRuns 4 0 0, 0, 0, by decide, by decide, by decide⟩,
   ⟨{ sparse := { tables := [(Config.sortTable [], { on := true })] } }, 0, Config.sortTable [], [], [], [], [], rfl, by simp [Device.table, Store.get], by simp [Device.table, Store.get], rfl, rfl⟩,
   ⟨made [] fun d => { (tileRuns 5 0 0).dev with sparse := { wantStage := [0] } }, 0, 0, _, by decide, by decide, rfl, by decide⟩,
   ⟨staging (tileRuns 5 0 0).dev, 0, 0, by decide, by decide, by decide, by decide⟩,
   ⟨inPhase .reduce, 0, _, by decide, by decide, by decide, by decide, by decide, rfl⟩,
   ⟨{ sparse := { staged := [⟨0, 0, none, false⟩] } }, 23, ⟨0, 0, none, false⟩, by decide, by decide⟩,
   ⟨{ sparse := { staged := [⟨0, 0, none, false⟩], nodes := [⟨0, 0, 0, 0, [5], true⟩] } }, 0, ⟨0, 0, none, false⟩, [5], true, by decide, by decide, by decide⟩⟩

/-- Ring 0 a tail ring, ring 1 its acknowledgement ring with one entry of a STATUS. -/
def acked (status : Nat) : State :=
  made (hostWindow ++ [(F.RING_CFG_TYPE 0, 5), (F.RING_CFG_TYPE 1, 6), (F.RING_PAIR_PAIR 0, 1), (F.OPT_TAIL_CFG_TAIL_RINGS, 1),
      (F.RING_CTL_ENABLE 0, 1), (F.RING_CTL_ENABLE 1, 1), (F.RING_CFG_LOG2_ENTRIES 1, 4), (F.RING_PROD_PTR 1, 1),
      (F.RING_BASE_HI 1, 2 ^ 28)]) fun d => { d with
    host := { cacheEn := true }, mem := cells 0 [0, BitVec.ofNat 8 status] }

/-- An acknowledgement's 16 bytes with a STATUS. -/
def cellsOf (status : Nat) : Bytes := [0, BitVec.ofNat 8 status] ++ zeroBytes 14

set_option maxRecDepth 100000 in
/-- The hypotheses of TailAcknowledgements hold together, clause by clause. -/
theorem wit_TailAcknowledgements :
    (∃ (s : State), ∃ (r i : Nat), ∃ (e : Bytes), s.seen.ringHead r = some e ∧ s.seen.tailIndex r = some i ∧ s.seen.rd (F.RING_CFG_TYPE r) = 6 ∧ u8At e 1 = 0) ∧
    (∃ (s : State), ∃ (r i : Nat), ∃ (e : Bytes), s.seen.ringHead r = some e ∧ s.seen.tailIndex r = some i ∧ s.seen.rd (F.RING_CFG_TYPE r) = 6 ∧ u8At e 1 ≠ 0) ∧
    (∃ (s : State), ∃ (g : Gather), ∃ (d : Device), s.seen.tailLate = some g ∧ d = s.seen.setGather { g with waited := 0 }) ∧
    (∃ (s : State), s.seen.tailLate = none) ∧
    (∃ (s : State), s.reaches F.OPT_TAIL_CTL.key ∧ s.seen.phase = .idle) ∧
    (∃ (s : State), s.reaches F.OPT_TAIL_CTL.key ∧ s.seen.phase ≠ .idle) ∧
    (∃ (d : Device), d.sparse.tailDrain = true ∧ d.tailClear = true) ∧
    (∃ (d : Device), d.sparse.tailDrain = true ∧ d.tailClear = false) :=
  ⟨⟨acked 0, 1, 0, zeroBytes 16, by decide, by decide, by decide, by decide⟩,
   ⟨acked 1, 1, 0, cellsOf 1, by decide, by decide, by decide, by decide⟩,
   ⟨made [] fun d => { d with sparse := { gathers := [⟨0, 0, 1, 1, false, [], 0, 2000000⟩] } }, ⟨0, 0, 1, 1, false, [], 0, 2000000⟩, _, by decide, rfl⟩,
   ⟨ready, by decide⟩,
   ⟨ready, ⟨by decide, by decide⟩, by decide⟩,
   ⟨inPhase .decide, ⟨by decide, by decide⟩, by decide⟩,
   ⟨{ sparse := { tailDrain := true } }, by decide, by decide⟩,
   ⟨{ sparse := { tailDrain := true, pend := [⟨0, 0, 0, 0⟩] } }, by decide, by decide⟩⟩

/-- An object descriptor: a table of 4 rows of one line, in T1 only (R207). -/
def objBytes : Bytes :=
  [1, 0, 1, 0, 1, 0, 0, 0] ++ leBytes 16 4 ++ List.replicate 8 0xFF ++ zeroBytes 28 ++ leBytes 2 2 ++ leBytes 66 1

/-- TIER_CMD's address at host address 0x1000, object 0 live as `objBytes` describes it. -/
def asking : State :=
  made (hostWindow ++ [(F.TIER_CMD_ADDR_LO_ADDR, 0x1000), (F.TIER_CMD_ADDR_LO_ADDR.hi, 2 ^ 28)]) fun d => { d with
    host := { cacheEn := true }
    tier := { objs := [(0, { live := true, kind := 1, allowed := 1, size := 4, recLines := 1, promT1 := 2, promT2 := 1 })] } }

set_option maxRecDepth 100000 in
/-- The hypotheses of TierCommands hold together, clause by clause. -/
theorem wit_TierCommands :
    (∃ (s : State), ∃ (w : List Host.Cell), ∃ (d : Device), ∃ (b : Bytes), s.reaches F.TIER_CMD.key ∧ s.seen.flag F.TIER_CMD_STATUS_BUSY = false ∧ s.seen.phase = .idle ∧ d = s.seen.hostWrites w ∧ d.objDesc = some b ∧ lowest (d.descFaults none b) = 0) ∧
    (∃ (s : State), ∃ (w : List Host.Cell), ∃ (d : Device), ∃ (b : Bytes), ∃ r, s.reaches F.TIER_CMD.key ∧ s.seen.flag F.TIER_CMD_STATUS_BUSY = false ∧ s.seen.phase = .idle ∧ d = s.seen.hostWrites w ∧ d.objDesc = some b ∧ r = lowest (d.descFaults none b) ∧ r ≠ 0) ∧
    (∃ (d e f : Device), ∃ (n : Nat), ∃ (b : Bytes), ∃ (q : TierObj), d.freeNumber = some n ∧ d.giveFrames n (d.newObj n b) = some (q, e) ∧ e.giveSketch n q = some (q, f)) ∧
    (∃ (s : State), ∃ (h : Nat), s.reaches F.TIER_CMD.key ∧ s.seen.flag F.TIER_CMD_STATUS_BUSY = false ∧ s.seen.phase = .idle ∧ h = s.seen.rd F.TIER_CMD_HANDLE_HANDLE ∧ s.seen.handleLive h = true ∧ s.seen.objInUse (handleNum h) = false) ∧
    (∃ (s : State), ∃ (w : List Host.Cell), ∃ (d : Device), ∃ (b : Bytes), ∃ (h r : Nat), s.reaches F.TIER_CMD.key ∧ s.seen.flag F.TIER_CMD_STATUS_BUSY = false ∧ s.seen.phase = .idle ∧ d = s.seen.hostWrites w ∧ h = d.rd F.TIER_CMD_HANDLE_HANDLE ∧ d.handleLive h = true ∧ d.objDesc = some b ∧ r = lowest (d.descFaults (some (handleNum h)) b ++ if immutableChanged (d.obj (handleNum h)) (objOfDesc b) then [13] else []) ∧ r = 0) ∧
    (∃ (s : State), ∃ (w : List Host.Cell), ∃ (d : Device), ∃ (b : Bytes), ∃ (h r : Nat), s.reaches F.TIER_CMD.key ∧ s.seen.flag F.TIER_CMD_STATUS_BUSY = false ∧ s.seen.phase = .idle ∧ d = s.seen.hostWrites w ∧ h = d.rd F.TIER_CMD_HANDLE_HANDLE ∧ d.handleLive h = true ∧ d.objDesc = some b ∧ r = lowest (d.descFaults (some (handleNum h)) b ++ if immutableChanged (d.obj (handleNum h)) (objOfDesc b) then [13] else []) ∧ r ≠ 0) ∧
    (∃ (s : State), ∃ (h r : Nat), s.reaches F.TIER_CMD.key ∧ s.seen.flag F.TIER_CMD_STATUS_BUSY = false ∧ h = s.seen.rd F.TIER_CMD_HANDLE_HANDLE ∧ s.seen.handleLive h = true ∧ (s.seen.obj (handleNum h)).kind = 1 ∧ r = s.seen.rd F.TIER_CMD_ROW_LO_ROW + 2 ^ 32 * (s.seen.rd F.TIER_CMD_ROW_HI_ROW % 256) ∧ r < (s.seen.obj (handleNum h)).size) ∧
    (∃ (s : State), ∃ (t r : Nat), ∃ (d : Device), s.reaches F.TIER_CMD.key ∧ s.seen.flag F.TIER_CMD_STATUS_BUSY = false ∧ t < 32 ∧ (r, d) = s.seen.drainRequest 0 t) ∧
    (∃ (s : State), ∃ (t r : Nat), ∃ (d : Device), s.reaches F.TIER_CMD.key ∧ s.seen.flag F.TIER_CMD_STATUS_BUSY = false ∧ t < 32 ∧ (r, d) = s.seen.drainRequest 1 t) ∧
    (∃ (s : State), ∃ (c : Instr), ∃ (w : List Host.Cell), s.reaches F.TIER_CMD.key ∧ s.seen.flag F.TIER_CMD_STATUS_BUSY = false ∧ s.seen.phase ≠ .idle ∧ (c = .createObj w ∨ c = .setPolicy w)) ∧
    (∃ (s : State), s.reaches F.TIER_CMD.key ∧ s.seen.flag F.TIER_CMD_STATUS_BUSY = false ∧ s.seen.phase ≠ .idle) ∧
    (∃ (s : State), s.reaches F.TIER_CMD.key ∧ s.seen.flag F.TIER_CMD_STATUS_BUSY = false ∧ s.seen.handleLive (s.seen.rd F.TIER_CMD_HANDLE_HANDLE) = false ∧ s.seen.phase = .idle) ∧
    (∃ (s : State), ∃ (c : Instr), ∃ (w : List Host.Cell), ∃ (t : Nat), s.reaches F.TIER_CMD.key ∧ s.seen.flag F.TIER_CMD_STATUS_BUSY = true ∧ (c = .createObj w ∨ c = .destroyObj ∨ c = .setPolicy w ∨ c = .locate ∨ c = .drainTile t ∨ c = .drainCarrier t)) :=
  ⟨⟨asking, cells 0x1000 objBytes, _, objBytes, ⟨by decide, by decide⟩, by decide, by decide, rfl, by decide, by decide⟩,
   ⟨asking, [], _, zeroBytes 128, _, ⟨by decide, by decide⟩, by decide, by decide, rfl, by decide, rfl, by decide⟩,
   ⟨{}, _, _, 0, objBytes, _, by decide, rfl, rfl⟩,
   ⟨asking, 0, ⟨by decide, by decide⟩, by decide, by decide, by decide, by decide, by decide⟩,
   ⟨asking, cells 0x1000 objBytes, _, objBytes, 0, _, ⟨by decide, by decide⟩, by decide, by decide, rfl, by decide, by decide, by decide, rfl, by decide⟩,
   ⟨asking, [], _, zeroBytes 128, 0, _, ⟨by decide, by decide⟩, by decide, by decide, rfl, by decide, by decide, by decide, rfl, by decide⟩,
   ⟨made [(F.TIER_CMD_ROW_LO_ROW, 3)] fun d => { asking.dev with regs := d.regs }, 0, 3, ⟨by decide, by decide⟩, by decide, by decide, by decide, by decide, by decide, by decide⟩,
   ⟨made [(F.MEM_STATUS_STATE 23, 1)] id, 23, _, _, ⟨by decide, by decide⟩, by decide, by decide, rfl⟩,
   ⟨ready, 31, _, _, ⟨by decide, by decide⟩, by decide, by decide, rfl⟩,
   ⟨inPhase .compute, .createObj [], [], ⟨by decide, by decide⟩, by decide, by decide, by decide⟩,
   ⟨inPhase .commit, ⟨by decide, by decide⟩, by decide, by decide⟩,
   ⟨ready, ⟨by decide, by decide⟩, by decide, by decide, by decide⟩,
   ⟨made [(F.TIER_CMD_STATUS_BUSY, 1)] id, .locate, [], 0, ⟨by decide, by decide⟩, by decide, by decide⟩⟩

/-- A drain in progress with what is still to move. -/
def draining (kind : Nat) (ws : List WantMove) : State :=
  made [(F.TIER_DRAIN_STATE, 2)] fun d => { d with tier := { drainNow := some (kind, 0), want := ws } }

set_option maxRecDepth 100000 in
/-- The hypotheses of TierBackground hold together, clause by clause. -/
theorem wit_TierBackground :
    (∃ (s : State), ∃ (k t : Nat), s.seen.tier.drainNow = some (k, t) ∧ s.seen.rd F.TIER_DRAIN_STATE = 2 ∧ s.seen.tier.want.filter (·.why = 3) = [] ∧ k = 1) ∧
    (∃ (s : State), ∃ (k t : Nat), ∃ e, s.seen.tier.drainNow = some (k, t) ∧ s.seen.rd F.TIER_DRAIN_STATE = 2 ∧ s.seen.tier.want.filter (·.why = 3) = [] ∧ k ≠ 1 ∧ s.seen.moveExtents t = some e) ∧
    (∃ (s : State), ∃ (k t : Nat), s.seen.tier.drainNow = some (k, t) ∧ s.seen.rd F.TIER_DRAIN_STATE = 2 ∧ s.seen.tier.want.filter (·.why = 3) = [] ∧ k ≠ 1 ∧ s.seen.moveExtents t = none) ∧
    (∃ (s : State), ∃ (k t : Nat), ∃ (w : WantMove), s.seen.tier.drainNow = some (k, t) ∧ s.seen.rd F.TIER_DRAIN_STATE = 2 ∧ w ∈ s.seen.tier.want ∧ w.why = 3 ∧ ((s.seen.drainTiers k w.obj w.row).findSome? fun x => s.seen.moveTo w.obj w.row x) = none) ∧
    (∃ (s : State), ∃ (n : Nat), ∃ (o : TierObj), ∃ (c k : Nat), ∃ (d : Device), o = s.seen.obj n ∧ o.live = true ∧ o.decay ≠ 0 ∧ c = s.seen.rd64 F.SPINE_COMMIT_TICK_LO ∧ o.nextDecay ≤ c ∧ k = decayShift c o.nextDecay o.decay ∧ d = (s.seen.setObj n { o with sketch := sketchShift o.sketch k, nextDecay := o.nextDecay + k * o.decay }).sweepObj n) ∧
    (∃ (s : State), ∃ (n : Nat), (((s.seen.obj n).live = false ∨ (s.seen.obj n).decay = 0 ∨ s.seen.rd64 F.SPINE_COMMIT_TICK_LO < (s.seen.obj n).nextDecay))) ∧
    (∃ (s : State), ∃ (n r : Nat), ∃ (w : WantMove), ((s.seen.tier.want.find? fun w => w.obj = n ∧ w.row = r) = some w) ∧ (s.seen.dirEntry n r).map (·.state) ≠ some 1 ∧ (¬((s.seen.locate n r).1 = 3 ∧ ((s.seen.tableOfObj n).map fun t => s.seen.tailPending t r).getD false = true)) ∧ (s.seen.locate n r).1 = 0) ∧
    (∃ (s : State), ∃ (n r : Nat), ∃ (w : WantMove), ((s.seen.tier.want.find? fun w => w.obj = n ∧ w.row = r) = some w) ∧ (s.seen.dirEntry n r).map (·.state) ≠ some 1 ∧ (¬((s.seen.locate n r).1 = 3 ∧ ((s.seen.tableOfObj n).map fun t => s.seen.tailPending t r).getD false = true)) ∧ (s.seen.locate n r).1 ≠ 0) ∧
    (∃ (d e : Device), ∃ (w : WantMove), ∃ (t : Nat), d.fenced w.obj w.row = false ∧ d.moveTiers w = [t] ∧ t ≠ 0 ∧ ((t = (d.locate w.obj w.row).1 → 2 ≤ w.why)) ∧ d.moveTo w.obj w.row t = some e) :=
  ⟨⟨draining 1 [], 1, 0, by decide, by decide, by decide, by decide⟩,
   ⟨draining 0 [], 0, 0, _, by decide, by decide, by decide, by decide, rfl⟩,
   ⟨made [] fun d => { (draining 0 []).dev with tier := { (draining 0 []).dev.tier with t1 := [⟨0, 0, 8⟩] } }, 0, 0, by decide, by decide, by decide, by decide, by decide⟩,
   ⟨draining 0 [⟨0, 1, 3⟩], 0, 0, ⟨0, 1, 3⟩, by decide, by decide, by decide, by decide, by decide⟩,
   ⟨made [(F.SPINE_COMMIT_TICK_LO, 1000)] fun d => { d with tier := { objs := [(5, { live := true, decay := 1000, nextDecay := 1000 })] } }, 5, _, _, _, _, rfl, by decide, by decide, rfl, by decide, rfl, rfl⟩,
   ⟨ready, 16383, by decide⟩,
   ⟨draining 0 [⟨0, 1, 3⟩], 0, 1, ⟨0, 1, 3⟩, by decide, by decide, by decide, by decide⟩,
   ⟨made [] fun d => { (draining 0 [⟨0, 1, 3⟩]).dev with tier := { (draining 0 [⟨0, 1, 3⟩]).dev.tier with dir := [⟨0, 1, 1, 0, 0, 0, 0⟩] } }, 0, 1, ⟨0, 1, 3⟩, by decide, by decide, by decide, by decide⟩,
   ⟨(made tilesUp fun d => { d with sparse := { tables := [(0, { on := true, desc := tableDesc })] }, tier := { objs := [(0, { live := true, kind := 1, pinTier := 1, recLines := 1, size := 4 })] } }).dev, _, ⟨0, 1, 1⟩, 1, by decide, by decide, by decide, by decide, rfl⟩⟩

set_option maxRecDepth 100000 in
/-- The hypotheses of LineReads hold together, clause by clause. -/
theorem wit_LineReads :
    (∃ (s : State), ∃ (t l cls w : Nat), ∃ (r : Reader), ∃ (d : Device), s.seen.stackUp t l = true ∧ s.seen.readerDue r = true ∧ d = s.seen.aged t cls w ∧ d.lineClass t l = 0) ∧
    (∃ (s : State), ∃ (t l cls w : Nat), ∃ (r : Reader), ∃ (d : Device), s.seen.stackUp t l = true ∧ s.seen.readerDue r = true ∧ d = s.seen.aged t cls w ∧ d.lineClass t l ≠ 0) ∧
    (∃ (d : Device), ∃ (t l : Nat), ∃ (b1 : List Nat), l ∉ (d.tile t).late ∧ d.poisoned (t1Key t l 0) = false ∧ badCount b1 = 0) ∧
    (∃ (d : Device), ∃ (t l : Nat), ∃ (b1 : List Nat), l ∉ (d.tile t).late ∧ d.poisoned (t1Key t l 0) = false ∧ badCount b1 = 1) ∧
    (∃ (d : Device), ∃ (t l : Nat), ∃ (b1 b2 : List Nat), l ∉ (d.tile t).late ∧ d.poisoned (t1Key t l 0) = false ∧ badCount b1 = 2 ∧ badCount b2 = 2) ∧
    (∃ (d : Device), ∃ (t l : Nat), ∃ (b1 b2 : List Nat), l ∉ (d.tile t).late ∧ d.poisoned (t1Key t l 0) = false ∧ badCount b1 = 2 ∧ badCount b2 = 0) ∧
    (∃ (d : Device), ∃ (t l : Nat), d.poisoned (t1Key t l 0) = true ∧ l ∉ (d.tile t).late) ∧
    (∃ (d : Device), ∃ (t l : Nat), ∃ (b1 : List Nat), d.poisoned (t1Key t l 0) = false ∧ badCount b1 = 0) ∧
    (∃ (d : Device), ∃ (t l : Nat), ∃ (b1 : List Nat), d.poisoned (t1Key t l 0) = false ∧ 1 ≤ badCount b1 ∧ badCount b1 ≤ 3) :=
  ⟨⟨made tilesUp id, 23, 201326591, 3, 0, .host, _, by decide, by decide, rfl, by decide⟩,
   ⟨made tilesUp fun d => { d with tier := { objs := [(0, { live := true, ecc := 1, frames := [(0, 0)] })] } }, 0, 32767, 0, 0, .move, _, by decide, by decide, rfl, by decide⟩,
   ⟨{}, 0, 0, [36], by decide, by decide, by decide⟩,
   ⟨{}, 0, 0, [35, 35], by decide, by decide, by decide⟩,
   ⟨{}, 0, 0, [0, 1], [0, 1], by decide, by decide, by decide, by decide⟩,
   ⟨{}, 0, 0, [0, 35], [], by decide, by decide, by decide, by decide⟩,
   ⟨{ poison := [(t1Key 0 1 0 / 64, true)] }, 0, 1, by decide, by decide⟩,
   ⟨{}, 23, 201326591, [], by decide, by decide⟩,
   ⟨{}, 0, 0, [0, 1, 2], by decide, by decide, by decide⟩⟩

set_option maxRecDepth 100000 in
/-- The hypotheses of LineWrites hold together, clause by clause. -/
theorem wit_LineWrites :
    (∃ (s : State), ∃ (t l cls w : Nat), ∃ (d : Device), s.seen.stackUp t l = true ∧ d = s.seen.aged t cls w) ∧
    (∃ (s : State), ∃ (t l : Nat), s.seen.stackUp t l = true) ∧
    (∃ (d : Device), ∃ (t l m : Nat), m < 2 ^ 64 - 1 ∧ (((d.tile t).acc.contains l = true ∨ (d.tile t).wcb.length < 64))) ∧
    (∃ (d : Device), ∃ (t l m : Nat), m < 2 ^ 64 - 1 ∧ l ∉ (d.tile t).acc ∧ ((∀ e ∈ (d.tile t).wcb, e.line ≠ l)) ∧ (d.tile t).wcb.length < 64) ∧
    (∃ (s : State), ∃ (t l : Nat), s.seen.stackUp t l = true) ∧
    (∃ (d : Device), ∃ (t l : Nat), ((d.tile t).wcb.any (·.line = l)) = false) ∧
    (∃ (s : State), ∃ (t : Nat), ∃ (e : WcbEntry), ∃ (r : List WcbEntry), (s.seen.tile t).wcb = e :: r ∧ s.seen.stackUp t e.line = true) ∧
    (∃ (b : List Nat), badCount b = 0) ∧
    (∃ (s : State), ∃ (t ch : Nat), ∃ k, s.seen.stackUp t 0 = true ∧ ch < 32 ∧ k ≠ ch) ∧
    (∃ (s : State), ∃ (t ch : Nat), ∃ u, s.seen.stackUp t 0 = true ∧ ch < 32 ∧ u ≠ t) :=
  ⟨⟨made tilesUp id, 23, 201326591, 0, 0, _, by decide, rfl⟩,
   ⟨made tilesUp id, 0, 0, by decide⟩,
   ⟨{}, 0, 0, 2 ^ 64 - 2, by decide, by decide⟩,
   ⟨{}, 0, 0, 0, by decide, by decide, by decide, by decide⟩,
   ⟨made tilesUp id, 0, 0, by decide⟩,
   ⟨{}, 0, 0, by decide⟩,
   ⟨made tilesUp fun d => { d with tiles := [(0, { wcb := [⟨5, 1⟩] })] }, 0, ⟨5, 1⟩, [], by decide, by decide⟩,
   ⟨[], by decide⟩,
   ⟨made tilesUp id, 0, 31, 0, by decide, by decide, by decide⟩,
   ⟨made tilesUp id, 23, 0, 0, by decide, by decide, by decide⟩⟩

set_option maxRecDepth 100000 in
/-- The hypotheses of StackUpkeep hold together, clause by clause. -/
theorem wit_StackUpkeep :
    (∃ (s : State), ∃ (t : Nat), ∃ (d : Device), s.seen.stackUp t 0 = true ∧ (s.seen.tile t).periodLeft = 0 ∧ d = s.seen.periodStart t ∧ (s.seen.tile t).patrol = none) ∧
    (∃ (s : State), ∃ (t : Nat), ∃ (d : Device), s.seen.stackUp t 0 = true ∧ (s.seen.tile t).periodLeft = 0 ∧ d = s.seen.periodStart t ∧ (s.seen.tile t).patrol ≠ none) ∧
    (∃ (s : State), ∃ (t : Nat), (s.seen.tile t).periodLeft ≠ 0) ∧
    (∃ (s : State), ∃ (t p : Nat), ∃ (n : Option Nat), (s.seen.tile t).patrol = some p ∧ s.seen.stackUp t 0 = true ∧ n = s.seen.nextPatrol t (s.seen.poison.length + (s.seen.tile t).wcb.length + (s.seen.tile t).acc.length + 1) p ∧ n = none) ∧
    (∃ (s : State), ∃ (t p : Nat), ∃ (n : Option Nat), ∃ l, (s.seen.tile t).patrol = some p ∧ s.seen.stackUp t 0 = true ∧ n = s.seen.nextPatrol t (s.seen.poison.length + (s.seen.tile t).wcb.length + (s.seen.tile t).acc.length + 1) p ∧ n = some l) ∧
    (∃ (d : Device), ∃ (t : Nat), (d.tile t).passDue = false) ∧
    (∃ (s : State), ∃ (t : Nat), t < 24 ∧ s.reaches (F.MEM_CTL t).key ∧ (s.seen.tile t).patrol = none ∧ s.seen.stackUp t 0 = true) ∧
    (∃ (s : State), ∃ (t : Nat), t < 24 ∧ s.reaches (F.MEM_CTL t).key ∧ (s.seen.tile t).patrol ≠ none) ∧
    (∃ (s : State), ∃ (t die : Nat), t < 24 ∧ s.reaches (F.MEM_CTL t).key ∧ die < 8) ∧
    (∃ (s : State), ∃ (t die : Nat), t < 24 ∧ s.reaches (F.MEM_CTL t).key ∧ 8 ≤ die ∧ die < 16) ∧
    (∃ (d : Device), ∃ (t : Nat), d.rd (F.MEM_SPARE_STATE t) = 0) ∧
    (∃ (d : Device), ∃ (t : Nat), d.rd (F.MEM_SPARE_STATE t) ≠ 0) ∧
    (∃ (s : State), ∃ (t die n : Nat), (s.seen.tile t).copy = some (die, n)) ∧
    (∃ (s : State), ∃ (t ch : Nat), s.seen.stackUp t 0 = true ∧ ch < 32) ∧
    (∃ (s : State), ∃ (t : Nat), ∃ (r : List (Option Int)), ∃ (d : Device), t < 24 ∧ s.seen.domOn (domOfTile t) = true ∧ r.length = 9 ∧ d = s.seen.tempsNoted t r) ∧
    (∃ (d : Device), ∃ (t : Nat), d.flag (F.MEM_STATUS_TEMP_FAIL t) = true) :=
  ⟨⟨made tilesUp id, 23, _, by decide, by decide, rfl, by decide⟩,
   ⟨made tilesUp fun d => { d with tiles := [(0, { patrol := some 7 })] }, 0, _, by decide, by decide, rfl, by decide⟩,
   ⟨made tilesUp fun d => { d with tiles := [(0, { periodLeft := 1 })] }, 0, by decide⟩,
   ⟨made tilesUp fun d => { d with tiles := [(0, { patrol := some 201326592 })] }, 0, 201326592, none, by decide, by decide, by decide, by decide⟩,
   ⟨made tilesUp fun d => { d with tiles := [(0, { patrol := some 7 })], tier := { t1 := [⟨0, 0, 8⟩] } }, 0, 7, some 7, 7, by decide, by decide, by decide, by decide⟩,
   ⟨{}, 0, by decide⟩,
   ⟨made tilesUp id, 23, by decide, ⟨by decide, by decide⟩, by decide, by decide⟩,
   ⟨made tilesUp fun d => { d with tiles := [(23, { patrol := some 7 })] }, 23, by decide, ⟨by decide, by decide⟩, by decide⟩,
   ⟨ready, 23, 7, by decide, ⟨by decide, by decide⟩, by decide⟩,
   ⟨ready, 0, 8, by decide, ⟨by decide, by decide⟩, by decide, by decide⟩,
   ⟨{}, 0, by decide⟩,
   ⟨(made [(F.MEM_SPARE_STATE 0, 1)] id).dev, 0, by decide⟩,
   ⟨made [] fun d => { d with tiles := [(0, { copy := some (7, 5) })] }, 0, 7, 5, by decide⟩,
   ⟨made tilesUp id, 0, 31, by decide, by decide⟩,
   ⟨ready, 23, List.replicate 9 none, _, by decide, by decide, by decide, rfl⟩,
   ⟨(made [(F.MEM_STATUS_TEMP_FAIL 0, 1)] id).dev, 0, by decide⟩⟩

/-- Space 0's geometry and its object, enabled or not: 32 values a key, one head of 16, one list, one page (R264). -/
def spaced (on : Nat) : State :=
  made [(F.HIST_SPACE_GEOM_L 0, 32), (F.HIST_SPACE_GEOM_H 0, 1), (F.HIST_SPACE_GEOM_D 0, 16), (F.HIST_SPACE_GEOM_FORMAT 0, 1),
      (F.HIST_SPACE_LISTS_LISTS 0, 1), (F.HIST_SPACE_PAGES_PAGES 0, 1), (F.HIST_STATUS_ENABLED, on)] fun d => { d with
    tier := { objs := [(0, { live := true, kind := 3, size := 2000 })] } }

set_option maxRecDepth 100000 in
/-- The hypotheses of HistorySpaces hold together, clause by clause. -/
theorem wit_HistorySpaces :
    (∃ (s : State), ∃ (c : Nat), ∃ (w : List Host.Cell), ∃ (d : Device), d = s.seen.hostWrites w ∧ s.reaches F.HIST_CMD.key ∧ c < 8 ∧ d.phase = .idle) ∧
    (∃ (s : State), ∃ (c : Nat), ∃ (w : List Host.Cell), ∃ (d : Device), d = s.seen.hostWrites w ∧ s.reaches F.HIST_CMD.key ∧ c < 8 ∧ d.phase ≠ .idle) ∧
    (∃ (d : Device), ∃ (c : Nat), d.spaceOn c = true) ∧
    (∃ (d : Device), ∃ (c : Nat), d.spaceOn c = false ∧ d.geomOk c = true ∧ d.histObjOk c = true) ∧
    (∃ (d : Device), ∃ (c : Nat), d.spaceOn c = false ∧ d.geomOk c = false) ∧
    (∃ (d : Device), ∃ (c : Nat), d.spaceOn c = false ∧ d.geomOk c = true ∧ d.histObjOk c = false) ∧
    (∃ (s : State), ∃ (c : Nat), s.reaches F.HIST_CMD.key ∧ s.seen.phase = .idle ∧ c < 8 ∧ s.seen.spaceOn c = true) ∧
    (∃ (s : State), ∃ (c : Nat), s.reaches F.HIST_CMD.key ∧ s.seen.phase = .idle ∧ c < 8 ∧ s.seen.spaceOn c = false) ∧
    (∃ (s : State), ∃ (c l : Nat), s.reaches F.HIST_CMD.key ∧ s.seen.freeOpen = true ∧ s.seen.spaceOn c = true ∧ l < s.seen.rd (F.HIST_SPACE_LISTS_LISTS c) ∧ s.seen.listInUse c (· == l) = false) ∧
    (∃ (s : State), ∃ (c l : Nat), s.reaches F.HIST_CMD.key ∧ s.seen.freeOpen = true ∧ s.seen.spaceOn c = true ∧ s.seen.rd (F.HIST_SPACE_LISTS_LISTS c) ≤ l) ∧
    (∃ (s : State), ∃ (c l : Nat), s.reaches F.HIST_CMD.key ∧ s.seen.freeOpen = true ∧ s.seen.spaceOn c = true ∧ l < s.seen.rd (F.HIST_SPACE_LISTS_LISTS c) ∧ s.seen.listInUse c (· == l) = true) ∧
    (∃ (s : State), ∃ (c : Nat), s.reaches F.HIST_CMD.key ∧ s.seen.freeOpen = true ∧ s.seen.spaceOn c = true ∧ s.seen.listInUse c (fun _ => true) = false) ∧
    (∃ (s : State), ∃ (c : Nat), s.reaches F.HIST_CMD.key ∧ c < 8 ∧ s.seen.freeOpen = false) ∧
    (∃ (s : State), ∃ (c : Nat), s.reaches F.HIST_CMD.key ∧ c < 8 ∧ s.seen.freeOpen = true ∧ s.seen.spaceOn c = false) ∧
    (∃ (s : State), ∃ (c l : Nat), ∃ (i : Instr), 8 ≤ c ∧ s.reaches F.HIST_CMD.key ∧ (i = .disableSpace c ∨ i = .freeList c l ∨ i = .freeAll c)) ∧
    (∃ (c : Nat), c < 8) :=
  ⟨⟨ready, 7, [], _, rfl, ⟨by decide, by decide⟩, by decide, by decide⟩,
   ⟨inPhase .commit, 0, [], _, rfl, ⟨by decide, by decide⟩, by decide, by decide⟩,
   ⟨(spaced 1).dev, 0, by decide⟩,
   ⟨(spaced 0).dev, 0, by decide, by decide, by decide⟩,
   ⟨(made [(F.HIST_SPACE_GEOM_L 7, 31)] id).dev, 7, by decide, by decide⟩,
   ⟨{ (spaced 0).dev with tier := {} }, 0, by decide, by decide, by decide⟩,
   ⟨spaced 1, 0, ⟨by decide, by decide⟩, by decide, by decide, by decide⟩,
   ⟨ready, 7, ⟨by decide, by decide⟩, by decide, by decide, by decide⟩,
   ⟨spaced 1, 0, 0, ⟨by decide, by decide⟩, by decide, by decide, by decide, by decide⟩,
   ⟨spaced 1, 0, 1, ⟨by decide, by decide⟩, by decide, by decide, by decide⟩,
   ⟨made [] fun _ => { (spaced 1).dev with phase := .admitting, hist := { waiting := true, entries := [⟨0, 0, 0, 0, 0, 1, 0, false⟩] } }, 0, 0, ⟨by decide, by decide⟩, by decide, by decide, by decide, by decide⟩,
   ⟨spaced 1, 0, ⟨by decide, by decide⟩, by decide, by decide, by decide⟩,
   ⟨inPhase .reduce, 7, ⟨by decide, by decide⟩, by decide, by decide⟩,
   ⟨ready, 7, ⟨by decide, by decide⟩, by decide, by decide, by decide⟩,
   ⟨ready, 8, 0, .freeAll 8, by decide, ⟨by decide, by decide⟩, by decide⟩,
   ⟨7, by decide⟩⟩

/-- An attention operand block of an OP for space 0: one head, one query, everything at host address 0x8000 (R281). -/
def attnBlock (op : Nat) : Bytes :=
  if op = 2 then [2, 0] ++ zeroBytes 110 ++ leBytes 8 (2 ^ 60 + 0x8000) ++ zeroBytes 8
  else
    let a := leBytes 8 (2 ^ 60 + 0x8000)
    [BitVec.ofNat 8 op, 0, 0, 1, 1, 0, 0, 0] ++ leBytes 8 0 ++ a ++ a ++ a ++ a ++ a ++ zeroBytes 24 ++
      (if op = 0 then zeroBytes 48 else leBytes 8 (2 ^ 60 + 0x8000) ++ zeroBytes 40)

/-- Core 0 in a history attention unit of an OP whose operand block stands at host address 0. -/
def attending (op : Nat) : State :=
  made (hostWindow ++ [(F.HIST_SPACE_GEOM_L 0, 32), (F.HIST_SPACE_GEOM_H 0, 1), (F.HIST_SPACE_GEOM_D 0, 16),
      (F.HIST_SPACE_GEOM_FORMAT 0, 1), (F.HIST_SPACE_LISTS_LISTS 0, 1), (F.HIST_SPACE_PAGES_PAGES 0, 1), (F.HIST_STATUS_ENABLED, 1)])
    fun d => { d with
    phase := .compute, host := { cacheEn := true }, mem := cells 0 (attnBlock op)
    tier := { objs := [(0, { live := true, kind := 3, size := 2000 })] }
    spine := { prog := some { units := [{ kind := 6, argPtr := 2 ^ 60 }] }, units := [(0, .running 0)] } }

set_option maxRecDepth 100000 in
/-- The hypotheses of HistoryUnits hold together, clause by clause. -/
theorem wit_HistoryUnits :
    (∃ (s : State), ∃ (c u op : Nat), ∃ (b : Bytes), ∃ (d e f : Device), ((s.seen.unitAt c = some u ∧ (s.seen.workUnit u).kind = 6 ∧ c < 96 ∧ s.seen.readable [((s.seen.workUnit u).argPtr, 128)] ∧ d = s.seen.asked [((s.seen.workUnit u).argPtr, 128)] ∧ b = d.uniBytes 128 (s.seen.workUnit u).argPtr ∧ d.histCause u b = 0)) ∧ u8At b 0 = op ∧ d.readable (d.listReads u b) ∧ e = d.asked (d.listReads u b) ∧ e.pageMissing u b = false ∧ e.upsHeld u b = false ∧ e.readable (e.pageReads u b ++ e.dataReads u b) ∧ f = (e.asked (e.pageReads u b ++ e.dataReads u b)).fenceUps u b ∧ op = 0) ∧
    (∃ (s : State), ∃ (c u op : Nat), ∃ (b : Bytes), ∃ (d e f : Device), ((s.seen.unitAt c = some u ∧ (s.seen.workUnit u).kind = 6 ∧ c < 96 ∧ s.seen.readable [((s.seen.workUnit u).argPtr, 128)] ∧ d = s.seen.asked [((s.seen.workUnit u).argPtr, 128)] ∧ b = d.uniBytes 128 (s.seen.workUnit u).argPtr ∧ d.histCause u b = 0)) ∧ u8At b 0 = op ∧ d.readable (d.listReads u b) ∧ e = d.asked (d.listReads u b) ∧ e.pageMissing u b = false ∧ e.upsHeld u b = false ∧ e.readable (e.pageReads u b ++ e.dataReads u b) ∧ f = (e.asked (e.pageReads u b ++ e.dataReads u b)).fenceUps u b ∧ op = 1) ∧
    (∃ (d e : Device), ∃ (u : Nat), ∃ (b : Bytes), ∃ (os : List AttnOut), os = (d.attnRows u b).map (d.attnRow b) ∧ d.writeAll (os.flatMap (·.writes)) = some e) ∧
    (∃ (s : State), ∃ (c u : Nat), ∃ (b : Bytes), ∃ (d : Device), ((s.seen.unitAt c = some u ∧ (s.seen.workUnit u).kind = 6 ∧ c < 96 ∧ s.seen.readable [((s.seen.workUnit u).argPtr, 128)] ∧ d = s.seen.asked [((s.seen.workUnit u).argPtr, 128)] ∧ b = d.uniBytes 128 (s.seen.workUnit u).argPtr ∧ d.histCause u b = 0)) ∧ u8At b 0 = 2 ∧ d.readable (d.latReads u b)) :=
  ⟨⟨attending 0, 0, 0, 0, attnBlock 0, _, _, _, ⟨by decide, by decide, by decide, by unfold Device.readable; decide, rfl, by decide, by decide⟩, by decide, by unfold Device.readable; decide, rfl, by decide, by decide, by unfold Device.readable; decide, rfl, by decide⟩,
   ⟨attending 1, 0, 0, 1, attnBlock 1, _, _, _, ⟨by decide, by decide, by decide, by unfold Device.readable; decide, rfl, by decide, by decide⟩, by decide, by unfold Device.readable; decide, rfl, by decide, by decide, by unfold Device.readable; decide, rfl, by decide⟩,
   ⟨(attending 0).seen, _, 0, attnBlock 0, _, rfl, rfl⟩,
   ⟨attending 2, 0, 0, attnBlock 2, _, ⟨by decide, by decide, by decide, by unfold Device.readable; decide, rfl, by decide, by decide⟩, by decide, by unfold Device.readable; decide⟩⟩

set_option maxRecDepth 100000 in
/-- The hypotheses of CollectiveMessages hold together, clause by clause. -/
theorem wit_CollectiveMessages :
    (∃ (s : State), ∃ (c : Instr), ∃ (m : Bytes), ∃ (ty : Nat), ((c = .node m ∧ ty = 1) ∨ (c = .nodeHdr m ∧ ty = 2) ∨ (c = .rowReq m ∧ ty = 3) ∨ (c = .rowData m ∧ ty = 4) ∨ (c = .rowGrad m ∧ ty = 5) ∨ (c = .bwChange m ∧ ty = 6) ∨ (c = .bwRecord m ∧ ty = 7) ∨ (c = .shardReq m ∧ ty = 8) ∨ (c = .shardData m ∧ ty = 9) ∨ (c = .stageMsg m ∧ ty = 10) ∨ (c = .vote m ∧ ty = 11) ∨ (c = .rootHdr m ∧ ty = 12) ∨ (c = .digest m ∧ ty = 13) ∨ (c = .repairOrder m ∧ ty = 14) ∨ (c = .repair m ∧ ty = 15)) ∧ mTy m = ty ∧ s.seen.jobId ≠ none ∧ 64 ≤ m.length ∧ s.seen.domOn domSpine = true ∧ s.seen.msgCause m = 0 ∧ (ty = 5 ∨ s.seen.hasSeen ty m = false)) ∧
    (∃ (s : State), ∃ (c : Instr), ∃ (m : Bytes), ∃ (ty : Nat), ((c = .node m ∧ ty = 1) ∨ (c = .nodeHdr m ∧ ty = 2) ∨ (c = .rowReq m ∧ ty = 3) ∨ (c = .rowData m ∧ ty = 4) ∨ (c = .rowGrad m ∧ ty = 5) ∨ (c = .bwChange m ∧ ty = 6) ∨ (c = .bwRecord m ∧ ty = 7) ∨ (c = .shardReq m ∧ ty = 8) ∨ (c = .shardData m ∧ ty = 9) ∨ (c = .stageMsg m ∧ ty = 10) ∨ (c = .vote m ∧ ty = 11) ∨ (c = .rootHdr m ∧ ty = 12) ∨ (c = .digest m ∧ ty = 13) ∨ (c = .repairOrder m ∧ ty = 14) ∨ (c = .repair m ∧ ty = 15)) ∧ mTy m = ty ∧ s.seen.jobId ≠ none ∧ 64 ≤ m.length ∧ s.seen.domOn domSpine = true ∧ s.seen.msgCause m = 0 ∧ ty ≠ 5 ∧ s.seen.hasSeen ty m = true) ∧
    (∃ (s : State), ∃ (c : Instr), ∃ (m : Bytes), ∃ (ty : Nat), ((c = .node m ∧ ty = 1) ∨ (c = .nodeHdr m ∧ ty = 2) ∨ (c = .rowReq m ∧ ty = 3) ∨ (c = .rowData m ∧ ty = 4) ∨ (c = .rowGrad m ∧ ty = 5) ∨ (c = .bwChange m ∧ ty = 6) ∨ (c = .bwRecord m ∧ ty = 7) ∨ (c = .shardReq m ∧ ty = 8) ∨ (c = .shardData m ∧ ty = 9) ∨ (c = .stageMsg m ∧ ty = 10) ∨ (c = .vote m ∧ ty = 11) ∨ (c = .rootHdr m ∧ ty = 12) ∨ (c = .digest m ∧ ty = 13) ∨ (c = .repairOrder m ∧ ty = 14) ∨ (c = .repair m ∧ ty = 15)) ∧ mTy m = ty ∧ s.seen.jobId ≠ none ∧ 64 ≤ m.length ∧ s.seen.domOn domSpine = true ∧ s.seen.msgCause m ≠ 0) ∧
    (∃ (d : Device), ∃ (m : Bytes), d.step64 = mStep m ∧ d.inStep = true ∧ mTy m = 0x01) ∧
    (∃ (d : Device), ∃ (m : Bytes), d.step64 = mStep m ∧ d.inStep = true ∧ mTy m = 0x02) ∧
    (∃ (d : Device), ∃ (m : Bytes), d.step64 = mStep m ∧ d.inStep = true ∧ mTy m = 0x03) ∧
    (∃ (d : Device), ∃ (m : Bytes), d.step64 = mStep m ∧ d.inStep = true ∧ mTy m = 0x04) ∧
    (∃ (d : Device), ∃ (m : Bytes), d.step64 = mStep m ∧ d.inStep = true ∧ mTy m = 0x05) ∧
    (∃ (d : Device), ∃ (m : Bytes), d.step64 = mStep m ∧ d.inStep = true ∧ mTy m = 0x06) ∧
    (∃ (d : Device), ∃ (m : Bytes), d.step64 = mStep m ∧ d.inStep = true ∧ mTy m = 0x08) ∧
    (∃ (d : Device), ∃ (m : Bytes), d.step64 = mStep m ∧ d.inStep = true ∧ mTy m = 0x09) ∧
    (∃ (d : Device), ∃ (m : Bytes), d.step64 = mStep m ∧ d.inStep = true ∧ mTy m = 0x0A) ∧
    (∃ (d : Device), ∃ (m : Bytes), d.step64 = mStep m ∧ d.inStep = true ∧ mTy m = 0x0D) ∧
    (∃ (d : Device), ∃ (m : Bytes), d.step64 = mStep m ∧ d.inStep = true ∧ mTy m = 0x0E) ∧
    (∃ (d : Device), ∃ (m : Bytes), d.step64 = mStep m ∧ d.inStep = true ∧ mTy m = 0x0B) ∧
    (∃ (d : Device), ∃ (m : Bytes), d.step64 = mStep m ∧ d.inStep = true ∧ mTy m = 0x0C) ∧
    (∃ (m : Bytes), mTy m = 0x07) ∧
    (∃ (d : Device), ∃ (m : Bytes), mTy m = 0x0F ∧ mStep m < d.step64) ∧
    (∃ (d : Device), ∃ (m : Bytes), mTy m ∈ [1, 2, 3, 4, 5, 6, 8, 9, 0xA, 0xB, 0xC, 0xD, 0xE] ∧ (d.step64 < mStep m ∨ (d.step64 = mStep m ∧ d.inStep = false))) ∧
    (∃ (d : Device), ∃ (m : Bytes), mTy m ∈ [1, 2, 3, 4, 5, 6, 8, 9, 0xA, 0xB, 0xC, 0xD, 0xE] ∧ mStep m < d.step64) ∧
    (∃ (s : State), ∃ (m : Bytes), mTy m = 0x10 ∧ s.seen.jobId ≠ none ∧ 64 ≤ m.length ∧ s.seen.domOn domSpine = true ∧ s.seen.msgCause m = 0 ∧ s.seen.hasSeen 0x10 m = false) ∧
    (∃ (d : Device), ∃ (m : Bytes), ∃ (x : SentMsg), ((d.coll.sent.find? fun x => x.ty = u8At m 0x18 ∧ x.step = mStep m ∧ x.dst = mSrc m ∧ x.seq = u32At m 0x1C) = some x)) :=
  ⟨⟨joined .compute, .repair (message 15 0), message 15 0, 15, by decide, by decide, by decide, by decide, by decide, by decide, by decide⟩,
   ⟨made [] fun _ => { (joined .compute).dev with coll := { (joined .compute).dev.coll with seen := [⟨1, 0, 1, 0, false⟩] } }, .node (message 1 0), message 1 0, 1, by decide, by decide, by decide, by decide, by decide, by decide, by decide, by decide⟩,
   ⟨joined .compute, .node (message 1 2), message 1 2, 1, by decide, by decide, by decide, by decide, by decide, by decide⟩,
   ⟨(joined .compute).seen, message 1 0, by decide, by decide, by decide⟩,
   ⟨(joined .compute).seen, message 2 0, by decide, by decide, by decide⟩,
   ⟨(joined .compute).seen, message 3 0, by decide, by decide, by decide⟩,
   ⟨(joined .compute).seen, message 4 0, by decide, by decide, by decide⟩,
   ⟨(joined .compute).seen, message 5 0, by decide, by decide, by decide⟩,
   ⟨(joined .compute).seen, message 6 0, by decide, by decide, by decide⟩,
   ⟨(joined .compute).seen, message 8 0, by decide, by decide, by decide⟩,
   ⟨(joined .compute).seen, message 9 0, by decide, by decide, by decide⟩,
   ⟨(joined .compute).seen, message 10 0, by decide, by decide, by decide⟩,
   ⟨(joined .compute).seen, message 13 0, by decide, by decide, by decide⟩,
   ⟨(joined .compute).seen, message 14 0, by decide, by decide, by decide⟩,
   ⟨(joined .compute).seen, message 11 0, by decide, by decide, by decide⟩,
   ⟨(joined .compute).seen, message 12 0, by decide, by decide, by decide⟩,
   ⟨message 7 0, by decide⟩,
   ⟨(made [(F.SPINE_STEP_LO_STEP, 1)] id).dev, message 15 0, by decide, by decide⟩,
   ⟨(joined .idle).seen, message 1 0, by decide, by decide⟩,
   ⟨(made [(F.SPINE_STEP_LO_STEP, 1)] id).dev, message 14 0, by decide, by decide⟩,
   ⟨joined .idle, message 0x10 0, by decide, by decide, by decide, by decide, by decide, by decide⟩,
   ⟨{ coll := { sent := [⟨0, 0, 1, 0, []⟩] } }, message 0x10 0, ⟨0, 0, 1, 0, []⟩, by decide⟩⟩

/-- A job descriptor: job 1, one device (R316). -/
def jobBytes : Bytes := leBytes 8 1 ++ [1, 0, 1] ++ zeroBytes 53

/-- COLL_CMD's address at host address 0x1000, a program loaded. -/
def jobbing : State :=
  made (hostWindow ++ [(F.COLL_CMD_ADDR_LO_ADDR, 0x1000), (F.COLL_CMD_ADDR_LO_ADDR.hi, 2 ^ 28)]) fun d => { d with
    host := { cacheEn := true }, spine := { prog := some {} } }

set_option maxRecDepth 100000 in
/-- The hypotheses of JobCommands hold together, clause by clause. -/
theorem wit_JobCommands :
    (∃ (s : State), ∃ (w : List Host.Cell), ∃ (d e : Device), ∃ (b : Bytes), s.reaches F.COLL_CMD.key ∧ s.seen.flag F.COLL_CMD_STATUS_BUSY = false ∧ s.seen.phase = .idle ∧ d = s.seen.hostWrites w ∧ d.spine.prog.isNone = false ∧ d.coll.job = none ∧ d.tablesOn = [] ∧ d.jobDesc = some b ∧ e = d.uniAsk (d.rd64 F.COLL_CMD_ADDR_LO_ADDR) b.length ∧ e.jobFault (b.take 64) (jobRanks b) = 0) ∧
    (∃ (s : State), ∃ (w : List Host.Cell), ∃ (d e : Device), ∃ (b : Bytes), ∃ r, s.reaches F.COLL_CMD.key ∧ s.seen.flag F.COLL_CMD_STATUS_BUSY = false ∧ s.seen.phase = .idle ∧ d = s.seen.hostWrites w ∧ d.spine.prog.isNone = false ∧ d.coll.job = none ∧ d.tablesOn = [] ∧ d.jobDesc = some b ∧ e = d.uniAsk (d.rd64 F.COLL_CMD_ADDR_LO_ADDR) b.length ∧ r = e.jobFault (b.take 64) (jobRanks b) ∧ r ≠ 0) ∧
    (∃ (s : State), ∃ (w : List Host.Cell), ∃ (d : Device), s.reaches F.COLL_CMD.key ∧ s.seen.flag F.COLL_CMD_STATUS_BUSY = false ∧ d = s.seen.hostWrites w ∧ ((d.phase ≠ .idle ∨ d.spine.prog.isNone = true))) ∧
    (∃ (s : State), ∃ (w : List Host.Cell), ∃ (d : Device), s.reaches F.COLL_CMD.key ∧ s.seen.flag F.COLL_CMD_STATUS_BUSY = false ∧ d = s.seen.hostWrites w ∧ d.phase = .idle ∧ d.spine.prog.isNone = false ∧ d.coll.job ≠ none) ∧
    (∃ (s : State), ∃ (w : List Host.Cell), ∃ (d : Device), s.reaches F.COLL_CMD.key ∧ s.seen.flag F.COLL_CMD_STATUS_BUSY = false ∧ d = s.seen.hostWrites w ∧ d.phase = .idle ∧ d.spine.prog.isNone = false ∧ d.coll.job = none ∧ d.tablesOn ≠ []) ∧
    (∃ (s : State), ∃ (w : List Host.Cell), ∃ (d : Device), s.reaches F.COLL_CMD.key ∧ s.seen.flag F.COLL_CMD_STATUS_BUSY = false ∧ d = s.seen.hostWrites w ∧ d.phase = .idle ∧ d.spine.prog.isNone = false ∧ d.coll.job = none ∧ d.tablesOn = [] ∧ d.jobDesc = none) ∧
    (∃ (s : State), s.reaches F.COLL_CMD.key ∧ s.seen.flag F.COLL_CMD_STATUS_BUSY = false ∧ s.seen.phase = .idle ∧ s.seen.coll.job ≠ none ∧ s.seen.tablesOn = []) ∧
    (∃ (s : State), s.reaches F.COLL_CMD.key ∧ s.seen.flag F.COLL_CMD_STATUS_BUSY = false ∧ s.seen.phase = .idle ∧ s.seen.coll.job = none) ∧
    (∃ (s : State), s.reaches F.COLL_CMD.key ∧ s.seen.flag F.COLL_CMD_STATUS_BUSY = false ∧ s.seen.coll.job ≠ none ∧ s.seen.isJobRoot = true) ∧
    (∃ (s : State), ∃ (m : Bytes), s.seen.jobId = none ∧ mTy m = 0x11 ∧ m.length = 128 ∧ s.seen.domOn domSpine = true) ∧
    (∃ (s : State), ∃ (m : Bytes), s.seen.jobId ≠ none ∧ mTy m = 0x11 ∧ 64 ≤ m.length ∧ s.seen.domOn domSpine = true ∧ s.seen.msgCause m = 0 ∧ s.seen.hasSeen 0x11 m = false) ∧
    (∃ (d : Device), ∃ (j : Job), ∃ (g : Bytes), d.coll.joining = some (j, g) ∧ (j.index = 0 ∧ j.stage = 0)) ∧
    (∃ (d : Device), ∃ (j : Job), ∃ (g : Bytes), d.coll.joining = some (j, g) ∧ (¬(j.index = 0 ∧ j.stage = 0))) ∧
    (∃ (s : State), ∃ (j : Job), ∃ (g : Bytes), s.seen.coll.joining = some (j, g) ∧ s.seen.rd F.COLL_VOTE_TIMEOUT_TICKS ≤ s.seen.coll.joinTicks ∧ (j.index = 0 ∧ j.stage = 0)) ∧
    (∃ (s : State), ∃ (j : Job), ∃ (g : Bytes), s.seen.coll.joining = some (j, g) ∧ s.seen.rd F.COLL_VOTE_TIMEOUT_TICKS ≤ s.seen.coll.joinTicks ∧ (¬(j.index = 0 ∧ j.stage = 0))) ∧
    (∃ (s : State), s.seen.mayVote = true) ∧
    (∃ (s : State), s.seen.mayVote = false) ∧
    (∃ (s : State), ∃ (n : Nat), s.seen.coll.voteTicks = some n ∧ s.seen.rd F.COLL_VOTE_TIMEOUT_TICKS ≤ n) :=
  ⟨⟨jobbing, cells 0x1000 jobBytes, _, _, jobBytes ++ [0, 0], ⟨by decide, by decide⟩, by decide, by decide, rfl, by decide, by decide, by decide, by decide, rfl, by decide⟩,
   ⟨jobbing, cells 0x1000 (jobBytes.set 0 0), _, _, jobBytes.set 0 0 ++ [0, 0], _, ⟨by decide, by decide⟩, by decide, by decide, rfl, by decide, by decide, by decide, by decide, rfl, rfl, by decide⟩,
   ⟨ready, [], _, ⟨by decide, by decide⟩, by decide, rfl, by decide⟩,
   ⟨made [] fun d => { d with coll := { job := some { id := 1, ranks := [0] } }, spine := { prog := some {} } }, [], _, ⟨by decide, by decide⟩, by decide, rfl, by decide, by decide, by decide⟩,
   ⟨made [] fun d => { d with spine := { prog := some {} }, sparse := { tables := [(0, { on := true })] } }, [], _, ⟨by decide, by decide⟩, by decide, rfl, by decide, by decide, by decide, by decide⟩,
   ⟨made [] fun d => { d with spine := { prog := some {} } }, [], _, ⟨by decide, by decide⟩, by decide, rfl, by decide, by decide, by decide, by decide, by decide⟩,
   ⟨joined .idle, ⟨by decide, by decide⟩, by decide, by decide, by decide, by decide⟩,
   ⟨ready, ⟨by decide, by decide⟩, by decide, by decide, by decide⟩,
   ⟨joined .compute, ⟨by decide, by decide⟩, by decide, by decide, by decide⟩,
   ⟨ready, [0x11] ++ zeroBytes 127, by decide, by decide, by decide, by decide⟩,
   ⟨joined .idle, message 0x11 0, by decide, by decide, by decide, by decide, by decide, by decide⟩,
   ⟨{ coll := { joining := some ({ id := 1, ranks := [0] }, []) } }, { id := 1, ranks := [0] }, [], by decide, by decide⟩,
   ⟨{ coll := { joining := some ({ id := 1, f := 2, index := 1, ranks := [1, 0] }, []) } }, { id := 1, f := 2, index := 1, ranks := [1, 0] }, [], by decide, by decide⟩,
   ⟨made [] fun d => { d with coll := { joining := some ({ id := 1, ranks := [0] }, []), joinTicks := 0xFFFFFFFF } }, { id := 1, ranks := [0] }, [], by decide, by decide, by decide⟩,
   ⟨made [] fun d => { d with coll := { joining := some ({ id := 1, f := 2, index := 1, ranks := [1, 0] }, []), joinTicks := 0xFFFFFFFF } }, { id := 1, f := 2, index := 1, ranks := [1, 0] }, [], by decide, by decide, by decide⟩,
   ⟨made [] fun d => { d with phase := .reduce, coll := { root := true }, sparse := { treesDone := List.range 24 } }, by decide⟩,
   ⟨ready, by decide⟩,
   ⟨made [] fun d => { d with coll := { voteTicks := some 0xFFFFFFFF } }, 0xFFFFFFFF, by decide, by decide⟩⟩

/-- Unit 0 of a KIND, as it stands in a phase, its operand block at host address 0. -/
def spineUnit (kind : Nat) (u : UnitSt) (p : Phase) : State :=
  made hostWindow fun d => { d with
    phase := p, host := { cacheEn := true }
    spine := { prog := some { units := [{ kind := kind, argPtr := 2 ^ 60 }] }, units := [(0, u)] } }

set_option maxRecDepth 100000 in
/-- The hypotheses of SpineUnits hold together, clause by clause. -/
theorem wit_SpineUnits :
    (∃ (s : State), ∃ (u p : Nat), ∃ (a : Bytes), (s.seen.workUnit u).kind = 8 ∧ s.seen.stepBlock u = some a ∧ s.seen.unitSt u = .running p) ∧
    (∃ (s : State), ∃ (u : Nat), ∃ (a : Bytes), (s.seen.workUnit u).kind = 8 ∧ s.seen.stepBlock u = some a ∧ s.seen.unitSt u = .waiting ∧ s.seen.unitReady u = true) ∧
    (∃ (s : State), ∃ (u : Nat), s.seen.phase = .commit ∧ (s.seen.workUnit u).kind = 9 ∧ u < s.seen.unitCount ∧ s.seen.unitReady u = true) ∧
    (∃ (s : State), ∃ (e r u : Nat), 24 ≤ e ∧ s.seen.engOn e = true ∧ s.seen.unitRing e = some r ∧ s.seen.nextCopy e = some u) ∧
    (∃ (s : State), ∃ (e : Nat), (s.seen.unitRing e = none ∨ s.seen.nextCopy e = none)) :=
  ⟨⟨spineUnit 8 (.running 200) .compute, 0, 200, zeroBytes 32, by decide, by decide, by decide⟩,
   ⟨spineUnit 8 .waiting .compute, 0, zeroBytes 32, by decide, by decide, by decide, by decide⟩,
   ⟨spineUnit 9 .waiting .commit, 0, by decide, by decide, by decide, by decide⟩,
   ⟨made [(F.RING_CFG_TYPE 3, 1), (F.RING_CFG_ENGINE 3, 27), (F.RING_PAIR_UNITS 3, 1), (F.RING_CTL_ENABLE 3, 1), (F.RING_CFG_LOG2_ENTRIES 3, 4)] fun d => { d with phase := .compute, spine := { prog := some { units := [{ kind := 10, eligible := 8 }] } } }, 27, 3, 0, by decide, by decide, by decide, by decide⟩,
   ⟨ready, 24, by decide⟩⟩

set_option maxRecDepth 100000 in
/-- The hypotheses of RingPointers hold together, clause by clause. -/
theorem wit_RingPointers :
    (∃ (s : State), ∃ (r v : Nat), ∃ (w : List Host.Cell), ∃ (d : Device), r < 4096 ∧ s.reaches (F.RING_PROD_PTR r).key ∧ d = s.seen.hostWrites w ∧ hostProduces (d.rd (F.RING_CFG_TYPE r)) = true ∧ v < 2 ^ 32 ∧ d.ptrBad r true v = false) ∧
    (∃ (s : State), ∃ (r v : Nat), ∃ (w : List Host.Cell), ∃ (d : Device), r < 4096 ∧ s.reaches (F.RING_PROD_PTR r).key ∧ d = s.seen.hostWrites w ∧ hostProduces (d.rd (F.RING_CFG_TYPE r)) = true ∧ v < 2 ^ 32 ∧ d.ptrBad r true v = true) ∧
    (∃ (s : State), ∃ (r v : Nat), ∃ d, r < 4096 ∧ s.reaches (F.RING_CONS_PTR r).key ∧ hostConsumes (s.seen.rd (F.RING_CFG_TYPE r)) = true ∧ v < 2 ^ 32 ∧ d = (s.seen.wr (F.RING_CONS_PTR r) v).ringFlags r ∧ s.seen.ptrBad r false v = false) ∧
    (∃ (s : State), ∃ (r v : Nat), ∃ d, r < 4096 ∧ s.reaches (F.RING_CONS_PTR r).key ∧ hostConsumes (s.seen.rd (F.RING_CFG_TYPE r)) = true ∧ v < 2 ^ 32 ∧ d = (s.seen.wr (F.RING_CONS_PTR r) v).ringFlags r ∧ s.seen.ptrBad r false v = true) ∧
    (∃ (s : State), ∃ (r : Nat), r < 4096 ∧ s.reaches (F.RING_PROD_PTR r).key ∧ hostProduces (s.seen.rd (F.RING_CFG_TYPE r)) = false) ∧
    (∃ (s : State), ∃ (r : Nat), r < 4096 ∧ s.reaches (F.RING_CONS_PTR r).key ∧ hostConsumes (s.seen.rd (F.RING_CFG_TYPE r)) = false) ∧
    (∃ (d : Device), ∃ (r v : Nat), v < 2 ^ 32 ∧ d.rd (F.RING_CFG_LOG2_ENTRIES r) ≤ 20) ∧
    (∃ (s : State), ∃ (r v ty : Nat), ∃ (h : Channel), r < 4096 ∧ s.reaches (F.RING_CTL r).key ∧ ty = s.seen.rd (F.RING_CFG_TYPE r) ∧ h = s.seen.chan (s.seen.rd (F.RING_CFG_ENGINE r)) (s.seen.rd (F.RING_CFG_CHANNEL r)) ∧ (¬((ty = 1 ∨ ty = 2) ∧ s.seen.flag (F.RING_CTL_ENABLE r) = true ∧ bit v 0 = false ∧ h.st ≠ .idle))) ∧
    (∃ (s : State), ∃ (r v ty : Nat), ∃ (h : Channel), r < 4096 ∧ s.reaches (F.RING_CTL r).key ∧ ty = s.seen.rd (F.RING_CFG_TYPE r) ∧ h = s.seen.chan (s.seen.rd (F.RING_CFG_ENGINE r)) (s.seen.rd (F.RING_CFG_CHANNEL r)) ∧ ((ty = 1 ∨ ty = 2)) ∧ s.seen.flag (F.RING_CTL_ENABLE r) = true ∧ bit v 0 = false ∧ h.st ≠ .idle) ∧
    (∃ (s : State), ∃ (r : Nat), (s.seen.ring r).timing = true ∧ s.seen.flag (F.RING_CTL_INT_EN r) = true ∧ s.seen.rd (F.RING_MOD_CLK r) ≠ 0) ∧
    (∃ (s : State), ∃ (r : Nat), (s.seen.flag (F.RING_CTL_INT_EN r) = false ∨ (s.seen.ring r).timing = false)) ∧
    (∃ (s : State), ∃ (r : Nat), ∃ (e : Bytes), ∃ (q : List Bytes), ∃ (d : Device), (s.seen.ring r).waiting = e :: q ∧ s.seen.ringRoom r = true ∧ s.seen.ringPut r e = (d, true, false)) ∧
    (∃ (s : State), ∃ (r : Nat), ∃ c, ((s.seen.ring r).waiting = [] ∨ s.seen.ringRoom r = false) ∧ (c = Instr.ringFullResume r ∨ c = .ringWriteRetry r true ∨ c = .ringWriteRetry r false)) ∧
    (∃ (s : State), ∃ (r : Nat), (s.seen.ring r).waiting ≠ [] ∧ s.seen.ringRoom r = true) ∧
    (∃ (s : State), ∃ (r : Nat), ∃ (e : Bytes), s.seen.rd (F.RING_CFG_TYPE r) = 9 ∧ s.seen.ringHead r = some e) :=
  ⟨⟨made [(F.RING_CFG_TYPE 4095, 4), (F.RING_CFG_LOG2_ENTRIES 4095, 4)] id, 4095, 16, [], _, by decide, ⟨by decide, by decide⟩, rfl, by decide, by decide, by decide⟩,
   ⟨made [(F.RING_CFG_TYPE 4095, 4), (F.RING_CFG_LOG2_ENTRIES 4095, 4)] id, 4095, 17, [], _, by decide, ⟨by decide, by decide⟩, rfl, by decide, by decide, by decide⟩,
   ⟨made [(F.RING_CFG_TYPE 0, 3), (F.RING_CFG_LOG2_ENTRIES 0, 4), (F.RING_PROD_PTR 0, 16)] id, 0, 16, _, by decide, ⟨by decide, by decide⟩, by decide, by decide, rfl, by decide⟩,
   ⟨made [(F.RING_CFG_TYPE 0, 3), (F.RING_CFG_LOG2_ENTRIES 0, 4), (F.RING_PROD_PTR 0, 16)] id, 0, 17, _, by decide, ⟨by decide, by decide⟩, by decide, by decide, rfl, by decide⟩,
   ⟨ready, 4095, by decide, ⟨by decide, by decide⟩, by decide⟩,
   ⟨made [(F.RING_CFG_TYPE 0, 9), (F.RING_CFG_LOG2_ENTRIES 0, 4)] id, 0, by decide, ⟨by decide, by decide⟩, by decide⟩,
   ⟨(made [(F.RING_CFG_LOG2_ENTRIES 0, 20)] id).dev, 0, 2 ^ 32 - 1, by decide, by decide⟩,
   ⟨ready, 4095, 0, _, _, by decide, ⟨by decide, by decide⟩, rfl, rfl, by decide⟩,
   ⟨made [(F.RING_CFG_TYPE 7, 2), (F.RING_CFG_LOG2_ENTRIES 7, 4), (F.RING_CTL_ENABLE 7, 1)] fun d => { d with chans := [(0, { st := .running })] }, 7, 0, 2, { st := .running }, by decide, ⟨by decide, by decide⟩, by decide, by decide, by decide, by decide, by decide, by decide⟩,
   ⟨made [(F.RING_CFG_TYPE 7, 3), (F.RING_CFG_LOG2_ENTRIES 7, 4), (F.RING_CTL_INT_EN 7, 1), (F.RING_MOD_CLK 7, 1)] fun d => { d with rings := [(7, { timing := true })] }, 7, by decide, by decide, by decide⟩,
   ⟨ready, 0, by decide⟩,
   ⟨made (hostWindow ++ [(F.RING_CFG_TYPE 7, 3), (F.RING_CFG_LOG2_ENTRIES 7, 4), (F.RING_CTL_ENABLE 7, 1), (F.RING_BASE_HI 7, 2 ^ 28)]) fun d => { d with host := { cacheEn := true }, rings := [(7, { waiting := [zeroBytes 16] })] }, 7, zeroBytes 16, [], _, by decide, by decide, rfl⟩,
   ⟨ready, 0, .ringFullResume 0, by decide, by decide⟩,
   ⟨made [(F.RING_CFG_TYPE 7, 3), (F.RING_CFG_LOG2_ENTRIES 7, 4), (F.RING_CTL_ENABLE 7, 1)] fun d => { d with rings := [(7, { waiting := [[]] })] }, 7, by decide, by decide⟩,
   ⟨made (hostWindow ++ [(F.RING_CFG_TYPE 7, 9), (F.RING_CFG_LOG2_ENTRIES 7, 4), (F.RING_CTL_ENABLE 7, 1), (F.RING_PROD_PTR 7, 1), (F.RING_BASE_HI 7, 2 ^ 28)]) fun d => { d with host := { cacheEn := true } }, 7, zeroBytes 64, by decide, by decide⟩⟩

/-- A FILL descriptor of one run of 64 bytes at host address 0 (R367). -/
def fillDesc : Bytes :=
  [2, 0, 0, 0] ++ leBytes 12 64 ++ leBytes 16 (2 ^ 60) ++ leBytes 32 0x000100010001

set_option maxRecDepth 100000 in
/-- The hypotheses of DmaChannels hold together, clause by clause. -/
theorem wit_DmaChannels :
    (∃ (s : State), ∃ (e c r : Nat), ∃ (h : Channel), s.seen.chanRing e c = some r ∧ h = s.seen.chan e c ∧ s.seen.engOn e = true ∧ s.seen.flag (F.RING_CTL_ENABLE r) = true ∧ s.seen.ringEmpty r = false ∧ h.live = false ∧ ((s.seen.rd (F.RING_CFG_TYPE r) = 2 → (s.seen.ring (s.seen.rd (F.RING_PAIR_PAIR r))).waiting = [])) ∧ (s.seen.chanState e c = .idle ∨ s.seen.chanState e c = .running)) ∧
    (∃ (s : State), ∃ (i : Instr), ∃ (e c op n : Nat), ∃ (f : Option Nat), ∃ (h : Channel), ((i = .dmaCopy e c f ∧ op = 0) ∨ (i = .dmaAccumulate e c f ∧ op = 1) ∨ (i = .dmaFill e c f ∧ op = 2) ∨ (i = .pageWalk e c f ∧ op = 3)) ∧ h = s.seen.chan e c ∧ s.seen.engOn e = true ∧ h.st = .running ∧ h.live = true ∧ h.ended = false ∧ h.cur ≠ [] ∧ qOp h.cur = op ∧ n = qTotal h.cur - h.before) ∧
    (∃ (d x : Device), ∃ (e c : Nat), ∃ (f : Option Nat), f ≠ some 0 ∧ d.moveLine e c (d.chan e c) = .moved x) ∧
    (∃ (d x : Device), ∃ (e c : Nat), ∃ (f : Option Nat), f ≠ some 0 ∧ d.moveLine e c (d.chan e c) = .failed x) ∧
    (∃ (dst : Nat), ∃ (h : Channel), qOp h.cur = 2 ∧ h.lineAddr (qDst h.cur) (qDstStride h.cur) = some dst) ∧
    (∃ (s : State), ∃ (e c : Nat), ∃ (h : Channel), h = s.seen.chan e c ∧ s.seen.engOn e = true ∧ h.st = .running ∧ h.live = true ∧ h.ended = true) ∧
    (∃ (s : State), ∃ (e c : Nat), ∃ (h : Channel), ∃ (d : Device), h = s.seen.chan e c ∧ s.seen.engOn e = true ∧ h.st = .retrying ∧ d = s.seen.inc (F.DMA_ENG_RETRIES_COUNT e) ∧ h.cur = [] ∧ d.uniOk h.desc 64 = true) ∧
    (∃ (s : State), ∃ (e c : Nat), ∃ (h : Channel), ∃ (d : Device), ∃ x, h = s.seen.chan e c ∧ s.seen.engOn e = true ∧ h.st = .retrying ∧ d = s.seen.inc (F.DMA_ENG_RETRIES_COUNT e) ∧ h.cur ≠ [] ∧ d.moveLine e c h = .moved x) ∧
    (∃ (s : State), ∃ (e c : Nat), e < 28 ∧ s.reaches (F.DMA_CH_CTL e 0).key ∧ c = s.seen.rd (F.DMA_CH_SEL_CHANNEL e) ∧ ((s.seen.chanState e c = .running ∨ s.seen.chanState e c = .retrying))) ∧
    (∃ (s : State), ∃ (e c : Nat), e < 28 ∧ s.reaches (F.DMA_CH_CTL e 0).key ∧ c = s.seen.rd (F.DMA_CH_SEL_CHANNEL e) ∧ ((s.seen.chanState e c = .paused ∨ s.seen.chanState e c = .halted))) ∧
    (∃ (s : State), ∃ (e c : Nat), e < 28 ∧ s.reaches (F.DMA_CH_CTL e 0).key ∧ c = s.seen.rd (F.DMA_CH_SEL_CHANNEL e) ∧ s.seen.chanState e c ≠ .running ∧ s.seen.chanState e c ≠ .retrying) ∧
    (∃ (s : State), ∃ (e c : Nat), e < 28 ∧ s.reaches (F.DMA_CH_CTL e 0).key ∧ c = s.seen.rd (F.DMA_CH_SEL_CHANNEL e) ∧ s.seen.chanState e c ≠ .paused ∧ s.seen.chanState e c ≠ .halted) ∧
    (∃ (d : Device), ∃ (e c : Nat), (d.chan e c).st ≠ .retrying) ∧
    (∃ (d : Device), ∃ (e c : Nat), (d.chan e c).st = .retrying) ∧
    (∃ (d : Device), ∃ (e c : Nat), (d.chan e c).live = false) ∧
    (∃ (d : Device), ∃ (e c : Nat), (d.chan e c).live = true) :=
  ⟨⟨made (hostWindow ++ [(F.RING_CFG_TYPE 7, 1), (F.RING_CTL_ENABLE 7, 1), (F.RING_CFG_ENGINE 7, 27), (F.RING_CFG_CHANNEL 7, 0), (F.RING_PROD_PTR 7, 1)]) fun d => { d with host := { cacheEn := true }, chans := [(27 * 128, {})] }, 27, 0, 7, {}, by decide, by decide, by decide, by decide, by decide, by decide, by decide, by decide⟩,
   ⟨made (hostWindow ++ [(F.RING_CFG_TYPE 7, 1), (F.RING_CTL_ENABLE 7, 1), (F.RING_CFG_ENGINE 7, 27), (F.RING_CFG_CHANNEL 7, 0)]) fun d => { d with host := { cacheEn := true }, chans := [(27 * 128, { st := .running, live := true, cur := fillDesc })] }, .dmaFill 27 0 none, 27, 0, 2, 1, none, { st := .running, live := true, cur := fillDesc }, by decide, by decide, by decide, by decide, by decide, by decide, by decide, by decide, by decide⟩,
   ⟨(made (hostWindow ++ [(F.RING_CFG_TYPE 7, 1), (F.RING_CTL_ENABLE 7, 1), (F.RING_CFG_ENGINE 7, 0), (F.RING_CFG_CHANNEL 7, 0)]) fun d => { d with host := { cacheEn := true }, chans := [(0 * 128, { st := .running, live := true, cur := fillDesc })] }).seen, _, 0, 0, some 1, by decide, rfl⟩,
   ⟨{ chans := [(0, { cur := fillDesc })] }, _, 0, 0, none, by decide, rfl⟩,
   ⟨2 ^ 60, { cur := fillDesc }, by decide, by decide⟩,
   ⟨made [] fun d => { d with chans := [(5, { st := .running, live := true, ended := true })] }, 0, 5, { st := .running, live := true, ended := true }, by decide, by decide, by decide, by decide, by decide⟩,
   ⟨made (hostWindow ++ [(F.RING_CFG_TYPE 7, 1), (F.RING_CTL_ENABLE 7, 1), (F.RING_CFG_ENGINE 7, 0), (F.RING_CFG_CHANNEL 7, 0)]) fun d => { d with host := { cacheEn := true }, chans := [(0 * 128, { st := .retrying, desc := 2 ^ 60 })] }, 0, 0, { st := .retrying, desc := 2 ^ 60 }, _, by decide, by decide, by decide, rfl, by decide, by decide⟩,
   ⟨made (hostWindow ++ [(F.RING_CFG_TYPE 7, 1), (F.RING_CTL_ENABLE 7, 1), (F.RING_CFG_ENGINE 7, 0), (F.RING_CFG_CHANNEL 7, 0)]) fun d => { d with host := { cacheEn := true }, chans := [(0 * 128, { st := .retrying, cur := fillDesc })] }, 0, 0, { st := .retrying, cur := fillDesc }, _, _, by decide, by decide, by decide, rfl, by decide, rfl⟩,
   ⟨made (hostWindow ++ [(F.RING_CFG_TYPE 7, 1), (F.RING_CTL_ENABLE 7, 1), (F.RING_CFG_ENGINE 7, 27), (F.RING_CFG_CHANNEL 7, 0)]) fun d => { d with host := { cacheEn := true }, chans := [(27 * 128, { st := .retrying })] }, 27, 0, by decide, ⟨by decide, by decide⟩, by decide, by decide⟩,
   ⟨made (hostWindow ++ [(F.RING_CFG_TYPE 7, 1), (F.RING_CTL_ENABLE 7, 1), (F.RING_CFG_ENGINE 7, 27), (F.RING_CFG_CHANNEL 7, 0)]) fun d => { d with host := { cacheEn := true }, chans := [(27 * 128, { st := .halted })] }, 27, 0, by decide, ⟨by decide, by decide⟩, by decide, by decide⟩,
   ⟨ready, 0, 0, by decide, ⟨by decide, by decide⟩, by decide, by decide, by decide⟩,
   ⟨ready, 27, 0, by decide, ⟨by decide, by decide⟩, by decide, by decide, by decide⟩,
   ⟨{}, 0, 0, by decide⟩,
   ⟨{ chans := [(0, { st := .retrying })] }, 0, 0, by decide⟩,
   ⟨{}, 0, 0, by decide⟩,
   ⟨{ chans := [(0, { live := true })] }, 0, 0, by decide⟩⟩

set_option maxRecDepth 100000 in
/-- The hypotheses of LaserSafety hold together, clause by clause. -/
theorem wit_LaserSafety :
    (∃ (s : State), s.seen.optics.interlock = false) ∧
    (∃ (s : State), s.seen.optics.interlock = true ∧ s.seen.optics.hold = true) ∧
    (∃ (s : State), s.seen.optics.interlock = true ∧ s.seen.optics.hold = false) ∧
    (∃ (s : State), ∃ (l : Nat), l < 12 ∧ s.seen.linkPowered l = true ∧ (s.seen.link l).blanked = false) ∧
    (∃ (s : State), ∃ (l : Nat), l < 12 ∧ s.seen.linkPowered l = true ∧ (s.seen.link l).blanked = true ∧ (s.seen.link l).probing = false) ∧
    (∃ (s : State), ∃ (l : Nat), (s.seen.link l).probing = true) ∧
    (∃ (s : State), ∃ (e : Nat), e < 4 ∧ s.seen.flag (F.FAB_ENG_STATUS_OVER e) = false) ∧
    (∃ (s : State), ∃ (e : Nat), e < 4 ∧ s.reaches (F.FAB_ENG_CTL e).key) ∧
    (∃ (s : State), ∃ (e f : Nat), e < 4 ∧ f < 2 ∧ s.seen.rd (feedFld e f) = 1) ∧
    (∃ (s : State), ∃ (e f : Nat), e < 4 ∧ f < 2 ∧ (2 * e + f) ∈ s.seen.optics.opening) ∧
    (∃ (s : State), ∃ (e : Nat), e < 4 ∧ s.reaches (F.FAB_ENG_CTL e).key) ∧
    (∃ (d : Device), ∃ (e f v : Nat), ∃ (o : Fld), o = (if f = 0 then F.FAB_ENG_CTL_FEED_A_OFF e else F.FAB_ENG_CTL_FEED_B_OFF e) ∧ v ≠ d.rd o ∧ v = 1 ∧ d.rd (feedFld e (1 - f)) ≠ 1) ∧
    (∃ (d : Device), ∃ (e f v : Nat), ∃ (o : Fld), o = (if f = 0 then F.FAB_ENG_CTL_FEED_A_OFF e else F.FAB_ENG_CTL_FEED_B_OFF e) ∧ v ≠ d.rd o ∧ (v ≠ 1 ∨ d.rd (feedFld e (1 - f)) = 1)) :=
  ⟨⟨ready, by decide⟩,
   ⟨made [] fun d => { d with optics := { interlock := true, hold := true } }, by decide, by decide⟩,
   ⟨made [] fun d => { d with optics := { interlock := true } }, by decide, by decide⟩,
   ⟨ready, 11, by decide, by decide, by decide⟩,
   ⟨linked 0 2 { blanked := true }, 0, by decide, by decide, by decide, by decide⟩,
   ⟨linked 7 2 { blanked := true, probing := true }, 7, by decide⟩,
   ⟨ready, 3, by decide, by decide⟩,
   ⟨ready, 0, by decide, ⟨by decide, by decide⟩⟩,
   ⟨made [(F.FAB_ENG_STATUS_FEED_B 3, 1)] id, 3, 1, by decide, by decide, by decide⟩,
   ⟨made [] fun d => { d with optics := { opening := [0] } }, 0, 0, by decide, by decide, by decide⟩,
   ⟨ready, 3, by decide, ⟨by decide, by decide⟩⟩,
   ⟨{}, 3, 1, 1, _, rfl, by decide, by decide, by decide⟩,
   ⟨(made [(F.FAB_ENG_STATUS_FEED_A 3, 1)] id).dev, 3, 1, 1, _, rfl, by decide, by decide⟩⟩

set_option maxRecDepth 100000 in
/-- The hypotheses of LinkLayer hold together, clause by clause. -/
theorem wit_LinkLayer :
    (∃ (s : State), ∃ (l : Nat), ∃ (x : Bytes), ∃ (d : Device), s.seen.linkUp l = true ∧ d = s.seen.ackUpTo l (flitAck l x) ∧ flitSeq l x = (d.link l).rxSeq ∧ l < 8) ∧
    (∃ (s : State), ∃ (l : Nat), ∃ (x : Bytes), ∃ (d : Device), s.seen.linkUp l = true ∧ d = s.seen.ackUpTo l (flitAck l x) ∧ flitSeq l x = (d.link l).rxSeq ∧ 8 ≤ l) ∧
    (∃ (s : State), ∃ (l : Nat), ∃ (x : Bytes), ∃ (d : Device), s.seen.linkUp l = true ∧ d = s.seen.ackUpTo l (flitAck l x) ∧ flitSeq l x ≠ (d.link l).rxSeq) ∧
    (∃ (s : State), ∃ (l : Nat), s.seen.linkUp l = true) ∧
    (∃ (s : State), ∃ (l : Nat), s.seen.linkUp l = true) ∧
    (∃ (s : State), ∃ (l : Nat), l < 8 ∧ s.seen.linkUp l = true) ∧
    (∃ (s : State), ∃ (l : Nat), ∃ (t : TxFlit), ∃ (r : List TxFlit), s.seen.linkUp l = true ∧ (s.seen.link l).buf = t :: r) ∧
    (∃ (s : State), ∃ (l : Nat), ∃ (x : Bytes), ∃ (g : Bool), ∃ (a vc n q : Nat), ∃ (i : Instr), s.seen.linkUp l = false ∧ (i = .dataFlit l x g ∨ i = .idleFlit l a g ∨ i = .nak l q ∨ i = .credit l vc n ∨ i = .replayTimeout l)) ∧
    (∃ (s : State), ∃ (p src : Nat), p < 8 ∧ ((s.seen.link p).partials.any fun x => x.src = src) = true) ∧
    (∃ (d : Device), ∃ (l a : Nat), ((∀ t ∈ (d.link l).buf, t.seq ≠ a))) :=
  ⟨⟨linked 7 2 {}, 7, zeroBytes 256, _, by decide, rfl, by decide, by decide⟩,
   ⟨linked 8 2 {}, 8, zeroBytes 320, _, by decide, rfl, by decide, by decide⟩,
   ⟨linked 0 2 { rxSeq := 65535 }, 0, zeroBytes 256, _, by decide, rfl, by decide⟩,
   ⟨linked 11 5 {}, 11, by decide⟩,
   ⟨linked 0 2 {}, 0, by decide⟩,
   ⟨linked 7 2 {}, 7, by decide, by decide⟩,
   ⟨linked 0 2 { buf := [⟨0, 0, 0, [], true, true, 0, []⟩] }, 0, ⟨0, 0, 0, [], true, true, 0, []⟩, [], by decide, by decide⟩,
   ⟨linked 0 4 {}, 0, [], true, 0, 0, 0, 0, .nak 0 0, by decide, by decide⟩,
   ⟨linked 7 2 { partials := [⟨4095, []⟩] }, 7, 4095, by decide, by decide⟩,
   ⟨{}, 0, 0, by decide⟩⟩

set_option maxRecDepth 100000 in
/-- The hypotheses of LaneRepair hold together, clause by clause. -/
theorem wit_LaneRepair :
    (∃ (s : State), ∃ (l : Nat), ∃ (es : List Nat), ∃ (d : Device), s.seen.linkUp l = true ∧ d = (List.range (linkFibres l)).foldl (fun d f => d.countLane l f (es.getD f 0)) s.seen) ∧
    (∃ (s : State), ∃ (l n : Nat), s.seen.linkUp l = true ∧ n + 1 < linkFibres l ∧ (s.seen.link l).failing.contains n = false) ∧
    (∃ (ns : List Nat), ns ≠ []) ∧
    (∃ (s : State), ∃ (l n : Nat), s.seen.linkUp l = true ∧ n + 1 < linkFibres l ∧ s.seen.laneMap l % 9 = 0) ∧
    (∃ (s : State), ∃ (l n : Nat), (s.seen.link l).switching = some (n, false)) ∧
    (∃ (s : State), ∃ (l n : Nat), (s.seen.link l).switching = some (n, true)) ∧
    (∃ (s : State), ∃ (l n : Nat), (s.seen.link l).switching ≠ some (n, false)) ∧
    (∃ (s : State), ∃ (l : Nat), s.seen.linkUp l = true ∧ l < 8) ∧
    (∃ (s : State), ∃ (l : Nat), s.seen.linkUp l = true ∧ 8 ≤ l) ∧
    (∃ (s : State), ∃ (l : Nat), ∃ (d : Device), l < 12 ∧ (s.seen.link l).training = true ∧ s.seen.linkPowered l = true ∧ (s.seen.link l).blanked = false ∧ d = s.seen.wr (if l < 8 then F.FAB_PL_CTL_RETRAIN l else F.TLNK_C_CTL_RETRAIN (l - 8)) 0) ∧
    (∃ (s : State), ∃ (l : Nat), s.seen.linkPowered l = true ∧ (s.seen.link l).blanked = false ∧ s.seen.rd (linkState l) ≠ 0 ∧ l < 8 ∧ s.seen.rd (linkState l) ≠ 4) ∧
    (∃ (s : State), ∃ (l : Nat), s.seen.linkPowered l = true ∧ (s.seen.link l).blanked = false ∧ s.seen.rd (linkState l) ≠ 0 ∧ l < 8 ∧ s.seen.rd (linkState l) = 4) ∧
    (∃ (s : State), ∃ (l : Nat), s.seen.linkPowered l = true ∧ (s.seen.link l).blanked = false ∧ s.seen.rd (linkState l) ≠ 0 ∧ 8 ≤ l ∧ l < 12) ∧
    (∃ (s : State), ∃ (l : Nat), l < 12 ∧ s.seen.linkPowered l = true ∧ s.seen.rd (linkState l) = 4) ∧
    (∃ (s : State), ∃ (l : Nat), l < 12 ∧ s.seen.linkPowered l = true ∧ (s.seen.link l).blanked = false ∧ s.seen.optics.interlock = true ∧ s.seen.optics.hold = false ∧ (s.seen.rd (linkState l) = 0 ∨ s.seen.rd (linkState l) = 1)) :=
  ⟨⟨linked 11 2 {}, 11, [], _, by decide, rfl⟩,
   ⟨linked 0 2 {}, 0, 7, by decide, by decide, by decide⟩,
   ⟨[0], by decide⟩,
   ⟨linked 11 2 {}, 11, 4, by decide, by decide, by decide⟩,
   ⟨linked 0 2 { switching := some (7, false) }, 0, 7, by decide⟩,
   ⟨linked 0 2 { switching := some (0, true) }, 0, 0, by decide⟩,
   ⟨ready, 0, 0, by decide⟩,
   ⟨linked 7 2 {}, 7, by decide, by decide⟩,
   ⟨linked 8 2 {}, 8, by decide, by decide⟩,
   ⟨linked 11 3 { training := true }, 11, _, by decide, by decide, by decide, by decide, rfl⟩,
   ⟨linked 7 2 {}, 7, by decide, by decide, by decide, by decide, by decide⟩,
   ⟨linked 0 4 {}, 0, by decide, by decide, by decide, by decide, by decide⟩,
   ⟨linked 8 2 {}, 8, by decide, by decide, by decide, by decide, by decide⟩,
   ⟨linked 11 4 { outage := true }, 11, by decide, by decide, by decide⟩,
   ⟨made [] fun d => { d with optics := { interlock := true } }, 11, by decide, by decide, by decide, by decide, by decide, by decide⟩⟩

set_option maxRecDepth 100000 in
/-- The hypotheses of PlaneControls hold together, clause by clause. -/
theorem wit_PlaneControls :
    (∃ (s : State), ∃ (p : Nat), p < 8 ∧ s.reaches (F.FAB_PL_CTL p).key ∧ s.seen.flag (F.FAB_PL_CTL_DISABLE p) = false) ∧
    (∃ (s : State), ∃ (p : Nat), p < 8 ∧ s.reaches (F.FAB_PL_CTL p).key ∧ s.seen.flag (F.FAB_PL_CTL_DISABLE p) = true) ∧
    (∃ (d : Device), ∃ (p : Nat), (d.rd (linkState p) = 2 ∨ d.rd (linkState p) = 3)) ∧
    (∃ (d : Device), ∃ (p : Nat), d.rd (linkState p) ≠ 2 ∧ d.rd (linkState p) ≠ 3) ∧
    (∃ (d : Device), ∃ (p : Nat), d.rd (linkState p) = 5) ∧
    (∃ (d : Device), ∃ (p : Nat), d.rd (linkState p) ≠ 5) ∧
    (∃ (s : State), ∃ (c : Nat), c < 4 ∧ s.reaches (F.TLNK_C_CTL c).key) ∧
    (∃ (d : Device), ∃ (l : Nat), ∃ e, d.linkPowered l = true ∧ d.rd (linkState l) ≠ 0 ∧ d.rd (linkState l) ≠ 4 ∧ e = d.wr (if l < 8 then F.FAB_PL_CTL_RETRAIN l else F.TLNK_C_CTL_RETRAIN (l - 8)) 1) ∧
    (∃ (d : Device), ∃ (l : Nat), (d.linkPowered l = false ∨ d.rd (linkState l) = 0 ∨ d.rd (linkState l) = 4)) ∧
    (∃ (s : State), ∃ (l w h : Nat), ∃ (d : Device), l < 12 ∧ (s.seen.link l).margin = true ∧ d = (s.seen.marginOver l).marginShown l w h ∧ d.rd F.FAB_MARGIN_MIN_EYE_W ≤ w ∧ d.rd F.FAB_MARGIN_MIN_EYE_H ≤ h) ∧
    (∃ (s : State), ∃ (l w h : Nat), ∃ (d : Device), l < 12 ∧ (s.seen.link l).margin = true ∧ d = (s.seen.marginOver l).marginShown l w h ∧ ((w < d.rd F.FAB_MARGIN_MIN_EYE_W ∨ h < d.rd F.FAB_MARGIN_MIN_EYE_H))) ∧
    (∃ (s : State), ∃ (l : Nat), (s.seen.link l).margin = false) ∧
    (∃ (l w h : Nat), l < 8 ∧ w < 256 ∧ h < 256) :=
  ⟨⟨ready, 7, by decide, ⟨by decide, by decide⟩, by decide⟩,
   ⟨made [(F.FAB_PL_CTL_DISABLE 0, 1)] id, 0, by decide, ⟨by decide, by decide⟩, by decide⟩,
   ⟨(linked 7 3 {}).dev, 7, by decide⟩,
   ⟨{}, 0, by decide, by decide⟩,
   ⟨(linked 7 5 {}).dev, 7, by decide⟩,
   ⟨{}, 0, by decide⟩,
   ⟨ready, 3, by decide, ⟨by decide, by decide⟩⟩,
   ⟨(linked 11 2 {}).dev, 11, _, by decide, by decide, by decide, rfl⟩,
   ⟨{}, 0, by decide⟩,
   ⟨linked 11 2 { margin := true }, 11, 255, 255, _, by decide, by decide, rfl, by decide, by decide⟩,
   ⟨made [(F.FAB_MARGIN_MIN_EYE_W, 1)] fun d => { d with links := [(0, { margin := true })] }, 0, 0, 255, _, by decide, by decide, rfl, by decide⟩,
   ⟨ready, 0, by decide⟩,
   ⟨7, 255, 0, by decide, by decide, by decide⟩⟩

/-- A HELLO line (R416). -/
def helloLine : Bytes := [1, 0] ++ leBytes 6 256 ++ leBytes 8 (2 ^ 24) ++ leBytes 48 1

set_option maxRecDepth 100000 in
/-- The hypotheses of CarrierResponses hold together, clause by clause. -/
theorem wit_CarrierResponses :
    (∃ (s : State), ∃ (c : Nat), c < 4 ∧ s.reaches (F.TLNK_C_CTL c).key ∧ s.seen.carrierState c = 1 ∧ (s.seen.carrier c).helloBad = false) ∧
    (∃ (s : State), ∃ (c : Nat), c < 4 ∧ s.reaches (F.TLNK_C_CTL c).key ∧ (s.seen.carrierState c ≠ 1 ∨ (s.seen.carrier c).helloBad = true)) ∧
    (∃ (s : State), ∃ (c g : Nat), ∃ (t : Tag), ∃ (d : Device), c < 4 ∧ s.seen.findTag c g 1 = some t ∧ d = s.seen.inc (F.TLNK_C_POISON_COUNT c) ∧ t.poisons = 0) ∧
    (∃ (s : State), ∃ (c g : Nat), ∃ (t : Tag), ∃ (d : Device), c < 4 ∧ s.seen.findTag c g 1 = some t ∧ d = s.seen.inc (F.TLNK_C_POISON_COUNT c) ∧ t.poisons ≠ 0) ∧
    (∃ (s : State), ∃ (c g : Nat), ∃ (t : Tag), c < 4 ∧ s.seen.findTag c g 2 = some t) ∧
    (∃ (s : State), ∃ (c g : Nat), c < 4 ∧ s.seen.findTag c g 1 = none) ∧
    (∃ (s : State), ∃ (c g : Nat), c < 4 ∧ s.seen.findTag c g 2 = none) ∧
    (∃ (s : State), ∃ (c : Nat), c < 4 ∧ ((s.seen.carrier c).tags.find? fun t => t.op = 5) = none) ∧
    (∃ (s : State), ∃ (c : Nat), ∃ (t : Tag), c < 4 ∧ ((s.seen.carrier c).tags.find? fun t => t.op = 5) = some t) ∧
    (∃ (s : State), ∃ (c : Nat), ∃ (d : Device), c < 4 ∧ s.seen.linkPowered (8 + c) = true ∧ (s.seen.rd (linkState (8 + c)) = 2 ∨ s.seen.rd (linkState (8 + c)) = 3) ∧ d = s.seen.raise (F.TLNK_C_INT_STATUS_HELLO c) ∧ (d.carrierState c = 2 ∨ d.carrierState c = 3)) ∧
    (∃ (s : State), ∃ (c : Nat), ∃ (d : Device), c < 4 ∧ s.seen.linkPowered (8 + c) = true ∧ (s.seen.rd (linkState (8 + c)) = 2 ∨ s.seen.rd (linkState (8 + c)) = 3) ∧ d = s.seen.raise (F.TLNK_C_INT_STATUS_HELLO c) ∧ (d.carrierState c = 0 ∨ d.carrierState c = 1 ∨ (d.carrierState c = 5 ∧ (d.carrier c).queue = 0))) ∧
    (∃ (s : State), ∃ (c : Nat), ∃ (d : Device), c < 4 ∧ s.seen.linkPowered (8 + c) = true ∧ (s.seen.rd (linkState (8 + c)) = 2 ∨ s.seen.rd (linkState (8 + c)) = 3) ∧ d = s.seen.raise (F.TLNK_C_INT_STATUS_HELLO c) ∧ d.carrierState c = 4) ∧
    (∃ (d e : Device), ∃ (c : Nat), ∃ (x : Bytes), helloOk x = true ∧ e = ((d.setCarrier c {}).helloTake c x).setCarrierState c 1) ∧
    (∃ (x : Bytes), helloOk x = false) ∧
    (∃ (d : Device), ∃ (c : Nat), (d.link (8 + c)).outage = false) ∧
    (∃ (d : Device), ∃ (c : Nat), ∃ (x : Bytes), (d.link (8 + c)).outage = true ∧ (helloOk x = false ∨ u64At x 0x10 ≠ (d.carrier c).id)) ∧
    (∃ (s : State), ∃ (c g : Nat), ∃ (t : Tag), c < 4 ∧ (s.seen.link (8 + c)).outage = false ∧ ((s.seen.carrier c).tags.find? fun t => t.tag = g) = some t ∧ t.tries ≤ 1) ∧
    (∃ (s : State), ∃ (c g : Nat), ∃ (t : Tag), c < 4 ∧ (s.seen.link (8 + c)).outage = false ∧ ((s.seen.carrier c).tags.find? fun t => t.tag = g) = some t ∧ 2 ≤ t.tries) ∧
    (∃ (s : State), ∃ (c : Nat), c < 4 ∧ (s.seen.link (8 + c)).outage = true ∧ s.seen.rd F.TLNK_OUTAGE_LIMIT_TICKS ≤ (s.seen.link (8 + c)).outageTicks) ∧
    (∃ (s : State), ∃ (c : Nat), c < 4 ∧ (s.seen.link (8 + c)).outage = true ∧ (s.seen.link (8 + c)).outageTicks < s.seen.rd F.TLNK_OUTAGE_LIMIT_TICKS) :=
  ⟨⟨carried 3 1 {}, 3, by decide, ⟨by decide, by decide⟩, by decide, by decide⟩,
   ⟨carried 0 1 { helloBad := true }, 0, by decide, ⟨by decide, by decide⟩, by decide⟩,
   ⟨carried 3 2 { tags := [⟨0xFFFF, 1, 1, 0, 1, 0, none⟩] }, 3, 0xFFFF, ⟨0xFFFF, 1, 1, 0, 1, 0, none⟩, _, by decide, by decide, rfl, by decide⟩,
   ⟨carried 3 2 { tags := [⟨0xFFFF, 1, 1, 0, 1, 1, none⟩] }, 3, 0xFFFF, ⟨0xFFFF, 1, 1, 0, 1, 1, none⟩, _, by decide, by decide, rfl, by decide⟩,
   ⟨carried 0 2 { tags := [⟨0xFFFF, 2, 1, 0, 1, 0, none⟩] }, 0, 0xFFFF, ⟨0xFFFF, 2, 1, 0, 1, 0, none⟩, by decide, by decide⟩,
   ⟨ready, 3, 0, by decide, by decide⟩,
   ⟨ready, 0, 0, by decide, by decide⟩,
   ⟨ready, 0, by decide, by decide⟩,
   ⟨carried 0 4 { tags := [⟨0xFFFF, 5, 1, 0, 1, 0, none⟩] }, 0, ⟨0xFFFF, 5, 1, 0, 1, 0, none⟩, by decide, by decide⟩,
   ⟨carried 3 3 {}, 3, _, by decide, by decide, by decide, rfl, by decide⟩,
   ⟨carried 0 0 {}, 0, _, by decide, by decide, by decide, rfl, by decide⟩,
   ⟨carried 0 4 {}, 0, _, by decide, by decide, by decide, rfl, by decide⟩,
   ⟨{}, _, 3, helloLine, by decide, rfl⟩,
   ⟨zeroBytes 64, by decide⟩,
   ⟨{}, 0, by decide⟩,
   ⟨{ links := [(8, { outage := true })] }, 0, zeroBytes 64, by decide, by decide⟩,
   ⟨carried 3 2 { tags := [⟨0xFFFF, 1, 1, 0, 1, 0, none⟩] }, 3, 0xFFFF, ⟨0xFFFF, 1, 1, 0, 1, 0, none⟩, by decide, by decide, by decide, by decide⟩,
   ⟨carried 3 2 { tags := [⟨0xFFFF, 1, 1, 0, 2, 0, none⟩] }, 3, 0xFFFF, ⟨0xFFFF, 1, 1, 0, 2, 0, none⟩, by decide, by decide, by decide, by decide⟩,
   ⟨linked 8 4 { outage := true, outageTicks := 0xFFFFFFFF }, 0, by decide, by decide, by decide⟩,
   ⟨linked 11 4 { outage := true }, 3, by decide, by decide, by decide⟩⟩

set_option maxRecDepth 100000 in
/-- The hypotheses of HostLink hold together, clause by clause. -/
theorem wit_HostLink :
    (∃ (s : State), ∃ (v w : Nat), ∃ (d : Device), s.seen.domOn domHost = true ∧ linkWithin v w = true ∧ d = (s.seen.linkEnds false true).linkShown v w ∧ ((s.seen.rd F.HOST_STATUS_SPEED = v ∧ s.seen.rd F.HOST_STATUS_WIDTH = w))) ∧
    (∃ (s : State), ∃ (v w : Nat), ∃ (d : Device), s.seen.domOn domHost = true ∧ linkWithin v w = true ∧ d = (s.seen.linkEnds false true).linkShown v w ∧ (¬(s.seen.rd F.HOST_STATUS_SPEED = v ∧ s.seen.rd F.HOST_STATUS_WIDTH = w))) ∧
    (∃ (s : State), ∃ (v w : Nat), s.seen.domOn domHost = true ∧ linkWithin v w = false) ∧
    (∃ (v w : Nat), linkWithin v w = true) ∧
    (∃ (s : State), ∃ (d : Device), d = ((s.seen.resetDomain domHost).reloadRwl domHost).wr (F.PWR_DOM_STATE_STATE domHost) (s.seen.rd (F.PWR_DOM_STATE_STATE domHost))) ∧
    (∃ (s : State), s.seen.host.outside = true) ∧
    (∃ (s : State), s.seen.host.outside = false) ∧
    (∃ (s : State), s.reaches F.HOST_CTL.key) ∧
    (∃ (s : State), (s.seen.rd F.DRONE_START_STATUS_STATE = 1 ∨ (s.seen.rd F.DRONE_START_STATUS_STATE = 0 ∧ 6 ≤ s.seen.rd F.DRONE_START_STATUS_STEP))) ∧
    (∃ (s : State), s.seen.flag F.HOST_STATUS_LINK_UP = true ∧ s.seen.host.cacheEn = true) ∧
    (∃ (s : State), ∃ (l : Nat), s.seen.d2hHas l = true ∧ s.seen.flag F.HOST_STATUS_LINK_UP = true) ∧
    (∃ (s : State), ∃ (b z : Nat), s.seen.domOn domHost = true ∧ s.seen.flag F.HOST_STATUS_HDM_COMMITTED = false ∧ hdmOk b z 1 = true) ∧
    (∃ (s : State), ∃ (b z : Nat), ∃ n, s.seen.domOn domHost = true ∧ s.seen.flag F.HOST_STATUS_HDM_COMMITTED = false ∧ (n ≠ 1 ∨ hdmOk b z n = false)) ∧
    (∃ (s : State), ∃ (o : Bytes), s.seen.domOn domHost = true ∧ doeServed o = true) ∧
    (∃ (o : Bytes), (u16At o 0 ≠ 1 ∨ u8At o 2 = 0)) ∧
    (∃ (s : State), ∃ (k : Nat), bit (s.seen.ideBits % 8) k = true) :=
  ⟨⟨made [(F.HOST_STATUS_SPEED, 1), (F.HOST_STATUS_WIDTH, 4)] id, 1, 4, _, by decide, by decide, rfl, by decide⟩,
   ⟨ready, 3, 8, _, by decide, by decide, rfl, by decide⟩,
   ⟨ready, 4, 8, by decide, by decide⟩,
   ⟨2, 8, by decide⟩,
   ⟨ready, _, rfl⟩,
   ⟨made [] fun d => { d with host := { outside := true } }, by decide⟩,
   ⟨ready, by decide⟩,
   ⟨ready, ⟨by decide, by decide⟩⟩,
   ⟨made [(F.DRONE_START_STATUS_STATE, 0), (F.DRONE_START_STATUS_STEP, 6)] id, by decide⟩,
   ⟨made [(F.HOST_STATUS_LINK_UP, 1)] fun d => { d with host := { cacheEn := true } }, by decide, by decide⟩,
   ⟨made [(F.HOST_STATUS_LINK_UP, 1)] fun d => { d with host := { d2h := [⟨0, 5, true⟩] } }, 5, by decide, by decide⟩,
   ⟨ready, 0, 2 ^ 43, by decide, by decide, by decide⟩,
   ⟨ready, 0, 0, 1, by decide, by decide, by decide⟩,
   ⟨ready, [1, 0, 2] ++ zeroBytes 5, by decide, by decide⟩,
   ⟨[1, 0, 0], by decide⟩,
   ⟨made [(F.HOST_STATUS_IDE_LINK, 1)] id, 2, by decide⟩⟩

set_option maxRecDepth 100000 in
/-- The hypotheses of HostMemory hold together, clause by clause. -/
theorem wit_HostMemory :
    (∃ (s : State), ∃ (a m : Nat), s.seen.hdmHit a = true ∧ m < 2 ^ 64) ∧
    (∃ (s : State), ∃ (a m : Nat), ∃ (x : Bytes), ∃ (i : Instr), s.seen.hdmHit a = false ∧ (i = .memRd a ∨ i = .memWr a x ∨ i = .memWrPtl a m x ∨ i = .memInv a)) ∧
    (∃ (d : Device), ∃ (q : HostReq), ∃ (o n r l : Nat), ∃ (p : Nat × Nat × Nat), o = (q.hpa - d.host.hdmBase) / 64 * 64 ∧ d.ideBlocked = false ∧ ((∀ b ∈ d.host.bi, b.1 ≠ o / 64)) ∧ d.hdmRow o = some (n, r, l) ∧ d.hostLoc n r = some p ∧ q.kind = 0) ∧
    (∃ (d : Device), ∃ (q : HostReq), ∃ (o n r l : Nat), ∃ (p : Nat × Nat × Nat), o = (q.hpa - d.host.hdmBase) / 64 * 64 ∧ d.ideBlocked = false ∧ ((∀ b ∈ d.host.bi, b.1 ≠ o / 64)) ∧ d.hdmRow o = some (n, r, l) ∧ d.hostLoc n r = some p ∧ (q.kind = 1 ∨ q.kind = 2)) ∧
    (∃ (d : Device), ∃ (q : HostReq), ∃ (o n r l : Nat), ∃ (p : Nat × Nat × Nat), o = (q.hpa - d.host.hdmBase) / 64 * 64 ∧ d.ideBlocked = false ∧ ((∀ b ∈ d.host.bi, b.1 ≠ o / 64)) ∧ d.hdmRow o = some (n, r, l) ∧ d.hostLoc n r = some p ∧ q.kind = 3) ∧
    (∃ (d : Device), ∃ (q : HostReq), ∃ (o : Nat), o = (q.hpa - d.host.hdmBase) / 64 * 64 ∧ d.ideBlocked = true) ∧
    (∃ (d : Device), ∃ (q : HostReq), ∃ (o : Nat), o = (q.hpa - d.host.hdmBase) / 64 * 64 ∧ d.ideBlocked = false ∧ ((∃ b ∈ d.host.bi, b.1 = o / 64))) ∧
    (∃ (d : Device), ∃ (q : HostReq), ∃ (o : Nat), o = (q.hpa - d.host.hdmBase) / 64 * 64 ∧ d.ideBlocked = false ∧ ((∀ b ∈ d.host.bi, b.1 ≠ o / 64)) ∧ d.hdmRow o = none) ∧
    (∃ (d : Device), ∃ (n r : Nat), d.fenced n r = true) ∧
    (∃ (d : Device), ∃ (n r : Nat), ∃ (p : Nat × Nat × Nat), d.fenced n r = false ∧ p.1 ≠ 0) ∧
    (∃ (s : State), ∃ (l n : Nat), (s.seen.host.bi.find? (·.1 = l)) = some (l, n) ∧ n < 2) ∧
    (∃ (s : State), ∃ (l n : Nat), (s.seen.host.bi.find? (·.1 = l)) = some (l, n) ∧ 2 ≤ n) :=
  ⟨⟨made [(F.HOST_STATUS_LINK_UP, 1), (F.HOST_STATUS_HDM_COMMITTED, 1)] fun d => { d with host := { memEn := true, hdmSize := 2 ^ 28 } }, 2 ^ 28 - 64, 2 ^ 64 - 1, by decide, by decide⟩,
   ⟨ready, 0, 0, [], .memInv 0, by decide, by decide⟩,
   ⟨(made [] fun d => { d with sparse := { tables := [(0, { on := true, desc := tableDesc })] }, tier := { objs := [(0, { live := true, kind := 1, recLines := 1, size := 4, hdmRows := 4 })] } }).dev, ⟨0, 64, 0, []⟩, 64, 0, 1, 0, (0, 0, 0), by decide, by decide, by decide, by decide, by decide, by decide⟩,
   ⟨(made [] fun d => { d with sparse := { tables := [(0, { on := true, desc := tableDesc })] }, tier := { objs := [(0, { live := true, kind := 1, recLines := 1, size := 4, hdmRows := 4 })] } }).dev, ⟨2, 64, 0, []⟩, 64, 0, 1, 0, (0, 0, 0), by decide, by decide, by decide, by decide, by decide, by decide⟩,
   ⟨(made [] fun d => { d with sparse := { tables := [(0, { on := true, desc := tableDesc })] }, tier := { objs := [(0, { live := true, kind := 1, recLines := 1, size := 4, hdmRows := 4 })] } }).dev, ⟨3, 64, 0, []⟩, 64, 0, 1, 0, (0, 0, 0), by decide, by decide, by decide, by decide, by decide, by decide⟩,
   ⟨(made [(F.HOST_IDE_POLICY_REQUIRE, 1)] id).dev, ⟨0, 64, 0, []⟩, 64, by decide, by decide⟩,
   ⟨{ host := { bi := [(1, 1)] } }, ⟨1, 64, 0, []⟩, 64, by decide, by decide, by decide⟩,
   ⟨{}, ⟨0, 64, 0, []⟩, 64, by decide, by decide, by decide, by decide⟩,
   ⟨{ spine := { fence := [(0, 1)] } }, 0, 1, by decide⟩,
   ⟨{}, 0, 1, (1, 0, 0), by decide, by decide⟩,
   ⟨made [] fun d => { d with host := { bi := [(7, 1)] } }, 7, 1, by decide, by decide⟩,
   ⟨made [] fun d => { d with host := { bi := [(7, 2)] } }, 7, 2, by decide, by decide⟩⟩

set_option maxRecDepth 100000 in
/-- The hypotheses of MailboxCommands hold together, clause by clause. -/
theorem wit_MailboxCommands :
    (∃ (s : State), ∃ (value : Nat), s.calls value 1 ∧ bits value 24 16 = 0) ∧
    (∃ (s : State), ∃ (value : Nat), s.calls value 1 ∧ ¬(bits value 24 16 = 0)) ∧
    (∃ (s : State), ∃ (value : Nat), s.calls value 0x20 ∧ bits value 24 16 = 16) ∧
    (∃ (s : State), ∃ (value : Nat), s.calls value 0x20 ∧ ¬(bits value 24 16 = 16)) ∧
    (∃ (s : State), ∃ (value : Nat), s.calls value 0x21 ∧ bits value 24 16 = 0) ∧
    (∃ (s : State), ∃ (value : Nat), s.calls value 0x21 ∧ ¬(bits value 24 16 = 0)) ∧
    (∃ (s : State), ∃ (value : Nat), s.calls value 0x30 ∧ bits value 24 16 = 16) ∧
    (∃ (s : State), ∃ (value : Nat), s.calls value 0x30 ∧ ¬(bits value 24 16 = 16)) ∧
    (∃ (s : State), ∃ (value : Nat), s.calls value 0x40 ∧ s.seen.mboxSub ≠ 1 ∧ (1 ≤ bits value 24 16 ∧ bits value 24 16 ≤ 256)) ∧
    (∃ (s : State), ∃ (value : Nat), s.calls value 0x40 ∧ s.seen.mboxSub ≠ 1 ∧ (¬(1 ≤ bits value 24 16 ∧ bits value 24 16 ≤ 256))) ∧
    (∃ (s : State), ∃ (value : Nat), s.calls value 0x40 ∧ s.seen.mboxSub = 1 ∧ (1 ≤ bits value 24 16 ∧ bits value 24 16 ≤ 256)) ∧
    (∃ (s : State), ∃ (value : Nat), s.calls value 0x40 ∧ s.seen.mboxSub = 1 ∧ (¬(1 ≤ bits value 24 16 ∧ bits value 24 16 ≤ 256))) ∧
    (∃ (s : State), ∃ (value : Nat), ∃ (w : List Host.Cell), ∃ (e : Device), s.calls value 0x41 ∧ e = s.seen.hostWrites w ∧ (s.seen.mboxSub = 0 ∨ 3 < s.seen.mboxSub) ∧ (16 ≤ bits value 24 16 ∧ bits value 24 16 ≤ 256)) ∧
    (∃ (s : State), ∃ (value : Nat), ∃ (w : List Host.Cell), ∃ (e : Device), s.calls value 0x41 ∧ e = s.seen.hostWrites w ∧ (s.seen.mboxSub = 0 ∨ 3 < s.seen.mboxSub) ∧ (¬(16 ≤ bits value 24 16 ∧ bits value 24 16 ≤ 256))) ∧
    (∃ (s : State), ∃ (value : Nat), ∃ (w : List Host.Cell), ∃ (e : Device), s.calls value 0x41 ∧ e = s.seen.hostWrites w ∧ e.mboxSub = 1 ∧ (16 ≤ bits value 24 16 ∧ bits value 24 16 ≤ 256)) ∧
    (∃ (s : State), ∃ (value : Nat), ∃ (w : List Host.Cell), ∃ (e : Device), s.calls value 0x41 ∧ e = s.seen.hostWrites w ∧ e.mboxSub = 1 ∧ (¬(16 ≤ bits value 24 16 ∧ bits value 24 16 ≤ 256))) ∧
    (∃ (s : State), ∃ (value : Nat), ∃ (w : List Host.Cell), ∃ (e : Device), s.calls value 0x41 ∧ e = s.seen.hostWrites w ∧ s.seen.mboxSub = 2 ∧ (2 ≤ bits value 24 16 ∧ bits value 24 16 ≤ 256)) ∧
    (∃ (s : State), ∃ (value : Nat), ∃ (w : List Host.Cell), ∃ (e : Device), s.calls value 0x41 ∧ e = s.seen.hostWrites w ∧ s.seen.mboxSub = 2 ∧ (¬(2 ≤ bits value 24 16 ∧ bits value 24 16 ≤ 256))) ∧
    (∃ (s : State), ∃ (value : Nat), ∃ (w : List Host.Cell), ∃ (e : Device), s.calls value 0x41 ∧ e = s.seen.hostWrites w ∧ s.seen.mboxSub = 3 ∧ (1 ≤ bits value 24 16 ∧ bits value 24 16 ≤ 256)) ∧
    (∃ (s : State), ∃ (value : Nat), ∃ (w : List Host.Cell), ∃ (e : Device), s.calls value 0x41 ∧ e = s.seen.hostWrites w ∧ s.seen.mboxSub = 3 ∧ (¬(1 ≤ bits value 24 16 ∧ bits value 24 16 ≤ 256))) ∧
    (∃ (s : State), ∃ (value : Nat), ∃ (p : Bytes), ∃ (t : Drone), s.calls value 0x10 ∧ p = s.seen.payload 16 ∧ t = s.drone ∧ ¬(bits value 24 16 = 16)) ∧
    (∃ (s : State), ∃ (value : Nat), ∃ (p : Bytes), ∃ (t : Drone), s.calls value 0x10 ∧ p = s.seen.payload 16 ∧ t = s.drone ∧ bits value 24 16 = 16 ∧ (zeros p 8 8 = false ∨ u64At p 0 % 1000000 ≠ 0)) ∧
    (∃ (s : State), ∃ (value : Nat), ∃ (p : Bytes), ∃ (t : Drone), s.calls value 0x10 ∧ p = s.seen.payload 16 ∧ t = s.drone ∧ bits value 24 16 = 16 ∧ zeros p 8 8 = true ∧ u64At p 0 % 1000000 = 0 ∧ t.isSet = true ∧ u64At p 0 < t.tick) ∧
    (∃ (s : State), ∃ (value : Nat), ∃ (p : Bytes), ∃ (t : Drone), s.calls value 0x10 ∧ p = s.seen.payload 16 ∧ t = s.drone ∧ bits value 24 16 = 16 ∧ zeros p 8 8 = true ∧ u64At p 0 % 1000000 = 0 ∧ ((t.isSet = false ∨ t.tick ≤ u64At p 0))) ∧
    (∃ (r : Nat), ∃ (out : Bytes), r < 256 ∧ out.length ≤ 256) ∧
    (∃ (s : State), ∃ (value op : Nat), s.reaches F.HOST_MBOX_CMD.key ∧ bit value 31 = true ∧ bits value 15 0 = op ∧ s.seen.flag F.HOST_MBOX_STATUS_BUSY = true) :=
  ⟨⟨ready, doorbell 1 0, ⟨by decide, by decide, ⟨by decide, by decide⟩, by decide⟩, by decide⟩,
   ⟨ready, doorbell 1 256, ⟨by decide, by decide, ⟨by decide, by decide⟩, by decide⟩, by decide⟩,
   ⟨ready, doorbell 0x20 16, ⟨by decide, by decide, ⟨by decide, by decide⟩, by decide⟩, by decide⟩,
   ⟨ready, doorbell 0x20 15, ⟨by decide, by decide, ⟨by decide, by decide⟩, by decide⟩, by decide⟩,
   ⟨ready, doorbell 0x21 0, ⟨by decide, by decide, ⟨by decide, by decide⟩, by decide⟩, by decide⟩,
   ⟨ready, doorbell 0x21 1, ⟨by decide, by decide, ⟨by decide, by decide⟩, by decide⟩, by decide⟩,
   ⟨ready, doorbell 0x30 16, ⟨by decide, by decide, ⟨by decide, by decide⟩, by decide⟩, by decide⟩,
   ⟨ready, doorbell 0x30 17, ⟨by decide, by decide, ⟨by decide, by decide⟩, by decide⟩, by decide⟩,
   ⟨ready, doorbell 0x40 1, ⟨by decide, by decide, ⟨by decide, by decide⟩, by decide⟩, by decide, by decide⟩,
   ⟨ready, doorbell 0x40 0, ⟨by decide, by decide, ⟨by decide, by decide⟩, by decide⟩, by decide, by decide⟩,
   ⟨made (mailed [1]) id, doorbell 0x40 256, ⟨by decide, by decide, ⟨by decide, by decide⟩, by decide⟩, by decide, by decide⟩,
   ⟨made (mailed [1]) id, doorbell 0x40 257, ⟨by decide, by decide, ⟨by decide, by decide⟩, by decide⟩, by decide, by decide⟩,
   ⟨ready, doorbell 0x41 16, [], _, ⟨by decide, by decide, ⟨by decide, by decide⟩, by decide⟩, rfl, by decide, by decide⟩,
   ⟨made (mailed [4]) id, doorbell 0x41 15, [], _, ⟨by decide, by decide, ⟨by decide, by decide⟩, by decide⟩, rfl, by decide, by decide⟩,
   ⟨made (mailed [1]) id, doorbell 0x41 256, [], _, ⟨by decide, by decide, ⟨by decide, by decide⟩, by decide⟩, rfl, by decide, by decide⟩,
   ⟨made (mailed [1]) id, doorbell 0x41 257, [], _, ⟨by decide, by decide, ⟨by decide, by decide⟩, by decide⟩, rfl, by decide, by decide⟩,
   ⟨made (mailed [2]) id, doorbell 0x41 2, [], _, ⟨by decide, by decide, ⟨by decide, by decide⟩, by decide⟩, rfl, by decide, by decide⟩,
   ⟨made (mailed [2]) id, doorbell 0x41 1, [], _, ⟨by decide, by decide, ⟨by decide, by decide⟩, by decide⟩, rfl, by decide, by decide⟩,
   ⟨made (mailed [3]) id, doorbell 0x41 1, [], _, ⟨by decide, by decide, ⟨by decide, by decide⟩, by decide⟩, rfl, by decide, by decide⟩,
   ⟨made (mailed [3]) id, doorbell 0x41 0, [], _, ⟨by decide, by decide, ⟨by decide, by decide⟩, by decide⟩, rfl, by decide, by decide⟩,
   ⟨ready, doorbell 0x10 15, _, _, ⟨by decide, by decide, ⟨by decide, by decide⟩, by decide⟩, rfl, rfl, by decide⟩,
   ⟨made (mailed [999999]) id, doorbell 0x10 16, _, _, ⟨by decide, by decide, ⟨by decide, by decide⟩, by decide⟩, rfl, rfl, by decide, by decide⟩,
   ⟨{ made (mailed [1000000]) id with drone := { tick := 1000001, isSet := true } }, doorbell 0x10 16, _, _, ⟨by decide, by decide, ⟨by decide, by decide⟩, by decide⟩, rfl, rfl, by decide, by decide, by decide, by decide, by decide⟩,
   ⟨{ made (mailed [1000000]) id with drone := { tick := 1000000, isSet := true } }, doorbell 0x10 16, _, _, ⟨by decide, by decide, ⟨by decide, by decide⟩, by decide⟩, rfl, rfl, by decide, by decide, by decide, by decide⟩,
   ⟨255, List.replicate 256 0, by decide, by decide⟩,
   ⟨made [(F.HOST_MBOX_STATUS_BUSY, 1)] id, doorbell 1 0, 1, ⟨by decide, by decide⟩, by decide, by decide, by decide⟩⟩

set_option maxRecDepth 100000 in
/-- The hypotheses of ProgramAndFirmwareLoads hold together, clause by clause. -/
theorem wit_ProgramAndFirmwareLoads :
    (∃ (d : Device), ∃ (b img : Bytes), ∃ (a len : Nat), ∃ (swap : Bool), b = d.payload 16 ∧ a = u64At b 0 ∧ len = u32At b 8 ∧ swap = (u8At b 0xC == 1) ∧ img = (d.d2hSend false a len).readKey len a ∧ (1 < u8At b 0xC ∨ zeros b 0xD 3 = false ∨ len % 64 ≠ 0)) ∧
    (∃ (d : Device), ∃ (b img : Bytes), ∃ (a len : Nat), ∃ (swap : Bool), b = d.payload 16 ∧ a = u64At b 0 ∧ len = u32At b 8 ∧ swap = (u8At b 0xC == 1) ∧ img = (d.d2hSend false a len).readKey len a ∧ u8At b 0xC ≤ 1 ∧ zeros b 0xD 3 = true ∧ len % 64 = 0 ∧ (d.domOn domSpine = false ∨ d.phase = .halted)) ∧
    (∃ (d : Device), ∃ (b img : Bytes), ∃ (a len : Nat), ∃ (swap : Bool), b = d.payload 16 ∧ a = u64At b 0 ∧ len = u32At b 8 ∧ swap = (u8At b 0xC == 1) ∧ img = (d.d2hSend false a len).readKey len a ∧ u8At b 0xC ≤ 1 ∧ zeros b 0xD 3 = true ∧ len % 64 = 0 ∧ swap = false ∧ ((d.phase ≠ .idle ∨ d.flag F.SPINE_CTL_RUN = true))) ∧
    (∃ (d : Device), ∃ (b img : Bytes), ∃ (a len : Nat), ∃ (swap : Bool), b = d.payload 16 ∧ a = u64At b 0 ∧ len = u32At b 8 ∧ swap = (u8At b 0xC == 1) ∧ img = (d.d2hSend false a len).readKey len a ∧ u8At b 0xC ≤ 1 ∧ zeros b 0xD 3 = true ∧ len % 64 = 0 ∧ d.domOn domSpine = true ∧ d.phase ≠ .halted ∧ ((swap = true ∨ (d.phase = .idle ∧ d.flag F.SPINE_CTL_RUN = false))) ∧ swap = true ∧ d.spine.swap.isSome = true) ∧
    (∃ (d : Device), ∃ (b img : Bytes), ∃ (a len : Nat), ∃ (swap : Bool), b = d.payload 16 ∧ a = u64At b 0 ∧ len = u32At b 8 ∧ swap = (u8At b 0xC == 1) ∧ img = (d.d2hSend false a len).readKey len a ∧ u8At b 0xC ≤ 1 ∧ zeros b 0xD 3 = true ∧ len % 64 = 0 ∧ d.domOn domSpine = true ∧ d.phase ≠ .halted ∧ ((swap = true ∨ (d.phase = .idle ∧ d.flag F.SPINE_CTL_RUN = false))) ∧ ((swap = false ∨ d.spine.swap = none)) ∧ (2 ^ 52 ≤ a ∨ d.inWindow a len = false)) ∧
    (∃ (d : Device), ∃ (fails : Bool), ∃ (b img : Bytes), ∃ (a len : Nat), ∃ (swap : Bool), b = d.payload 16 ∧ a = u64At b 0 ∧ len = u32At b 8 ∧ swap = (u8At b 0xC == 1) ∧ img = (d.d2hSend false a len).readKey len a ∧ u8At b 0xC ≤ 1 ∧ zeros b 0xD 3 = true ∧ len % 64 = 0 ∧ d.domOn domSpine = true ∧ d.phase ≠ .halted ∧ ((swap = true ∨ (d.phase = .idle ∧ d.flag F.SPINE_CTL_RUN = false))) ∧ ((swap = false ∨ d.spine.swap = none)) ∧ a < 2 ^ 52 ∧ d.inWindow a len = true ∧ fails = true) ∧
    (∃ (d : Device), ∃ (fails : Bool), ∃ (b img : Bytes), ∃ (a len : Nat), ∃ (swap : Bool), b = d.payload 16 ∧ a = u64At b 0 ∧ len = u32At b 8 ∧ swap = (u8At b 0xC == 1) ∧ img = (d.d2hSend false a len).readKey len a ∧ u8At b 0xC ≤ 1 ∧ zeros b 0xD 3 = true ∧ len % 64 = 0 ∧ d.domOn domSpine = true ∧ d.phase ≠ .halted ∧ ((swap = true ∨ (d.phase = .idle ∧ d.flag F.SPINE_CTL_RUN = false))) ∧ ((swap = false ∨ d.spine.swap = none)) ∧ a < 2 ^ 52 ∧ d.inWindow a len = true ∧ fails = false) ∧
    (∃ (perm : Perm), ∃ (img : Bytes), ∃ (len : Nat), verifyBlock perm img (imageDigest img len) = false) ∧
    (∃ (d : Device), ∃ (t : Nat), ∃ (p pkg : Bytes), ∃ (a len : Nat), p = d.payload 16 ∧ a = u64At p 0 ∧ len = u32At p 8 ∧ t = u8At p 12 ∧ pkg = (d.d2hSend false a len).readKey len a ∧ zeros p 13 3 = false) ∧
    (∃ (d : Device), ∃ (t : Nat), ∃ (p pkg : Bytes), ∃ (a len : Nat), p = d.payload 16 ∧ a = u64At p 0 ∧ len = u32At p 8 ∧ t = u8At p 12 ∧ pkg = (d.d2hSend false a len).readKey len a ∧ zeros p 13 3 = true ∧ d.phase = .halted) ∧
    (∃ (d : Device), ∃ (t : Nat), ∃ (p pkg : Bytes), ∃ (a len : Nat), p = d.payload 16 ∧ a = u64At p 0 ∧ len = u32At p 8 ∧ t = u8At p 12 ∧ pkg = (d.d2hSend false a len).readKey len a ∧ zeros p 13 3 = true ∧ d.phase ≠ .halted ∧ t = 15) ∧
    (∃ (d : Device), ∃ (t : Nat), ∃ (p pkg : Bytes), ∃ (a len : Nat), p = d.payload 16 ∧ a = u64At p 0 ∧ len = u32At p 8 ∧ t = u8At p 12 ∧ pkg = (d.d2hSend false a len).readKey len a ∧ zeros p 13 3 = true ∧ d.phase ≠ .halted ∧ 5 < t ∧ t ≠ 15) ∧
    (∃ (d : Device), ∃ (t : Nat), ∃ (p pkg : Bytes), ∃ (a len : Nat), p = d.payload 16 ∧ a = u64At p 0 ∧ len = u32At p 8 ∧ t = u8At p 12 ∧ pkg = (d.d2hSend false a len).readKey len a ∧ zeros p 13 3 = true ∧ d.phase ≠ .halted ∧ t ≤ 5 ∧ (2 ^ 52 ≤ a ∨ d.inWindow a len = false)) ∧
    (∃ (d : Device), ∃ (fails : Bool), ∃ (t : Nat), ∃ (p pkg : Bytes), ∃ (a len : Nat), p = d.payload 16 ∧ a = u64At p 0 ∧ len = u32At p 8 ∧ t = u8At p 12 ∧ pkg = (d.d2hSend false a len).readKey len a ∧ zeros p 13 3 = true ∧ d.phase ≠ .halted ∧ t ≤ 5 ∧ a < 2 ^ 52 ∧ d.inWindow a len = true ∧ fails = true) ∧
    (∃ (d : Device), ∃ (fails : Bool), ∃ (t : Nat), ∃ (p pkg : Bytes), ∃ (a len : Nat), p = d.payload 16 ∧ a = u64At p 0 ∧ len = u32At p 8 ∧ t = u8At p 12 ∧ pkg = (d.d2hSend false a len).readKey len a ∧ zeros p 13 3 = true ∧ d.phase ≠ .halted ∧ t ≤ 5 ∧ a < 2 ^ 52 ∧ d.inWindow a len = true ∧ fails = false) ∧
    (∃ (pkg : Bytes), ∃ (len t : Nat), packageWhole pkg len t = false) :=
  ⟨⟨(made (hostWindow ++ mailed [0, 0, 63]) id).dev, _, _, _, _, _, rfl, rfl, rfl, rfl, rfl, by decide⟩,
   ⟨(made (hostWindow ++ mailed [0, 0, 64]) fun d => { d with phase := .halted }).dev, _, _, _, _, _, rfl, rfl, rfl, rfl, rfl, by decide, by decide, by decide, by decide⟩,
   ⟨(made (hostWindow ++ mailed [0, 0, 64]) fun d => { d with phase := .commit }).dev, _, _, _, _, _, rfl, rfl, rfl, rfl, rfl, by decide, by decide, by decide, by decide, by decide⟩,
   ⟨(made (hostWindow ++ mailed [0, 0, 64, 1]) fun d => { d with phase := .commit, spine := { swap := some {} } }).dev, _, _, _, _, _, rfl, rfl, rfl, rfl, rfl, by decide, by decide, by decide, by decide, by decide, by decide, by decide, by decide⟩,
   ⟨(made (hostWindow ++ mailed [0, 1, 64, 1]) fun d => { d with phase := .commit }).dev, _, _, _, _, _, rfl, rfl, rfl, rfl, rfl, by decide, by decide, by decide, by decide, by decide, by decide, by decide, by decide⟩,
   ⟨(made (hostWindow ++ mailed [0, 0, 64, 1]) fun d => { d with phase := .commit }).dev, true, _, _, _, _, _, rfl, rfl, rfl, rfl, rfl, by decide, by decide, by decide, by decide, by decide, by decide, by decide, by decide, by decide, by decide⟩,
   ⟨(made (hostWindow ++ mailed [0, 0, 64]) id).dev, false, _, _, _, _, _, rfl, rfl, rfl, rfl, rfl, by decide, by decide, by decide, by decide, by decide, by decide, by decide, by decide, by decide, by decide⟩,
   ⟨{ revoked := 1 }, [], 64, by decide⟩,
   ⟨(made (hostWindow ++ mailed [0, 0, 64, 0x100]) id).dev, _, _, _, _, _, rfl, rfl, rfl, rfl, rfl, by decide⟩,
   ⟨(made (hostWindow ++ mailed [0, 0, 64]) fun d => { d with phase := .halted }).dev, _, _, _, _, _, rfl, rfl, rfl, rfl, rfl, by decide, by decide⟩,
   ⟨(made (hostWindow ++ mailed [0, 0, 64, 15]) id).dev, _, _, _, _, _, rfl, rfl, rfl, rfl, rfl, by decide, by decide, by decide⟩,
   ⟨(made (hostWindow ++ mailed [0, 0, 64, 6]) id).dev, _, _, _, _, _, rfl, rfl, rfl, rfl, rfl, by decide, by decide, by decide, by decide⟩,
   ⟨(made (hostWindow ++ mailed [0, 2 ^ 20, 64, 5]) id).dev, _, _, _, _, _, rfl, rfl, rfl, rfl, rfl, by decide, by decide, by decide, by decide⟩,
   ⟨(made (hostWindow ++ mailed [0, 0, 64, 5]) id).dev, true, _, _, _, _, _, rfl, rfl, rfl, rfl, rfl, by decide, by decide, by decide, by decide, by decide, by decide⟩,
   ⟨(made (hostWindow ++ mailed [0, 0, 64, 0]) id).dev, false, _, _, _, _, _, rfl, rfl, rfl, rfl, rfl, by decide, by decide, by decide, by decide, by decide, by decide⟩,
   ⟨[], 0, 0, by decide⟩⟩

set_option maxRecDepth 100000 in
/-- The hypotheses of CheckpointsAndRestores hold together, clause by clause. -/
theorem wit_CheckpointsAndRestores :
    (∃ (s : State), s.seen.baseRing = none) ∧
    (∃ (s : State), ∃ (r : Nat), s.seen.baseRing = some r ∧ s.seen.ringHeld r = true) ∧
    (∃ (s : State), ∃ (r : Nat), s.seen.baseRing = some r ∧ s.seen.ckpt.snap = [] ∧ s.seen.ringHeld r = false ∧ s.seen.ckpt.run = none) ∧
    (∃ (s : State), ∃ (r : Nat), ∃ g, s.seen.baseRing = some r ∧ s.seen.ckpt.snap = [] ∧ s.seen.ringHeld r = false ∧ s.seen.ckpt.run = some g ∧ g.whole = true) ∧
    (∃ (s : State), ∃ (r : Nat), ∃ g, s.seen.baseRing = some r ∧ s.seen.ckpt.snap = [] ∧ s.seen.ringHeld r = false ∧ s.seen.ckpt.run = some g ∧ g.whole = false) ∧
    (∃ (s : State), ∃ (r : Nat), ∃ x, ∃ l, ∃ e, s.seen.baseRing = some r ∧ s.seen.ckpt.snap = x :: l ∧ s.seen.ringHeld r = false ∧ e = (s.seen.setSnap l).produceOrWait r x.2) ∧
    (∃ (d : Device), ∃ (value : Nat), zerosFrom 1 (d.mboxIn value) = false) ∧
    (∃ (d : Device), ∃ (value : Nat), zerosFrom 1 (d.mboxIn value) = true ∧ d.domOn domSpine = false) ∧
    (∃ (d : Device), ∃ (value : Nat), zerosFrom 1 (d.mboxIn value) = true ∧ d.domOn domSpine = true) ∧
    (∃ (d : Device), ∃ (b : Bytes), d.mboxSub = 0 ∧ zeros b 1 7 = true ∧ zerosFrom 16 b = true ∧ d.restoreMay = false) ∧
    (∃ (d : Device), ∃ (b : Bytes), d.mboxSub = 0 ∧ zeros b 1 7 = true ∧ zerosFrom 16 b = true ∧ d.restoreMay = true) ∧
    (∃ (d : Device), ∃ (b : Bytes), ∃ (r : Restore), u8At b 1 ≤ 1 ∧ zerosFrom 2 b = true ∧ d.ckpt.restore = some r ∧ r.bad = false ∧ r.complete = false) ∧
    (∃ (d : Device), ∃ (b : Bytes), ∃ (r : Restore), u8At b 1 ≤ 1 ∧ zerosFrom 2 b = true ∧ d.ckpt.restore = some r ∧ r.bad = false ∧ r.complete = true) ∧
    (∃ (d : Device), ∃ (b : Bytes), ∃ (r : Restore), u8At b 1 ≤ 1 ∧ u16At b 2 ≤ 4095 ∧ zerosFrom 16 b = true ∧ d.ckpt.restore = some r ∧ r.bad = false ∧ d.inWindow (u64At b 8) (64 * u32At b 4) = false) ∧
    (∃ (d : Device), ∃ (b : Bytes), ∃ (r : Restore), u8At b 1 ≤ 1 ∧ u16At b 2 ≤ 4095 ∧ zerosFrom 16 b = true ∧ d.ckpt.restore = some r ∧ r.bad = false ∧ d.inWindow (u64At b 8) (64 * u32At b 4) = true ∧ u8At b 1 = 0 ∧ r.delta = true) ∧
    (∃ (d : Device), ∃ (b : Bytes), ∃ (r : Restore), u8At b 1 ≤ 1 ∧ u16At b 2 ≤ 4095 ∧ zerosFrom 16 b = true ∧ d.ckpt.restore = some r ∧ r.bad = false ∧ d.inWindow (u64At b 8) (64 * u32At b 4) = true ∧ (u8At b 1 = 1 ∨ r.delta = false)) ∧
    (∃ (d : Device), ∃ (b : Bytes), d.ckpt.restore = none ∧ u8At b 1 ≤ 1 ∧ zerosFrom 2 b = true) ∧
    (∃ (d : Device), ∃ (b : Bytes), d.ckpt.restore = none ∧ zerosFrom 1 b = true) ∧
    (∃ (d : Device), ∃ (b : Bytes), d.ckpt.restore.isSome = true ∧ zerosFrom 1 b = true) :=
  ⟨⟨ready, by decide⟩,
   ⟨made [(F.CKPT_CFG_BASE_RING, 9), (F.RING_CFG_TYPE 9, 7), (F.RING_CTL_ENABLE 9, 1)] fun d => { d with ckpt := {  }, rings := [(9, { waiting := [[]] })] }, 9, by decide, by decide⟩,
   ⟨made [(F.CKPT_CFG_BASE_RING, 9), (F.RING_CFG_TYPE 9, 7), (F.RING_CTL_ENABLE 9, 1)] fun d => { d with ckpt := {  } }, 9, by decide, by decide, by decide, by decide⟩,
   ⟨made [(F.CKPT_CFG_BASE_RING, 9), (F.RING_CFG_TYPE 9, 7), (F.RING_CTL_ENABLE 9, 1)] fun d => { d with ckpt := { run := some { gen := 1, began := 0, interval := 0, lines := 0, whole := true } } }, 9, { gen := 1, began := 0, interval := 0, lines := 0, whole := true }, by decide, by decide, by decide, by decide, by decide⟩,
   ⟨made [(F.CKPT_CFG_BASE_RING, 9), (F.RING_CFG_TYPE 9, 7), (F.RING_CTL_ENABLE 9, 1)] fun d => { d with ckpt := { run := some { gen := 1, began := 0, interval := 0, lines := 0 } } }, 9, { gen := 1, began := 0, interval := 0, lines := 0 }, by decide, by decide, by decide, by decide, by decide⟩,
   ⟨made [(F.CKPT_CFG_BASE_RING, 9), (F.RING_CFG_TYPE 9, 7), (F.RING_CTL_ENABLE 9, 1)] fun d => { d with ckpt := { snap := [(true, [])] } }, 9, (true, []), [], _, by decide, by decide, by decide, rfl⟩,
   ⟨(made (mailed [0x101]) id).dev, doorbell 0x40 2, by decide⟩,
   ⟨(made (mailed [1]) fun d => d.wr (F.PWR_DOM_STATE_STATE domSpine) 0).dev, doorbell 0x40 1, by decide, by decide⟩,
   ⟨(made (mailed [1]) id).dev, doorbell 0x40 256, by decide, by decide⟩,
   ⟨{ ready.dev with phase := .compute }, zeroBytes 16, by decide, by decide, by decide, by decide⟩,
   ⟨(made [(F.SPINE_STATUS_MODE, 1)] fun d => { d with spine := { prog := some {} } }).dev, zeroBytes 16, by decide, by decide, by decide, by decide⟩,
   ⟨{ ready.dev with ckpt := { restore := some { resume := 5, began := 0, delta := false } } }, [2, 1], { resume := 5, began := 0, delta := false }, by decide, by decide, by decide, by decide, by decide⟩,
   ⟨{ ready.dev with ckpt := { restore := some { resume := 5, began := 0, scale := some (16, 0), srcs := [{ rank := 0, begun := true, endStep := some 5, reached := true }] } } }, [2, 0], { resume := 5, began := 0, scale := some (16, 0), srcs := [{ rank := 0, begun := true, endStep := some 5, reached := true }] }, by decide, by decide, by decide, by decide, by decide⟩,
   ⟨{ ready.dev with ckpt := { restore := some { resume := 5, began := 0, delta := false } } }, [1, 1, 0xFF, 0xF] ++ leBytes 12 1, { resume := 5, began := 0, delta := false }, by decide, by decide, by decide, by decide, by decide, by decide⟩,
   ⟨{ { ready.dev with ckpt := { restore := some { resume := 5, began := 0, delta := true } } } with regs := (made hostWindow id).dev.regs }, [1, 0, 0, 0] ++ leBytes 12 1, { resume := 5, began := 0, delta := true }, by decide, by decide, by decide, by decide, by decide, by decide, by decide, by decide⟩,
   ⟨{ { ready.dev with ckpt := { restore := some { resume := 5, began := 0, delta := true } } } with regs := (made hostWindow id).dev.regs }, [1, 1, 0, 0] ++ leBytes 12 1, { resume := 5, began := 0, delta := true }, by decide, by decide, by decide, by decide, by decide, by decide, by decide⟩,
   ⟨{}, [2, 1], by decide, by decide, by decide⟩,
   ⟨{}, [3], by decide, by decide⟩,
   ⟨{ ready.dev with ckpt := { restore := some { resume := 5, began := 0, delta := false } } }, [3], by decide, by decide⟩⟩

set_option maxRecDepth 100000 in
/-- The hypotheses of PowerDomains hold together, clause by clause. -/
theorem wit_PowerDomains :
    (∃ (s : State), s.reaches offDomCtl) ∧
    (∃ (d : Device), ∃ (n : Nat), (d.railFailed n = true ∨ d.pwr.tripped = true)) ∧
    (∃ (d : Device), ∃ (n : Nat), d.railFailed n = false ∧ d.pwr.tripped = false ∧ 2 ≤ n ∧ n < 20 ∧ ((d.setEn n true).wr (F.PWR_DOM_STATE_PENDING_DISABLE n) 0).domState n = 3) ∧
    (∃ (d : Device), ∃ (n : Nat), d.disableRefused n = true) ∧
    (∃ (d e : Device), ∃ (n : Nat), d.disableRefused n = false ∧ e = (d.setEn n false).wr (F.PWR_DOM_STATE_PENDING_ENABLE n) 0 ∧ e.domState n = 1) ∧
    (∃ (d e : Device), ∃ (n : Nat), d.disableRefused n = false ∧ e = (d.setEn n false).wr (F.PWR_DOM_STATE_PENDING_ENABLE n) 0 ∧ e.domState n ≠ 1) ∧
    (∃ (s : State), ∃ (n : Nat), 2 ≤ n ∧ n < 20 ∧ s.seen.domState n = 1) ∧
    (∃ (s : State), ∃ (n : Nat), 2 ≤ n ∧ n < 20 ∧ s.seen.domState n ≠ 1) ∧
    (∃ (d e : Device), ∃ (n : Nat), ∃ (bad : List (Nat × Nat)), e = (((d.wr (F.PWR_DOM_STATE_STATE n) 2).startTasks n bad).wr { F.PWR_STATUS_ON with lo := n, w := 1 } 1).raise F.PWR_INT_STATUS_DOM_CHANGE ∧ e.flag (F.PWR_DOM_STATE_PENDING_DISABLE n) = true) ∧
    (∃ (d e : Device), ∃ (n : Nat), ∃ (bad : List (Nat × Nat)), e = (((d.wr (F.PWR_DOM_STATE_STATE n) 2).startTasks n bad).wr { F.PWR_STATUS_ON with lo := n, w := 1 } 1).raise F.PWR_INT_STATUS_DOM_CHANGE ∧ e.flag (F.PWR_DOM_STATE_PENDING_DISABLE n) = false) ∧
    (∃ (s : State), ∃ (n : Nat), 2 ≤ n ∧ n < 20 ∧ s.seen.domState n = 3 ∧ s.seen.groupBusy n = false) ∧
    (∃ (s : State), ∃ (n : Nat), 2 ≤ n ∧ n < 20 ∧ (s.seen.domState n ≠ 3 ∨ s.seen.groupBusy n = true)) ∧
    (∃ (s : State), ∃ (n : Nat), 2 ≤ n ∧ n < 20 ∧ n < 10 ∧ s.seen.domState n = 3) :=
  ⟨⟨ready, ⟨by decide, by decide⟩⟩,
   ⟨{ pwr := { tripped := true } }, 19, by decide⟩,
   ⟨(made [(F.PWR_DOM_STATE_STATE 2, 3)] id).dev, 2, by decide, by decide, by decide, by decide, by decide⟩,
   ⟨ready.dev, 19, by decide⟩,
   ⟨(made [(F.PWR_DOM_STATE_STATE 2, 1)] id).dev, _, 2, by decide, rfl, by decide⟩,
   ⟨ready.dev, _, 18, by decide, rfl, by decide⟩,
   ⟨made [(F.PWR_DOM_STATE_STATE 2, 1)] id, 2, by decide, by decide, by decide⟩,
   ⟨ready, 19, by decide, by decide, by decide⟩,
   ⟨(made [(F.PWR_DOM_STATE_STATE 14, 1), (F.PWR_DOM_STATE_PENDING_DISABLE 14, 1)] id).dev, _, 14, [], rfl, by decide⟩,
   ⟨(made [(F.PWR_DOM_STATE_STATE 14, 1)] id).dev, _, 14, [], rfl, by decide⟩,
   ⟨made [(F.PWR_DOM_STATE_STATE 19, 3)] id, 19, by decide, by decide, by decide, by decide⟩,
   ⟨ready, 2, by decide, by decide, by decide⟩,
   ⟨made [(F.PWR_DOM_STATE_STATE 9, 3)] id, 9, by decide, by decide, by decide, by decide⟩⟩

set_option maxRecDepth 100000 in
/-- The hypotheses of PowerRails hold together, clause by clause. -/
theorem wit_PowerRails :
    (∃ (s : State), ∃ (r : Nat), r < 9 ∧ s.seen.railSt r = 1 ∧ r ∉ s.seen.pwr.retryWait ∧ s.seen.pgTried r = 0) ∧
    (∃ (s : State), ∃ (r : Nat), r < 9 ∧ s.seen.railSt r = 1 ∧ r ∉ s.seen.pwr.retryWait ∧ s.seen.pgTried r ≠ 0) ∧
    (∃ (s : State), ∃ (r : Nat), r < 9 ∧ s.seen.railSt r = 1 ∧ r ∈ s.seen.pwr.retryWait) ∧
    (∃ (s : State), ∃ (r : Nat), r < 9 ∧ (s.seen.railSt r = 2 ∨ s.seen.railSt r = 3 ∨ s.seen.railSt r = 4)) ∧
    (∃ (s : State), ∃ (r : Nat), r < 9 ∧ s.seen.railSt r = 4 ∧ s.seen.lowersNext r = true) ∧
    (∃ (s : State), ∃ (r : Nat), r < 9 ∧ s.seen.railSt r = 4 ∧ s.seen.lowersNext r = false) ∧
    (∃ (s : State), ∃ (r v : Nat), ∃ (d : Device), r < 9 ∧ s.reaches (F.PWR_RAIL_TGT_MV r).key ∧ d = s.seen.wr (F.PWR_RAIL_TGT_MV r) v ∧ d.railSt r = 3) ∧
    (∃ (s : State), ∃ (r v : Nat), ∃ (d : Device), r < 9 ∧ s.reaches (F.PWR_RAIL_TGT_MV r).key ∧ d = s.seen.wr (F.PWR_RAIL_TGT_MV r) v ∧ d.railSt r ≠ 3) ∧
    (∃ (s : State), ∃ (b : Nat), s.seen.avsQueue b = []) ∧
    (∃ (s : State), ∃ (b : Nat), ∃ x, ∃ l, ∃ d, s.seen.avsQueue b = x :: l ∧ d = s.seen.emit (.avsStatus b)) ∧
    (∃ (d : Device), ∃ (b : Nat), ∃ (x : AvsReq), ∃ (l : List AvsReq), d.avsQueue b = x :: l ∧ x.tries = 0) ∧
    (∃ (d : Device), ∃ (b : Nat), ∃ (x : AvsReq), ∃ (l : List AvsReq), d.avsQueue b = x :: l ∧ x.tries ≠ 0) ∧
    (∃ (d : Device), ∃ (r mv lo hi : Nat), ∃ x, lo = d.rd (F.PWR_RAIL_WIN_MIN_MV r) ∧ hi = d.rd (F.PWR_RAIL_WIN_MAX_MV r) ∧ lo ≤ hi ∧ x ∈ (d.avsRequest r mv).avsQueue (railBus r)) :=
  ⟨⟨made [(F.PWR_RAIL_STATUS_STATE 8, 1)] id, 8, by decide, by decide, by decide, by decide⟩,
   ⟨made [(F.PWR_RAIL_STATUS_STATE 0, 1)] fun d => { d with pwr := { pgTries := [(0, 1)] } }, 0, by decide, by decide, by decide, by decide⟩,
   ⟨made [(F.PWR_RAIL_STATUS_STATE 8, 1)] fun d => { d with pwr := { retryWait := [8] } }, 8, by decide, by decide, by decide⟩,
   ⟨made [(F.PWR_RAIL_STATUS_STATE 0, 2)] id, 0, by decide, by decide⟩,
   ⟨made [(F.PWR_RAIL_STATUS_STATE 0, 4)] id, 0, by decide, by decide, by decide⟩,
   ⟨made ((List.range 9).map fun r => (F.PWR_RAIL_STATUS_STATE r, 4)) id, 8, by decide, by decide, by decide⟩,
   ⟨made [(F.PWR_RAIL_STATUS_STATE 8, 3)] id, 8, 0xFFFF, _, by decide, ⟨by decide, by decide⟩, rfl, by decide⟩,
   ⟨ready, 0, 0, _, by decide, ⟨by decide, by decide⟩, rfl, by decide⟩,
   ⟨ready, 1, by decide⟩,
   ⟨made [] fun d => { d with pwr := { avs := [(0, [⟨0, 700, 0⟩])] } }, 0, _, _, _, rfl, rfl⟩,
   ⟨{ pwr := { avs := [(0, [⟨0, 700, 0⟩])] } }, 0, ⟨0, 700, 0⟩, _, rfl, by decide⟩,
   ⟨{ pwr := { avs := [(1, [⟨8, 700, 1⟩])] } }, 1, ⟨8, 700, 1⟩, _, rfl, by decide⟩,
   ⟨{}, 0, 0, _, _, (({} : Device).avsRequest 0 0).avsQueue (railBus 0) |>.headD ⟨0, 0, 0⟩, rfl, rfl, by decide, by decide⟩⟩

set_option maxRecDepth 100000 in
/-- The hypotheses of StandbyBudgetClamp hold together, clause by clause. -/
theorem wit_StandbyBudgetClamp :
    (∃ (s : State), s.reaches F.PWR_CTL_STANDBY.key ∧ s.seen.phase ≠ .idle) ∧
    (∃ (s : State), ∃ (d : Device), s.reaches F.PWR_CTL_STANDBY.key ∧ s.seen.phase = .idle ∧ d = (s.seen.wr F.PWR_CTL_STANDBY 1).wr F.PWR_DOM_CTL_EN 3) ∧
    (∃ (s : State), ∃ (d : Device), ∃ (set : List Nat), d = (s.seen.wr F.PWR_STATUS_STANDBY 0).raise F.PWR_INT_STATUS_WAKE ∧ set = (switchable.filter fun n => bit (s.seen.rd F.PWR_WAKE_SET) n) ∧ s.seen.flag F.PWR_STATUS_STANDBY = true ∧ s.seen.alarmDue = true) ∧
    (∃ (s : State), ∃ (d : Device), ∃ (set : List Nat), d = (s.seen.wr F.PWR_STATUS_STANDBY 0).raise F.PWR_INT_STATUS_WAKE ∧ set = (switchable.filter fun n => bit (s.seen.rd F.PWR_WAKE_SET) n) ∧ s.seen.alarmDue = false) ∧
    (∃ (s : State), ∃ (d : Device), ∃ (set : List Nat), d = (s.seen.wr F.PWR_STATUS_STANDBY 0).raise F.PWR_INT_STATUS_WAKE ∧ set = (switchable.filter fun n => bit (s.seen.rd F.PWR_WAKE_SET) n) ∧ s.seen.flag F.PWR_STATUS_STANDBY = false ∧ s.seen.pwr.standbyReq = false) ∧
    (∃ (s : State), s.seen.pwr.bWindow = some (s.seen.now / 1000)) ∧
    (∃ (s : State), s.seen.pwr.bWindow ≠ some (s.seen.now / 1000)) ∧
    (∃ (cap : Nat), ∃ (ss : List Nat), overCap cap ss = true) ∧
    (∃ (p : Pwr), ∃ (cap : Nat), ∃ (ss : List Nat), overCap cap ss = false ∧ underCap cap ss = true ∧ 8 ≤ p.sinceChange + 1) ∧
    (∃ (p : Pwr), ∃ (cap : Nat), ∃ (ss : List Nat), overCap cap ss = false ∧ ((underCap cap ss = false ∨ p.sinceChange + 1 < 8))) ∧
    (∃ (p : Pwr), p.g ≤ 16) ∧
    (∃ (p : Pwr), ∃ (cap w : Nat), ∃ (ss : List Nat), (p.clamp cap w ss).stage2 = true) :=
  ⟨⟨inPhase .compute, ⟨by decide, by decide⟩, by decide⟩,
   ⟨ready, _, ⟨by decide, by decide⟩, by decide, rfl⟩,
   ⟨made [(F.PWR_STATUS_STANDBY, 1), (F.PWR_WAKE_ALARM_EN, 1)] id, _, _, rfl, rfl, by decide, by decide⟩,
   ⟨ready, _, _, rfl, rfl, by decide⟩,
   ⟨ready, _, _, rfl, rfl, by decide, by decide⟩,
   ⟨made [] fun d => { d with pwr := { bWindow := some 0 } }, by decide⟩,
   ⟨ready, by decide⟩,
   ⟨1, [10501], by decide⟩,
   ⟨{ sinceChange := 7 }, 1, [9999], by decide, by decide, by decide⟩,
   ⟨{}, 1, [10500], by decide, by decide⟩,
   ⟨{ g := 16 }, by decide⟩,
   ⟨{ stage2 := true, over16 := 5 }, 1, 0, [20000], by decide⟩⟩

set_option maxRecDepth 100000 in
/-- The hypotheses of ThermalProtection hold together, clause by clause. -/
theorem wit_ThermalProtection :
    (∃ (d : Device), ∃ (rs : List Int), ∃ (t : Int), t = rs.getD (hotSensor rs) 0 ∧ d.pwr.gTherm = 8) ∧
    (∃ (d : Device), ∃ (rs : List Int), ∃ (t : Int), t = rs.getD (hotSensor rs) 0 ∧ d.pwr.gTherm = 0) ∧
    (∃ (d : Device), ∃ (rs : List Int), ∃ (t : Int), t = rs.getD (hotSensor rs) 0 ∧ d.pwr.warn = false) ∧
    (∃ (d : Device), ∃ (rs : List Int), ∃ (t : Int), t = rs.getD (hotSensor rs) 0 ∧ d.pwr.warn = true) ∧
    (∃ (i : Nat), i < 32) ∧
    (∃ (s : State), ((s.seen.rd F.DRONE_START_STATUS_STATE = 1 → s.reaches F.PWR_CTL_TRIP_CLEAR.key)) ∧ s.seen.coolNow = false) ∧
    (∃ (s : State), ((s.seen.rd F.DRONE_START_STATUS_STATE = 1 → s.reaches F.PWR_CTL_TRIP_CLEAR.key)) ∧ s.seen.coolNow = true ∧ s.seen.rd F.DRONE_START_STATUS_STATE ≠ 0) ∧
    (∃ (s : State), ((s.seen.rd F.DRONE_START_STATUS_STATE = 1 → s.reaches F.PWR_CTL_TRIP_CLEAR.key)) ∧ s.seen.coolNow = true ∧ s.seen.rd F.DRONE_START_STATUS_STATE = 0) ∧
    (∃ (d : Device), ∃ e, e ∈ d.pwr.sensors) :=
  ⟨⟨{ pwr := { gTherm := 8 } }, List.replicate 32 (97 * 16), _, rfl, by decide⟩,
   ⟨{}, [], _, rfl, by decide⟩,
   ⟨{}, [], _, rfl, by decide⟩,
   ⟨{ pwr := { warn := true } }, List.replicate 32 (88 * 16), _, rfl, by decide⟩,
   ⟨31, by decide⟩,
   ⟨ready, fun _ => ⟨by decide, by decide⟩, by decide⟩,
   ⟨made [] fun d => { d with pwr := { tripped := true, sensors := [(31, 1439)] } }, fun _ => ⟨by decide, by decide⟩, by decide, by decide⟩,
   ⟨{ dev := { pwr := { tripped := true } } }, fun h => absurd h (by decide), by decide, by decide⟩,
   ⟨{ pwr := { sensors := [(0, 0)] } }, (0, 0), by decide⟩⟩

set_option maxRecDepth 100000 in
/-- The hypotheses of DroneTicks hold together, clause by clause. -/
theorem wit_DroneTicks :
    (∃ (s : State), s.dev.aonUp = false) ∧
    (∃ (s : State), s.dev.aonUp = true ∧ s.drone.lock ≠ 2) ∧
    (∃ (s : State), ∃ (b : Bool), ∃ (n : Nat), s.dev.aonUp = true ∧ s.drone.lock = 2 ∧ n = (if b then s.drone.good + 1 else 1) ∧ n < 16) ∧
    (∃ (s : State), ∃ (b : Bool), ∃ (n : Nat), s.dev.aonUp = true ∧ s.drone.lock = 2 ∧ n = (if b then s.drone.good + 1 else 1) ∧ 16 ≤ n) ∧
    (∃ (s : State), ∃ (m : Nat), ∃ (t : Drone), ∃ v, s.dev.aonUp = true ∧ s.drone.lock ≠ 2 ∧ t = s.drone.follow ∧ m = nearestEpoch t.tick ∧ s.drone.due = some v) ∧
    (∃ (s : State), ∃ (m : Nat), ∃ (t : Drone), s.dev.aonUp = true ∧ s.drone.lock ≠ 2 ∧ t = s.drone.follow ∧ m = nearestEpoch t.tick ∧ s.drone.due = none ∧ s.drone.isSet = false) ∧
    (∃ (s : State), ∃ (m : Nat), ∃ (t : Drone), s.dev.aonUp = true ∧ s.drone.lock ≠ 2 ∧ t = s.drone.follow ∧ m = nearestEpoch t.tick ∧ s.drone.due = none ∧ s.drone.isSet = true ∧ t.tick = m) ∧
    (∃ (s : State), ∃ (m : Nat), ∃ (t : Drone), s.dev.aonUp = true ∧ s.drone.lock ≠ 2 ∧ t = s.drone.follow ∧ m = nearestEpoch t.tick ∧ s.drone.due = none ∧ s.drone.isSet = true ∧ t.tick ≠ m) ∧
    (∃ (t : Drone), t.hold = 0) ∧
    (∃ (t : Drone), t.hold ≠ 0) ∧
    (∃ (t : Drone), t.isSet = false) ∧
    (∃ (t : Drone), t.isSet = true) ∧
    (∃ (t : Drone), ∃ (m : Nat), t.tick < m) ∧
    (∃ (t : Drone), ∃ (m : Nat), m < t.tick) :=
  ⟨⟨{ dev := { boot := { aonGood := false } } }, by decide⟩,
   ⟨ready, by decide, by decide⟩,
   ⟨{ ready with drone := { lock := 2, good := 14 } }, true, _, by decide, by decide, rfl, by decide⟩,
   ⟨{ ready with drone := { lock := 2, good := 15 } }, true, _, by decide, by decide, rfl, by decide⟩,
   ⟨{ ready with drone := { armed := some 1000000, tick := 999999 } }, _, _, 1000000, by decide, by decide, rfl, rfl, by decide⟩,
   ⟨ready, _, _, by decide, by decide, rfl, rfl, by decide, by decide⟩,
   ⟨{ ready with drone := { isSet := true, tick := 999999 } }, _, _, by decide, by decide, rfl, rfl, by decide, by decide, by decide⟩,
   ⟨{ ready with drone := { isSet := true, tick := 999997 } }, _, _, by decide, by decide, rfl, rfl, by decide, by decide, by decide⟩,
   ⟨{}, by decide⟩,
   ⟨{ hold := 1 }, by decide⟩,
   ⟨{}, by decide⟩,
   ⟨{ isSet := true }, by decide⟩,
   ⟨{ tick := 999999 }, 1000000, by decide⟩,
   ⟨{ tick := 1 }, 0, by decide⟩⟩

set_option maxRecDepth 100000 in
/-- The hypotheses of TickNeverFalls hold together, clause by clause. -/
theorem wit_TickNeverFalls :
    ∃ (c : Instr), ∃ (s t : State), ((∃ b, c = .droneTick b ∨ c = .epochMarker b) ∨ c = .droneEdgeTimeout ∨ c = .holdoverTick) ∧ s.drone.tick + 1 < 2 ^ 64 ∧ ((s.drone.isSet = true ∨ s.drone.due = none)) ∧ exec c s = .next t :=
  ⟨.droneTick false, ready, _, .inl ⟨false, .inl rfl⟩, by decide, by decide, rfl⟩

set_option maxRecDepth 100000 in
/-- The hypotheses of ResetsAndStartup hold together, clause by clause. -/
theorem wit_ResetsAndStartup :
    (∃ (s : State), s.dev.aonUp = true) ∧
    (∃ (s : State), s.dev.aonUp = false) ∧
    (∃ (s : State), s.dev.boot.aonGood = true) ∧
    (∃ (s : State), s.dev.boot.aonGood = false) ∧
    (∃ (c : Nat), ∃ (f : Fld), c < 8 ∧ f.key ≠ F.DRONE_RESET_CAUSE_CAUSE.key) ∧
    (∃ (c : Nat), ∃ k, c < 8 ∧ keptKey k = false) ∧
    (∃ (c : Nat), ∃ k, c < 8 ∧ keptKey k = true) ∧
    (∃ (s : State), s.seen.startDue = true) ∧
    (∃ (s : State), s.seen.startDue = false) ∧
    (∃ (d e : Device), ∃ (p : Perm), ∃ (b : BootRead), ∃ (img : Bytes), img = b.image.take (erienLen b.image) ∧ e = (((((d.startStep 2).wr F.SEC_STATUS_PUF_OK 1).putRegs F.SEC_IDENTITY_DATA (padTo 32 (Config.sha3 256 p.edPub))).startStep 3).wr F.DRONE_START_STATUS_SLOW_BOOT (b2n !b.sfdp)) ∧ p.seedOk = false) ∧
    (∃ (d e : Device), ∃ (p : Perm), ∃ (b : BootRead), ∃ (img : Bytes), img = b.image.take (erienLen b.image) ∧ e = (((((d.startStep 2).wr F.SEC_STATUS_PUF_OK 1).putRegs F.SEC_IDENTITY_DATA (padTo 32 (Config.sha3 256 p.edPub))).startStep 3).wr F.DRONE_START_STATUS_SLOW_BOOT (b2n !b.sfdp)) ∧ p.seedOk = true ∧ b.headerTry1 = false ∧ b.headerTry2 = false) ∧
    (∃ (d e : Device), ∃ (p : Perm), ∃ (b : BootRead), ∃ (img : Bytes), img = b.image.take (erienLen b.image) ∧ e = (((((d.startStep 2).wr F.SEC_STATUS_PUF_OK 1).putRegs F.SEC_IDENTITY_DATA (padTo 32 (Config.sha3 256 p.edPub))).startStep 3).wr F.DRONE_START_STATUS_SLOW_BOOT (b2n !b.sfdp)) ∧ p.seedOk = true ∧ (b.headerTry1 = true ∨ b.headerTry2 = true) ∧ erienHeader b.image = false) ∧
    (∃ (s : State), s.seen.readyDue = false) ∧
    (∃ (s : State), s.seen.readyDue = true ∧ s.seen.readyMay = false) ∧
    (∃ (s : State), s.seen.readyDue = true ∧ s.seen.readyMay = true) ∧
    (∃ (us : Nat), us < 2 ^ 32) :=
  ⟨⟨ready, by decide⟩,
   ⟨{ dev := { boot := { resetN := false } } }, by decide⟩,
   ⟨ready, by decide⟩,
   ⟨{ dev := { boot := { aonGood := false } } }, by decide⟩,
   ⟨7, F.SPINE_CTL_RUN, by decide, by decide⟩,
   ⟨0, 2 ^ 64, by decide, by decide⟩,
   ⟨0, 2 ^ 64 - 1, by decide, by decide⟩,
   ⟨made [(F.DRONE_START_STATUS_STATE, 0), (F.DRONE_START_STATUS_STEP, 1)] id, by decide⟩,
   ⟨ready, by decide⟩,
   ⟨{}, _, { seedOk := false }, ⟨true, true, true, []⟩, _, rfl, rfl, by decide⟩,
   ⟨{}, _, {}, ⟨false, false, true, []⟩, _, rfl, rfl, by decide, by decide, by decide⟩,
   ⟨{}, _, {}, ⟨false, true, false, []⟩, _, rfl, rfl, by decide, by decide, by decide⟩,
   ⟨ready, by decide⟩,
   ⟨made [(F.DRONE_START_STATUS_STATE, 0), (F.DRONE_START_STATUS_STEP, 6)] id, by decide, by decide⟩,
   ⟨made [(F.DRONE_START_STATUS_STATE, 0), (F.DRONE_START_STATUS_STEP, 6), (F.MEM_STATUS_STATE 23, 1)] id, by decide, by decide⟩,
   ⟨2 ^ 32 - 1, by decide⟩⟩

set_option maxRecDepth 100000 in
/-- The hypotheses of FaultPolicyAndRevocation hold together, clause by clause. -/
theorem wit_FaultPolicyAndRevocation :
    (∃ (s : State), s.dev.aonUp = false) ∧
    (∃ (s : State), s.dev.aonUp = true ∧ secondMismatch s.dev.mgmt.sinceMismatch = true) ∧
    (∃ (s : State), s.dev.aonUp = true ∧ secondMismatch s.dev.mgmt.sinceMismatch = false) ∧
    (∃ (s : State), ∃ (d : Device), ∃ (o : Option FaultEv), s.dev.aonUp = true ∧ d = s.seen.takeEvent.1 ∧ o = s.seen.takeEvent.2 ∧ o = none) ∧
    (∃ (s : State), ∃ (d : Device), ∃ (o : Option FaultEv), ∃ e, s.dev.aonUp = true ∧ d = s.seen.takeEvent.1 ∧ o = s.seen.takeEvent.2 ∧ o = some e ∧ d.policy e.cls = 0) ∧
    (∃ (s : State), ∃ (d : Device), ∃ (o : Option FaultEv), ∃ e, s.dev.aonUp = true ∧ d = s.seen.takeEvent.1 ∧ o = s.seen.takeEvent.2 ∧ o = some e ∧ d.policy e.cls = 1) ∧
    (∃ (s : State), ∃ (d : Device), ∃ (o : Option FaultEv), ∃ e, s.dev.aonUp = true ∧ d = s.seen.takeEvent.1 ∧ o = s.seen.takeEvent.2 ∧ o = some e ∧ d.policy e.cls = 2) ∧
    (∃ (s : State), ∃ (d : Device), ∃ (o : Option FaultEv), ∃ e, s.dev.aonUp = true ∧ d = s.seen.takeEvent.1 ∧ o = s.seen.takeEvent.2 ∧ o = some e ∧ d.policy e.cls = 3) ∧
    (∃ (d : Device), d.mgmt.evLost ≠ some 0 ∧ d.mgmt.evq = []) ∧
    (∃ (d : Device), ∃ e, ∃ q, d.mgmt.evLost ≠ some 0 ∧ d.mgmt.evq = e :: q) ∧
    (∃ (s : State), ∃ (k j : Nat), ∃ (d : Device), j = k % 4 ∧ d = s.seen.noteRevoke j ∧ s.seen.barOpen = false) ∧
    (∃ (s : State), ∃ (k j : Nat), ∃ (d : Device), j = k % 4 ∧ d = s.seen.noteRevoke j ∧ s.seen.barOpen = true ∧ s.revokes s.seen j = false) ∧
    (∃ (s : State), ∃ (k j : Nat), ∃ (d : Device), j = k % 4 ∧ d = s.seen.noteRevoke j ∧ s.seen.barOpen = true ∧ s.revokes s.seen j = true) :=
  ⟨⟨{ dev := { boot := { resetN := false } } }, by decide⟩,
   ⟨made [] fun d => { d with mgmt := { sinceMismatch := some 1000000 } }, by decide, by decide⟩,
   ⟨made [] fun d => { d with mgmt := { sinceMismatch := some 1000001 } }, by decide, by decide⟩,
   ⟨ready, _, _, by decide, rfl, rfl, by decide⟩,
   ⟨made [({ F.MGMT_POLICY (10 / 4) with lo := 8 * (10 % 4), w := 2 }, 0)] fun d => { d with mgmt := { evq := [⟨10, 0⟩] } }, _, _, ⟨10, 0⟩, by decide, rfl, rfl, by decide, by decide⟩,
   ⟨made [({ F.MGMT_POLICY (1 / 4) with lo := 8 * (1 % 4), w := 2 }, 1)] fun d => { d with mgmt := { evq := [⟨1, 0⟩] } }, _, _, ⟨1, 0⟩, by decide, rfl, rfl, by decide, by decide⟩,
   ⟨made [({ F.MGMT_POLICY (2 / 4) with lo := 8 * (2 % 4), w := 2 }, 2)] fun d => { d with mgmt := { evq := [⟨2, 0⟩] } }, _, _, ⟨2, 0⟩, by decide, rfl, rfl, by decide, by decide⟩,
   ⟨made [({ F.MGMT_POLICY (7 / 4) with lo := 8 * (7 % 4), w := 2 }, 3)] fun d => { d with mgmt := { evq := [⟨7, 0⟩] } }, _, _, ⟨7, 0⟩, by decide, rfl, rfl, by decide, by decide⟩,
   ⟨{}, by decide, by decide⟩,
   ⟨{ mgmt := { evq := [⟨1, 0⟩] } }, ⟨1, 0⟩, [], by decide, by decide⟩,
   ⟨{}, 7, _, _, rfl, rfl, by decide⟩,
   ⟨ready, 3, _, _, rfl, rfl, by decide, by decide⟩,
   ⟨made [(F.SEC_STATUS_KEY_SLOT, 1)] fun d => { d with mgmt := { lastRevoke := some (3, 0) } }, 3, _, _, rfl, rfl, by decide, by decide⟩⟩

set_option maxRecDepth 100000 in
/-- The hypotheses of TestWindowsAndSmbus hold together, clause by clause. -/
theorem wit_TestWindowsAndSmbus :
    (∃ (s : State), s.seen.testDue = true) ∧
    (∃ (s : State), s.seen.testDue = false) ∧
    (∃ (s : State), s.seen.flag F.TEST_STATUS_IN_WINDOW = true ∧ s.seen.mgmt.testLeft = 0) ∧
    (∃ (s : State), (s.seen.flag F.TEST_STATUS_IN_WINDOW = false ∨ s.seen.mgmt.testLeft ≠ 0)) ∧
    (∃ (s : State), s.seen.aonUp = true ∧ s.seen.flag F.MGMT_SMB_CFG_CAP_EN = true) ∧
    (∃ (s : State), s.seen.aonUp = true ∧ s.seen.flag F.MGMT_SMB_CFG_CAP_EN = false) ∧
    (∃ (s : State), s.seen.aonUp = true ∧ s.seen.flag F.MGMT_SMB_CFG_RESET_EN = true) ∧
    (∃ (s : State), ∃ (w : Nat), s.seen.aonUp = true ∧ (w ≠ 0xA55A ∨ s.seen.flag F.MGMT_SMB_CFG_RESET_EN = false)) ∧
    (∃ (s : State), ∃ (o w : Nat), ∃ (c : Instr), s.seen.aonUp = true ∧ ((c = .smbStatus false ∨ c = .readAon o false ∨ c = .smbWake false ∨ c = .smbStandby false ∨ c = .smbReset w false ∨ c = .setCap w false ∨ c = .smbLog false ∨ c = .smbIdentify false))) ∧
    (∃ (s : State), ∃ (b : Bool), ∃ (o w : Nat), ∃ (c : Instr), s.seen.aonUp = false ∧ ((c = .smbStatus b ∨ c = .readAon o b ∨ c = .smbWake b ∨ c = .smbStandby b ∨ c = .smbReset w b ∨ c = .setCap w b ∨ c = .smbLog b ∨ c = .smbIdentify b ∨ c = .alertResponse))) ∧
    (∃ (s : State), s.seen.aonUp = true ∧ s.seen.mgmt.alert = true) ∧
    (∃ (s : State), s.seen.aonUp = true ∧ s.seen.mgmt.alert = false) ∧
    (∃ (d : Device), ((∀ e ∈ d.mgmt.aonLog, e.2 = false))) :=
  ⟨⟨made [(F.TEST_CFG_ENABLE, 1)] id, by decide⟩,
   ⟨ready, by decide⟩,
   ⟨made [(F.TEST_STATUS_IN_WINDOW, 1)] id, by decide, by decide⟩,
   ⟨ready, by decide⟩,
   ⟨made [(F.MGMT_SMB_CFG_CAP_EN, 1)] id, by decide, by decide⟩,
   ⟨made [(F.MGMT_SMB_CFG_CAP_EN, 0)] id, by decide, by decide⟩,
   ⟨made [(F.MGMT_SMB_CFG_RESET_EN, 1)] id, by decide, by decide⟩,
   ⟨ready, 0xA559, by decide, by decide⟩,
   ⟨ready, 0, 0, .setCap 0 false, by decide, by decide⟩,
   ⟨{ dev := { boot := { aonGood := false } } }, true, 0, 0, .alertResponse, by decide, by decide⟩,
   ⟨made [] fun d => { d with mgmt := { alert := true } }, by decide, by decide⟩,
   ⟨ready, by decide, by decide⟩,
   ⟨{}, by decide⟩⟩

set_option maxRecDepth 100000 in
/-- The hypotheses of SealedMeasurement hold together, clause by clause. -/
theorem wit_SealedMeasurement :
    (∃ (s : State), s.smu.powered = true) ∧
    (∃ (s : State), s.smu.powered = false) ∧
    (∃ (s : State), s.dev.smuPath = []) ∧
    (∃ (s : State), ∃ x, ∃ r, s.dev.smuPath = x :: r ∧ s.smu.powered = true) ∧
    (∃ (s : State), s.smu.closeDue = true) ∧
    (∃ (s : State), s.smu.closeDue = false) ∧
    (∃ (s : State), s.smu.powered = true) ∧
    (∃ (s : State), ∃ (b : Bool), (s.smu.powered = false ∨ b = false)) ∧
    (∃ (m : Smu), m.slots ≠ []) ∧
    (∃ (m : Smu), ∃ (x : Nat), (m.lastStep = none ∨ m.lastStep = some (x - 1) ∧ 0 < x)) ∧
    (∃ (m : Smu), ∃ (x : Nat), ∃ l, m.lastStep = some l ∧ x ≠ l + 1) ∧
    (∃ (m : Smu), ∃ (h : Bytes), ∃ k, h = m.recordHead (m.flags + (if m.seq = 0 then 1 else 0)) (m.start + calInterval m.calSet * 32768) ∧ k ≠ m.seq % 240) ∧
    (∃ (m : Smu), ∃ (h : Bytes), ∃ n, h = m.recordHead (m.flags + (if m.seq = 0 then 1 else 0)) (m.start + calInterval m.calSet * 32768) ∧ n < 4) ∧
    (∃ (m : Smu), ∃ (h : Bytes), ∃ l, ∃ set, h = m.recordHead (m.flags + (if m.seq = 0 then 1 else 0)) (m.start + calInterval m.calSet * 32768) ∧ m.slots = l ++ [set]) ∧
    (∃ (m : Smu), m.powered = true ∧ m.sealOn = true ∧ m.slots.length < 64) ∧
    (∃ (m : Smu), ∃ (b : Bool), (m.powered = false ∨ b = false ∨ m.sealOn = false ∨ 64 ≤ m.slots.length)) ∧
    (∃ (m : Smu), m.sealOn = false ∧ m.powered = true) :=
  ⟨⟨{ ready with smu := { powered := true } }, by decide⟩,
   ⟨ready, by decide⟩,
   ⟨ready, by decide⟩,
   ⟨{ made [] fun d => { d with smuPath := [(1, true, 0)] } with smu := { powered := true } }, (1, true, 0), [], by decide, by decide⟩,
   ⟨{ ready with smu := { powered := true, uptime := 2 ^ 60 } }, by decide⟩,
   ⟨ready, by decide⟩,
   ⟨{ ready with smu := { powered := true } }, by decide⟩,
   ⟨ready, true, by decide⟩,
   ⟨{ slots := [[]] }, by decide⟩,
   ⟨{ lastStep := some 0 }, 1, by decide⟩,
   ⟨{ lastStep := some 5 }, 7, 5, by decide, by decide⟩,
   ⟨{ seq := 239 }, _, 0, rfl, by decide⟩,
   ⟨{}, _, 3, rfl, by decide⟩,
   ⟨{ slots := [[1], [2]] }, _, [[1]], [2], rfl, by decide⟩,
   ⟨{ powered := true, sealOn := true, slots := List.replicate 63 [] }, by decide, by decide, by decide⟩,
   ⟨{ slots := List.replicate 64 [] }, true, by decide⟩,
   ⟨{ powered := true }, by decide, by decide⟩⟩

set_option maxRecDepth 100000 in
/-- The hypotheses of CommandFrames hold together, clause by clause. -/
theorem wit_CommandFrames :
    ∃ (c : Instr), blowsFuse c = false ∧ ofSmu c = false ∧ movesTick c = false :=
  ⟨.nop 95, by decide, by decide, by decide⟩

set_option maxRecDepth 100000 in
/-- The hypotheses of FusesAndSlotsOnlyGrow hold together, clause by clause. -/
theorem wit_FusesAndSlotsOnlyGrow :
    ∃ (s t : State), ∃ (k : Nat), step s = .next t ∧ bit s.perm.revoked k = true :=
  ⟨{ perm := { revoked := 8 } }, _, 3, rfl, by decide⟩

set_option maxRecDepth 100000 in
/-- The hypotheses of InstructionWords hold together, clause by clause. -/
theorem wit_InstructionWords :
    (∃ (i : CoreInstr), i.fits = true) ∧
    (∃ (i : CoreInstr), ∃ (j : CoreInstr), i.fits = true ∧ j.fits = true ∧ encodeWord i = encodeWord j ∧ encodeWord1 i = encodeWord1 j) :=
  ⟨⟨.setc 1 0xFFFFFFFF, by decide⟩,
   ⟨.loop 65535 1, .loop 65535 1, by decide, by decide, by decide, by decide⟩⟩

set_option maxRecDepth 100000 in
/-- The hypotheses of CountersSaturate hold together, clause by clause. -/
theorem wit_CountersSaturate :
    (∃ (f : Fld), ∃ (g : Fld), f.lo + f.w ≤ 32 ∧ (g.key ≠ f.key ∨ g.lo + g.w ≤ f.lo ∨ f.lo + f.w ≤ g.lo)) ∧
    (∃ (f : Fld), f.lo = 0 ∧ f.w = 32) :=
  ⟨⟨F.HOST_LINK_DOWN_CNT_COUNT, F.SPINE_CTL_RUN, by decide, by decide⟩,
   ⟨F.CORE_UNITS_LO_UNITS 0, by decide, by decide⟩⟩

set_option maxRecDepth 100000 in
/-- The hypotheses of EventsAreNeverLost hold together, clause by clause. -/
theorem wit_EventsAreNeverLost :
    (∃ (s : State), ∃ (off v : Nat), ∃ (a : RegAt), RegMap.at? off = some a ∧ off % 4 = 0 ∧ s.reaches off ∧ a.blk ≠ .smu ∧ plainReg a.row.name = true ∧ s.seen.writeRefused a.row.name = false ∧ s.seen.rwlDiffers a.row (s.seen.reg (s.seen.keyOf off)) (BitVec.ofNat 32 v) = false ∧ (a.row.flds.any fun f => f.acc == .w1c) = true) ∧
    (∃ (s : State), ∃ (off : Nat), ∃ (a : RegAt), RegMap.at? off = some a ∧ hasRc off = true ∧ s.seen.barOpen = true ∧ s.readable off = true ∧ (a.row.flds.any fun f => f.acc == .rc) = true) :=
  ⟨⟨ready, 0xA00030, 0xFFFFFFFF, _, rfl, by decide, ⟨by decide, by decide⟩, by decide, by decide, by decide, by decide, by decide⟩,
   ⟨ready, 0xA0001C, _, rfl, by decide, by decide, by decide, by decide⟩⟩

set_option maxRecDepth 100000 in
/-- The hypotheses of ResetState hold together, clause by clause. -/
theorem wit_ResetState :
    ∃ k, k ≠ F.DRONE_RESET_CAUSE_CAUSE.key :=
  ⟨0, by decide⟩

end Sys2Proof.Tests
end

section
/-! PROOFS. Register access by its access codes (00_scope.md, R8 to R18) and the state after reset. -/

namespace Sys2Proof.Machine

/-! ### What a plain register is not -/

/-- A plain register's name stands in none of the lists of registers whose writes have a rule of their own. -/
theorem plainReg_unlisted {name : String} (h : plainReg name = true) :
    name ∉ RegMap.ownRow ∧ RegMap.cmdOps.find? (fun c => c.1 = name) = none ∧ RegMap.zeroBits.find? (fun z => z.1 = name) = none ∧
      name ∉ ["HOST_MBOX_CMD", "MGMT_POLICY", "OPT_TAIL_CFG", "MEM_CTL"] := by
  simpa only [plainReg, Bool.and_eq_true, Bool.not_eq_true', decide_eq_false_iff_not, Option.isNone_iff_eq_none, and_assoc] using h

/-! ### Writes -/

/-- An aligned 4-byte write whose access reaches its register writes that one word (R8, R10). -/
theorem exec_registerWrite_word {s : State} {off : Nat} (v hw : Nat) (reach : s.reaches off) (aligned : off % 4 = 0) :
    exec (.registerWrite off 4 v hw) s = .next (s.withDev (s.seen.writeWord off (BitVec.ofNat 32 v) (BitVec.ofNat 32 hw))) := by
  change execRegisterWrite off 4 v hw s = _
  rw [execRegisterWrite, State.onDev_eq, State.access_reaches _ reach, if_pos ⟨rfl, aligned⟩]

/-- A write of a plain register that refuses nothing and differs in no locked RWL field sets that register alone, to what the access
codes leave (R12, R14). -/
theorem Device.writeWord_plain {d : Device} {off : Nat} {a : RegAt} {v : Word} (hw : Word) (found : RegMap.at? off = some a)
    (notSmu : a.blk ≠ .smu) (plain : plainReg a.row.name = true) (takes : d.writeRefused a.row.name = false)
    (same : d.rwlDiffers a.row (d.reg (d.keyOf off)) v = false) :
    d.writeWord off v hw = d.setReg (d.keyOf off) (d.afterWrite a.row (d.reg (d.keyOf off)) v hw) := by
  obtain ⟨notOwn, notCmd, noZero, special⟩ := plainReg_unlisted plain
  simp only [List.mem_cons, List.not_mem_nil, or_false, not_or] at special
  obtain ⟨notMbox, notPolicy, notTail, notMemCtl⟩ := special
  simp [Device.writeWord, found, notSmu, notCmd, notMbox, notOwn, takes, noZero, notPolicy, notTail, notMemCtl, same]

/-- The same of the host's command. -/
theorem exec_registerWrite_plain {s : State} {off v : Nat} {a : RegAt} (hw : Nat) (found : RegMap.at? off = some a) (aligned : off % 4 = 0)
    (reach : s.reaches off) (notSmu : a.blk ≠ .smu) (plain : plainReg a.row.name = true) (takes : s.seen.writeRefused a.row.name = false)
    (same : s.seen.rwlDiffers a.row (s.seen.reg (s.seen.keyOf off)) (BitVec.ofNat 32 v) = false) :
    exec (.registerWrite off 4 v hw) s = .next (s.withDev (s.seen.setReg (s.seen.keyOf off)
      (s.seen.afterWrite a.row (s.seen.reg (s.seen.keyOf off)) (BitVec.ofNat 32 v) (BitVec.ofNat 32 hw)))) := by
  rw [exec_registerWrite_word v hw reach aligned, Device.writeWord_plain _ found notSmu plain takes same]

/-- A bit of a W1C field that the hardware sets in the clk of a write ends set, whatever is written and whatever stood (R13). -/
theorem testBit_fieldAfter_w1c (locked : Bool) (old x : Nat) {hw k : Nat} (h : hw.testBit k = true) :
    (fieldAfter .w1c locked old x hw).testBit k = true := by
  simp [fieldAfter, Nat.testBit_or, h]

/-! ### Reads that clear -/

/-- A register's value after a read that clears, while the hardware sets `hw`: an RC field holds what was set, every other field is
kept (R12, R13). -/
def RegRow.afterRead (row : RegRow) (old hw : Word) : Word :=
  row.flds.foldl (fun w f => if f.acc = .rc then putBits w f.lo f.w (getBits hw f.lo f.w) else w) old

theorem getBits_afterRead {off : Nat} {a : RegAt} (found : RegMap.at? off = some a) (old hw : Word) {f : FldRow} (m : f ∈ a.row.flds) :
    getBits (a.row.afterRead old hw) f.lo f.w = if f.acc = .rc then getBits hw f.lo f.w else getBits old f.lo f.w := by
  rw [RegRow.afterRead, getBits_foldl_some (fun f => f.acc = .rc) _ _ _ (RegMap.at_apart found) m,
    Nat.mod_eq_of_lt (getBits_lt hw f.lo f.w)]

/-- A read that clears answers the value before it and leaves `RegRow.afterRead` (R12, R13). -/
theorem exec_readToClear {s : State} {off : Nat} {a : RegAt} (q hw : Nat) (found : RegMap.at? off = some a) (rc : hasRc off = true)
    (barOpen : s.seen.barOpen = true) (readable : s.readable off = true) :
    exec (.readToClear q off hw) s = .next (s.withDev ((s.seen.setReg (s.seen.keyOf off)
      (a.row.afterRead (s.seen.reg (s.seen.keyOf off)) (BitVec.ofNat 32 hw))).emit (.readData q (s.seen.readWord off)))) := by
  change execReadToClear q off hw s = _
  simp [execReadToClear, State.onDev_eq, rc, barOpen, readable, found, RegRow.afterRead]

/-! ### Event counters -/

/-- A field reads below 2 to its width. -/
theorem Device.rd_lt (d : Device) (f : Fld) : d.rd f < 2 ^ f.w := getBits_lt _ _ _

/-- A count stops at all ones (R18). -/
theorem Device.rd_inc_same (d : Device) {f : Fld} (n : Nat) (fits : f.lo + f.w ≤ 32) :
    (d.inc f n).rd f = min (d.rd f + n) (2 ^ f.w - 1) := by
  have pos := Nat.two_pow_pos f.w
  rw [Device.inc, Device.rd_wr_same _ _ _ fits, Nat.mod_eq_of_lt (by omega)]

/-- A count leaves a field of another register, or of other bits, as it was. -/
theorem Device.rd_inc_other (d : Device) {f g : Fld} (n : Nat) (fits : f.lo + f.w ≤ 32)
    (apart : g.key ≠ f.key ∨ g.lo + g.w ≤ f.lo ∨ f.lo + f.w ≤ g.lo) : (d.inc f n).rd g = d.rd g := by
  rcases apart with key | bits
  · exact Device.rd_wr_ne d _ key
  · exact Device.rd_wr_disj d _ fits bits

/-- A 64-bit quantity is below 2 to the 64 where its field is a whole register. -/
theorem Device.rd64_lt (d : Device) {f : Fld} (whole : f.w = 32) : d.rd64 f < 2 ^ 64 := by
  have lo : d.rd f < 2 ^ f.w := d.rd_lt f
  have hi : d.rd f.hi < 2 ^ f.w := d.rd_lt f.hi
  rw [whole] at lo hi
  rw [Device.rd64]
  omega

/-- The two registers of a pair read back the 64-bit value written (R9). -/
theorem Device.rd64_wr64 (d : Device) {f : Fld} {x : Nat} (low : f.lo = 0) (whole : f.w = 32) (small : x < 2 ^ 64) :
    (d.wr64 f x).rd64 f = x := by
  have fits : f.lo + f.w ≤ 32 := by omega
  have apart : f.key ≠ f.hi.key := by simp [Fld.hi]
  have lo : (d.wr64 f x).rd f = x % 2 ^ 32 := by
    rw [Device.wr64, Device.rd_wr_ne _ _ apart, Device.rd_wr_same _ _ _ fits, whole, Nat.mod_mod]
  have hi : (d.wr64 f x).rd f.hi = x / 2 ^ 32 := by
    rw [Device.wr64, Device.rd_wr_same _ f.hi _ fits, show f.hi.w = 32 from whole, Nat.mod_eq_of_lt (by omega)]
  rw [Device.rd64, lo, hi, Nat.mod_add_div]

/-- A count over 64 bits stops at all ones (R18). -/
theorem Device.rd64_inc64 (d : Device) {f : Fld} (n : Nat) (low : f.lo = 0) (whole : f.w = 32) :
    (d.inc64 f n).rd64 f = min (d.rd64 f + n) (2 ^ 64 - 1) :=
  Device.rd64_wr64 d low whole (by omega)

/-! ### Reset -/

/-- After reset the one register listed is DRONE_RESET_CAUSE; every other shows the reset value of its table (R16). -/
theorem reset_reg_of_ne {k : Nat} (h : k ≠ F.DRONE_RESET_CAUSE_CAUSE.key) : State.reset.dev.reg k = regReset k :=
  if_neg fun e => h e.symm

end Sys2Proof.Machine

open Sys2Proof Sys2Proof.Machine

/-- Settles O2: the write is one `afterWrite` of the register, and the register tables' fields lie apart. -/
theorem registerWriteByField : Obligations.RegisterWriteByField := by
  intro s off v hw a found aligned barOpen decodes notSmu plain takes same
  exact ⟨_, exec_registerWrite_plain hw found aligned ⟨barOpen, decodes⟩ notSmu plain takes same,
    fun _ m => Device.afterWrite_field _ found _ _ _ m⟩

/-- Settles O54: the stored value is the smaller of the sum and all ones, which the field has room for. -/
theorem countersSaturate : Obligations.CountersSaturate := by
  constructor
  · intro d f n fits
    have count := d.rd_inc_same n fits
    have small := d.rd_lt f
    exact ⟨count, by omega, fun _ apart => d.rd_inc_other n fits apart⟩
  · intro d f n low whole
    have count := d.rd64_inc64 n low whole
    have small := d.rd64_lt whole
    exact ⟨count, by omega⟩

/-- Settles O55: the hardware's bits enter a W1C field after the clear, and are what a read leaves in an RC field. -/
theorem eventsAreNeverLost : Obligations.EventsAreNeverLost := by
  constructor
  · intro s off v hw a found aligned reach notSmu plain takes same
    refine ⟨_, exec_registerWrite_plain hw found aligned reach notSmu plain takes same, fun f m w1c k inside event => ?_⟩
    rw [Device.afterWrite_field _ found _ _ _ m, w1c, Nat.testBit_mod_two_pow, testBit_fieldAfter_w1c _ _ _ event]
    simpa using inside
  · intro s q off hw a found rc barOpen readable
    refine ⟨_, exec_readToClear q hw found rc barOpen readable, fun f m acc => ?_⟩
    rw [getBits_afterRead found _ _ m, if_pos acc]

/-- Settles O56. That the queue and memory are empty, the spine is in IDLE and the SMU has no supply are the model's choices
(log entries 2, 148 and 149). -/
theorem resetState : Obligations.ResetState :=
  ⟨rfl, rfl, rfl, rfl, fun _ other => reset_reg_of_ne other, by decide, rfl⟩

end

section
/-! PROOFS. The step's phases (R28 to R52). -/

namespace Sys2Proof.Machine

/-! ### The phase each operation leaves -/

/-- With no write of MODE_REQ waiting there is nothing to take (R54). -/
theorem Device.modeTake_of_not_asked {d : Device} (h : d.spine.modeAsk = false) : d.modeTake = d := by
  simp [Device.modeTake, h]

/-- STEP_ADMIT enters ADMIT, whether the step was admitted ahead or is checked now (R29, R30). -/
theorem Device.stepAdmit_ph (d : Device) : d.stepAdmit.ph = .admitting := by
  rw [Device.stepAdmit]
  split
  · rw [Device.takeAhead_ph, Device.ph_mk]
  · rw [Device.admitCheck_ph, Device.ph_mk]

/-- COMPUTE_ENTRY enters COMPUTE: the messages taken there can drop a step from ADMIT only (R31). -/
theorem Device.computeEntry_ph (d : Device) : d.computeEntry.ph = .compute := by
  rw [Device.computeEntry, Device.judge_ph]
  refine (Device.drainInbox_fell (ρ := .compute) _ ?_).resolve_right fun ⟨admitting, _⟩ => nomatch admitting
  rw [Device.sendDigests_ph, Device.beginGathers_ph, Device.ph_mk]
  exact Fell.refl _

/-- PHASE_REDUCE enters REDUCE (R28). -/
theorem Device.reduceEntry_ph (d : Device) : d.reduceEntry.ph = .reduce := by
  simp [Device.reduceEntry]

/-- PHASE_DECIDE enters DECIDE: reading the parameter blocks leaves the phase (R180). -/
theorem Device.decideEntry_ph (d : Device) : d.decideEntry.ph = .decide := by
  rw [Device.decideEntry]
  rw [foldl_ph _ fun d i => Device.readDenseParams_ph d i, foldl_ph _ fun d t => Device.readTableParams_ph d t, Device.ph_mk]

/-- A lasting fault in COMMIT halts the spine, and its report leaves the phase (R52). -/
theorem Device.commitFault_ph (d : Device) : d.commitFault.ph = .halted := by
  simp [Device.commitFault]

/-! ### The commands -/

theorem exec_stepAdmit {s : State} (still : s.seen.spine.modeAsk = false) (may : s.seen.mayAdmit = true)
    (batches : s.seen.spine.ahead.isSome ∨ s.seen.heads.isSome) : exec .stepAdmit s = .next (s.withDev s.seen.stepAdmit) := by
  change execStepAdmit s = _
  have due : (s.seen.mayAdmit && (s.seen.spine.ahead.isSome || s.seen.heads.isSome)) = true := by simpa [may] using batches
  rw [execStepAdmit, State.onDev_eq, Device.modeTake_of_not_asked still, if_pos due]

theorem exec_admitAhead {s : State} (may : s.seen.mayAhead = true) : exec .admitAhead s = .next (s.withDev s.seen.admitAhead) := by
  change execAdmitAhead s = _
  rw [execAdmitAhead, State.onDev_eq, if_pos may]

/-- What waited for ADMIT is taken first (R34, R145); then the step enters COMPUTE. -/
theorem exec_computeEntry {s : State} (admitting : s.seen.phase = .admitting)
    (may : s.seen.installBw.takeDigests.mayCompute = true) :
    exec .computeEntry s = .next (s.withDev s.seen.installBw.takeDigests.computeEntry) := by
  change execComputeEntry s = _
  rw [execComputeEntry, State.onDev_eq, if_pos admitting, if_pos may]

theorem exec_phaseReduce {s : State} (may : s.seen.mayReduce = true) :
    exec .phaseReduce s = .next (s.withDev s.seen.reduceEntry) := by
  change execPhaseReduce s = _
  rw [execPhaseReduce, State.onDev_eq, if_pos may]

theorem exec_phaseDecide {s : State} (may : s.seen.mayDecide = true) :
    exec .phaseDecide s = .next (s.withDev s.seen.decideEntry) := by
  change execPhaseDecide s = _
  rw [execPhaseDecide, State.onDev_eq, if_pos may]

theorem exec_commitApply_faulty {s : State} (inCommit : (s.seen.mayCommit false || s.seen.commits false) = true) :
    exec (.commitApply true) s = .next (s.withDev s.seen.commitFault) := by
  change execCommitApply true s = _
  rw [execCommitApply, State.onDev_eq, Bool.true_and, if_pos inCommit]

end Sys2Proof.Machine

open Sys2Proof Sys2Proof.Machine

/-- Settles O6: each command is its named operation under its rule's condition, and each operation leaves one phase. -/
theorem stepPhases : Obligations.StepPhases :=
  ⟨fun _ still may batches => ⟨exec_stepAdmit still may batches, Device.stepAdmit_ph _⟩,
   fun _ may => ⟨exec_admitAhead may, Device.admitAhead_ph _⟩,
   fun _ admitting may => ⟨exec_computeEntry admitting may, Device.computeEntry_ph _⟩,
   fun _ may => ⟨exec_phaseReduce may, Device.reduceEntry_ph _⟩,
   fun _ may => ⟨exec_phaseDecide may, Device.decideEntry_ph _⟩,
   fun _ inCommit => ⟨exec_commitApply_faulty inCommit, Device.commitFault_ph _⟩⟩

end

section
/-! PROOFS. Hardware errors and self-tests of a core, and the writes of CORE_CTL (R41, R100, R126 to R129). -/

namespace Sys2Proof.Machine

/-! ### A core without a unit -/

/-- A core that is ON, in service and has no test due goes to its place in the pool, unless it drains (R126, R129). -/
theorem Device.coreIdle_of_no_test {d : Device} {c : Nat} (serves : d.boot.retiredCores.contains c = false)
    (on : d.domOn (domOfCore c) = true) (sound : (d.core c).hwTest = false) (unasked : d.flag (F.CORE_CTL_SELFTEST_REQ c) = false) :
    d.coreIdle c = (d.setPool c (!d.flag (F.CORE_CTL_DRAIN c))).wr (F.CORE_STATUS_STATE c) 1 := by
  simp [Device.coreIdle, serves, on, sound, unasked, -List.contains_eq_mem]

/-- With a test due it leaves the pool for its self-test (R126, R128). -/
theorem Device.coreIdle_of_test {d : Device} {c : Nat} (serves : d.boot.retiredCores.contains c = false)
    (on : d.domOn (domOfCore c) = true) (due : (d.core c).hwTest = true ∨ d.flag (F.CORE_CTL_SELFTEST_REQ c) = true) :
    d.coreIdle c = (d.setPool c false).wr (F.CORE_STATUS_STATE c) 3 := by
  have due : ((d.core c).hwTest || d.flag (F.CORE_CTL_SELFTEST_REQ c)) = true := by simpa using due
  simp [Device.coreIdle, serves, on, due, -List.contains_eq_mem, -Bool.or_eq_true]

/-- CORE_STATUS.STATE holds each of its eight codes. -/
theorem Device.rd_wr_coreState (d : Device) (c : Nat) {x : Nat} (code : x < 8) :
    (d.wr (F.CORE_STATUS_STATE c) x).rd (F.CORE_STATUS_STATE c) = x := by
  rw [Device.rd_wr_same _ _ _ (by simp [F.CORE_STATUS_STATE])]
  exact Nat.mod_eq_of_lt code

/-! ### Hardware errors -/

theorem Device.hwStops_of_unit {d : Device} {c u : Nat} (busy : d.unitAt c = some u) : d.hwStops c = d.hwUnit c u := by
  rw [Device.hwStops, busy]

theorem Device.hwStops_of_free {d : Device} {c : Nat} (free : d.unitAt c = none) : d.hwStops c = d.coreIdle c := by
  rw [Device.hwStops, free]

/-- A core that is ON and in service takes a hardware error (R126). -/
theorem Device.takes_hwError {d : Device} {c : Nat} (real : c < 96) (on : d.domOn (domOfCore c) = true)
    (serves : d.boot.retiredCores.contains c = false) :
    ¬(!(decide (c < Config.cores) && d.domOn (domOfCore c)) || d.boot.retiredCores.contains c) = true := by
  simp [Config.cores, real, on, serves, -List.contains_eq_mem]

/-- In a self-test it counts and fails the test (R126). -/
theorem exec_coreHwError_testing {s : State} {c : Nat} {d : Device} (real : c < 96) (on : s.seen.domOn (domOfCore c) = true)
    (serves : s.seen.boot.retiredCores.contains c = false) (counted : d = s.seen.inc (F.CORE_UE_CNT_COUNT c))
    (testing : d.coreTesting c = true) :
    exec (.coreHwError c) s = .next (s.withDev (d.setCore c { d.core c with testFail := true })) := by
  subst counted
  change execCoreHwError c s = _
  rw [execCoreHwError, State.onDev_eq, if_neg (Device.takes_hwError real on serves), if_pos testing]

/-- Otherwise it counts, HW_ERR sets, a test is due, and what runs on the core stops (R126). -/
theorem exec_coreHwError_working {s : State} {c : Nat} {d : Device} (real : c < 96) (on : s.seen.domOn (domOfCore c) = true)
    (serves : s.seen.boot.retiredCores.contains c = false) (counted : d = s.seen.inc (F.CORE_UE_CNT_COUNT c))
    (working : d.coreTesting c = false) :
    exec (.coreHwError c) s = .next (s.withDev
      (((d.raise (F.CORE_INT_STATUS_HW_ERR c)).setCore c { d.core c with hwTest := true }).hwStops c)) := by
  subst counted
  change execCoreHwError c s = _
  rw [execCoreHwError, State.onDev_eq, if_neg (Device.takes_hwError real on serves), if_neg (ne_true_of_eq_false working)]

/-! ### The end of a self-test -/

/-- Outside a test window's list the result is the core's own (R545). -/
theorem Device.windowTested_of_unlisted {d : Device} {c : Nat} (pass : Bool) (unlisted : d.mgmt.testing.contains c = false) :
    d.windowTested c pass = d := by
  simp [Device.windowTested, unlisted, -List.contains_eq_mem]

/-- What every self-test leaves: RUNS counts, RESULT is as given, the request clears and SELFTEST_DONE sets (R128, R129). -/
def Device.selftestNoted (d : Device) (c result : Nat) : Device :=
  ((((d.inc (F.CORE_SELFTEST_RUNS c)).wr (F.CORE_SELFTEST_RESULT c) result).wr (F.CORE_CTL_SELFTEST_REQ c) 0).setCore c
    { d.core c with hwTest := false, testFail := false }).raise (F.CORE_INT_STATUS_SELFTEST_DONE c)

/-- A test that passes without an error in it, and that no hardware error asked for, sends the core on (R128). -/
theorem exec_coreSelftestEnd_pass {s : State} {c : Nat} (real : c < 96) (on : s.seen.domOn (domOfCore c) = true)
    (testing : s.seen.coreTesting c = true) (clean : (s.seen.core c).testFail = false) (asked : (s.seen.core c).hwTest = false) :
    exec (.coreSelftestEnd c true) s = .next (s.withDev (((s.seen.selftestNoted c 1).coreIdle c).windowTested c true)) := by
  change execCoreSelftestEnd c true s = _
  simp [execCoreSelftestEnd, State.onDev_eq, Config.cores, real, on, testing, clean, asked, Device.selftestNoted]

/-- A test that fails retires the core (R126). -/
theorem exec_coreSelftestEnd_fail {s : State} {c : Nat} (real : c < 96) (on : s.seen.domOn (domOfCore c) = true)
    (testing : s.seen.coreTesting c = true) :
    exec (.coreSelftestEnd c false) s = .next (s.withDev (((s.seen.selftestNoted c 2).retireCore c).windowTested c false)) := by
  change execCoreSelftestEnd c false s = _
  simp [execCoreSelftestEnd, State.onDev_eq, Config.cores, real, on, testing, Device.selftestNoted]

/-! ### Writes of CORE_CTL -/

/-- A write of CORE_CTL of a core of the chip that reaches its register. -/
theorem State.coreCtl_reaches {s : State} {c : Nat} (f : Device → Device) (real : c < 96) (reach : s.reaches (F.CORE_CTL c).key) :
    (if Config.cores ≤ c then s.seen else s.seen.access (F.CORE_CTL c).key f) = f s.seen := by
  rw [if_neg (show ¬Config.cores ≤ c from Nat.not_le.mpr real), State.access_reaches _ reach]

theorem exec_selftestReq {s : State} {c : Nat} (real : c < 96) (reach : s.reaches (F.CORE_CTL c).key)
    (on : s.seen.domOn (domOfCore c) = true) : exec (.selftestReq c) s = .next (s.withDev (s.seen.selftestRequest c)) := by
  change execSelftestReq c s = _
  rw [execSelftestReq, State.onDev_eq, State.coreCtl_reaches _ real reach, if_pos on]

theorem exec_coreRequeue {s : State} {c : Nat} (real : c < 96) (reach : s.reaches (F.CORE_CTL c).key) :
    exec (.coreRequeue c) s = .next (s.withDev ((s.seen.requeueHeld c).wr (F.CORE_CTL_REQUEUE c) 0)) := by
  change execCoreRequeue c s = _
  rw [execCoreRequeue, State.onDev_eq, State.coreCtl_reaches _ real reach]

/-- DRAIN of a core that serves: in a unit its STATE says how it goes on (R129). -/
theorem exec_coreDrain_busy {s : State} {c : Nat} {drain : Bool} (real : c < 96) (reach : s.reaches (F.CORE_CTL c).key)
    (serves : ((s.seen.wr (F.CORE_CTL_DRAIN c) (b2n drain)).coreTesting c || s.seen.boot.retiredCores.contains c ||
      !(s.seen.wr (F.CORE_CTL_DRAIN c) (b2n drain)).domOn (domOfCore c)) = false) (busy : (s.seen.unitAt c).isSome = true) :
    exec (.coreDrain c drain) s = .next (s.withDev
      ((s.seen.wr (F.CORE_CTL_DRAIN c) (b2n drain)).wr (F.CORE_STATUS_STATE c) (if drain then 4 else 2))) := by
  change execCoreDrain c drain s = _
  rw [execCoreDrain, State.onDev_eq, State.coreCtl_reaches _ real reach]
  dsimp only
  rw [Device.wr_boot, Device.unitAt_wr, if_neg (ne_true_of_eq_false serves), if_pos busy]

/-- Without a unit it leaves the pool or comes back (R129). -/
theorem exec_coreDrain_free {s : State} {c : Nat} {drain : Bool} (real : c < 96) (reach : s.reaches (F.CORE_CTL c).key)
    (serves : ((s.seen.wr (F.CORE_CTL_DRAIN c) (b2n drain)).coreTesting c || s.seen.boot.retiredCores.contains c ||
      !(s.seen.wr (F.CORE_CTL_DRAIN c) (b2n drain)).domOn (domOfCore c)) = false) (free : s.seen.unitAt c = none) :
    exec (.coreDrain c drain) s = .next (s.withDev ((s.seen.wr (F.CORE_CTL_DRAIN c) (b2n drain)).coreIdle c)) := by
  change execCoreDrain c drain s = _
  rw [execCoreDrain, State.onDev_eq, State.coreCtl_reaches _ real reach]
  dsimp only
  rw [Device.wr_boot, Device.unitAt_wr, free, if_neg (ne_true_of_eq_false serves), if_neg (by simp)]

end Sys2Proof.Machine

open Sys2Proof Sys2Proof.Machine

/-- Settles O14. That STATE is 1 between units and that an error on a core that is off or retired is ignored are the model's choices
(log entry 78). -/
theorem coreErrors : Obligations.CoreErrors := by
  refine ⟨?_, fun d c => ⟨fun _ => Device.hwStops_of_unit, Device.hwStops_of_free⟩, ?_, ?_, ?_, ?_, ?_⟩
  · intro s c d real on serves counted
    exact ⟨exec_coreHwError_testing real on serves counted,
      fun working _ he => he ▸ exec_coreHwError_working real on serves counted working⟩
  · rintro s c real on testing clean asked - e noted unlisted
    change e = s.seen.selftestNoted c 1 at noted
    subst noted
    rw [exec_coreSelftestEnd_pass real on testing clean asked, Device.windowTested_of_unlisted true unlisted]
  · intro s c real on testing e noted
    change e = s.seen.selftestNoted c 2 at noted
    rw [noted, exec_coreSelftestEnd_fail real on testing]
  · intro s c real barOpen decodes
    have reach : s.reaches (F.CORE_CTL c).key := ⟨barOpen, decodes⟩
    exact ⟨exec_selftestReq real reach, exec_coreRequeue real reach, fun _ serves =>
      ⟨exec_coreDrain_free real reach serves, fun busy => exec_coreDrain_busy real reach serves (Option.isSome_iff_ne_none.mpr busy)⟩⟩
  · intro d c serves on sound unasked
    have idle := Device.coreIdle_of_no_test serves on sound unasked
    exact ⟨idle, by rw [idle, Device.rd_wr_coreState _ _ (by decide)]⟩
  · intro d c serves on due
    have idle := Device.coreIdle_of_test serves on due
    exact ⟨idle, by rw [idle, Device.rd_wr_coreState _ _ (by decide)]⟩

end

section
/-! PROOFS. Messages between the devices of a job (R323 to R326, R345). -/

namespace Sys2Proof.Machine

/-! ### Reception -/

/-- A device in a job whose spine serves has a whole message of TYPE `ty` before it (R323, R325). -/
structure Device.Hears (d : Device) (ty : Nat) (m : Bytes) : Prop where
  type : mTy m = ty
  inJob : d.jobId ≠ none
  whole : 64 ≤ m.length
  serves : d.domOn domSpine = true

/-- What it hears passes the first test of `Device.receive`. -/
theorem Device.Hears.received {d : Device} {ty : Nat} {m : Bytes} (heard : d.Hears ty m) :
    ¬(mTy m ≠ ty ∨ d.jobId = none ∨ m.length < 64 ∨ (!d.domOn domSpine) = true) := by
  simp [heard.type, heard.inJob, heard.whole, heard.serves]

/-- A sound message that is new, or a ROW_GRAD, is noted and handled (R325, R170). -/
theorem Device.receive_new {d : Device} {ty : Nat} {m : Bytes} (h : Device → Device) (heard : d.Hears ty m) (sound : d.msgCause m = 0)
    (fresh : ty = 5 ∨ d.hasSeen ty m = false) : d.receive ty m h = h (d.seenMsg ty m) := by
  have single : ¬(ty ≠ 5 ∧ d.hasSeen ty m = true) := fun ⟨notGrad, seen⟩ => fresh.elim notGrad (ne_true_of_eq_false · seen)
  rw [Device.receive, if_neg heard.received]
  dsimp only
  rw [if_neg (not_not.mpr sound), if_neg single]

/-- A repetition only counts (R325). -/
theorem Device.receive_again {d : Device} {ty : Nat} {m : Bytes} (h : Device → Device) (heard : d.Hears ty m) (sound : d.msgCause m = 0)
    (notGrad : ty ≠ 5) (seen : d.hasSeen ty m = true) : d.receive ty m h = d.inc F.COLL_MSG_DUP_COUNT := by
  rw [Device.receive, if_neg heard.received]
  dsimp only
  rw [if_neg (not_not.mpr sound), if_pos ⟨notGrad, seen⟩]

/-- An unsound message is answered for its cause (R325). -/
theorem Device.receive_bad {d : Device} {ty : Nat} {m : Bytes} (h : Device → Device) (heard : d.Hears ty m) (cause : d.msgCause m ≠ 0) :
    d.receive ty m h = d.badMsg m (d.msgCause m) := by
  rw [Device.receive, if_neg heard.received]
  dsimp only
  rw [if_pos cause]

/-- A message noted is known from then on (R325). -/
theorem Device.hasSeen_seenMsg (d : Device) (ty : Nat) (m : Bytes) : (d.seenMsg ty m).hasSeen ty m = true := by
  simp [Device.hasSeen, Device.seenMsg]

/-! ### The commands -/

/-- The commands that bring a message of the step's work, by its TYPE (R324). -/
def Brings (c : Instr) (ty : Nat) (m : Bytes) : Prop :=
  (c = .node m ∧ ty = 1) ∨ (c = .nodeHdr m ∧ ty = 2) ∨ (c = .rowReq m ∧ ty = 3) ∨ (c = .rowData m ∧ ty = 4) ∨
    (c = .rowGrad m ∧ ty = 5) ∨ (c = .bwChange m ∧ ty = 6) ∨ (c = .bwRecord m ∧ ty = 7) ∨ (c = .shardReq m ∧ ty = 8) ∨
    (c = .shardData m ∧ ty = 9) ∨ (c = .stageMsg m ∧ ty = 10) ∨ (c = .vote m ∧ ty = 11) ∨ (c = .rootHdr m ∧ ty = 12) ∨
    (c = .digest m ∧ ty = 13) ∨ (c = .repairOrder m ∧ ty = 14) ∨ (c = .repair m ∧ ty = 15)

/-- Each of them receives the message and takes it by its TYPE. -/
theorem exec_of_brings {c : Instr} {ty : Nat} {m : Bytes} (s : State) (brings : Brings c ty m) :
    exec c s = .next (s.withDev (s.seen.receive ty m fun d => d.takeMsg m)) := by
  rcases brings with ⟨rfl, rfl⟩ | ⟨rfl, rfl⟩ | ⟨rfl, rfl⟩ | ⟨rfl, rfl⟩ | ⟨rfl, rfl⟩ | ⟨rfl, rfl⟩ | ⟨rfl, rfl⟩ | ⟨rfl, rfl⟩ |
    ⟨rfl, rfl⟩ | ⟨rfl, rfl⟩ | ⟨rfl, rfl⟩ | ⟨rfl, rfl⟩ | ⟨rfl, rfl⟩ | ⟨rfl, rfl⟩ | ⟨rfl, rfl⟩ <;> rfl

theorem exec_nack {s : State} {m : Bytes} (heard : s.seen.Hears 0x10 m) (sound : s.seen.msgCause m = 0)
    (fresh : s.seen.hasSeen 0x10 m = false) : exec (.nack m) s = .next (s.withDev ((s.seen.seenMsg 0x10 m).resend m)) := by
  change execNack m s = _
  rw [execNack, State.onDev_eq, Device.nacked, Device.receive_new _ heard sound (.inr fresh)]

/-! ### Taking a message by its TYPE -/

theorem Device.atStep_now {d : Device} {m : Bytes} {h : Device → Device} (now : d.step64 = mStep m) (inStep : d.inStep = true) :
    d.atStep m h = h d := by
  rw [Device.atStep, if_pos ⟨now, inStep⟩]

/-- Before its step a message waits (log entry 34). -/
theorem Device.atStep_early {d : Device} {m : Bytes} {h : Device → Device}
    (early : d.step64 < mStep m ∨ (d.step64 = mStep m ∧ d.inStep = false)) : d.atStep m h = d.keepMsg m := by
  have waits : ¬(d.step64 = mStep m ∧ d.inStep = true) := by
    rintro ⟨now, inStep⟩
    rcases early with before | ⟨-, out⟩
    · omega
    · exact ne_true_of_eq_false out inStep
  have ahead : d.step64 ≤ mStep m := early.elim Nat.le_of_lt fun ⟨now, _⟩ => now.le
  rw [Device.atStep, if_neg waits, if_pos ahead]

theorem Device.atStep_late {d : Device} {m : Bytes} {h : Device → Device} (late : mStep m < d.step64) : d.atStep m h = d := by
  rw [Device.atStep, if_neg (fun ⟨now, _⟩ => by omega), if_neg (by omega)]

/-- What a message of a TYPE does at its own step; none for a TYPE that is not bound to it (R324). -/
def stepHandler (m : Bytes) : Nat → Option (Device → Device)
  | 0x01 => some (·.takeNode m)
  | 0x02 => some (·.takeNodeHdr m)
  | 0x03 => some (·.takeRowReq m)
  | 0x04 => some (·.takeRowData m)
  | 0x05 => some (·.takeRowGrad m)
  | 0x06 => some (·.takeChanges m)
  | 0x08 => some (·.takeShardReq m)
  | 0x09 => some (·.takeShardData m)
  | 0x0A => some (·.takeStage m)
  | 0x0B => some (·.takeVote (mPayload m))
  | 0x0C => some (·.takeHdr (mPayload m))
  | 0x0D => some (·.takeDigest m)
  | 0x0E => some (·.takeOrders m)
  | _ => none

theorem Device.takeMsg_of_handler {m : Bytes} {h : Device → Device} (d : Device) (bound : stepHandler m (mTy m) = some h) :
    d.takeMsg m = d.atStep m h := by
  unfold stepHandler at bound
  unfold Device.takeMsg
  split at bound <;> cases bound <;> simp_all only

/-- The TYPEs bound to a step. -/
theorem stepHandler_exists {m : Bytes} {ty : Nat} (bound : ty ∈ [1, 2, 3, 4, 5, 6, 8, 9, 0xA, 0xB, 0xC, 0xD, 0xE]) :
    ∃ h, stepHandler m ty = some h := by
  simp only [List.mem_cons, List.not_mem_nil, or_false] at bound
  rcases bound with rfl | rfl | rfl | rfl | rfl | rfl | rfl | rfl | rfl | rfl | rfl | rfl | rfl <;> exact ⟨_, rfl⟩

/-- At its own step a message does what its TYPE says. -/
theorem Device.takeMsg_now {d : Device} {m : Bytes} {h : Device → Device} {ty : Nat} (now : d.step64 = mStep m) (inStep : d.inStep = true)
    (type : mTy m = ty) (handler : stepHandler m ty = some h) : d.takeMsg m = h d := by
  rw [Device.takeMsg_of_handler d (type ▸ handler), Device.atStep_now now inStep]

/-- A Bellwether record is taken at once, whatever step the device is in (R324). -/
theorem Device.takeMsg_record {m : Bytes} (d : Device) (type : mTy m = 0x07) : d.takeMsg m = d.takeRecord m := by
  simp only [Device.takeMsg, type]

/-- A repair is taken after its step (R345). -/
theorem Device.takeMsg_repair {d : Device} {m : Bytes} (type : mTy m = 0x0F) (after : mStep m < d.step64) :
    d.takeMsg m = d.takeRepair m := by
  simp only [Device.takeMsg, type, Device.afterStep, if_pos after]

/-- The message that a NACK names is sent again, with RESEND (R325). -/
theorem Device.resend_sent {d : Device} {m : Bytes} {x : SentMsg}
    (sent : (d.coll.sent.find? fun x => x.ty = u8At m 0x18 ∧ x.step = mStep m ∧ x.dst = mSrc m ∧ x.seq = u32At m 0x1C) = some x) :
    d.resend m = (d.sendMsg x.dst 0 (setResend x.bytes)).inc F.COLL_MSG_RESEND_COUNT := by
  rw [Device.resend, sent]

end Sys2Proof.Machine

open Sys2Proof Sys2Proof.Machine

/-- Settles O25. That a message of a step not yet reached waits is the model's choice (log entry 34). -/
theorem collectiveMessages : Obligations.CollectiveMessages := by
  refine ⟨?_, ?_, fun d m => ⟨d.takeMsg_record, Device.takeMsg_repair⟩, ?_, ?_, fun _ _ _ => Device.resend_sent,
    fun d ty m => ⟨d.hasSeen_seenMsg ty m, rfl, rfl⟩⟩
  · intro s c m ty brings type inJob whole serves
    have heard : s.seen.Hears ty m := ⟨type, inJob, whole, serves⟩
    rw [exec_of_brings s brings]
    refine ⟨fun sound fresh => ?_, fun sound notGrad seen => ?_, fun cause => ?_⟩
    · rw [Device.receive_new _ heard sound fresh]
    · rw [Device.receive_again _ heard sound notGrad seen]
    · rw [Device.receive_bad _ heard cause]
  · intro d m now inStep
    refine ⟨?_, ?_, ?_, ?_, ?_, ?_, ?_, ?_, ?_, ?_, ?_, ?_, ?_⟩ <;>
      exact fun type => Device.takeMsg_now now inStep type rfl
  · intro d m bound
    obtain ⟨h, handler⟩ := stepHandler_exists (m := m) bound
    rw [Device.takeMsg_of_handler d handler]
    exact ⟨Device.atStep_early, Device.atStep_late⟩
  · intro s m type inJob whole serves sound fresh
    exact exec_nack ⟨type, inJob, whole, serves⟩ sound fresh

end

section
/-! PROOFS. Units that run on the spine and its engines (R37, R307, R313, R377). -/

namespace Sys2Proof.Machine

/-! ### Collective step units -/

/-- A collective step unit whose operand block reads moves on by it (log entry 36). -/
theorem exec_collectiveStepUnit {s : State} {u : Nat} {a : Bytes} (kind : (s.seen.workUnit u).kind = 8)
    (block : s.seen.stepBlock u = some a) : exec (.collectiveStepUnit u) s = .next (s.withDev (s.seen.stepMove u a)) := by
  change execCollectiveStepUnit u s = _
  rw [execCollectiveStepUnit, State.onDev_eq, if_neg (not_not.mpr kind), block]

/-- One that runs ends once its data has come. -/
theorem Device.stepMove_running {d : Device} {u p : Nat} (a : Bytes) (runs : d.unitSt u = .running p) :
    d.stepMove u a = if d.stepDone u a then d.unitEnd u else d := by
  rw [Device.stepMove, runs]

/-- One that does not run and is ready starts on the spine. -/
theorem Device.stepMove_ready {d : Device} {u : Nat} (a : Bytes) (waits : ∀ p, d.unitSt u ≠ .running p) (ready : d.unitReady u = true) :
    d.stepMove u a = (d.handOut u placeSpine).stepStart u a := by
  rw [Device.stepMove]
  split
  · rename_i p runs
    exact absurd runs (waits p)
  · rw [if_pos ready]

/-- A unit that sends its tensor ends with the sending (R307). -/
theorem Device.stepStart_send {d e : Device} {u : Nat} {a : Bytes} (op : Config.stepOperand a 0 % 3 = 0)
    (sent : d.sendStage a = some e) : d.stepStart u a = e.unitEnd u := by
  simp only [Device.stepStart, op, sent]

/-- A unit that waits for a tensor ends at once where it has landed (R307). -/
theorem Device.stepStart_landed {d : Device} {u : Nat} {a : Bytes} (op : Config.stepOperand a 0 % 3 = 1)
    (landed : d.stepDone u a = true) : d.stepStart u a = d.unitEnd u := by
  simp only [Device.stepStart, op, if_pos landed]

/-- A unit that gathers a shard block of this device's own ends at once (R313). -/
theorem Device.stepStart_ownShard {d e : Device} {u : Nat} {a : Bytes} (op : Config.stepOperand a 0 % 3 = 2)
    (own : d.fetchShard u a = some (e, true)) : d.stepStart u a = e.unitEnd u := by
  simp only [Device.stepStart, op, own]

/-! ### Commit units -/

theorem exec_commitUnit {s : State} {u : Nat} (phase : s.seen.phase = .commit) (kind : (s.seen.workUnit u).kind = 9)
    (named : u < s.seen.unitCount) (ready : s.seen.unitReady u = true) :
    exec (.commitUnit u) s = .next (s.withDev ((s.seen.handOut u placeSpine).unitEnd u)) := by
  change execCommitUnit u s = _
  rw [execCommitUnit, State.onDev_eq, if_pos ⟨phase, kind, named, ready⟩]

/-! ### Transfer units -/

/-- A spine engine that is ON takes the next transfer unit into its ring (R377). -/
theorem exec_dmaTransferUnit {s : State} {e r u : Nat} (spine : 24 ≤ e) (on : s.seen.engOn e = true)
    (ring : s.seen.unitRing e = some r) (unit : s.seen.nextCopy e = some u) :
    exec (.dmaTransferUnit e) s = .next (s.withDev (s.seen.queueUnit e r u)) := by
  change execDmaTransferUnit e s = _
  have serves : ¬(e < 24 ∨ s.seen.engOn e = false) := by simp [on, spine]
  rw [execDmaTransferUnit, State.onDev_eq, if_neg serves, ring, unit]

/-- Without a ring that takes units, or without a unit, nothing happens. -/
theorem exec_dmaTransferUnit_idle {s : State} {e : Nat} (idle : s.seen.unitRing e = none ∨ s.seen.nextCopy e = none) :
    exec (.dmaTransferUnit e) s = .next (s.withDev s.seen) := by
  change execDmaTransferUnit e s = _
  rw [execDmaTransferUnit, State.onDev_eq]
  split
  · rfl
  · split
    · rename_i r u ring unit
      simp [ring, unit] at idle
    · rfl

end Sys2Proof.Machine

open Sys2Proof Sys2Proof.Machine

/-- Settles O27. Which operation a step unit does, and that a commit unit ends without a further effect, are the model's choices
(log entry 36). -/
theorem spineUnits : Obligations.SpineUnits := by
  refine ⟨?_, ?_, ?_, fun _ _ => exec_commitUnit, fun _ _ _ _ => exec_dmaTransferUnit, fun _ _ => exec_dmaTransferUnit_idle⟩
  · intro s u p a kind block runs
    rw [exec_collectiveStepUnit kind block, Device.stepMove_running a runs]
    exact ⟨fun done => by rw [if_pos done], fun left => by rw [if_neg (ne_true_of_eq_false left)]⟩
  · intro s u a kind block waits ready
    rw [exec_collectiveStepUnit kind block, Device.stepMove_ready a waits ready]
  · intro d e u a
    exact ⟨Device.stepStart_send, Device.stepStart_landed, Device.stepStart_ownShard, Device.unitSt_setUnit .., fun _ other =>
      Device.unitSt_setUnit_ne _ _ other, Device.setUnit_regs .., Device.setUnit_mem ..⟩

end

section
/-! PROOFS. LOAD_PROGRAM and LOAD_FIRMWARE: their checks in order, and what a sound load leaves (R38, R439, R440, R537). -/

namespace Sys2Proof.Machine

/-! ### The program in force -/

theorem foldl_spine {α : Type} (f : Device → α → Device) (h : ∀ d x, (f d x).spine = d.spine) (xs : List α) (d : Device) :
    (xs.foldl f d).spine = d.spine := by
  induction xs generalizing d with
  | nil => rfl
  | cons x r ih => rw [List.foldl_cons, ih, h]

@[simp] theorem Device.tagUpdate_spine (d : Device) (t : Nat) : (d.tagUpdate t).spine = d.spine := by
  simp [Device.tagUpdate]

@[simp] theorem Device.loadTags_spine (d : Device) (ts : List (Nat × Nat × Nat)) : (d.loadTags ts).spine = d.spine :=
  foldl_spine _ (fun d x => by simp) ts d

@[simp] theorem Device.lossStart_spine (d : Device) : d.lossStart.spine = d.spine := by
  simp [Device.lossStart]

@[simp] theorem Device.blockShown_spine (d : Device) (i : Nat) (b : Option (Nat × Nat)) : (d.blockShown i b).spine = d.spine := by
  cases b <;> simp [Device.blockShown]

@[simp] theorem Device.collView_spine (d : Device) : d.collView.spine = d.spine := by
  rw [Device.collView]
  split <;> simp only [Device.wr_spine, Device.wr64_spine, Device.setReg_spine] <;>
    exact foldl_spine _ (fun d i => d.blockShown_spine i _) _ d

/-- A program that runs is in force, and no swap waits (R38). -/
theorem Device.runProgram_spine (d : Device) (p : Program) : (d.runProgram p).spine = { d.spine with prog := some p, swap := none } := by
  simp [Device.runProgram]

/-- UNLOAD discards the program in force and the one held for the swap (R440). -/
theorem Device.unload_spine (d : Device) : d.unload.spine = { d.spine with prog := none, swap := none } := by
  simp [Device.unload]

/-! ### LOAD_PROGRAM -/

/-- A state that forbids the load: the spine is not ON or halted, or the program would replace one in a step or that may run (R440). -/
def Device.forbidsLoad (d : Device) (swap : Bool) : Bool :=
  !d.domOn domSpine || decide (d.phase = .halted) || (!swap && (decide (d.phase ≠ .idle) || d.flag F.SPINE_CTL_RUN))

theorem Device.forbidsLoad_of_stopped {d : Device} (swap : Bool) (stopped : d.domOn domSpine = false ∨ d.phase = .halted) :
    d.forbidsLoad swap = true := by
  rcases stopped with off | halted
  · simp [Device.forbidsLoad, off]
  · simp [Device.forbidsLoad, halted, -Device.phase_ph]

theorem Device.forbidsLoad_of_running {d : Device} (running : d.phase ≠ .idle ∨ d.flag F.SPINE_CTL_RUN = true) :
    d.forbidsLoad false = true := by
  rcases running with step | run
  · simp [Device.forbidsLoad, step, -Device.phase_ph]
  · simp [Device.forbidsLoad, run]

/-- A spine that is ON and not halted takes a swap, and in IDLE with RUN 0 any program. -/
theorem Device.forbidsLoad_eq_false {d : Device} {swap : Bool} (on : d.domOn domSpine = true) (alive : d.phase ≠ .halted)
    (may : swap = true ∨ (d.phase = .idle ∧ d.flag F.SPINE_CTL_RUN = false)) : d.forbidsLoad swap = false := by
  rcases may with rfl | ⟨idle, stopped⟩
  · simp [Device.forbidsLoad, on, alive, -Device.phase_ph]
  · simp [Device.forbidsLoad, on, idle, stopped, -Device.phase_ph]

/-- A range beyond the host's addresses or in no one window (R380). -/
theorem Device.outside_window {d : Device} {a len : Nat} (outside : 2 ^ 52 ≤ a ∨ d.inWindow a len = false) :
    (!(decide (a < 2 ^ 52) && d.inWindow a len)) = true := by
  rcases outside with far | shut
  · rw [decide_eq_false (Nat.not_lt.mpr far)]; rfl
  · rw [shut, Bool.and_false]; rfl

theorem Device.inside_window {d : Device} {a len : Nat} (near : a < 2 ^ 52) (inside : d.inWindow a len = true) :
    ¬(!(decide (a < 2 ^ 52) && d.inWindow a len)) = true := by
  rw [decide_eq_true near, inside]; decide

/-- LOAD_PROGRAM's checks in order (R440, log entry 133). -/
theorem Device.loadProgram_eq {d : Device} {b : Bytes} {a len : Nat} {swap : Bool} (perm : Perm) (fails : Bool)
    (payload : b = d.payload 16) (addr : a = u64At b 0) (length : len = u32At b 8) (flag : swap = (u8At b 0xC == 1)) :
    d.loadProgram perm fails =
      if 1 < u8At b 0xC ∨ zeros b 0xD 3 = false ∨ len % 64 ≠ 0 then d.mboxEnd 3 []
      else if d.forbidsLoad swap then d.mboxEnd 4 []
      else if swap && d.spine.swap.isSome then d.mboxEnd 10 []
      else if !(decide (a < 2 ^ 52) && d.inWindow a len) then d.mboxEnd 6 []
      else if fails then (d.d2hSend false a len).mboxEnd 7 []
      else (d.d2hSend false a len).loadImage perm ((d.d2hSend false a len).readKey len a) len swap := by
  rw [Device.loadProgram, ← payload]
  dsimp only
  rw [← addr, ← length, ← flag]
  rfl

/-! ### The image -/

theorem Device.loadImage_unverified {d : Device} {perm : Perm} {img : Bytes} {len : Nat} (swap : Bool)
    (unverified : verifyBlock perm img (imageDigest img len) = false) :
    d.loadImage perm img len swap = ((d.inc F.SEC_VERIFY_FAIL).raise F.SEC_INT_STATUS_VERIFY_FAIL).mboxEnd 5 (d.loadOut 0) := by
  rw [Device.loadImage, unverified, Bool.not_false, if_pos rfl]

/-- A verified image is refused with the first fault of R38, or is sound. -/
theorem Device.loadImage_verified {d : Device} {perm : Perm} {img : Bytes} {len : Nat} (swap : Bool)
    (verified : verifyBlock perm img (imageDigest img len) = true) :
    (∀ c u, d.programFault img len = some (c, u) → d.loadImage perm img len swap = d.loadRefused c u (pUnits img)) ∧
    (d.programFault img len = none → d.loadImage perm img len swap = d.loadSound (d.programOf img len) swap) := by
  rw [Device.loadImage, verified, Bool.not_true, if_neg Bool.false_ne_true]
  exact ⟨fun c u fault => by rw [fault], fun sound => by rw [sound]⟩

/-- A sound program runs at once, or is held for the swap; SPINE_LOAD_ERR clears (R440, log entry 132). -/
theorem Device.loadSound_now (d : Device) (p : Program) :
    d.loadSound p false = ((d.loadErr 0 0).runProgram p).mboxEnd 0 (((d.loadErr 0 0).runProgram p).loadOut p.units.length) := by
  simp only [Device.loadSound, Bool.false_eq_true, if_false]

theorem Device.loadSound_swap (d : Device) (p : Program) :
    d.loadSound p true = ((d.loadErr 0 0).holdSwap p).mboxEnd 0 (((d.loadErr 0 0).holdSwap p).loadOut p.units.length) := by
  simp only [Device.loadSound, if_true]

/-! ### LOAD_FIRMWARE -/

/-- LOAD_FIRMWARE's checks in order (R537, log entry 32). -/
theorem Device.loadFirmware_eq {d : Device} {p : Bytes} {a len t : Nat} (perm : Perm) (fails : Bool) (refusal : Nat)
    (payload : p = d.payload 16) (addr : a = u64At p 0) (length : len = u32At p 8) (target : t = u8At p 12) :
    d.loadFirmware perm fails refusal =
      if !zeros p 13 3 then d.fwEnd t 3 0
      else if d.phase = .halted then d.fwEnd t 4 0
      else if t = 15 then d.fwEnd t 9 0
      else if 5 < t then d.fwEnd t 3 0
      else if !(decide (a < 2 ^ 52) && d.inWindow a len) then d.fwEnd t 6 0
      else if fails then (d.d2hSend false a len).fwEnd t 7 0
      else (d.d2hSend false a len).offerPackage perm ((d.d2hSend false a len).readKey len a) len t refusal := by
  rw [Device.loadFirmware, ← payload]
  dsimp only
  rw [← addr, ← length, ← target]

/-- A package whose header, length or one section is not what its TARGET takes (R537). -/
theorem Device.offerPackage_torn {d : Device} {perm : Perm} {pkg : Bytes} {len t : Nat} (refusal : Nat)
    (torn : packageWhole pkg len t = false) : d.offerPackage perm pkg len t refusal = d.fwEnd t 3 0 := by
  rw [Device.offerPackage, torn, Bool.not_false, if_pos rfl]

theorem Device.offerPackage_unverified {d : Device} {perm : Perm} {pkg : Bytes} {len t : Nat} (refusal : Nat)
    (whole : packageWhole pkg len t = true) (unverified : verifyBlock perm pkg (imageDigest pkg len) = false) :
    d.offerPackage perm pkg len t refusal = ((d.inc F.SEC_VERIFY_FAIL).raise F.SEC_INT_STATUS_VERIFY_FAIL).fwEnd t 5 0 := by
  rw [Device.offerPackage, whole, unverified, Bool.not_true, Bool.not_false, if_neg Bool.false_ne_true, if_pos rfl]

theorem Device.offerPackage_verified {d : Device} {perm : Perm} {pkg : Bytes} {len t : Nat} (refusal : Nat)
    (whole : packageWhole pkg len t = true) (verified : verifyBlock perm pkg (imageDigest pkg len) = true) :
    d.offerPackage perm pkg len t refusal =
      if refusal % 256 ≠ 0 then d.fwEnd t 8 (refusal % 256) else (d.pendPackage pkg t).takeIfIdle := by
  rw [Device.offerPackage, whole, verified, Bool.not_true, if_neg Bool.false_ne_true, if_neg Bool.false_ne_true]

end Sys2Proof.Machine

open Sys2Proof Sys2Proof.Machine

/-- Settles O38. The order of LOAD_FIRMWARE's checks, that a sound load clears SPINE_LOAD_ERR, and the RESULT of each malformed
LOAD_PROGRAM are the model's choices (log entries 32, 132 and 133). -/
theorem programAndFirmwareLoads : Obligations.ProgramAndFirmwareLoads := by
  refine ⟨?_, ?_, ?_, ?_, ?_⟩
  · intro d perm fails b img a len swap payload addr length flag image
    rw [Device.loadProgram_eq perm fails payload addr length flag]
    refine ⟨fun malformed => if_pos malformed, fun flags reserved lines => ?_⟩
    have formed : ¬(1 < u8At b 0xC ∨ zeros b 0xD 3 = false ∨ len % 64 ≠ 0) := by simp [flags, reserved, lines]
    rw [if_neg formed]
    refine ⟨fun stopped => if_pos (Device.forbidsLoad_of_stopped swap stopped), ?_, fun on alive may => ?_⟩
    · rintro rfl running
      exact if_pos (Device.forbidsLoad_of_running running)
    rw [if_neg (ne_true_of_eq_false (Device.forbidsLoad_eq_false on alive may))]
    refine ⟨fun asked pending => if_pos (by rw [asked, pending, Bool.and_self]), fun free => ?_⟩
    have unpending : ¬(swap && d.spine.swap.isSome) = true := by
      rcases free with plain | empty
      · simp [plain]
      · simp [empty]
    rw [if_neg unpending]
    refine ⟨fun outside => if_pos (Device.outside_window outside), fun near inside => ?_⟩
    rw [if_neg (Device.inside_window near inside), image]
    exact ⟨fun unread => if_pos unread, fun read => if_neg (ne_true_of_eq_false read)⟩
  · intro d perm img len swap
    refine ⟨Device.loadImage_unverified swap, fun verified => ?_⟩
    obtain ⟨refused, sound⟩ := Device.loadImage_verified (d := d) swap verified
    refine ⟨refused, ?_, ?_⟩
    · rintro faultless rfl
      exact ⟨_, rfl, (sound faultless).trans (d.loadSound_now _)⟩
    · rintro faultless rfl
      exact ⟨_, rfl, (sound faultless).trans (d.loadSound_swap _)⟩
  · intro d p
    rw [Device.runProgram_spine, Device.unload_spine]
    exact ⟨rfl, rfl, rfl, rfl, rfl, rfl⟩
  · intro d perm fails r t p pkg a len payload addr length target package
    rw [Device.loadFirmware_eq perm fails r payload addr length target]
    refine ⟨fun dirty => if_pos (by rw [dirty, Bool.not_false]), fun clean => ?_⟩
    rw [clean, Bool.not_true, if_neg Bool.false_ne_true]
    refine ⟨fun halted => if_pos halted, fun alive => ?_⟩
    rw [if_neg alive]
    refine ⟨fun all => if_pos all, fun high other => by rw [if_neg other, if_pos high], fun named => ?_⟩
    rw [if_neg (by omega), if_neg (by omega)]
    refine ⟨fun outside => if_pos (Device.outside_window outside), fun near inside => ?_⟩
    rw [if_neg (Device.inside_window near inside), package]
    exact ⟨fun unread => if_pos unread, fun read => if_neg (ne_true_of_eq_false read)⟩
  · intro d perm pkg len t r
    refine ⟨Device.offerPackage_torn r, fun whole => ⟨Device.offerPackage_unverified r whole, fun verified => ?_⟩⟩
    rw [Device.offerPackage_verified r whole verified]
    exact ⟨fun refuses => if_pos refuses, fun takes => if_neg (not_not.mpr takes)⟩

end

section
/-! PROOFS. The NUM block's controls: the start of the loss scale and the configuration of a tag (R80, R85, R92). -/

namespace Sys2Proof.Machine

/-! ### The start of the loss scale -/

/-- The exponent in force is the one configured; the clean count shares its register but not its bits (R85). -/
theorem Device.lossStart_curLog2 (d : Device) : d.lossStart.rd F.NUM_LS_STATUS_CUR_LOG2 = d.rd F.NUM_LS_CFG_INIT_LOG2 := by
  have small : d.rd F.NUM_LS_CFG_INIT_LOG2 < 2 ^ F.NUM_LS_STATUS_CUR_LOG2.w := d.rd_lt F.NUM_LS_CFG_INIT_LOG2
  rw [Device.lossStart, Device.rd_wr_disj _ _ (by decide) (.inl (by decide)), Device.rd_wr_same _ _ _ (by decide),
    Nat.mod_eq_of_lt small]

theorem Device.lossStart_clean (d : Device) : d.lossStart.rd F.NUM_LS_STATUS_CLEAN = 0 := by
  rw [Device.lossStart, Device.rd_wr_same _ _ _ (by decide), Nat.zero_mod]

/-- NUM_LS_STATUS holds both fields; no other register is written. -/
theorem Device.lossStart_reg_ne (d : Device) {k : Nat} (other : k ≠ F.NUM_LS_STATUS_CLEAN.key) : d.lossStart.reg k = d.reg k := by
  have other' : k ≠ F.NUM_LS_STATUS_CUR_LOG2.key := other
  rw [Device.lossStart, Device.reg_wr_ne _ _ other, Device.reg_wr_ne _ _ other']

/-- A write of LOAD that reaches NUM_LS_CTL (R85, R92). -/
theorem exec_lsLoad {s : State} (reach : s.reaches F.NUM_LS_CTL.key) :
    exec .lsLoad s = .next (s.withDev (if s.seen.phase ≠ .idle then s.seen.logAccess F.NUM_LS_CTL.key else s.seen.lossStart)) := by
  change execLsLoad s = _
  rw [execLsLoad, State.onDev_eq, State.access_reaches _ reach]

/-! ### The configuration of a tag -/

/-- A write that reaches NUM_TAG_CFG or NUM_TAG_SAT_THRESH acts on the selected tag in IDLE alone (R80, R92). -/
theorem exec_numTagCfgWrite {s : State} {off : Nat} (v : Nat)
    (named : off = (F.NUM_TAG_CFG 0).key ∨ off = (F.NUM_TAG_SAT_THRESH 0).key) (reach : s.reaches off) :
    exec (.numTagCfgWrite off v) s = .next (s.withDev (
      if s.seen.phase ≠ .idle then s.seen.logAccess off
      else if off = (F.NUM_TAG_CFG 0).key then s.seen.tagCfgWrite off v
      else s.seen.wr (F.NUM_TAG_SAT_THRESH_THRESH (s.seen.rd F.NUM_TAG_SEL_TAG)) v)) := by
  have windowed : ¬(off ≠ (F.NUM_TAG_CFG 0).key ∧ off ≠ (F.NUM_TAG_SAT_THRESH 0).key) := by
    rintro ⟨notCfg, notThresh⟩
    exact named.elim notCfg notThresh
  change execNumTagCfgWrite off v s = _
  rw [execNumTagCfgWrite, State.onDev_eq, if_neg windowed, State.access_reaches _ reach]

end Sys2Proof.Machine

open Sys2Proof Sys2Proof.Machine

/-- Settles O9: each command that reaches its register acts in IDLE and otherwise logs an access violation, and `lossStart` writes the
two fields of NUM_LS_STATUS alone. -/
theorem numericsControls : Obligations.NumericsControls := by
  refine ⟨?_, ?_, ?_, ?_, ?_, fun d _ other => d.lossStart_reg_ne other⟩
  · intro s reach idle
    refine ⟨?_, s.seen.lossStart_curLog2, s.seen.lossStart_clean⟩
    rw [exec_lsLoad reach, if_neg (not_not.mpr idle)]
  · intro s reach busy
    rw [exec_lsLoad reach, if_pos busy]
  · intro s v reach idle
    rw [exec_numTagCfgWrite v (.inl rfl) reach, if_neg (not_not.mpr idle), if_pos rfl]
  · intro s v reach idle
    have notCfg : (F.NUM_TAG_SAT_THRESH 0).key ≠ (F.NUM_TAG_CFG 0).key := by decide
    rw [exec_numTagCfgWrite v (.inr rfl) reach, if_neg (not_not.mpr idle), if_neg notCfg]
  · intro s off v named reach busy
    rw [exec_numTagCfgWrite v named reach, if_pos busy]

end

section
/-! PROOFS. The words of a core's instructions: what an encoding decodes to (R98, R106, R112). -/

namespace Sys2Proof.Machine

/-- The opcode R98 gives an instruction. -/
def CoreInstr.opcode : CoreInstr → Nat
  | .nop => 0x00
  | .endUnit => 0x01
  | .ldodr _ _ => 0x02
  | .seta _ _ => 0x03
  | .adda _ _ => 0x04
  | .setc _ _ => 0x05
  | .xfer _ _ _ _ => 0x06
  | .addodr _ _ => 0x07
  | .loop _ _ => 0x08
  | .fence => 0x09
  | .mma _ _ _ _ _ _ _ _ _ _ => 0x10
  | .vchain _ _ _ _ _ _ _ _ _ => 0x20
  | .s12 _ => 0x28

/-- A word's opcode stands above bit 120, so a word between two multiples of 2^120 has the lower one's factor for its opcode. -/
theorem wordOpcode_of_range {w op : Nat} (lower : op * 2 ^ 120 ≤ w) (upper : w < (op + 1) * 2 ^ 120) (byte : op < 2 ^ 8) :
    wordOpcode w = op := by
  have quotient : w / 2 ^ 120 = op := Nat.div_eq_of_lt_le lower upper
  rw [wordOpcode, bits, quotient]
  exact Nat.mod_eq_of_lt byte

theorem CoreInstr.opcode_le (i : CoreInstr) : i.opcode ≤ 0x28 := by
  cases i <;> simp only [CoreInstr.opcode] <;> omega

/-- The fields of an instruction, where they fit, stay below its opcode. -/
theorem encodeWord_range {i : CoreInstr} (fits : i.fits = true) :
    i.opcode * 2 ^ 120 ≤ encodeWord i ∧ encodeWord i < (i.opcode + 1) * 2 ^ 120 := by
  cases i with
  | nop | endUnit | fence => decide
  | ldodr | seta | adda | setc | xfer | addodr | loop | mma | vchain | s12 =>
    simp only [CoreInstr.fits, decide_eq_true_eq] at fits
    simp only [encodeWord, CoreInstr.opcode]
    omega

theorem encodeWord_lt {i : CoreInstr} (fits : i.fits = true) : encodeWord i < 2 ^ 128 := by
  have upper := (encodeWord_range fits).2
  have small := i.opcode_le
  omega

theorem encodeWord1_lt {i : CoreInstr} (fits : i.fits = true) : encodeWord1 i < 2 ^ 128 := by
  cases i with
  | vchain dst x y z count rows c0 c1 stages =>
    simp only [CoreInstr.fits, decide_eq_true_eq] at fits
    obtain ⟨-, -, -, -, -, -, -, -, stages128⟩ := fits
    exact stages128
  | _ => exact Nat.two_pow_pos 128

theorem wordOpcode_encodeWord {i : CoreInstr} (fits : i.fits = true) : wordOpcode (encodeWord i) = i.opcode := by
  obtain ⟨lower, upper⟩ := encodeWord_range fits
  exact wordOpcode_of_range lower upper (by have := i.opcode_le; omega)

/-- The opcode names the form of the word, and the form's fields lie apart: each is the quotient by what stands below it, modulo its
own width. -/
theorem decodeWord_encodeWord {i : CoreInstr} (fits : i.fits = true) : decodeWord (encodeWord i) (encodeWord1 i) = some i := by
  have opcode := wordOpcode_encodeWord fits
  cases i with
  | nop | endUnit | fence => rw [decodeWord, opcode]; rfl
  | ldodr | seta | adda | setc | xfer | addodr | loop | mma | vchain | s12 =>
    simp only [CoreInstr.fits, decide_eq_true_eq] at fits
    rw [decodeWord, opcode]
    simp only [CoreInstr.opcode, encodeWord, encodeWord1, bits]
    congr 2 <;> omega

end Sys2Proof.Machine

open Sys2Proof Sys2Proof.Machine

/-- Settles O52: `decodeWord` is a left inverse of the encoding, which is therefore injective. -/
theorem instructionWords : Obligations.InstructionWords := by
  refine ⟨fun i fits => ⟨decodeWord_encodeWord fits, encodeWord_lt fits, encodeWord1_lt fits⟩, fun i j fitsI fitsJ word word1 => ?_⟩
  have same : some i = some j := by
    rw [← decodeWord_encodeWord fitsI, word, word1, decodeWord_encodeWord fitsJ]
  exact Option.some.inj same

end

section
/-! PROOFS. The instructions of a core that issue (R97 to R102, R106, R112, R121, R125). -/

namespace Sys2Proof.Machine

/-- Where the instruction stands at the core's pointer and has no fault, its command does what the instruction does once checked. -/
theorem State.onDev_issue {s : State} {c u op : Nat} {i : CoreInstr} {f : Device → Nat → CoreInstr → Device} {faults : List Nat}
    {run : Device → Device} (h : s.seen.issues c u op i) (sound : faults = [])
    (form : f s.seen u i = s.seen.checked c u (s.seen.wordZero c i ++ faults) run) :
    s.onDev (fun d => d.issue c op f) = .next (s.withDev (run s.seen)) := by
  rw [State.onDev_eq, Device.issue_of h, form, Device.wordZero_of h, sound, List.nil_append, Device.checked_of]

/-- The same of an instruction that has no fault but a bit that must be zero. -/
theorem State.onDev_issue_faultless {s : State} {c u op : Nat} {i : CoreInstr} {f : Device → Nat → CoreInstr → Device}
    {run : Device → Device} (h : s.seen.issues c u op i) (form : f s.seen u i = s.seen.checked c u (s.seen.wordZero c i) run) :
    s.onDev (fun d => d.issue c op f) = .next (s.withDev (run s.seen)) :=
  State.onDev_issue h rfl (by rw [form, List.append_nil])

theorem faultIf_of_false {b : Bool} (c : Nat) (h : b = false) : faultIf b c = [] := by
  rw [faultIf, h, if_neg Bool.false_ne_true]

/-! ### Instructions that take no time -/

theorem exec_nop {s : State} {c u : Nat} (h : s.seen.issues c u 0x00 .nop) :
    exec (.nop c) s = .next (s.withDev (s.seen.advance c 1)) := by
  change execNop c s = _
  rw [execNop, State.onDev_issue_faultless h rfl]

/-- END with nothing in flight. -/
theorem exec_endUnit {s : State} {c u : Nat} (h : s.seen.issues c u 0x01 .endUnit) (landed : (s.seen.core c).flight = []) :
    exec (.endUnit c) s =
      .next (s.withDev ((((s.seen.countCasts c u).inc64 (F.CORE_UNITS_LO_UNITS c)).unitEnd u).coreFree c)) := by
  change execEndUnit c s = _
  rw [execEndUnit, State.onDev_issue_faultless h rfl, landed, List.isEmpty_nil, Bool.not_true, if_neg Bool.false_ne_true]

theorem exec_fence {s : State} {c u : Nat} (h : s.seen.issues c u 0x09 .fence) (landed : (s.seen.core c).flight = []) :
    exec (.fence c) s = .next (s.withDev (s.seen.advance c 1)) := by
  change execFence c s = _
  rw [execFence, State.onDev_issue_faultless h rfl, landed, List.isEmpty_nil, Bool.not_true, if_neg Bool.false_ne_true]

theorem exec_ldodr {s : State} {c u dd a : Nat} (h : s.seen.issues c u 0x02 (.ldodr dd a)) (inside : a * 64 + 32 ≤ coreMemory)
    (free : s.seen.mustWait c [(a * 64, 32)] [] = false) :
    exec (.ldodr c) s = .next (s.withDev ((s.seen.setCore c { s.seen.core c with
      desc := Store.set (fun _ => []) (s.seen.core c).desc dd (readMem s.seen.mem 32 (coreKey c (a * 64))) }).advance c 1)) := by
  have sound : faultIf (decide (coreMemory < a * 64 + 32)) 5 = [] := faultIf_of_false 5 (decide_eq_false (Nat.not_lt.mpr inside))
  change execLdodr c s = _
  rw [execLdodr, State.onDev_issue h sound rfl, if_neg (ne_true_of_eq_false free)]

theorem exec_seta {s : State} {c u an v : Nat} (h : s.seen.issues c u 0x03 (.seta an v)) :
    exec (.seta c) s = .next (s.withDev ((s.seen.setCore c { s.seen.core c with
      addr := Store.set (fun _ => 0) (s.seen.core c).addr an v }).advance c 1)) := by
  change execSeta c s = _
  rw [execSeta, State.onDev_issue_faultless h rfl]

theorem exec_adda {s : State} {c u an v : Nat} (h : s.seen.issues c u 0x04 (.adda an v)) :
    exec (.adda c) s = .next (s.withDev ((s.seen.setCore c { s.seen.core c with
      addr := Store.set (fun _ => 0) (s.seen.core c).addr an ((s.seen.addrReg c an + v) % 2 ^ 64) }).advance c 1)) := by
  change execAdda c s = _
  rw [execAdda, State.onDev_issue_faultless h rfl]

theorem exec_setc {s : State} {c u sel v : Nat} (h : s.seen.issues c u 0x05 (.setc sel v)) :
    exec (.setc c) s = .next (s.withDev ((s.seen.setCore c
      (if sel = 0 then { s.seen.core c with c2 := v } else { s.seen.core c with c3 := v })).advance c 1)) := by
  change execSetc c s = _
  rw [execSetc, State.onDev_issue_faultless h rfl]

/-- ADDODR on a valid descriptor. -/
theorem exec_addodr {s : State} {c u dd off : Nat} (h : s.seen.issues c u 0x07 (.addodr dd off)) (valid : s.seen.descReg c dd ≠ []) :
    exec (.addodr c) s = .next (s.withDev ((s.seen.setCore c { s.seen.core c with
      desc := Store.set (fun _ => []) (s.seen.core c).desc dd
        (leBytes 2 (oBase (s.seen.descReg c dd) + off) ++ (s.seen.descReg c dd).drop 2) }).advance c 1)) := by
  have sound : faultIf (s.seen.descReg c dd).isEmpty 4 = [] := faultIf_of_false 4 (List.isEmpty_eq_false_iff.mpr valid)
  change execAddodr c s = _
  rw [execAddodr, State.onDev_issue h sound rfl]

/-! ### Instructions that stay in flight -/

theorem exec_xfer {s : State} {c u an dir a len : Nat} {op : FlightOp} (h : s.seen.issues c u 0x06 (.xfer an dir a len))
    (inside : (a + len) * 64 ≤ coreMemory) (least : 1 ≤ len) (most : len ≤ 49152)
    (operation : op = .xfer (dir == 1) (s.seen.addrReg c an) a len) (free : s.seen.mustWait c op.reads op.writes = false) :
    exec (.xfer c) s = .next (s.withDev (s.seen.start c 1 op 0)) := by
  subst operation
  have sound : faultIf (decide (coreMemory < (a + len) * 64)) 5 ++ faultIf (decide (len = 0 ∨ 49152 < len)) 2 = [] := by
    rw [faultIf_of_false 5 (decide_eq_false (Nat.not_lt.mpr inside)), faultIf_of_false 2 (decide_eq_false (by omega)), List.nil_append]
  change execXfer c s = _
  rw [execXfer, State.onDev_issue h sound (congrArg (s.seen.checked c u · _) (List.append_assoc ..)),
    if_neg (ne_true_of_eq_false free)]

theorem exec_mma {s : State} {c u n dst a b acc ta tb accEn m nn k : Nat} {op : FlightOp}
    (h : s.seen.issues c u 0x10 (.mma dst a b acc ta tb accEn m nn k))
    (sound : mmaFaults (ta == 1) (tb == 1) (accEn == 1) m nn k (s.seen.descReg c dst) (s.seen.descReg c a) (s.seen.descReg c b)
      (s.seen.descReg c acc) = [])
    (operation : op = .mma (ta == 1) (tb == 1) m nn k (s.seen.descReg c dst) (s.seen.descReg c a) (s.seen.descReg c b)
      (if accEn = 1 then s.seen.descReg c acc else []))
    (free : s.seen.mustWait c op.reads op.writes = false) :
    exec (.mma c n) s = .next (s.withDev ((s.seen.start c 1 op
      (mmaClk m nn k (oFormat (s.seen.descReg c a)) (oFormat (s.seen.descReg c b)))).coreCorrected c n)) := by
  subst operation
  change execMma c n s = _
  rw [execMma, State.onDev_issue h sound rfl, if_neg (ne_true_of_eq_false free)]

theorem exec_vchain {s : State} {c u n dst x y z count rows c0 c1 stages : Nat} {op : FlightOp}
    (h : s.seen.issues c u 0x20 (.vchain dst x y z count rows c0 c1 stages))
    (sound : chainFaults count rows (stageWords stages) (s.seen.descReg c dst) (s.seen.descReg c x) (s.seen.descReg c y)
      (s.seen.descReg c z) = [])
    (operation : op = .chain count rows (stageWords stages) (s.seen.constants c c0 c1) (s.seen.descReg c dst)
      (if selects (stageWords stages) 1 then s.seen.descReg c x else []) (if selects (stageWords stages) 2 then s.seen.descReg c y else [])
      (if selects (stageWords stages) 3 then s.seen.descReg c z else []))
    (free : s.seen.mustWait c op.reads op.writes = false) :
    exec (.vchain c n) s =
      .next (s.withDev ((s.seen.start c 2 op (chainClk rows count (stageWords stages))).coreCorrected c n)) := by
  subst operation
  change execVchain c n s = _
  rw [execVchain, State.onDev_issue h sound rfl, if_neg (ne_true_of_eq_false free)]

/-- An S12CHAIN waits for its descriptor before the descriptor is checked (R121). -/
theorem exec_s12chain {s : State} {c u a : Nat} {b : Bytes} {op : FlightOp} (h : s.seen.issues c u 0x28 (.s12 a))
    (inside : a * 64 + 64 ≤ coreMemory) (landed : s.seen.mustWait c [(a * 64, 64)] [] = false)
    (descriptor : b = readMem s.seen.mem 64 (coreKey c (a * 64))) (sound : s12Bad b = false)
    (operation : op = .s12 b (s.seen.constants c (u32At b 0x38) (u32At b 0x3C)))
    (free : s.seen.mustWait c op.reads op.writes = false) :
    exec (.s12chain c) s = .next (s.withDev (s.seen.start c 1 op (s12Clk b))) := by
  have near : decide (coreMemory < a * 64 + 64) = false := decide_eq_false (Nat.not_lt.mpr inside)
  change execS12chain c s = _
  rw [execS12chain, State.onDev_eq, Device.issue_of h]
  simp only [near, landed, ← descriptor, sound, Device.wordZero_of h, faultIf_of_false, ← operation, free, Bool.not_false,
    Bool.and_false, List.append_nil, Device.checked_of, if_neg Bool.false_ne_true]

/-! ### LOOP -/

/-- A LOOP's faults but for its word: none where COUNT and BACK are in range and the stack holds its entry or has room for it (R99). -/
theorem loop_faultless {count back index depth : Nat} {again : Bool} (turns : 1 ≤ count) (moves : 1 ≤ back) (reach : back ≤ index)
    (room : again = true ∨ depth < 4) :
    faultIf (decide (count = 0 ∨ index < back) || (!again && decide (4 ≤ depth))) 7 ++ faultIf (decide (back = 0)) 2 = [] := by
  have branch : decide (count = 0 ∨ index < back) = false := decide_eq_false (by omega)
  have stack : (!again && decide (4 ≤ depth)) = false := by
    rcases room with held | shallow
    · rw [held, Bool.not_true, Bool.false_and]
    · rw [decide_eq_false (Nat.not_le.mpr shallow), Bool.and_false]
  rw [branch, stack, Bool.false_or, faultIf_of_false 7 rfl, faultIf_of_false 2 (decide_eq_false (Nat.ne_of_gt moves)), List.nil_append]

/-- A LOOP that is not on top of the stack is met for the first time: it takes its branch with COUNT - 1 turns left. -/
theorem exec_loopEnd_first {s : State} {c u count back : Nat} (h : s.seen.issues c u 0x08 (.loop count back)) (turns : 1 ≤ count)
    (moves : 1 ≤ back) (reach : back ≤ (s.seen.core c).index) (room : (s.seen.core c).loops.length < 4)
    (first : ∀ e ∈ (s.seen.core c).loops.head?, e.1 ≠ (s.seen.core c).index) :
    exec (.loopEnd c) s = .next (s.withDev (s.seen.loopTurn c u back (count - 1) (s.seen.core c).loops)) := by
  change execLoopEnd c s = _
  rw [execLoopEnd, State.onDev_issue h (loop_faultless turns moves reach (.inr room))
    (congrArg (s.seen.checked c u · _) (List.append_assoc ..))]
  cases stack : (s.seen.core c).loops with
  | nil => rfl
  | cons top rest =>
    have other : (top.1 == (s.seen.core c).index) = false := beq_eq_false_iff_ne.mpr (first top (by rw [stack]; rfl))
    simp only [other]

/-- A LOOP on top of the stack goes on with what its entry has left. -/
theorem exec_loopEnd_again {s : State} {c u count back left : Nat} {rest : List (Nat × Nat)}
    (h : s.seen.issues c u 0x08 (.loop count back)) (turns : 1 ≤ count) (moves : 1 ≤ back) (reach : back ≤ (s.seen.core c).index)
    (top : (s.seen.core c).loops = ((s.seen.core c).index, left) :: rest) :
    exec (.loopEnd c) s = .next (s.withDev (s.seen.loopTurn c u back left rest)) := by
  have held : ((s.seen.core c).index == (s.seen.core c).index) = true := BEq.rfl
  change execLoopEnd c s = _
  rw [execLoopEnd, State.onDev_issue h (loop_faultless turns moves reach (.inl (by rw [top]; exact held)))
    (congrArg (s.seen.checked c u · _) (List.append_assoc ..))]
  simp only [top, held]

/-! ### A reserved opcode -/

/-- Whatever opcode a command issues, a reserved one at the pointer is illegal. -/
theorem Device.issue_reserved {d : Device} {c u w : Nat} {w1 : Option Nat} (op : Nat) (f : Device → Nat → CoreInstr → Device)
    (unit : d.unitAt c = some u) (stands : d.fetch (d.core c).pc = some (w, w1)) (reserved : decodeWord w (w1.getD 0) = none) :
    d.issue c op f = d.illegal c u 1 := by
  simp only [Device.issue, unit, stands, reserved]

theorem exec_nop_reserved {s : State} {c u w : Nat} {w1 : Option Nat} (unit : s.seen.unitAt c = some u)
    (stands : s.seen.fetch (s.seen.core c).pc = some (w, w1)) (reserved : decodeWord w (w1.getD 0) = none) :
    exec (.nop c) s = .next (s.withDev (s.seen.illegal c u 1)) := by
  change execNop c s = _
  rw [execNop, State.onDev_eq, Device.issue_reserved _ _ unit stands reserved]

end Sys2Proof.Machine

open Sys2Proof Sys2Proof.Machine

/-- Settles O10. That END counts its unit's casts then, once however often the unit runs, is the model's choice (log entry 76). -/
theorem coreScalarInstructions : Obligations.CoreScalarInstructions :=
  ⟨fun _ _ _ h => exec_nop h,
   fun _ _ _ h landed => exec_endUnit h landed,
   fun _ _ _ _ _ h inside free => exec_ldodr h inside free,
   fun _ _ _ _ _ h => exec_seta h,
   fun _ _ _ _ _ h => exec_adda h,
   fun _ _ _ _ _ h => exec_setc h,
   fun _ _ _ _ _ h valid => exec_addodr h valid,
   fun _ _ _ h landed => exec_fence h landed⟩

/-- Settles O11. That any command of an instruction meets a reserved opcode (stated for NOP's), and that an illegal unit's casts so far
count, are the model's choices (log entries 74 and 77). -/
theorem coreTimedInstructions : Obligations.CoreTimedInstructions := by
  refine ⟨?_, ?_, ?_, ?_, ?_, ?_, ?_⟩
  · intro s c u an dir a len h inside least most free
    exact exec_xfer h inside least most rfl free
  · intro s c u count back h turns moves reach room first
    exact exec_loopEnd_first h turns moves reach room first
  · intro s c u count back left rest h turns moves reach top
    exact exec_loopEnd_again h turns moves reach top
  · intro s c u n dst a b acc ta tb accEn m nn k h sound op operation free
    exact exec_mma h sound operation free
  · intro s c u n dst x y z count rows c0 c1 stages h sound op operation free
    exact exec_vchain h sound operation free
  · intro s c u a b h inside landed descriptor sound op operation free
    exact exec_s12chain h inside landed descriptor sound operation free
  · intro s c u w w1 unit stands reserved
    exact exec_nop_reserved unit stands reserved

end

section
/-! PROOFS. The commands of an embedding table: ENABLE, DISABLE and the clearing of its counters (R131, R133, R137, R161). -/

namespace Sys2Proof.Machine

/-! ### The state of a table -/

/-- What a table holds stands in the list of tables alone. -/
theorem Device.table_of_tables {d e : Device} (h : e.sparse.tables = d.sparse.tables) (t : Nat) : e.table t = d.table t := by
  rw [Device.table, h, Device.table]

theorem Device.table_of_sparse {d e : Device} (h : e.sparse = d.sparse) (t : Nat) : e.table t = d.table t :=
  Device.table_of_tables (congrArg Sparse.tables h) t

@[simp] theorem Device.table_setTable (d : Device) (t : Nat) (x : Table) : (d.setTable t x).table t = x := Store.get_set_same ..

theorem Device.table_setTable_ne (d : Device) {t k : Nat} (x : Table) (other : k ≠ t) : (d.setTable t x).table k = d.table k :=
  Store.get_set_ne _ _ _ other

@[simp] theorem Device.clearTable_sparse (d : Device) (t : Nat) : (d.clearTable t).sparse = d.sparse := by
  simp [Device.clearTable]

@[simp] theorem Device.bwView_sparse (d : Device) (t : Nat) : (d.bwView t).sparse = d.sparse := by
  simp [Device.bwView]

@[simp] theorem Device.dropSketch_sparse (d : Device) (region : Option (Nat × Nat)) : (d.dropSketch region).sparse = d.sparse := by
  cases region <;> simp [Device.dropSketch]

/-! ### The end of a command -/

/-- A command's RESULT and the end of BUSY are followed by CMD_DONE or CMD_FAIL, and reporting changes nothing else (R133, R161). -/
theorem Device.tableResult_calm (d : Device) (r : Nat) :
    Device.Calm (((d.wr F.EMB_TBL_CMD_STATUS_RESULT r).wr F.EMB_TBL_CMD_STATUS_BUSY 0).wr
      (if r = 0 then F.EMB_INT_STATUS_CMD_DONE else F.EMB_INT_STATUS_CMD_FAIL) 1) (d.tableResult r) := by
  rw [Device.tableResult]
  split
  · exact Device.raise_calm _ (by decide) (by decide) (by simp [notCfg, F.EMB_INT_STATUS_CMD_DONE])
  · exact Device.raise_calm _ (by decide) (by decide) (by simp [notCfg, F.EMB_INT_STATUS_CMD_FAIL])

/-! ### DISABLE -/

/-- Dropping a replica of one table leaves every other (R133). -/
theorem Device.dropReplica_table_ne (d : Device) {t k : Nat} (x : BwRow) (other : k ≠ t) : (d.dropReplica t x).table k = d.table k := by
  rw [Device.dropReplica, Device.table_setTable_ne _ _ other]
  split
  · split
    · exact Device.table_of_sparse (Device.setEntry_sparse ..) k
    · rfl
  · exact Device.table_of_sparse (Device.free1_sparse ..) k

theorem Device.dropReplicas_table_ne (d : Device) {t k : Nat} (xs : List BwRow) (other : k ≠ t) :
    (xs.foldl (fun d x => d.dropReplica t x) d).table k = d.table k := by
  induction xs generalizing d with
  | nil => rfl
  | cons x xs ih => rw [List.foldl_cons, ih, Device.dropReplica_table_ne d x other]

theorem Device.forgetTable_tables (d : Device) (t : Nat) : (d.forgetTable t).sparse.tables = (d.setTable t {}).sparse.tables := by
  simp [Device.forgetTable]

/-- A table that is forgotten holds what a table that was never enabled holds. -/
theorem Device.forgetTable_table (d : Device) (t : Nat) : (d.forgetTable t).table t = {} := by
  rw [Device.table_of_tables (d.forgetTable_tables t), Device.table_setTable]

theorem Device.forgetTable_table_ne (d : Device) {t k : Nat} (other : k ≠ t) : (d.forgetTable t).table k = d.table k := by
  rw [Device.table_of_tables (d.forgetTable_tables t), Device.table_setTable_ne _ _ other]

theorem Device.tableOff_table (d : Device) (t : Nat) : (d.tableOff t).table t = {} := by
  rw [Device.tableOff, Device.table_of_sparse (Device.bwView_sparse ..), Device.forgetTable_table]

theorem Device.tableOff_table_ne (d : Device) {t k : Nat} (other : k ≠ t) : (d.tableOff t).table k = d.table k := by
  rw [Device.tableOff, Device.table_of_sparse (Device.bwView_sparse ..), Device.forgetTable_table_ne _ other,
    Device.table_of_sparse (Device.dropSketch_sparse ..), Device.dropReplicas_table_ne _ _ other]

/-! ### ENABLE -/

/-- A table takes a record, with its counters at 0 and the registers that show it (R133, R161). -/
def Device.tableTakes (d : Device) (t : Nat) (x : Table) : Device :=
  ((((d.setTable t x).clearTable t).wr (F.EMB_TBL_STATE_ENABLED t) 1).wr64 (F.EMB_TBL_NEXT_DECAY_LO_TICK t) x.nextDecay).bwView t

theorem Device.tableTakes_table (d : Device) (t : Nat) (x : Table) : (d.tableTakes t x).table t = x := by
  have sparse : (d.tableTakes t x).sparse = (d.setTable t x).sparse := by simp [Device.tableTakes]
  rw [Device.table_of_sparse sparse, Device.table_setTable]

theorem Device.tableTakes_table_ne (d : Device) {t k : Nat} (x : Table) (other : k ≠ t) : (d.tableTakes t x).table k = d.table k := by
  have sparse : (d.tableTakes t x).sparse = (d.setTable t x).sparse := by simp [Device.tableTakes]
  rw [Device.table_of_sparse sparse, Device.table_setTable_ne _ _ other]

/-- With room for the sketch and for the default row's replica, ENABLE gives the table its record (R133, R137). -/
theorem Device.tableOn_of_room {d e f : Device} {t l : Nat} {b : Bytes} {sk : Option (Nat × Nat)} (sketch : d.tableSketch t b = some (sk, e))
    (room : e.alloc1 (e.sortTile t (dRows b)) (dRecLines b) = some (l, f)) :
    d.tableOn t b = (f.tableTakes t { on := true, desc := b, sketchAt := sk
                                      nextDecay := if dBw b ∧ dDecay b ≠ 0 then f.now + dDecay b else 0
                                      bw := [⟨dRows b, e.sortTile t (dRows b), l, false, 0⟩] }).tableResult 0 := by
  simp only [Device.tableOn, sketch, room, Device.tableTakes]

/-- Without room for the sketch the RESULT is 7 (R133). -/
theorem Device.tableOn_of_noSketch {d : Device} {t : Nat} {b : Bytes} (refused : d.tableSketch t b = none) :
    d.tableOn t b = d.tableResult 7 := by
  simp only [Device.tableOn, refused]

/-! ### The commands -/

/-- A write of EMB_TBL_CMD that reaches it is acted on in IDLE. -/
theorem State.tableCmd_idle {s : State} (f : Device → Device) (reach : s.reaches F.EMB_TBL_CMD.key) (idle : s.seen.phase = .idle) :
    s.tableCmd f = .next (s.withDev (f s.seen)) := by
  rw [State.tableCmd, State.onDev_eq, State.access_reaches _ reach, if_pos idle]

/-- Out of IDLE it answers 10. -/
theorem State.tableCmd_busy {s : State} (f : Device → Device) (reach : s.reaches F.EMB_TBL_CMD.key) (busy : s.seen.phase ≠ .idle) :
    s.tableCmd f = .next (s.withDev (s.seen.tableResult 10)) := by
  rw [State.tableCmd, State.onDev_eq, State.access_reaches _ reach, if_neg busy]

section Enable
variable {s : State} {t : Nat} {w : List Host.Cell} (reach : s.reaches F.EMB_TBL_CMD.key) (idle : s.seen.phase = .idle) (named : t < 4096)
include reach idle named

/-- ENABLE of a table that is enabled answers 9. -/
theorem exec_tableEnable_on (on : ((s.seen.hostWrites w).table t).on = true) :
    exec (.tableEnable t w) s = .next (s.withDev ((s.seen.hostWrites w).tableResult 9)) := by
  change execTableEnable t w s = _
  rw [execTableEnable, State.tableCmd_idle _ reach idle, Nat.mod_eq_of_lt named, if_pos on]

/-- ENABLE whose descriptor cannot be read answers 11 and logs it (R133, R205). -/
theorem exec_tableEnable_unread (off : ((s.seen.hostWrites w).table t).on = false)
    (unread : (s.seen.hostWrites w).uniRead ((s.seen.hostWrites w).rd64 F.EMB_TDA_LO_ADDR + 64 * t) 64 = none) :
    exec (.tableEnable t w) s = .next (s.withDev (((s.seen.hostWrites w).log 4 0 2 t 11
      ((s.seen.hostWrites w).rd64 F.EMB_TDA_LO_ADDR + 64 * t)).tableResult 11)) := by
  change execTableEnable t w s = _
  rw [execTableEnable, State.tableCmd_idle _ reach idle, Nat.mod_eq_of_lt named, if_neg (ne_true_of_eq_false off)]
  simp only [unread]

/-- ENABLE of a descriptor that is read answers the first fault of its checks, or enables the table (R131, R133). -/
theorem exec_tableEnable_read {b : Bytes} {a : Nat} (off : ((s.seen.hostWrites w).table t).on = false)
    (place : a = (s.seen.hostWrites w).rd64 F.EMB_TDA_LO_ADDR + 64 * t) (read : (s.seen.hostWrites w).uniRead a 64 = some b) :
    exec (.tableEnable t w) s = .next (s.withDev (
      if ((s.seen.hostWrites w).uniAsk a 64).tableFault b ≠ 0
        then ((s.seen.hostWrites w).uniAsk a 64).tableResult (((s.seen.hostWrites w).uniAsk a 64).tableFault b)
        else ((s.seen.hostWrites w).uniAsk a 64).tableOn t b)) := by
  subst place
  change execTableEnable t w s = _
  rw [execTableEnable, State.tableCmd_idle _ reach idle, Nat.mod_eq_of_lt named, if_neg (ne_true_of_eq_false off)]
  simp only [read]

end Enable

theorem exec_tableDisable_on {s : State} {t : Nat} (reach : s.reaches F.EMB_TBL_CMD.key) (idle : s.seen.phase = .idle) (named : t < 4096)
    (on : (s.seen.table t).on = true) : exec (.tableDisable t) s = .next (s.withDev ((s.seen.tableOff t).tableResult 0)) := by
  change execTableDisable t s = _
  rw [execTableDisable, State.tableCmd_idle _ reach idle, Nat.mod_eq_of_lt named, on, if_neg (by decide)]

theorem exec_tableDisable_off {s : State} {t : Nat} (reach : s.reaches F.EMB_TBL_CMD.key) (idle : s.seen.phase = .idle) (named : t < 4096)
    (off : (s.seen.table t).on = false) : exec (.tableDisable t) s = .next (s.withDev (s.seen.tableResult 9)) := by
  change execTableDisable t s = _
  rw [execTableDisable, State.tableCmd_idle _ reach idle, Nat.mod_eq_of_lt named, off, if_pos (by decide)]

theorem exec_tableClearCounters {s : State} {t : Nat} (reach : s.reaches F.EMB_TBL_CMD.key) (idle : s.seen.phase = .idle)
    (named : t < 4096) : exec (.tableClearCounters t) s = .next (s.withDev ((s.seen.clearTable t).tableResult 0)) := by
  change execTableClearCounters t s = _
  rw [execTableClearCounters, State.tableCmd_idle _ reach idle, Nat.mod_eq_of_lt named]

/-- Out of IDLE none of the three is acted on (R133, R161). -/
theorem exec_tableCommand_busy {s : State} {t : Nat} {w : List Host.Cell} {c : Instr} (reach : s.reaches F.EMB_TBL_CMD.key)
    (busy : s.seen.phase ≠ .idle) (command : c = .tableEnable t w ∨ c = .tableDisable t ∨ c = .tableClearCounters t) :
    exec c s = .next (s.withDev (s.seen.tableResult 10)) := by
  rcases command with rfl | rfl | rfl <;> exact State.tableCmd_busy _ reach busy

end Sys2Proof.Machine

open Sys2Proof Sys2Proof.Machine

/-- Settles O15. The order of the descriptor's checks, the lines that the sketch and the replica take, what BW_USED counts and the
SEVERITY of the event of an unreadable descriptor are the model's choices (log entries 35, 10, 143 and 43). -/
theorem tableCommands : Obligations.TableCommands := by
  refine ⟨?_, ?_, ?_, ?_, ?_, ?_, fun _ _ _ => Device.tableOn_of_noSketch, Device.tableResult_calm⟩
  · rintro s t w _ _ a b reach idle named rfl off place read rfl
    have answer := exec_tableEnable_read reach idle named off place read
    exact ⟨fun sound => by rw [answer, if_neg (not_not.mpr sound)], fun fault => by rw [answer, if_pos fault]⟩
  · rintro s t w _ reach idle named rfl
    refine ⟨exec_tableEnable_on reach idle named, ?_⟩
    rintro off _ rfl unread
    exact exec_tableEnable_unread reach idle named off unread
  · intro s t reach idle named
    exact ⟨exec_tableDisable_on reach idle named, exec_tableDisable_off reach idle named, exec_tableClearCounters reach idle named⟩
  · intro s t w reach busy c
    exact exec_tableCommand_busy reach busy
  · intro d t
    exact ⟨d.tableOff_table t, fun _ other => d.tableOff_table_ne other⟩
  · rintro d e f t _ l _ b sk sketch rfl room rfl
    exact ⟨_, Device.tableOn_of_room sketch room, Device.tableTakes_table .., fun _ other => Device.tableTakes_table_ne _ _ other⟩

end

section
/-! PROOFS. The units of a tile, lookup, sort-and-scan and staging, and the trees of its owned rows (R144, R150, R163, R169, R173). -/

namespace Sys2Proof.Machine

/-! ### Lookup units -/

theorem exec_lookupUnit {s : State} {t u : Nat} {a : Bytes} (unit : s.seen.unitAt (placeTile t) = some u)
    (kind : (s.seen.workUnit u).kind = 3) (block : s.seen.unitRead (s.seen.workUnit u).argPtr 32 = .bytes a) :
    exec (.lookupUnit t) s = .next (s.withDev (s.seen.lookup u t a)) := by
  change execLookupUnit t s = _
  rw [execLookupUnit, State.onDev_eq]
  simp only [unit, block, if_neg (not_not.mpr kind)]

/-- The bag of every sample of a unit's leaf in a section, after the table's policy (R141, R142). -/
def Device.lookupBags (d : Device) (u : Nat) (desc : Bytes) (sec : BagSec) : List (List (Nat × Nat)) :=
  (List.range d.leafSamples).map fun i => policyBag desc ((sec.bag d.leafSamples (d.workUnit u).leaf i).getD [])

/-- The distinct rows that bags name. -/
def bagRows (bags : List (List (Nat × Nat))) : List Nat := ((bags.flatMap id).map (·.1)).eraseDups

/-- The pooled and narrowed output of every bag, from the gathered rows of table `t` (R72, R150). -/
def Device.lookupOuts (d : Device) (t : Nat) (desc : Bytes) (bags : List (List (Nat × Nat))) : List (Bytes × Nat × Nat) :=
  bags.map fun b => d.poolOut desc (poolBag (dPool desc) (dWidth desc)
    (b.map fun e => (rowValues (dFormat desc) (dWidth desc) ((d.gathered t e.1).getD []), e.2)))

/-- Every output at the operand block's stride from its first address (R149). -/
def lookupWrites (a : Bytes) (outs : List (Bytes × Nat × Nat)) : List (Nat × Bytes) :=
  (List.range outs.length).map fun i => (u64At a 8 + i * u32At a 0x10, (outs.getD i ([], 0, 0)).1)

/-- A lookup unit with a sound operand block whose rows are all gathered writes its outputs, counts, and ends (R149 to R151). -/
theorem Device.lookup_of_gathered {d e : Device} {u t : Nat} (tile : Nat) {a desc : Bytes} {sec : BagSec} {bags : List (List (Nat × Nat))}
    (names : t = u16At a 0) (small : t < 4096) (on : (d.table t).on = true) (described : desc = (d.table t).desc)
    (found : ((d.secsOf t).find? fun s => s.feature = u16At a 2 ∧ (s.bag d.leafSamples (d.workUnit u).leaf 0).isSome) = some sec)
    (reserved : (zeros a 4 4 && zeros a 0x14 12) = true) (aligned : u32At a 0x10 % 64 = 0)
    (wide : packedBytes (dOutFormat desc) (dWidth desc) ≤ u32At a 0x10) (bagged : bags = d.lookupBags u desc sec)
    (ready : ((bagRows bags).all fun r => (d.gathered t r).isSome) = true)
    (written : d.writeAll (lookupWrites a (d.lookupOuts t desc bags)) = some e) :
    d.lookup u tile a = (e.lookupCounts u tile t (d.lookupOuts t desc bags) (bagRows bags)
      (poolCost (dPool desc) (dWidth desc) (bags.map (·.length)))).unitEnd u := by
  subst names described bagged
  have enabled : ¬(4096 ≤ u16At a 0 ∨ (d.table (u16At a 0)).on = false) := by simp [on, small]
  have zero : ¬((!(zeros a 4 4 && zeros a 0x14 12)) = true) := by simp [reserved]
  have stride : ¬(u32At a 0x10 % 64 ≠ 0 ∨ u32At a 0x10 < packedBytes (dOutFormat (d.table (u16At a 0)).desc)
      (dWidth (d.table (u16At a 0)).desc)) := by omega
  have gathered : ¬((!(bagRows (d.lookupBags u (d.table (u16At a 0)).desc sec)).all fun r => (d.gathered (u16At a 0) r).isSome) = true) := by
    simp [ready]
  simp only [bagRows, lookupWrites, Device.lookupOuts, Device.lookupBags] at gathered written ⊢
  rw [Device.lookup, if_neg enabled, found]
  dsimp only
  rw [if_neg zero, if_neg stride, if_neg gathered, written]

/-! ### Sort-and-scan units -/

/-- A sort-and-scan unit with BACKWARD and a readable operand block coalesces by it (R163). -/
theorem exec_sortScanUnit_backward {s : State} {t u : Nat} {a : Bytes} (unit : s.seen.unitAt (placeTile t) = some u)
    (kind : (s.seen.workUnit u).kind = 4) (backward : bit (s.seen.workUnit u).flags 0 = true)
    (block : s.seen.unitRead (s.seen.workUnit u).argPtr 32 = .bytes a) :
    exec (.sortScanUnit t) s = .next (s.withDev (s.seen.sortScan u t a)) := by
  change execSortScanUnit t s = _
  rw [execSortScanUnit, State.onDev_eq]
  simp only [unit, block, if_neg (not_not.mpr kind), backward, Bool.not_true, Bool.false_eq_true, if_false]

/-- One without BACKWARD ends: its keys were sorted in ADMIT (R144). -/
theorem exec_sortScanUnit_forward {s : State} {t u : Nat} (unit : s.seen.unitAt (placeTile t) = some u)
    (kind : (s.seen.workUnit u).kind = 4) (forward : bit (s.seen.workUnit u).flags 0 = false) :
    exec (.sortScanUnit t) s = .next (s.withDev (s.seen.unitEnd u)) := by
  change execSortScanUnit t s = _
  rw [execSortScanUnit, State.onDev_eq]
  simp only [unit, if_neg (not_not.mpr kind), forward, Bool.not_false, if_true]

/-- Where every occurrence's gradient is read, the unit sets the leaf nodes of the coalesced gradients and ends (R163). -/
theorem Device.sortScan_of_read {d : Device} {u t : Nat} (tile : Nat) {a desc : Bytes} {os : List Occ} {bs : List Bytes}
    (names : t = Config.sortTable a) (described : desc = (d.table t).desc) (on : (d.table t).on = true)
    (occurrences : os = d.occsOf t (d.workUnit u).leaf)
    (read : d.unitReads (os.map fun o => (Config.sortGrad a o.feature + o.sample * Config.sortStride a o.feature, 2 * dWidth desc)) = .ok bs) :
    d.sortScan u tile a = (d.leafNodes t (d.workUnit u).leaf
      (coalesce (dPool desc) (dWidth desc) (os.zip (bs.map (f16sOf · (dWidth desc)))))).unitEnd u := by
  subst names described occurrences
  simp only [Device.sortScan, if_pos on, read]

/-! ### Staging -/

/-- A reservation that is made ends the wait for it (R173). -/
theorem Device.stageTry_of_room {d e : Device} {tile : Nat} (room : d.reserve tile = some e) :
    d.stageTry tile = (e.stageGot tile, true) := by
  rw [Device.stageTry, room]

/-- Once the other members' requests are all here, one that is not made waits for room (R173). -/
theorem Device.stageTry_of_full {d : Device} {tile : Nat} (full : d.reserve tile = none)
    (asked : (d.others.all fun m => d.setComplete 3 d.step64 (d.memberRank m)) = true) :
    d.stageTry tile = (d.stageWait tile, false) := by
  simp only [Device.stageTry, full, if_pos asked]

theorem exec_optStagingUnit {s : State} {t u : Nat} (unit : s.seen.unitAt (placeTile t) = some u) (kind : (s.seen.workUnit u).kind = 5) :
    exec (.optStagingUnit t) s = .next (s.withDev
      (if (s.seen.stageTry t).2 then (s.seen.stageTry t).1.unitEnd u else (s.seen.stageTry t).1)) := by
  change execOptStagingUnit t s = _
  rw [execOptStagingUnit, State.onDev_eq]
  simp only [unit, if_neg (not_not.mpr kind)]

/-- A reservation that waited is made once there is room, and ends the tile's staging unit. -/
theorem exec_stagingReserve_of_room {s : State} {t u : Nat} {e : Device} (unit : s.seen.unitAt (placeTile t) = some u)
    (kind : (s.seen.workUnit u).kind = 5) (room : s.seen.reserve t = some e) (waited : s.seen.sparse.wantStage.contains t = true) :
    exec (.stagingReserve t) s = .next (s.withDev ((e.stageGot t).unitEnd u)) := by
  change execStagingReserve t s = _
  rw [execStagingReserve, State.onDev_eq]
  simp only [waited, Bool.not_true, Bool.false_eq_true, if_false, Device.stageTry_of_room room, unit, if_pos kind]

/-! ### Owner row trees -/

theorem exec_ownerRowTrees_of_room {s : State} {t : Nat} {e : Device} (tile : t < 24) (reduce : s.seen.phase = .reduce)
    (goes : s.seen.sparse.stopped = false) (left : s.seen.sparse.treesDone.contains t = false)
    (complete : (s.seen.others.all fun m => s.seen.setComplete 5 s.seen.step64 (s.seen.memberRank m)) = true)
    (room : s.seen.reserve t = some e) : exec (.ownerRowTrees t) s = .next (s.withDev ((e.stageGot t).formRoots t)) := by
  change execOwnerRowTrees t s = _
  rw [execOwnerRowTrees, State.onDev_eq]
  simp only [reduce, goes, left, complete, show t < Config.tiles from tile, decide_true, Bool.not_false, Bool.and_true, Bool.not_true,
    Bool.false_eq_true, if_false, Device.stageTry_of_room room, if_true]

/-- A staged row's root and flag from its tree over the nodes here, none while the tree is not whole (R169). -/
def Device.stagedRoot (d : Device) (tile : Nat) (s : Staged) : Staged :=
  if d.sortTile s.table s.row ≠ tile then s
  else
    match rowTree s.table s.row d.sparse.nodes d.leafLog 0 with
    | some v => { s with root := some v.1, nf := v.2 }
    | none => { s with root := none, nf := false }

theorem Device.formRoots_staged (d : Device) (tile : Nat) :
    (d.formRoots tile).sparse.staged = d.sparse.staged.map (d.stagedRoot tile) := rfl

/-- A row of another tile is as it was. -/
theorem Device.stagedRoot_elsewhere {d : Device} {tile : Nat} {s : Staged} (other : d.sortTile s.table s.row ≠ tile) : d.stagedRoot tile s = s :=
  if_pos other

/-- A row of the tile whose tree is whole takes its root and flag. -/
theorem Device.stagedRoot_whole {d : Device} {tile : Nat} {s : Staged} {v : List Nat} {nf : Bool} (here : d.sortTile s.table s.row = tile)
    (whole : rowTree s.table s.row d.sparse.nodes d.leafLog 0 = some (v, nf)) :
    d.stagedRoot tile s = { s with root := some v, nf := nf } := by
  simp only [Device.stagedRoot, if_neg (not_not.mpr here), whole]

end Sys2Proof.Machine

open Sys2Proof Sys2Proof.Machine

/-- Settles O16. Where a backward sort-and-scan unit's operand block names its table, its gradients and their strides (Config.sortTable,
sortGrad and sortStride) is the model's choice (log entry 36). -/
theorem tileUnits : Obligations.TileUnits := by
  refine ⟨fun _ _ _ _ => exec_lookupUnit, ?_, fun _ _ _ _ => exec_sortScanUnit_backward, fun _ _ _ => exec_sortScanUnit_forward,
    fun _ _ tile _ _ _ _ _ => Device.sortScan_of_read tile, ?_, ?_, fun _ _ _ => exec_ownerRowTrees_of_room, ?_⟩
  · rintro d e u tile t a sec x names small on described found reserved aligned wide bags _ _ bagged rfl ready rfl written
    have ends := Device.lookup_of_gathered tile names small on described found reserved aligned wide bagged ready written
    exact ⟨ends, by rw [ends]; exact Device.unitSt_setUnit ..⟩
  · intro s t u e unit kind room
    refine ⟨?_, exec_stagingReserve_of_room unit kind room⟩
    rw [exec_optStagingUnit unit kind, Device.stageTry_of_room room, if_pos rfl]
  · intro s t full asked u unit kind
    rw [exec_optStagingUnit unit kind, Device.stageTry_of_full full asked, if_neg Bool.false_ne_true]
  · intro d t
    rw [Device.formRoots_staged]
    refine ⟨rfl, List.length_map .., fun s staged other => ?_, fun s staged here v nf whole => ?_⟩
    · exact List.mem_map.mpr ⟨s, staged, Device.stagedRoot_elsewhere other⟩
    · exact List.mem_map.mpr ⟨s, staged, Device.stagedRoot_whole here whole⟩

end

section
/-! PROOFS. Acknowledgements of the tail, their timeout, and the drain of the tail (R191, R196, R197). -/

namespace Sys2Proof.Machine

/-! ### Acknowledgements -/

/-- The T24 consumes an acknowledgement of a tail ring and acts on its STATUS (R191, R196). -/
theorem exec_tailAck {s : State} {r i : Nat} {e : Bytes} (head : s.seen.ringHead r = some e) (answers : s.seen.tailIndex r = some i)
    (type : s.seen.rd (F.RING_CFG_TYPE r) = 6) :
    exec (.tailAck r) s = .next (s.withDev (
      if u8At e 1 = 0 then (s.seen.ringConsume r).tailAcked i (u64At e 8)
      else (((s.seen.ringConsume r).raise F.OPT_INT_STATUS_TAIL_ACK_FAIL).lasting 0x0503 3 r (u8At e 1) 0 2 r true).haltReq)) := by
  change execTailAck r s = _
  rw [execTailAck, State.onDev_eq, head, answers]
  dsimp only
  rw [if_neg (not_not.mpr type)]

/-! ### The timeout of an acknowledgement -/

/-- The event of a late gather: TAIL_TIMEOUT sets and the fault policy hears of its tail ring and row (R196). -/
def Device.tailTimedOut (d : Device) (g : Gather) : Device :=
  (d.raise F.OPT_INT_STATUS_TAIL_TIMEOUT).lasting 0x0503 3 (d.tailRingOf g.table g.row) 0 g.row 2 (d.tailRingOf g.table g.row)

/-- A late gather waits on from 0 (R196). -/
theorem exec_tailAckTimeout_late {s : State} {g : Gather} (late : s.seen.tailLate = some g) :
    exec .tailAckTimeout s = .next (s.withDev ((s.seen.setGather { g with waited := 0 }).tailTimedOut g)) := by
  change execTailAckTimeout s = _
  rw [execTailAckTimeout, State.onDev_eq, late]
  rfl

theorem exec_tailAckTimeout_none {s : State} (noneLate : s.seen.tailLate = none) :
    exec .tailAckTimeout s = .next (s.withDev s.seen) := by
  change execTailAckTimeout s = _
  rw [execTailAckTimeout, State.onDev_eq, noneLate]

/-! ### The drain -/

/-- A write of DRAIN that reaches OPT_TAIL_CTL acts in IDLE alone (R197). -/
theorem exec_tailDrain {s : State} (reach : s.reaches F.OPT_TAIL_CTL.key) :
    exec .tailDrain s = .next (s.withDev (if s.seen.phase ≠ .idle then s.seen else s.seen.tailDrainAsk.tailDrainEnd)) := by
  change execTailDrain s = _
  rw [execTailDrain, State.onDev_eq, State.access_reaches _ reach]

theorem Device.tailDrainAsk_tailDrain (d : Device) : d.tailDrainAsk.sparse.tailDrain = true := by
  rw [Device.tailDrainAsk, Device.wr_sparse]

theorem Device.tailDrainAsk_rd (d : Device) : d.tailDrainAsk.rd F.OPT_TAIL_CTL_DRAIN = 1 := by
  rw [Device.tailDrainAsk, Device.rd_wr_same _ _ _ (by decide)]
  rfl

/-- A drain ends once every tail record is acknowledged (R197). -/
theorem Device.tailDrainEnd_of_clear {d : Device} (drains : d.sparse.tailDrain = true) (clear : d.tailClear = true) :
    d.tailDrainEnd = { d with sparse := { d.sparse with tailDrain := false } }.wr F.OPT_TAIL_CTL_DRAIN 0 :=
  if_pos (by rw [drains, clear, Bool.and_self])

theorem Device.tailDrainEnd_of_pending {d : Device} (pending : d.tailClear = false) : d.tailDrainEnd = d :=
  if_neg (by rw [pending, Bool.and_false]; exact Bool.false_ne_true)

/-- The end of the drain clears DRAIN. -/
theorem Device.tailDrainEnd_rd {d : Device} (drains : d.sparse.tailDrain = true) (clear : d.tailClear = true) :
    d.tailDrainEnd.rd F.OPT_TAIL_CTL_DRAIN = 0 := by
  rw [Device.tailDrainEnd_of_clear drains clear, Device.rd_wr_same _ _ _ (by decide), Nat.zero_mod]

/-- The end of the drain releases the spine. -/
theorem Device.tailDrainEnd_tailDrain {d : Device} (drains : d.sparse.tailDrain = true) (clear : d.tailClear = true) :
    d.tailDrainEnd.sparse.tailDrain = false := by
  rw [Device.tailDrainEnd_of_clear drains clear, Device.wr_sparse]

end Sys2Proof.Machine

open Sys2Proof Sys2Proof.Machine

/-- Settles O17. That every STATUS other than 0 is a failure, that the spine's halt sets HALT_REQ itself and the SEVERITY of the two
events are the model's choices (log entries 88, 13 and 43). -/
theorem tailAcknowledgements : Obligations.TailAcknowledgements := by
  refine ⟨?_, ?_, fun _ => exec_tailAckTimeout_none, ?_, ?_, ?_⟩
  · intro s r i e head answers type
    have answer := exec_tailAck head answers type
    exact ⟨fun done => by rw [answer, if_pos done], fun failed => by rw [answer, if_neg failed]⟩
  · rintro s g _ late rfl
    exact exec_tailAckTimeout_late late
  · intro s reach idle
    rw [exec_tailDrain reach, if_neg (not_not.mpr idle)]
  · intro s reach busy
    rw [exec_tailDrain reach, if_pos busy]
  · intro d
    exact ⟨d.tailDrainAsk_tailDrain, d.tailDrainAsk_rd, fun drains =>
      ⟨fun clear => ⟨Device.tailDrainEnd_rd drains clear, Device.tailDrainEnd_tailDrain drains clear⟩,
        Device.tailDrainEnd_of_pending⟩⟩

end

section
/-! PROOFS. The commands of the tier manager (R206 to R209, R229 to R233, R596). -/

namespace Sys2Proof.Machine

/-! ### A write of TIER_CMD -/

/-- With no command busy, a write that reaches TIER_CMD has the command's effect (R233). -/
theorem State.tierCmd_of_free {s : State} {f : Device → Device} (reach : s.reaches F.TIER_CMD.key)
    (free : s.seen.flag F.TIER_CMD_STATUS_BUSY = false) : s.tierCmd f = .next (s.withDev (f s.seen)) := by
  rw [State.tierCmd, State.onDev_eq, State.access_reaches _ reach, free, if_neg Bool.false_ne_true]

/-- While a command is busy it is only logged (R233). -/
theorem State.tierCmd_of_busy {s : State} (f : Device → Device) (reach : s.reaches F.TIER_CMD.key)
    (busy : s.seen.flag F.TIER_CMD_STATUS_BUSY = true) : s.tierCmd f = .next (s.withDev (s.seen.logAccess F.TIER_CMD.key)) := by
  rw [State.tierCmd, State.onDev_eq, State.access_reaches _ reach, busy, if_pos rfl]

/-- RESULT and BUSY are written, then CMD_DONE or CMD_FAIL sets, and beyond that only its report is left (R207 to R209). -/
theorem Device.tierResult_calm (d : Device) (r : Nat) :
    Device.Calm (((d.wr F.TIER_CMD_STATUS_RESULT r).wr F.TIER_CMD_STATUS_BUSY 0).wr
      (if r = 0 then F.TIER_INT_STATUS_CMD_DONE else F.TIER_INT_STATUS_CMD_FAIL) 1) (d.tierResult r) := by
  rw [Device.tierResult]
  split
  · exact Device.raise_calm _ rfl (by decide) (by simp [notCfg, F.TIER_INT_STATUS_CMD_DONE])
  · exact Device.raise_calm _ rfl (by decide) (by simp [notCfg, F.TIER_INT_STATUS_CMD_FAIL])

/-! ### The commands -/

section Commands

variable {s : State} (reach : s.reaches F.TIER_CMD.key) (free : s.seen.flag F.TIER_CMD_STATUS_BUSY = false)
include reach free

/-- In IDLE a readable descriptor answers its lowest RESULT, or its object is made where none is met (R207, R208). -/
theorem exec_createObj_of_desc {w : List Host.Cell} {d : Device} {b : Bytes} (idle : s.seen.phase = .idle)
    (wrote : d = s.seen.hostWrites w) (desc : d.objDesc = some b) :
    exec (.createObj w) s = .next (s.withDev (
      if lowest (d.descFaults none b) ≠ 0 then d.askObjDesc.tierResult (lowest (d.descFaults none b)) else d.askObjDesc.create b)) := by
  subst wrote
  change s.tierCmd _ = _
  rw [State.tierCmd_of_free reach free]
  dsimp only
  rw [Device.hostWrites_phase, if_neg (not_not.mpr idle), desc]

theorem exec_createObj_out_of_idle (w : List Host.Cell) (running : s.seen.phase ≠ .idle) :
    exec (.createObj w) s = .next (s.withDev ((s.seen.hostWrites w).tierResult 10)) := by
  change s.tierCmd _ = _
  rw [State.tierCmd_of_free reach free]
  dsimp only
  rw [Device.hostWrites_phase, if_pos running]

/-- In IDLE a live handle and a readable descriptor answer the lowest RESULT, 13 for a change of what may not change, or the
policy is set where none is met (R209). -/
theorem exec_setPolicy_of_desc {w : List Host.Cell} {d : Device} {b : Bytes} {h r : Nat} (idle : s.seen.phase = .idle)
    (wrote : d = s.seen.hostWrites w) (names : h = d.rd F.TIER_CMD_HANDLE_HANDLE) (live : d.handleLive h = true)
    (desc : d.objDesc = some b)
    (answer : r = lowest (d.descFaults (some (handleNum h)) b ++
      if immutableChanged (d.obj (handleNum h)) (objOfDesc b) then [13] else [])) :
    exec (.setPolicy w) s = .next (s.withDev (
      if r ≠ 0 then d.askObjDesc.tierResult r else d.askObjDesc.policySet (handleNum h) (objOfDesc b))) := by
  subst wrote names answer
  change s.tierCmd _ = _
  rw [State.tierCmd_of_free reach free]
  dsimp only
  rw [Device.hostWrites_phase, if_neg (not_not.mpr idle), live, desc, Bool.not_true, if_neg Bool.false_ne_true]

theorem exec_setPolicy_out_of_idle (w : List Host.Cell) (running : s.seen.phase ≠ .idle) :
    exec (.setPolicy w) s = .next (s.withDev ((s.seen.hostWrites w).tierResult 10)) := by
  change s.tierCmd _ = _
  rw [State.tierCmd_of_free reach free]
  dsimp only
  rw [Device.hostWrites_phase, if_pos running]

/-- In IDLE a live handle's object is destroyed, unless a table or the program names it (R209). -/
theorem exec_destroyObj_of_live (idle : s.seen.phase = .idle) (live : s.seen.handleLive (s.seen.rd F.TIER_CMD_HANDLE_HANDLE) = true)
    (unused : s.seen.objInUse (handleNum (s.seen.rd F.TIER_CMD_HANDLE_HANDLE)) = false) :
    exec .destroyObj s = .next (s.withDev
      ((s.seen.destroy (handleNum (s.seen.rd F.TIER_CMD_HANDLE_HANDLE))).heldRun.tierResult 0)) := by
  change s.tierCmd _ = _
  rw [State.tierCmd_of_free reach free]
  dsimp only
  rw [if_neg (not_not.mpr idle), live, unused, Bool.not_true, if_neg Bool.false_ne_true, if_neg Bool.false_ne_true]

theorem exec_destroyObj_out_of_idle (running : s.seen.phase ≠ .idle) :
    exec .destroyObj s = .next (s.withDev (s.seen.tierResult 10)) := by
  change s.tierCmd _ = _
  rw [State.tierCmd_of_free reach free]
  dsimp only
  rw [if_pos running]

theorem exec_destroyObj_of_dead (idle : s.seen.phase = .idle)
    (dead : s.seen.handleLive (s.seen.rd F.TIER_CMD_HANDLE_HANDLE) = false) :
    exec .destroyObj s = .next (s.withDev (s.seen.tierResult 8)) := by
  change s.tierCmd _ = _
  rw [State.tierCmd_of_free reach free]
  dsimp only
  rw [if_neg (not_not.mpr idle), dead, Bool.not_false, if_pos rfl]

/-- In every phase a row inside a live row object is located (R596). -/
theorem exec_locate_of_row {h r : Nat} (names : h = s.seen.rd F.TIER_CMD_HANDLE_HANDLE) (live : s.seen.handleLive h = true)
    (rows : (s.seen.obj (handleNum h)).kind = 1)
    (row : r = s.seen.rd F.TIER_CMD_ROW_LO_ROW + 2 ^ 32 * (s.seen.rd F.TIER_CMD_ROW_HI_ROW % 256))
    (inside : r < (s.seen.obj (handleNum h)).size) :
    exec .locate s = .next (s.withDev ((s.seen.locateRow (handleNum h) r).tierResult 0)) := by
  subst names row
  change s.tierCmd _ = _
  rw [State.tierCmd_of_free reach free]
  dsimp only
  rw [live, Bool.not_true, if_neg Bool.false_ne_true, if_neg (not_not.mpr rows), if_neg (Nat.not_le.mpr inside)]

theorem exec_locate_of_dead (dead : s.seen.handleLive (s.seen.rd F.TIER_CMD_HANDLE_HANDLE) = false) :
    exec .locate s = .next (s.withDev (s.seen.tierResult 8)) := by
  change s.tierCmd _ = _
  rw [State.tierCmd_of_free reach free]
  dsimp only
  rw [dead, Bool.not_false, if_pos rfl]

/-- A drain of a tile answers as the request for it does (R229, R231). -/
theorem exec_drainTile {t : Nat} (small : t < 32) :
    exec (.drainTile t) s = .next (s.withDev ((s.seen.drainRequest 0 t).2.tierResult (s.seen.drainRequest 0 t).1)) := by
  change s.tierCmd _ = _
  rw [State.tierCmd_of_free reach free, Nat.mod_eq_of_lt small]

/-- So does a drain of a carrier (R230, R231). -/
theorem exec_drainCarrier {t : Nat} (small : t < 32) :
    exec (.drainCarrier t) s = .next (s.withDev ((s.seen.drainRequest 1 t).2.tierResult (s.seen.drainRequest 1 t).1)) := by
  change s.tierCmd _ = _
  rw [State.tierCmd_of_free reach free, Nat.mod_eq_of_lt small]

end Commands

/-! ### CREATE and DESTROY of an object -/

/-- The lowest free number takes an object whose frames and sketch find room (R202, R206, R220). -/
theorem Device.create_of_room {d e f : Device} {n : Nat} {b : Bytes} {o q : TierObj} (number : d.freeNumber = some n)
    (frames : d.giveFrames n (d.newObj n b) = some (o, e)) (sketch : e.giveSketch n o = some (q, f)) :
    d.create b = ((f.setObj n q).wr F.TIER_CMD_HANDLE_HANDLE (q.gen * 2 ^ 14 + n)).sweepSpace.tierResult 0 := by
  delta Device.create -- its equation lemma would evaluate the search among all numbers
  rw [number]
  dsimp only
  rw [frames, Option.bind_some, sketch, Device.created]

theorem foldl_tier_objs {α : Type} (f : Device → α → Device) (keeps : ∀ d x, (f d x).tier.objs = d.tier.objs) (xs : List α)
    (d : Device) : (xs.foldl f d).tier.objs = d.tier.objs := by
  induction xs generalizing d with
  | nil => rfl
  | cons x r ih => rw [List.foldl_cons, ih, keeps]

/-- Freeing lines, wherever they lie, leaves the objects. -/
theorem Device.freeLoc_objs (d : Device) (l : Nat × Nat × Nat) : (d.freeLoc l).tier.objs = d.tier.objs := by
  rw [Device.freeLoc]
  split <;> rfl

theorem Device.dropSketch_objs (d : Device) (region : Option (Nat × Nat)) : (d.dropSketch region).tier.objs = d.tier.objs := by
  cases region <;> rfl

theorem Device.setObj_objs (d : Device) (n : Nat) (o : TierObj) :
    (d.setObj n o).tier.objs = Store.set (fun _ => {}) d.tier.objs n o := rfl

theorem Device.forgetObj_objs (d : Device) (n : Nat) : (d.forgetObj n).tier.objs = d.tier.objs := rfl

/-- DESTROY writes the one object (R209). -/
theorem Device.destroy_objs (d : Device) (n : Nat) :
    (d.destroy n).tier.objs = Store.set (fun _ => {}) d.tier.objs n (d.obj n).gone := by
  have freed : (((d.tier.dir.filter (·.obj = n)).foldl (fun d e => d.freeLoc (e.tier, e.place, e.line)) d).tier.objs) = d.tier.objs :=
    foldl_tier_objs _ (fun d _ => d.freeLoc_objs _) _ d
  rw [Device.destroy, Device.setObj_objs, Device.forgetObj_objs, Device.dropSketch_objs,
    foldl_tier_objs (fun (d : Device) (f : Nat × Nat) => d.free1 f.1 f.2) (fun _ _ => rfl), freed]

theorem Device.destroy_obj_same (d : Device) (n : Nat) : (d.destroy n).obj n = (d.obj n).gone := by
  rw [Device.obj, Device.destroy_objs, Store.get_set_same]

theorem Device.destroy_obj_other (d : Device) {n m : Nat} (other : m ≠ n) : (d.destroy n).obj m = d.obj m := by
  rw [Device.obj, Device.destroy_objs, Store.get_set_ne _ _ _ other, Device.obj]

/-- No directory entry of a destroyed object is left (R209). -/
theorem Device.destroy_dir (d : Device) (n : Nat) : (d.destroy n).tier.dir.all (fun e => decide (e.obj ≠ n)) = true :=
  List.all_eq_true.mpr fun _ kept => (List.mem_filter.mp kept).2

end Sys2Proof.Machine

open Sys2Proof Sys2Proof.Machine

/-- Settles O18. That the host's writes enter memory before the command's effect, the lines, the sketch of a widened ALLOWED and the line
LOCATE gives in T3 are the model's choices (log entries 1, 10, 61 and 24). -/
theorem tierCommands : Obligations.TierCommands := by
  refine ⟨?_, ?_, ?_, ?_, ?_, ?_, ?_, ?_, ?_, ?_, Device.tierResult_calm⟩
  · intro s w d b reach free idle wrote desc
    have command := exec_createObj_of_desc reach free idle wrote desc
    refine ⟨fun sound => by rw [command, if_neg (not_not.mpr sound)], ?_⟩
    rintro _ rfl faulty
    rw [command, if_pos faulty]
  · intro d e f n b q number frames sketch
    exact ⟨Device.create_of_room number frames sketch, rfl, rfl⟩
  · rintro s _ reach free idle rfl live unused
    exact exec_destroyObj_of_live reach free idle live unused
  · intro d n
    exact ⟨d.destroy_obj_same n, d.destroy_dir n, fun _ other => d.destroy_obj_other other⟩
  · intro s w d b h r reach free idle wrote names live desc answer
    have command := exec_setPolicy_of_desc reach free idle wrote names live desc answer
    exact ⟨fun sound => by rw [command, if_neg (not_not.mpr sound)], fun faulty => by rw [command, if_pos faulty]⟩
  · intro s h r reach free names live rows row inside
    exact exec_locate_of_row reach free names live rows row inside
  · intro s t r d reach free small
    refine ⟨fun request => ?_, fun request => ?_⟩
    · rw [exec_drainTile reach free small, ← request]
    · rw [exec_drainCarrier reach free small, ← request]
  · rintro s _ w reach free running (rfl | rfl)
    · exact exec_createObj_out_of_idle reach free w running
    · exact exec_setPolicy_out_of_idle reach free w running
  · intro s reach free
    exact ⟨exec_destroyObj_out_of_idle reach free, fun dead =>
      ⟨fun idle => exec_destroyObj_of_dead reach free idle dead, exec_locate_of_dead reach free dead⟩⟩
  · rintro s _ w t reach busy (rfl | rfl | rfl | rfl | rfl | rfl) <;> exact State.tierCmd_of_busy _ reach busy

end

section
/-! PROOFS. What the tier manager does on its own (R220, R226, R231). -/

namespace Sys2Proof.Machine

/-! ### Ends of drains -/

/-- What a drain with no row left to move comes to: a carrier's is done; a tile's is done once its extents have moved as well, and fails
where one finds no room (R229 to R231). -/
def Device.drainSettled (d : Device) (k t : Nat) : Device :=
  if k = 1 then d.drainDone k t else (d.moveExtents t).elim (d.drainFailed k t) fun e => e.drainDone k t

theorem exec_drainComplete_of_moved {s : State} {k t : Nat} (now : s.seen.tier.drainNow = some (k, t))
    (moving : s.seen.rd F.TIER_DRAIN_STATE = 2) (moved : s.seen.tier.want.filter (·.why = 3) = []) :
    exec (.drainComplete false) s = .next (s.withDev (s.seen.drainSettled k t)) := by
  change execDrainComplete false s = _
  rw [execDrainComplete, State.onDev_eq, now]
  dsimp only
  rw [if_neg (not_not.mpr moving), moved, if_neg Bool.false_ne_true, List.isEmpty_nil, Bool.not_true, if_neg Bool.false_ne_true,
    Device.drainSettled]
  cases extents : s.seen.moveExtents t with
  | none => rw [Option.elim_none]
  | some e => rw [Option.elim_some]

/-- A row of the drain that finds room in none of its tiers fails it (R230, R231). -/
theorem exec_drainComplete_of_no_room {s : State} {k t : Nat} {w : WantMove} (now : s.seen.tier.drainNow = some (k, t))
    (moving : s.seen.rd F.TIER_DRAIN_STATE = 2) (wanted : w ∈ s.seen.tier.want) (drains : w.why = 3)
    (full : ((s.seen.drainTiers k w.obj w.row).findSome? fun x => s.seen.moveTo w.obj w.row x) = none) :
    exec (.drainComplete true) s = .next (s.withDev (s.seen.drainFailed k t)) := by
  have left : w ∈ s.seen.tier.want.filter (·.why = 3) := List.mem_filter.mpr ⟨wanted, decide_eq_true drains⟩
  change execDrainComplete true s = _
  rw [execDrainComplete, State.onDev_eq, now]
  dsimp only
  rw [if_neg (not_not.mpr moving), if_pos rfl, if_pos (List.any_eq_true.mpr ⟨w, left, by rw [full, Option.isNone_none]⟩)]

/-! ### Hotness decay -/

/-- Object `n` with its sketch halved for `k` periods and its next decay moved on by as many (R220). -/
def Device.decayed (d : Device) (n k : Nat) : Device :=
  d.setObj n { d.obj n with
    sketch := sketchShift (d.obj n).sketch k
    nextDecay := (d.obj n).nextDecay + k * (d.obj n).decay }

/-- A decay that is due halves the sketch for the periods passed and sweeps the object; pins that were not held are tried again
(R220, R222, R223). -/
theorem exec_hotnessDecay_of_due {s : State} {n k : Nat} {d : Device} (live : (s.seen.obj n).live = true)
    (decays : (s.seen.obj n).decay ≠ 0) (due : (s.seen.obj n).nextDecay ≤ s.seen.rd64 F.SPINE_COMMIT_TICK_LO)
    (periods : k = decayShift (s.seen.rd64 F.SPINE_COMMIT_TICK_LO) (s.seen.obj n).nextDecay (s.seen.obj n).decay)
    (swept : d = (s.seen.decayed n k).sweepObj n) :
    exec (.hotnessDecay n) s = .next (s.withDev (if (s.seen.obj n).pinHeld then d else d.sweepPins n)) := by
  subst swept periods
  change execHotnessDecay n s = _
  rw [execHotnessDecay, State.onDev_eq]
  dsimp only
  rw [if_neg (by simp [live, decays, due])]
  rfl

/-- One that is not due changes nothing. -/
theorem exec_hotnessDecay_of_early {s : State} {n : Nat} (early : (s.seen.obj n).live = false ∨ (s.seen.obj n).decay = 0 ∨
      s.seen.rd64 F.SPINE_COMMIT_TICK_LO < (s.seen.obj n).nextDecay) :
    exec (.hotnessDecay n) s = .next (s.withDev s.seen) := by
  change execHotnessDecay n s = _
  rw [execHotnessDecay, State.onDev_eq]
  dsimp only
  rw [if_pos (by simpa [or_assoc] using early)]

/-! ### Moves of wanted rows -/

/-- A wanted row that is not updating and, in T3, waits for no acknowledgement is dropped where it is nowhere, lost where its copy
failed twice, and else moves, with a log entry for a copy that was repeated (R187, R224, R226, R227). -/
theorem exec_rowMove_of_ready {s : State} {n r : Nat} {w : WantMove}
    (wanted : (s.seen.tier.want.find? fun w => w.obj = n ∧ w.row = r) = some w) (still : (s.seen.dirEntry n r).map (·.state) ≠ some 1)
    (heard : ¬((s.seen.locate n r).1 = 3 ∧ ((s.seen.tableOfObj n).map fun t => s.seen.tailPending t r).getD false = true))
    (bad : Nat) :
    exec (.rowMove n r bad) s = .next (s.withDev (
      if (s.seen.locate n r).1 = 0 then (s.seen.unwant n r).recoveryEnd
      else if 2 ≤ bad then s.seen.moveLost n r
      else ((if bad = 1 then s.seen.log 4 1 4 0 0 r else s.seen).moveWanted w).recoveryEnd.heldRun)) := by
  change execRowMove n r bad s = _
  rw [execRowMove, State.onDev_eq, wanted]
  dsimp only
  rw [if_neg still, if_neg heard]

/-- A row that no fence holds and that has one tier to go to takes its place there and is wanted no longer (R222 to R227). -/
theorem Device.moveWanted_of_room {d e : Device} {w : WantMove} {t : Nat} (unfenced : d.fenced w.obj w.row = false)
    (one : d.moveTiers w = [t]) (usable : t ≠ 0) (elsewhere : t = (d.locate w.obj w.row).1 → 2 ≤ w.why)
    (room : d.moveTo w.obj w.row t = some e) :
    d.moveWanted w = ((e.unwant w.obj w.row).pinElsewhere w.obj w.row).sweepSpace := by
  have goes : ¬(t = 0 ∨ t = (d.locate w.obj w.row).1 ∧ w.why ≤ 1) := by omega
  rw [Device.moveWanted, one]
  dsimp only
  rw [List.findSome?_cons, if_neg goes, unfenced, if_neg Bool.false_ne_true, room]

end Sys2Proof.Machine

open Sys2Proof Sys2Proof.Machine

/-- Settles O19. The SEVERITY of a repeated copy's entry and the event of a drain that fails are the model's choices (log entries 43
and 62). -/
theorem tierBackground : Obligations.TierBackground := by
  refine ⟨?_, ?_, ?_, fun _ _ => exec_hotnessDecay_of_early, ?_, ?_⟩
  · intro s k t now moving moved
    have settled := exec_drainComplete_of_moved now moving moved
    rw [Device.drainSettled] at settled
    refine ⟨fun carrier => by rw [settled, if_pos carrier], fun tile => ⟨fun e extents => ?_, fun full => ?_⟩⟩
    · rw [settled, if_neg tile, extents, Option.elim_some]
    · rw [settled, if_neg tile, full, Option.elim_none]
  · intro s k t w now moving wanted drains full
    exact exec_drainComplete_of_no_room now moving wanted drains full
  · rintro s n _ _ k d rfl live decays rfl due periods swept
    exact exec_hotnessDecay_of_due live decays due periods swept
  · intro s n r w wanted still heard
    have move := exec_rowMove_of_ready wanted still heard
    refine ⟨fun nowhere b => by rw [move, if_pos nowhere], fun somewhere => ⟨?_, ?_, fun b failed => ?_⟩⟩
    · rw [move, if_neg somewhere, if_neg (by decide), if_neg (by decide)]
    · rw [move, if_neg somewhere, if_neg (by decide), if_pos rfl]
    · rw [move, if_neg somewhere, if_pos failed]
  · intro d e w t unfenced one usable elsewhere room
    exact ⟨Device.moveWanted_of_room unfenced one usable elsewhere room, rfl⟩

end

section
/-! PROOFS. A read of a stack's line under its ECC class (R236 to R243, R249). -/

namespace Sys2Proof.Machine

/-! ### Decoding -/

theorem Device.decodeLine_clean (d : Device) (cls : Nat) : d.decodeLine cls 0 = (.good, d) := if_pos rfl

theorem Device.decodeLine_class0_one (d : Device) : d.decodeLine 0 1 = (.corrected, d) := id rfl

theorem Device.decodeLine_class0_two (d : Device) : d.decodeLine 0 2 = (.failed, d) := id rfl

/-- Class 1 only detects: up to three symbols in error are found (R238). -/
theorem Device.decodeLine_class1 (d : Device) {n : Nat} (damaged : 1 ≤ n) (few : n ≤ 3) : d.decodeLine 1 n = (.failed, d) := by
  rw [Device.decodeLine, if_neg (by omega), if_neg (by decide), if_pos few]

/-! ### Class 0 -/

/-- A poisoned line is given as detected (R242). -/
theorem Device.read0_of_poison {d : Device} {t l : Nat} (giv : Bool) (b1 b2 : List Nat) (settled : l ∉ (d.tile t).late)
    (poison : d.poisoned (t1Key t l 0) = true) : d.read0 giv t l b1 b2 = d.giveLine giv t l true := by
  rw [Device.read0, if_neg settled, if_pos poison]

section Sound

variable {d : Device} {t l : Nat} (giv : Bool) {b1 : List Nat} (b2 : List Nat) (settled : l ∉ (d.tile t).late)
  (sound : d.poisoned (t1Key t l 0) = false)

include settled sound

theorem Device.read0_of_clean (bad : badCount b1 = 0) : d.read0 giv t l b1 b2 = d.giveLine giv t l false := by
  rw [Device.read0, if_neg settled, if_neg (ne_true_of_eq_false sound), bad, Device.decodeLine_clean]

/-- One symbol in error is corrected and counted (R239). -/
theorem Device.read0_of_one (bad : badCount b1 = 1) : d.read0 giv t l b1 b2 = (d.countCE t l).giveLine giv t l false := by
  rw [Device.read0, if_neg settled, if_neg (ne_true_of_eq_false sound), bad, Device.decodeLine_class0_one]

/-- Two are read once more (R241). -/
theorem Device.read0_of_two (bad : badCount b1 = 2) : d.read0 giv t l b1 b2 = d.secondRead giv t l b2 := by
  rw [Device.read0, if_neg settled, if_neg (ne_true_of_eq_false sound), bad, Device.decodeLine_class0_two]

end Sound

/-- A second read without error gives the line, and the event is logged (R241). -/
theorem Device.secondRead_of_clean (d : Device) (giv : Bool) (t l : Nat) {b2 : List Nat} (bad : badCount b2 = 0) :
    d.secondRead giv t l b2 = (d.log 0x0206 1 9 t 0 l).giveLine giv t l false := by
  rw [Device.secondRead, bad, Device.decodeLine_clean]

/-- A second read that fails again is a lasting error (R241). -/
theorem Device.secondRead_of_two (d : Device) (giv : Bool) (t l : Nat) {b2 : List Nat} (bad : badCount b2 = 2) :
    d.secondRead giv t l b2 = (d.lastingLine t l).giveLine giv t l true := by
  rw [Device.secondRead, bad, Device.decodeLine_class0_two]

/-! ### Class 1 -/

theorem Device.read1_of_poison {d : Device} {t l : Nat} (r : Reader) (b1 : List Nat) (poison : d.poisoned (t1Key t l 0) = true) :
    d.read1 t l r b1 = d.detected t l r := by
  rw [Device.read1, if_pos poison]

theorem Device.read1_of_clean {d : Device} {t l : Nat} (r : Reader) {b1 : List Nat} (sound : d.poisoned (t1Key t l 0) = false)
    (bad : badCount b1 = 0) : d.read1 t l r b1 = d.giveLine true t l false := by
  rw [Device.read1, if_neg (ne_true_of_eq_false sound), bad, Device.decodeLine_clean]

theorem Device.read1_of_few {d : Device} {t l : Nat} (r : Reader) {b1 : List Nat} (sound : d.poisoned (t1Key t l 0) = false)
    (damaged : 1 ≤ badCount b1) (few : badCount b1 ≤ 3) : d.read1 t l r b1 = d.detected t l r := by
  rw [Device.read1, if_neg (ne_true_of_eq_false sound), Device.decodeLine_class1 d damaged few]

/-! ### The command -/

/-- A read whose stack serves and whose reader still waits decodes the line under its class (R238, R249). -/
theorem exec_memRead_of_due {s : State} {t l : Nat} {r : Reader} (cls w : Nat) (b1 b2 : List Nat) (up : s.seen.stackUp t l = true)
    (due : s.seen.readerDue r = true) :
    exec (.memRead t l r cls w b1 b2) s = .next (s.withDev (
      if (s.seen.aged t cls w).lineClass t l = 0 then (s.seen.aged t cls w).read0 true t l b1 b2
      else (s.seen.aged t cls w).read1 t l r b1)) := by
  change execMemRead t l r cls w b1 b2 s = _
  rw [execMemRead, State.onDev_eq, up, due, if_neg (by decide)]

end Sys2Proof.Machine

open Sys2Proof Sys2Proof.Machine

/-- Settles O20. That a read carries its symbols in error as operands, and the SEVERITY of the second read's entry, are the model's
choices (log entries 11 and 43). -/
theorem lineReads : Obligations.LineReads := by
  refine ⟨?_, ?_, ?_, ?_⟩
  · rintro s t l cls w r b1 b2 _ up due rfl
    have read := exec_memRead_of_due cls w b1 b2 up due
    exact ⟨fun class0 => by rw [read, if_pos class0], fun class1 => by rw [read, if_neg class1]⟩
  · intro d t l b1 b2 settled sound
    exact ⟨Device.read0_of_clean true b2 settled sound, Device.read0_of_one true b2 settled sound,
      fun two again => by rw [Device.read0_of_two true b2 settled sound two, Device.secondRead_of_two _ _ _ _ again],
      fun two clean => by rw [Device.read0_of_two true b2 settled sound two, Device.secondRead_of_clean _ _ _ _ clean]⟩
  · intro d t l r b1 b2 poison
    exact ⟨fun settled => Device.read0_of_poison true b1 b2 settled poison, Device.read1_of_poison r b1 poison⟩
  · intro d t l r b1 sound
    exact ⟨Device.read1_of_clean r sound, Device.read1_of_few r sound⟩

end

section
/-! PROOFS. Writes of a stack's lines, the write-combining buffer, and refreshes (R240, R250 to R252, R259). -/

namespace Sys2Proof.Machine

/-! ### Memory and poison -/

theorem Device.byte_of_mem {d e : Device} (h : e.mem = d.mem) (j : Nat) : e.byte j = d.byte j := by
  rw [Device.byte, h, Device.byte]

@[simp] theorem Device.poisoned_setPoison (d : Device) (k : Nat) (p : Bool) : (d.setPoison k p).poisoned k = p :=
  Store.get_set_same ..

@[simp] theorem leBytes_length (n v : Nat) : (leBytes n v).length = n := by
  induction n generalizing v with
  | zero => rfl
  | succ n ih => rw [leBytes, List.length_cons, ih]

/-! ### Full writes -/

theorem Device.fullWrite_regs (d : Device) (t l : Nat) (x : Bytes) (keep : Bool) : (d.fullWrite t l x keep).regs = d.regs := id rfl

theorem Device.fullWrite_mem (d : Device) (t l : Nat) (x : Bytes) (keep : Bool) :
    (d.fullWrite t l x keep).mem = writeMem d.mem (t1Key t l 0) (padTo 64 x) := id rfl

theorem Device.fullWrite_poisoned (d : Device) (t l : Nat) (x : Bytes) (keep : Bool) :
    (d.fullWrite t l x keep).poisoned (t1Key t l 0) = keep := Device.poisoned_setPoison ..

/-- The line's 64 bytes are replaced and no other (R240). -/
theorem Device.fullWrite_byte (d : Device) (t l : Nat) (x : Bytes) (keep : Bool) (j : Nat) :
    (d.fullWrite t l x keep).byte j =
      if t1Key t l 0 ≤ j ∧ j < t1Key t l 0 + 64 then (padTo 64 x).getD (j - t1Key t l 0) 0 else d.byte j := by
  rw [Device.byte, Device.fullWrite_mem, get_writeMem, padTo_length, Device.byte]

/-! ### Partial writes -/

theorem Device.partialWrite_full (d : Device) (t l : Nat) (x : Bytes) (b : List Nat) :
    d.partialWrite t l fullMask x b = d.fullWrite t l x false := if_pos rfl

/-- A mask that leaves out a byte is its own value on 64 bits. -/
theorem partMask_mod {m : Nat} (part : m < fullMask) : m % 2 ^ 64 = m :=
  Nat.mod_eq_of_lt (part.trans (by decide))

theorem partMask_ne_full {m : Nat} (part : m < fullMask) : m % 2 ^ 64 ≠ fullMask := by
  rw [partMask_mod part]
  exact part.ne

/-- With room in the buffer, or for a line the accumulate cache holds, a partial write changes memory under its mask alone (R250,
R251, R253). -/
theorem Device.partialWrite_mem {d : Device} {t l m : Nat} (x : Bytes) (b : List Nat) (part : m < fullMask)
    (room : (d.tile t).acc.contains l = true ∨ (d.tile t).wcb.length < 64) :
    (d.partialWrite t l m x b).mem = (d.maskWrite t l m x).mem := by
  rw [Device.partialWrite, if_neg (partMask_ne_full part)]
  split
  case isTrue cached => rfl
  case isFalse uncached =>
    have space : (d.tile t).wcb.length < 64 := room.resolve_left fun c => uncached (List.contains_iff_mem.mp c)
    split
    case h_1 e held =>
      dsimp only
      split
      · rfl
      · rfl
    case h_2 fresh =>
      cases buffer : (d.tile t).wcb with
      | nil => rfl
      | cons e r =>
        rw [buffer] at space
        dsimp only
        rw [if_neg (Nat.not_le.mpr space)]
        rfl

/-- A line that neither cache nor buffer holds takes a buffer entry with its mask (R251). -/
theorem Device.partialWrite_wcb_of_new {d : Device} {t l m : Nat} (x : Bytes) (b : List Nat) (part : m < fullMask)
    (uncached : l ∉ (d.tile t).acc) (unheld : ∀ e ∈ (d.tile t).wcb, e.line ≠ l) (space : (d.tile t).wcb.length < 64) :
    ((d.partialWrite t l m x b).tile t).wcb = (d.tile t).wcb ++ [⟨l, m⟩] := by
  have absent : (d.tile t).wcb.find? (·.line = l) = none :=
    List.find?_eq_none.mpr fun e held => by simpa using unheld e held
  rw [Device.partialWrite, if_neg (partMask_ne_full part), if_neg uncached, absent, partMask_mod part]
  cases buffer : (d.tile t).wcb with
  | nil =>
    dsimp only
    rw [Device.tile_setTile]
    exact congrArg (· ++ [_]) buffer
  | cons e r =>
    rw [buffer] at space
    dsimp only
    rw [if_neg (Nat.not_le.mpr space), Device.tile_setTile]
    exact congrArg (· ++ [_]) buffer

/-! ### Accumulate-writes -/

/-- The 16 values an accumulate-write leaves: its own at FIRST, else the rounded sums with the line's (R252). -/
def Device.accumulated (d : Device) (t l : Nat) (x : Bytes) (first : Bool) : List Nat :=
  if first then lineF32 (padTo 64 x) else List.zipWith f32Add (lineF32 (d.lineBytes t l)) (lineF32 (padTo 64 x))

theorem lineF32_length (b : Bytes) : (lineF32 b).length = 16 := by
  rw [lineF32, List.length_map, List.length_range]

theorem Device.accumulated_length (d : Device) (t l : Nat) (x : Bytes) (first : Bool) : (d.accumulated t l x first).length = 16 := by
  rw [Device.accumulated]
  split
  · exact lineF32_length _
  · rw [List.length_zipWith, lineF32_length, lineF32_length, Nat.min_self]

theorem Device.accumulated_bytes_length (d : Device) (t l : Nat) (x : Bytes) (first : Bool) :
    ((d.accumulated t l x first).flatMap (leBytes 4)).length = 64 := by
  simp [List.length_flatMap, Device.accumulated_length]

theorem Device.touchAcc_mem (d : Device) (t l : Nat) : (d.touchAcc t l).mem = d.mem := by
  rw [Device.touchAcc]
  dsimp only
  split
  · rfl
  · split
    · rw [Device.setTile_mem]
    · rw [Device.inc_mem, Device.setTile_mem]

/-- An accumulate-write of a line that the write-combining buffer does not hold. -/
theorem Device.accumulate_mem {d : Device} {t l : Nat} (leaf : Nat) (x : Bytes) (first : Bool)
    (unheld : ((d.tile t).wcb.any (·.line = l)) = false) :
    (d.accumulate t l x first leaf false).mem = writeMem d.mem (t1Key t l 0) ((d.accumulated t l x first).flatMap (leBytes 4)) := by
  rw [Device.accumulate, unheld, if_neg Bool.false_ne_true, Bool.false_and, if_neg Bool.false_ne_true, Device.touchAcc_mem, Device.accumulated]

/-- The line then holds the values. -/
theorem Device.accumulate_line {d : Device} {t l : Nat} (leaf : Nat) (x : Bytes) (first : Bool)
    (unheld : ((d.tile t).wcb.any (·.line = l)) = false) :
    readMem (d.accumulate t l x first leaf false).mem 64 (t1Key t l 0) = (d.accumulated t l x first).flatMap (leBytes 4) := by
  have back := readMem_writeMem d.mem (t1Key t l 0) ((d.accumulated t l x first).flatMap (leBytes 4))
  rwa [Device.accumulated_bytes_length, ← Device.accumulate_mem leaf x first unheld] at back

/-- Every byte outside the line is as it was. -/
theorem Device.accumulate_byte_outside {d : Device} {t l j : Nat} (leaf : Nat) (x : Bytes) (first : Bool)
    (unheld : ((d.tile t).wcb.any (·.line = l)) = false) (outside : j < t1Key t l 0 ∨ t1Key t l 0 + 64 ≤ j) :
    (d.accumulate t l x first leaf false).byte j = d.byte j := by
  rw [Device.byte, Device.accumulate_mem leaf x first unheld, get_writeMem, Device.accumulated_bytes_length, if_neg (by omega), Device.byte]

/-! ### Flushes -/

/-- The flush of a held entry whose line reads without error is counted and drops the entry (R251). -/
theorem Device.flushWcb_of_clean (d : Device) (t l : Nat) {b : List Nat} (bad : badCount b = 0) :
    d.flushWcb t l b = (d.dropWcb t l).inc (F.MEM_WCB_FLUSH_COUNT t) := by
  rw [Device.flushWcb, bad]
  dsimp only
  rw [Device.decodeLine_clean]

theorem Device.dropWcb_wcb (d : Device) (t l : Nat) : ((d.dropWcb t l).tile t).wcb = (d.tile t).wcb.filter (·.line ≠ l) := by
  rw [Device.dropWcb, Device.tile_setTile]

/-! ### The commands -/

/-- A command to a stack that takes requests has its effect (R257). -/
theorem State.onDev_stackUp {s : State} {t l : Nat} (f : Device → Device) (up : s.seen.stackUp t l = true) :
    (s.onDev fun d => if !d.stackUp t l then d else f d) = .next (s.withDev (f s.seen)) := by
  rw [State.onDev_eq, up, if_neg (by decide)]

theorem exec_memWrite_of_up {s : State} {t l : Nat} (cls w : Nat) (x : Bytes) (keep : Bool) (up : s.seen.stackUp t l = true) :
    exec (.memWrite t l x keep cls w) s = .next (s.withDev
      ((s.seen.aged t cls w).fullWrite t l x (keep && s.seen.poisoned (t1Key t l 0)))) :=
  State.onDev_stackUp (fun d => (d.aged t cls w).fullWrite t l x (keep && d.poisoned (t1Key t l 0))) up

theorem exec_memPartialWrite_of_up {s : State} {t l : Nat} (m : Nat) (x : Bytes) (b : List Nat) (up : s.seen.stackUp t l = true) :
    exec (.memPartialWrite t l m x b) s = .next (s.withDev (s.seen.partialWrite t l m x b)) :=
  State.onDev_stackUp (fun d => d.partialWrite t l m x b) up

theorem exec_accumulateWrite_of_up {s : State} {t l : Nat} (leaf : Nat) (x : Bytes) (first unitDma : Bool)
    (up : s.seen.stackUp t l = true) :
    exec (.accumulateWrite t l x first leaf unitDma) s = .next (s.withDev (s.seen.accumulate t l x first leaf unitDma)) :=
  State.onDev_stackUp (fun d => d.accumulate t l x first leaf unitDma) up

/-- Waiting changes no line's poison (R249). -/
theorem Device.aged_poison (d : Device) (t cls w : Nat) : (d.aged t cls w).poison = d.poison := by
  rw [Device.aged]
  split
  · rw [Device.inc_poison]
  · rfl

/-- The oldest entry is flushed at its age (R251). -/
theorem exec_wcbAgeFlush_of_oldest {s : State} {t : Nat} {e : WcbEntry} {r : List WcbEntry} (b : List Nat)
    (oldest : (s.seen.tile t).wcb = e :: r) (up : s.seen.stackUp t e.line = true) :
    exec (.wcbAgeFlush t b) s = .next (s.withDev (s.seen.flushWcb t e.line b)) := by
  change execWcbAgeFlush t b s = _
  rw [execWcbAgeFlush, State.onDev_eq, oldest]
  dsimp only
  rw [if_pos up]

/-- Channel `ch` of tile `t` at the next of its 16 banks (R259). -/
def Device.bankNext (d : Device) (t ch : Nat) : Device :=
  d.setTile t { d.tile t with bank := Store.modify (fun _ => 0) (d.tile t).bank ch fun b => (b + 1) % 16 }

theorem exec_bankRefresh_of_up {s : State} {t ch : Nat} (up : s.seen.stackUp t 0 = true) (real : ch < 32) :
    exec (.bankRefresh t ch) s = .next (s.withDev (s.seen.bankNext t ch)) := by
  change execBankRefresh t ch s = _
  rw [execBankRefresh, State.onDev_eq, if_neg (by simpa [up] using real), Device.bankNext]

theorem Device.bankNext_same (d : Device) (t ch : Nat) :
    Store.get (fun _ => 0) ((d.bankNext t ch).tile t).bank ch = (Store.get (fun _ => 0) (d.tile t).bank ch + 1) % 16 := by
  rw [Device.bankNext, Device.tile_setTile]
  exact Store.get_set_same ..

theorem Device.bankNext_channel_ne (d : Device) (t : Nat) {ch k : Nat} (other : k ≠ ch) :
    Store.get (fun _ => 0) ((d.bankNext t ch).tile t).bank k = Store.get (fun _ => 0) (d.tile t).bank k := by
  rw [Device.bankNext, Device.tile_setTile]
  exact Store.get_set_ne _ _ _ other

end Sys2Proof.Machine

open Sys2Proof Sys2Proof.Machine

/-- Settles O21: each write's memory is one `writeMem` or one `maskWrite` of its line. That a request's age is an operand of its
command is the model's choice (log entry 60). -/
theorem lineWrites : Obligations.LineWrites := by
  refine ⟨?_, ?_, fun _ _ _ m x b => exec_memPartialWrite_of_up m x b, ?_, ?_, ?_, ?_, ?_, ?_, ?_, ?_⟩
  · rintro s t l cls w x keep _ up rfl
    rw [exec_memWrite_of_up cls w x keep up, Device.poisoned, Device.poisoned, Device.aged_poison]
  · intro d t l j x keep
    exact ⟨d.fullWrite_regs t l x keep, d.fullWrite_poisoned t l x keep, d.fullWrite_byte t l x keep j⟩
  · intro d t l m j x b part room
    rw [Device.byte_of_mem (Device.partialWrite_mem x b part room), Device.maskWrite_byte]
  · intro d t l m x b part uncached unheld space
    exact Device.partialWrite_wcb_of_new x b part uncached unheld space
  · exact Device.partialWrite_full
  · intro s t l leaf x first unitDma up
    exact exec_accumulateWrite_of_up leaf x first unitDma up
  · intro d t l leaf x first unheld
    exact ⟨Device.accumulate_line leaf x first unheld, fun _ => Device.accumulate_byte_outside leaf x first unheld⟩
  · intro s t b e r oldest up
    exact exec_wcbAgeFlush_of_oldest b oldest up
  · intro d t l b bad
    have flushed := d.flushWcb_of_clean t l bad
    exact ⟨flushed, by rw [flushed, Device.inc, Device.tile_wr, Device.dropWcb_wcb]⟩
  · intro s t ch up real
    exact ⟨_, exec_bankRefresh_of_up up real, rfl, rfl, Device.bankNext_same _ _ _, fun _ => Device.bankNext_channel_ne _ _,
      fun _ => Device.tile_setTile_ne _ _⟩

end

section
/-! PROOFS. What a stack's controller does beside requests: patrol, sparing, interface errors and temperature samples (R246, R247,
R255 to R261). -/

namespace Sys2Proof.Machine

/-! ### Patrol -/

/-- At the end of its period a pass starts, or is due after the one that runs (R246). -/
theorem exec_scrubPassStart_of_due {s : State} {t : Nat} (up : s.seen.stackUp t 0 = true) (due : (s.seen.tile t).periodLeft = 0) :
    exec (.scrubPassStart t) s = .next (s.withDev (
      if (s.seen.tile t).patrol.isSome then ((s.seen.periodStart t).passLate t).raise (F.MEM_INT_STATUS_SCRUB_LATE t)
      else (s.seen.periodStart t).passStart t)) := by
  change execScrubPassStart t s = _
  have patrol : ((s.seen.periodStart t).tile t).patrol = (s.seen.tile t).patrol := by rw [Device.periodStart, Device.tile_setTile]
  rw [execScrubPassStart, State.onDev_eq, up, due, if_neg (by decide)]
  dsimp only
  rw [patrol]

theorem exec_scrubPassStart_of_early {s : State} {t : Nat} (early : (s.seen.tile t).periodLeft ≠ 0) :
    exec (.scrubPassStart t) s = .next (s.withDev s.seen) := by
  change execScrubPassStart t s = _
  rw [execScrubPassStart, State.onDev_eq, if_pos (by simp [early])]

theorem Device.passStart_tile (d : Device) (t : Nat) :
    (d.passStart t).tile t = { d.tile t with patrol := some 0, passDue := false, ceSince := [] } := by
  rw [Device.passStart, Device.tile_wr, Device.tile_wr, Device.tile_setTile]

theorem Device.passStart_scrubBusy (d : Device) (t : Nat) : (d.passStart t).rd (F.MEM_STATUS_SCRUB_BUSY t) = 1 := by
  have apart : (F.MEM_STATUS_SCRUB_BUSY t).key ≠ (F.MEM_CTL_SCRUB_NOW t).key := by
    simp [F.MEM_STATUS_SCRUB_BUSY, F.MEM_CTL_SCRUB_NOW]
  rw [Device.passStart, Device.rd_wr_ne _ _ apart, Device.rd_wr_same _ _ _ (by simp [F.MEM_STATUS_SCRUB_BUSY])]
  rfl

theorem Device.passStart_scrubNow (d : Device) (t : Nat) : (d.passStart t).rd (F.MEM_CTL_SCRUB_NOW t) = 0 := by
  rw [Device.passStart, Device.rd_wr_same _ _ _ (by simp [F.MEM_CTL_SCRUB_NOW]), Nat.zero_mod]

theorem Device.passStart_mem (d : Device) (t : Nat) : (d.passStart t).mem = d.mem := by
  rw [Device.passStart, Device.wr_mem, Device.wr_mem, Device.setTile_mem]

theorem Device.passOver_tile (d : Device) (t : Nat) : (d.passOver t).tile t = { d.tile t with patrol := none } := by
  rw [Device.passOver, Device.inc, Device.tile_wr, Device.tile_wr, Device.tile_setTile]

/-- A pass with no other due ends the patrol (R246). -/
theorem Device.passEnd_of_not_due {d : Device} {t : Nat} (done : (d.tile t).passDue = false) : d.passEnd t = d.passOver t := by
  have still : ((d.passOver t).tile t).passDue = false := by
    rw [Device.passOver_tile]
    exact done
  rw [Device.passEnd, if_neg (ne_true_of_eq_false still)]

theorem Device.passOver_scrubBusy (d : Device) (t : Nat) : (d.passOver t).rd (F.MEM_STATUS_SCRUB_BUSY t) = 0 := by
  have apart : (F.MEM_STATUS_SCRUB_BUSY t).key ≠ (F.MEM_SCRUB_STATUS_PASSES t).key := by
    simp [F.MEM_STATUS_SCRUB_BUSY, F.MEM_SCRUB_STATUS_PASSES]
  rw [Device.passOver, Device.inc, Device.rd_wr_ne _ _ apart, Device.rd_wr_same _ _ _ (by simp [F.MEM_STATUS_SCRUB_BUSY]), Nat.zero_mod]

/-- The lines a patrol read may skip, at most one for each poisoned, held or cached line, and one more (R247). -/
def Device.patrolSkipBound (d : Device) (t : Nat) : Nat :=
  d.poison.length + (d.tile t).wcb.length + (d.tile t).acc.length + 1

section PatrolRead

variable {s : State} {t p : Nat} (b1 b2 : List Nat) (runs : (s.seen.tile t).patrol = some p) (up : s.seen.stackUp t 0 = true)

include runs up

theorem exec_patrolRead_of_end (past : s.seen.nextPatrol t (s.seen.patrolSkipBound t) p = none) :
    exec (.patrolRead t b1 b2) s = .next (s.withDev (s.seen.passEnd t)) := by
  rw [Device.patrolSkipBound] at past
  change execPatrolRead t b1 b2 s = _
  rw [execPatrolRead, State.onDev_eq, runs]
  dsimp only
  rw [up, if_neg (by decide), past]

theorem exec_patrolRead_of_line {l : Nat} (found : s.seen.nextPatrol t (s.seen.patrolSkipBound t) p = some l) :
    exec (.patrolRead t b1 b2) s = .next (s.withDev ((s.seen.patrolAt t (l + 1)).read0 false t l b1 b2)) := by
  rw [Device.patrolSkipBound] at found
  change execPatrolRead t b1 b2 s = _
  rw [execPatrolRead, State.onDev_eq, runs]
  dsimp only
  rw [up, if_neg (by decide), found]

end PatrolRead

/-! ### Writes of MEM_CTL -/

/-- A write of MEM_CTL of a tile of the chip that reaches its register. -/
theorem State.memCtl_reaches {s : State} {t : Nat} (f : Device → Device) (real : t < 24) (reach : s.reaches (F.MEM_CTL t).key) :
    (if Config.tiles ≤ t then s.seen else s.seen.access (F.MEM_CTL t).key f) = f s.seen := by
  rw [if_neg (show ¬Config.tiles ≤ t from Nat.not_le.mpr real), State.access_reaches _ reach]

/-- SCRUB_NOW starts a pass where none runs and the stack serves, and else reads 1 (R246). -/
theorem exec_scrubNow {s : State} {t : Nat} (real : t < 24) (reach : s.reaches (F.MEM_CTL t).key) :
    exec (.scrubNow t) s = .next (s.withDev (
      if (s.seen.tile t).patrol.isSome || !s.seen.stackUp t 0 then s.seen.wr (F.MEM_CTL_SCRUB_NOW t) 1 else s.seen.passStart t)) := by
  change execScrubNow t s = _
  rw [execScrubNow, State.onDev_eq, State.memCtl_reaches _ real reach]

/-- SPARE_REQ stores SPARE_DIE, and starts sparing of a logical die (R255, R263). -/
theorem exec_spareReq {s : State} {t die : Nat} (real : t < 24) (reach : s.reaches (F.MEM_CTL t).key) (field : die < 16) :
    exec (.spareReq t die) s = .next (s.withDev (
      if 8 ≤ die then s.seen.wr (F.MEM_CTL_SPARE_DIE t) die
      else (s.seen.wr (F.MEM_CTL_SPARE_DIE t) die).spareStart t die 4)) := by
  change execSpareReq t die s = _
  rw [execSpareReq, State.onDev_eq, State.memCtl_reaches _ real reach]
  dsimp only
  rw [Nat.mod_eq_of_lt field]

/-! ### Sparing -/

theorem Device.spareStart_of_free {d : Device} {t : Nat} (die cause : Nat) (free : d.rd (F.MEM_SPARE_STATE t) = 0) :
    d.spareStart t die cause = d.spareBegin t die cause := if_pos free

/-- Without a usable spare the tile is drained (R255, R544). -/
theorem Device.spareStart_of_taken {d : Device} {t : Nat} (die cause : Nat) (taken : d.rd (F.MEM_SPARE_STATE t) ≠ 0) :
    d.spareStart t die cause = (((d.raise (F.MEM_INT_STATUS_NO_SPARE t)).lasting 4 9 t cause 0 5 t).drainRequest 0 t).2 :=
  if_neg taken

theorem exec_spareCopyDone_of_copy {s : State} {t die n : Nat} (lost : List Nat) (copies : (s.seen.tile t).copy = some (die, n)) :
    exec (.spareCopyDone t lost) s = .next (s.withDev (s.seen.copyEnd t die lost)) := by
  change execSpareCopyDone t lost s = _
  rw [execSpareCopyDone, State.onDev_eq, copies]

theorem Device.spareTaken_map (d : Device) (t die : Nat) : Store.get (fun _ => 8) (d.spareTaken t die).boot.spareMaps t = die :=
  Store.get_set_same ..

theorem Device.rd_of_regs {d e : Device} (h : e.regs = d.regs) (f : Fld) : e.rd f = d.rd f := by
  rw [Device.rd, Device.reg, h, Device.rd, Device.reg]

/-- Of the registers the taking of the spare writes two. -/
theorem Device.spareTaken_rd (d : Device) (t die : Nat) (f : Fld) :
    (d.spareTaken t die).rd f = ((d.wr (F.MEM_SPARE_STATE t) 2).wr (F.MEM_SPARE_LEFT_LINES t) 0).rd f :=
  Device.rd_of_regs (by rw [Device.spareTaken]) f

theorem Device.spareTaken_state (d : Device) (t die : Nat) : (d.spareTaken t die).rd (F.MEM_SPARE_STATE t) = 2 := by
  have apart : (F.MEM_SPARE_STATE t).key ≠ (F.MEM_SPARE_LEFT_LINES t).key := by simp [F.MEM_SPARE_STATE, F.MEM_SPARE_LEFT_LINES]
  rw [Device.spareTaken_rd, Device.rd_wr_ne _ _ apart, Device.rd_wr_same _ _ _ (by simp [F.MEM_SPARE_STATE])]
  rfl

theorem Device.spareTaken_left (d : Device) (t die : Nat) : (d.spareTaken t die).rd (F.MEM_SPARE_LEFT_LINES t) = 0 := by
  rw [Device.spareTaken_rd, Device.rd_wr_same _ _ _ (by simp [F.MEM_SPARE_LEFT_LINES]), Nat.zero_mod]

/-- No unit waits for the tile's copy any longer (R245, R256). -/
theorem Device.spareTaken_waitGood (d : Device) (t die : Nat) :
    (d.spareTaken t die).spine.waitGood.all (fun w => decide (w.2.1 ≠ t)) = true :=
  List.all_eq_true.mpr fun _ kept => (List.mem_filter.mp kept).2

/-! ### Interface errors -/

/-- A command that failed is retried; a second failure is lasting (R258). -/
theorem exec_stackIfError {s : State} {t ch : Nat} (lasting : Bool) (up : s.seen.stackUp t 0 = true) (real : ch < 32) :
    exec (.stackIfError t ch lasting) s = .next (s.withDev (
      if !lasting then (s.seen.raise (F.MEM_INT_STATUS_IF_RETRY t)).log 0x0204 1 9 t 0 ch
      else ((s.seen.raise (F.MEM_INT_STATUS_IF_RETRY t)).lasting 4 9 t 0 ch 5 t).spareStart t (ch / 4) 3)) := by
  change execStackIfError t ch lasting s = _
  rw [execStackIfError, State.onDev_eq, if_neg (by simpa [up] using real)]

/-! ### Temperature samples -/

theorem exec_stackTempSample_of_on {s : State} {t : Nat} {r : List (Option Int)} (real : t < 24)
    (on : s.seen.domOn (domOfTile t) = true) (nine : r.length = 9) :
    exec (.stackTempSample t r) s = .next (s.withDev ((s.seen.tempsNoted t r).tempTaken t
      ((badReadings (s.seen.tile t).badTemps r).any fun e => decide (3 ≤ e.2)) (hottest r))) := by
  have noted : ((s.seen.tempsNoted t r).tile t).badTemps = badReadings (s.seen.tile t).badTemps r := by
    rw [Device.tempsNoted, Device.tile_setTile]
  have onChip : ¬Config.tiles ≤ t := Nat.not_le.mpr real
  change execStackTempSample t r s = _
  rw [execStackTempSample, State.onDev_eq, if_neg (by simp [onChip, on, nine])]
  dsimp only
  rw [noted]

/-- A sample with no failed die shows the highest reading (R260). -/
theorem Device.tempTaken_of_reading (d : Device) (t i : Nat) (x : Int) :
    d.tempTaken t false (some (i, x)) =
      (((d.wr (F.MEM_STATUS_TEMP_FAIL t) 0).wr (F.MEM_TEMP_TEMP t) (ofInt 16 x)).wr (F.MEM_TEMP_HOT_DIE t) i).thermStep t x := by
  rw [Device.tempTaken, if_neg (by simp)]
  rfl

/-- A sample that finds the failure already shown has 95 °C (R260). -/
theorem Device.tempTaken_of_failure {d : Device} {t : Nat} (h : Option (Nat × Int)) (shown : d.flag (F.MEM_STATUS_TEMP_FAIL t) = true) :
    d.tempTaken t true h =
      (((d.wr (F.MEM_STATUS_TEMP_FAIL t) 1).wr (F.MEM_TEMP_TEMP t) 1520).wr (F.MEM_TEMP_HOT_DIE t) ((h.map (·.1)).getD 0)).thermStep t 1520 := by
  rw [Device.tempTaken, if_neg (by simp [shown])]
  rfl

/-- There are four levels (R261). -/
theorem thermLevel_le (l : Nat) (x : Int) : thermLevel l x ≤ 3 :=
  max_le (List.length_filter_le ..) (List.length_filter_le ..)

theorem Device.thermStep_level (d : Device) (t : Nat) (x : Int) :
    (d.thermStep t x).rd (F.MEM_STATUS_THERM t) = thermLevel (d.rd (F.MEM_STATUS_THERM t)) x := by
  have fits : thermLevel (d.rd (F.MEM_STATUS_THERM t)) x < 2 ^ (F.MEM_STATUS_THERM t).w :=
    Nat.lt_succ_of_le (thermLevel_le _ x)
  rw [Device.thermStep, Device.rd_of_regs (Device.setTile_regs ..), Device.rd_wr_same _ _ _ (by simp [F.MEM_STATUS_THERM]),
    Nat.mod_eq_of_lt fits]

end Sys2Proof.Machine

open Sys2Proof Sys2Proof.Machine

/-- Settles O22. That MEM_TEMP itself reads 95 °C, the SEVERITY of an interface retry's entry and that the copy ends in one command are
the model's choices (log entries 59, 43 and 58). -/
theorem stackUpkeep : Obligations.StackUpkeep := by
  refine ⟨?_, fun _ _ => exec_scrubPassStart_of_early, ?_, ?_, ?_, ?_, ?_, ?_, ?_, ?_, ?_, ?_, ?_⟩
  · rintro s t _ up due rfl
    have start := exec_scrubPassStart_of_due up due
    refine ⟨fun idle => ?_, fun runs => ?_⟩
    · rw [start, idle, Option.isSome_none, if_neg Bool.false_ne_true]
    · rw [start, if_pos (Option.isSome_iff_ne_none.mpr runs)]
  · intro d t
    have tile := d.passStart_tile t
    exact ⟨by rw [tile], by rw [tile], d.passStart_scrubBusy t, d.passStart_scrubNow t, d.passStart_mem t⟩
  · rintro s t p b1 b2 _ runs up rfl
    exact ⟨exec_patrolRead_of_end b1 b2 runs up, fun _ => exec_patrolRead_of_line b1 b2 runs up⟩
  · intro d t done
    rw [Device.passEnd_of_not_due done]
    exact ⟨by rw [Device.passOver_tile], d.passOver_scrubBusy t⟩
  · intro s t real reach
    refine ⟨fun idle up => ?_, fun runs => ?_⟩
    · rw [exec_scrubNow real reach, idle, up, if_neg (by decide)]
    · rw [exec_scrubNow real reach, Option.isSome_iff_ne_none.mpr runs, Bool.true_or, if_pos rfl]
  · intro s t die real reach
    refine ⟨fun logical => ?_, fun physical field => ?_⟩
    · rw [exec_spareReq real reach (by omega), if_neg (Nat.not_le.mpr logical)]
    · rw [exec_spareReq real reach field, if_pos physical]
  · intro d t die cause
    exact ⟨Device.spareStart_of_free die cause, Device.spareStart_of_taken die cause⟩
  · intro s t die n lost copies
    exact exec_spareCopyDone_of_copy lost copies
  · intro d t die
    exact ⟨d.spareTaken_map t die, d.spareTaken_state t die, d.spareTaken_left t die, d.spareTaken_waitGood t die⟩
  · intro s t ch up real
    exact ⟨exec_stackIfError false up real, exec_stackIfError true up real⟩
  · rintro s t r _ real on nine rfl
    exact exec_stackTempSample_of_on real on nine
  · intro d t i x h
    exact ⟨d.tempTaken_of_reading t i x, Device.tempTaken_of_failure h, d.thermStep_level t x⟩

end

section
/-! PROOFS. The commands of the history cache: ENABLE_SPACE, DISABLE_SPACE, FREE_LIST and FREE_ALL (R265, R276, R291). -/

namespace Sys2Proof.Machine

/-! ### The state of a space -/

/-- A bit of a field is the field of that one bit (R5). -/
theorem bit_getBits (v : Word) (lo : Nat) {w i : Nat} (inside : i < w) : bit (getBits v lo w) i = (getBits v (lo + i) 1 == 1) := by
  obtain ⟨k, rfl⟩ : ∃ k, w = i + (k + 1) := ⟨w - i - 1, by omega⟩
  have cut : v.toNat / 2 ^ lo % 2 ^ (i + (k + 1)) / 2 ^ i % 2 = v.toNat / 2 ^ (lo + i) % 2 ^ 1 := by
    rw [Nat.pow_add 2 i, Nat.mod_mul_right_div_self, Nat.div_div_eq_div_mul, ← Nat.pow_add, Nat.pow_succ',
      Nat.mod_mul_right_mod, Nat.pow_one]
  rw [bit, getBits, cut, getBits]

theorem Device.spaceOn_eq (d : Device) {c : Nat} (named : c < 8) :
    d.spaceOn c = d.flag { F.HIST_STATUS_ENABLED with lo := c, w := 1 } := by
  have shown : bit (d.rd F.HIST_STATUS_ENABLED) c = d.flag { F.HIST_STATUS_ENABLED with lo := c, w := 1 } := by
    rw [Device.rd, bit_getBits _ _ (show c < F.HIST_STATUS_ENABLED.w from named), show F.HIST_STATUS_ENABLED.lo = 0 from rfl,
      Nat.zero_add, Device.flag, Device.rd]
  rw [Device.spaceOn, shown, decide_eq_true named, Bool.true_and]

theorem Device.lt_of_spaceOn {d : Device} {c : Nat} (on : d.spaceOn c = true) : c < 8 := by
  simp only [Device.spaceOn, Bool.and_eq_true, decide_eq_true_eq] at on
  exact on.1

/-- A space reads as it was last enabled or disabled (R291). -/
theorem Device.setSpace_spaceOn (d : Device) {c : Nat} (on : Bool) (named : c < 8) : (d.setSpace c on).spaceOn c = on := by
  rw [Device.spaceOn_eq _ named, Device.setSpace, Device.flag, Device.rd_wr_same _ _ _ (show c + 1 ≤ 32 by omega)]
  cases on <;> rfl

theorem Device.setUsed_usedSlots (d : Device) (c : Nat) (us : List Nat) : (d.setUsed c us).usedSlots c = us := Store.get_set_same ..

theorem Device.emptySpace_usedSlots (d : Device) (c : Nat) : (d.emptySpace c).usedSlots c = [] :=
  Store.get_set_same (fun _ => []) d.hist.used c []

/-- RESULT is written, then CMD_DONE or CMD_FAIL sets, and beyond that only its report is left (R291). -/
theorem Device.histResult_calm (d : Device) (r : Nat) :
    Device.Calm ((d.wr F.HIST_CMD_STATUS_RESULT r).wr (if r = 0 then F.HIST_INT_STATUS_CMD_DONE else F.HIST_INT_STATUS_CMD_FAIL) 1)
      (d.histResult r) := by
  rw [Device.histResult]
  split
  · exact Device.raise_calm _ rfl (by decide) (by simp [notCfg, F.HIST_INT_STATUS_CMD_DONE])
  · exact Device.raise_calm _ rfl (by decide) (by simp [notCfg, F.HIST_INT_STATUS_CMD_FAIL])

/-! ### ENABLE_SPACE -/

/-- What the host writes into its own memory leaves every register within its reach (log entry 1). -/
theorem State.access_hostWrites {s : State} {off : Nat} (f : Device → Device) (w : List Host.Cell) (reach : s.reaches off) :
    (s.seen.hostWrites w).access off f = f (s.seen.hostWrites w) :=
  Device.access_open f reach.1 reach.2

/-- ENABLE_SPACE of a space there is acts in IDLE and answers 7 at any other time. -/
theorem exec_enableSpace {s : State} {c : Nat} (w : List Host.Cell) (reach : s.reaches F.HIST_CMD.key) (named : c < 8) :
    exec (.enableSpace c w) s = .next (s.withDev (
      if (s.seen.hostWrites w).phase ≠ .idle then (s.seen.hostWrites w).histResult 7 else (s.seen.hostWrites w).enableSpace c)) := by
  change execEnableSpace c w s = _
  rw [execEnableSpace, State.onDev_eq, State.access_hostWrites _ w reach, if_neg (Nat.not_le.mpr named)]

theorem Device.enableSpace_of_on {d : Device} {c : Nat} (on : d.spaceOn c = true) : d.enableSpace c = d.histResult 4 :=
  if_pos on

section Off

variable {d : Device} {c : Nat} (off : d.spaceOn c = false)
include off

theorem Device.enableSpace_of_badGeom (geom : d.geomOk c = false) : d.enableSpace c = d.histResult 2 := by
  rw [Device.enableSpace, if_neg (ne_true_of_eq_false off), geom, Bool.not_false, if_pos rfl]

theorem Device.enableSpace_of_badObj (geom : d.geomOk c = true) (obj : d.histObjOk c = false) : d.enableSpace c = d.histResult 3 := by
  rw [Device.enableSpace, if_neg (ne_true_of_eq_false off), geom, obj, Bool.not_true, Bool.not_false, if_neg Bool.false_ne_true,
    if_pos rfl]

theorem Device.enableSpace_of_sound (geom : d.geomOk c = true) (obj : d.histObjOk c = true) :
    d.enableSpace c = (((d.freeLists c).setUsed c []).setSpace c true).histResult 0 := by
  rw [Device.enableSpace, if_neg (ne_true_of_eq_false off), geom, obj, Bool.not_true, if_neg Bool.false_ne_true,
    if_neg Bool.false_ne_true]

end Off

/-! ### DISABLE_SPACE -/

/-- In IDLE DISABLE_SPACE empties and disables a space that is enabled, and answers 4 for one that is not. -/
theorem exec_disableSpace {s : State} {c : Nat} (reach : s.reaches F.HIST_CMD.key) (named : c < 8) (idle : s.seen.phase = .idle) :
    exec (.disableSpace c) s = .next (s.withDev (
      if !s.seen.spaceOn c then s.seen.histResult 4 else ((s.seen.emptySpace c).setSpace c false).histResult 0)) := by
  change execDisableSpace c s = _
  rw [execDisableSpace, State.onDev_eq, State.access_reaches _ reach, if_neg (Nat.not_le.mpr named), if_neg (not_not.mpr idle)]

theorem exec_disableSpace_of_unnamed {s : State} {c : Nat} (reach : s.reaches F.HIST_CMD.key) (unnamed : 8 ≤ c) :
    exec (.disableSpace c) s = .next (s.withDev (s.seen.histResult 1)) := by
  change execDisableSpace c s = _
  rw [execDisableSpace, State.onDev_eq, State.access_reaches _ reach, if_pos unnamed]

/-! ### FREE_LIST and FREE_ALL -/

theorem exec_freeList {s : State} (c l : Nat) (reach : s.reaches F.HIST_CMD.key) :
    exec (.freeList c l) s = .next (s.withDev (s.seen.freeCmd c (decide (s.seen.rd (F.HIST_SPACE_LISTS_LISTS c) ≤ l)) (· == l)
      fun d => d.freeOne c l)) := by
  change execFreeList c l s = _
  rw [execFreeList, State.onDev_eq, State.access_reaches _ reach]

theorem exec_freeAll {s : State} (c : Nat) (reach : s.reaches F.HIST_CMD.key) :
    exec (.freeAll c) s = .next (s.withDev (s.seen.freeCmd c false (fun _ => true) fun d => (d.freeLists c).setUsed c [])) := by
  change execFreeAll c s = _
  rw [execFreeAll, State.onDev_eq, State.access_reaches _ reach]

section FreeCmd

variable {d : Device} {c : Nat} (bad : Bool) (p : Nat → Bool) (f : Device → Device)

theorem Device.freeCmd_of_unnamed (unnamed : 8 ≤ c) : d.freeCmd c bad p f = d.histResult 1 :=
  if_pos unnamed

/-- Out of IDLE and of the wait for room (R276) neither is acted on. -/
theorem Device.freeCmd_of_closed (named : c < 8) (closed : d.freeOpen = false) : d.freeCmd c bad p f = d.histResult 7 := by
  rw [Device.freeCmd, if_neg (Nat.not_le.mpr named), closed, Bool.not_false, if_pos rfl]

theorem Device.freeCmd_of_off (named : c < 8) (opens : d.freeOpen = true) (off : d.spaceOn c = false) :
    d.freeCmd c bad p f = d.histResult 5 := by
  rw [Device.freeCmd, if_neg (Nat.not_le.mpr named), opens, off, Bool.not_true, Bool.not_false, if_neg Bool.false_ne_true, if_pos rfl]

/-- Of an enabled space, a list out of range answers 6 and one that the waiting step uses 8; any other is freed. -/
theorem Device.freeCmd_of_on (opens : d.freeOpen = true) (on : d.spaceOn c = true) :
    d.freeCmd c bad p f = if bad then d.histResult 6 else if d.listInUse c p then d.histResult 8 else (f d).histResult 0 := by
  rw [Device.freeCmd, if_neg (Nat.not_le.mpr (Device.lt_of_spaceOn on)), opens, on, Bool.not_true, if_neg Bool.false_ne_true,
    if_neg Bool.false_ne_true]

end FreeCmd

end Sys2Proof.Machine

open Sys2Proof Sys2Proof.Machine

/-- Settles O23. That the host's writes enter memory before ENABLE_SPACE, and that each command ends at once, are the model's choices
(log entries 1 and 9). -/
theorem historySpaces : Obligations.HistorySpaces := by
  refine ⟨?_, ?_, ?_, ?_, ?_, ?_, ?_, ?_, Device.histResult_calm⟩
  · rintro s c w _ rfl reach named
    have command := exec_enableSpace w reach named
    exact ⟨fun idle => by rw [command, if_neg (not_not.mpr idle)], fun running => by rw [command, if_pos running]⟩
  · intro d c
    exact ⟨Device.enableSpace_of_on, Device.enableSpace_of_sound, Device.enableSpace_of_badGeom, Device.enableSpace_of_badObj⟩
  · intro s c reach idle named
    have command := exec_disableSpace reach named idle
    refine ⟨fun on => ?_, fun off => ?_⟩
    · rw [command, on, Bool.not_true, if_neg Bool.false_ne_true]
    · rw [command, off, Bool.not_false, if_pos rfl]
  · intro s c l reach opens on
    have command := exec_freeList c l reach
    rw [Device.freeCmd_of_on _ _ _ opens on] at command
    refine ⟨fun inside unused => ?_, fun outside => ?_, fun inside used => ?_⟩
    · rw [command, decide_eq_false (Nat.not_le.mpr inside), unused, if_neg Bool.false_ne_true, if_neg Bool.false_ne_true]
    · rw [command, decide_eq_true outside, if_pos rfl]
    · rw [command, decide_eq_false (Nat.not_le.mpr inside), used, if_neg Bool.false_ne_true, if_pos rfl]
  · intro s c reach opens on unused
    rw [exec_freeAll c reach, Device.freeCmd_of_on _ _ _ opens on, unused, if_neg Bool.false_ne_true, if_neg Bool.false_ne_true]
  · intro s c l reach named
    rw [exec_freeList c l reach, exec_freeAll c reach]
    refine ⟨fun closed => ?_, fun opens off => ?_⟩
    · exact ⟨by rw [Device.freeCmd_of_closed _ _ _ named closed], by rw [Device.freeCmd_of_closed _ _ _ named closed]⟩
    · exact ⟨by rw [Device.freeCmd_of_off _ _ _ named opens off], by rw [Device.freeCmd_of_off _ _ _ named opens off]⟩
  · rintro s c l _ _ unnamed reach (rfl | rfl | rfl)
    · exact exec_disableSpace_of_unnamed reach unnamed
    · rw [exec_freeList c l reach, Device.freeCmd_of_unnamed _ _ _ unnamed]
    · rw [exec_freeAll c reach, Device.freeCmd_of_unnamed _ _ _ unnamed]
  · intro d c named
    exact ⟨d.setSpace_spaceOn true named, d.setSpace_spaceOn false named, d.emptySpace_usedSlots c, d.setUsed_usedSlots c⟩

end

section
/-! PROOFS. History attention units: FORWARD, BACKWARD and WRITE_PAGES (R278 to R289). -/

namespace Sys2Proof.Machine

/-! ### Reads -/

/-- Where every read gives bytes, a unit goes on with what it asked for (R283). -/
theorem Device.withReads_of_readable {d : Device} (c u : Nat) {rs : List (Nat × Nat)} (f : Device → Device) (read : d.readable rs) :
    d.withReads c u rs f = f (d.asked rs) := by
  have noFailure : (rs.find? fun r => !(d.unitRead r.1 r.2).isBytes) = none :=
    List.find?_eq_none.mpr fun r asks => by simp [read r asks]
  rw [Device.withReads, noFailure, Device.asked]

/-! ### The operand block -/

/-- Core `c` is in history attention unit `u`, whose operand block is the bytes `b`, readable and sound; `e` is the device that
has asked for it (R281, R282). -/
structure Device.Attends (d : Device) (c u : Nat) (e : Device) (b : Bytes) : Prop where
  unit : d.unitAt c = some u
  kind : (d.workUnit u).kind = 6
  core : c < 96
  block : d.readable [((d.workUnit u).argPtr, 128)]
  asked : e = d.asked [((d.workUnit u).argPtr, 128)]
  bytes : b = e.uniBytes 128 (d.workUnit u).argPtr
  sound : e.histCause u b = 0

/-- It runs under the command of the operation that its block names. -/
theorem Device.histUnit_of_attends {d e : Device} {c u op : Nat} {b : Bytes} (f : Device → Nat → Bytes → Device)
    (attends : d.Attends c u e b) (names : u8At b 0 = op) : d.histUnit c op f = f e u b := by
  obtain ⟨unit, kind, core, block, rfl, rfl, sound⟩ := attends
  have runs : ¬((d.workUnit u).kind ≠ 6 ∨ Config.cores ≤ c) := by
    rintro (other | beyond)
    · exact other kind
    · exact Nat.not_le.mpr core beyond
  rw [Device.histUnit, unit]
  dsimp only
  rw [if_neg runs, Device.withReads_of_readable c u _ block, if_neg fun other => other.1 names, if_neg (not_not.mpr sound)]

/-! ### Attention -/

/-- With its lists, pages and data readable, no page missing and no block held for a repair, an attention unit goes on, its
up-projections under the write fence (R278, R282, R283, R345). -/
theorem Device.attend_of_readable {d e : Device} (c : Nat) {u : Nat} {b : Bytes} (f : Device → Device)
    (lists : d.readable (d.listReads u b)) (asked : e = d.asked (d.listReads u b)) (whole : e.pageMissing u b = false)
    (free : e.upsHeld u b = false) (pages : e.readable (e.pageReads u b ++ e.dataReads u b)) :
    d.attend c u b f = f ((e.asked (e.pageReads u b ++ e.dataReads u b)).fenceUps u b) := by
  subst asked
  rw [Device.attend, Device.withReads_of_readable c u _ lists, whole, free, if_neg Bool.false_ne_true, if_neg Bool.false_ne_true,
    Device.withReads_of_readable c u _ pages]

/-- A FORWARD unit whose outputs are all written counts its rows and ends (R284 to R286). -/
theorem Device.attnForward_of_written {d e : Device} {c u : Nat} {b : Bytes} {os : List AttnOut}
    (rows : os = (d.attnRows u b).map (d.attnRow b)) (written : d.writeAll (os.flatMap (·.writes)) = some e) :
    d.attnForward c u b =
      (e.attnCounts (u8At b 1) u (os.map (·.negInf)).sum (os.filter (·.empty)).length (os.filter (·.nf)).length
        (os.any (·.bad))).histEnd c u := by
  subst rows
  simp only [Device.attnForward, written]

/-! ### The commands -/

theorem exec_histForward_of_attends {s : State} {c u : Nat} {b : Bytes} {d : Device} (attends : s.seen.Attends c u d b)
    (forward : u8At b 0 = 0) :
    exec (.histForward c) s = .next (s.withDev (d.attend c u b fun d => d.attnForward c u b)) := by
  change execHistForward c s = _
  rw [execHistForward, State.onDev_eq, Device.histUnit_of_attends _ attends forward]

theorem exec_histBackward_of_attends {s : State} {c u : Nat} {b : Bytes} {d : Device} (attends : s.seen.Attends c u d b)
    (backward : u8At b 0 = 1) :
    exec (.histBackward c) s = .next (s.withDev (d.attend c u b fun d => d.attnBackward c u b)) := by
  change execHistBackward c s = _
  rw [execHistBackward, State.onDev_eq, Device.histUnit_of_attends _ attends backward]

theorem exec_writePages_of_attends {s : State} {c u : Nat} {b : Bytes} {d : Device} (attends : s.seen.Attends c u d b)
    (produces : u8At b 0 = 2) (latents : d.readable (d.latReads u b)) :
    exec (.writePages c) s = .next (s.withDev ((d.asked (d.latReads u b)).makePages c u b)) := by
  change execWritePages c s = _
  rw [execWritePages, State.onDev_eq, Device.histUnit_of_attends _ attends produces, Device.withReads_of_readable c u _ latents]

end Sys2Proof.Machine

open Sys2Proof Sys2Proof.Machine

/-- Settles O24. That a sample without an entry has empty rows, that both passes count the keys at -∞, and which rows' dq and which
latents' gradients a BACKWARD unit writes are the model's choices (log entries 104 to 107). -/
theorem historyUnits : Obligations.HistoryUnits := by
  refine ⟨?_, fun _ _ _ _ _ _ => Device.attnForward_of_written, ?_⟩
  · rintro s c u op b d e _ ⟨unit, kind, core, block, askedBlock, bytes, sound⟩ names lists askedLists whole free pages rfl
    have attends : s.seen.Attends c u d b := ⟨unit, kind, core, block, askedBlock, bytes, sound⟩
    refine ⟨?_, ?_⟩ <;> rintro rfl
    · rw [exec_histForward_of_attends attends names, Device.attend_of_readable c _ lists askedLists whole free pages]
    · rw [exec_histBackward_of_attends attends names, Device.attend_of_readable c _ lists askedLists whole free pages]
  · rintro s c u b d ⟨unit, kind, core, block, askedBlock, bytes, sound⟩ produces latents
    exact exec_writePages_of_attends ⟨unit, kind, core, block, askedBlock, bytes, sound⟩ produces latents

end

section
/-! PROOFS. The job a device is in: JOIN and its messages, LEAVE, COMPARE_NEXT, RESET_WINDOWS, and the wait for votes (R316 to R320,
R334, R337, R341, R347). -/

namespace Sys2Proof.Machine

/-! ### A write of COLL_CMD -/

/-- With no command busy, a write that reaches COLL_CMD has the command's effect (R351). -/
theorem State.collCmd_of_free {s : State} {f : Device → Device} (reach : s.reaches F.COLL_CMD.key)
    (free : s.seen.flag F.COLL_CMD_STATUS_BUSY = false) : s.collCmd f = .next (s.withDev (f s.seen)) := by
  rw [State.collCmd, State.onDev_eq, State.access_reaches _ reach, free, if_neg Bool.false_ne_true]

/-- A command that ends shows its RESULT: the clearing of BUSY leaves it (R351). -/
theorem Device.rd_collResult (d : Device) {r : Nat} (code : r < 16) : (d.collResult r).rd F.COLL_CMD_STATUS_RESULT = r := by
  rw [Device.collResult, Device.rd_wr_disj _ _ (by decide) (by decide), Device.rd_wr_same _ _ _ (by decide)]
  exact Nat.mod_eq_of_lt code

/-! ### The job of a device -/

/-- What each step of a fold keeps, the fold keeps. -/
theorem foldl_keeps {α β : Type} (p : Device → β) (f : Device → α → Device) (keeps : ∀ d x, p (f d x) = p d) (xs : List α)
    (d : Device) : p (xs.foldl f d) = p d := by
  rw [← List.foldl_hom p (g₂ := fun b _ => b) fun d x => (keeps d x).symm, List.foldl_fixed]

@[simp] theorem Device.blockShown_coll (d : Device) (i : Nat) (b : Option (Nat × Nat)) : (d.blockShown i b).coll = d.coll := by
  cases b <;> simp [Device.blockShown]

/-- The registers that show the job and its blocks follow the engine and do not change it (R351). -/
@[simp] theorem Device.collView_coll (d : Device) : d.collView.coll = d.coll := by
  rw [Device.collView]
  split <;> simp only [Device.wr_coll, Device.wr64_coll, Device.setReg_coll] <;>
    exact foldl_keeps _ _ (fun d i => d.blockShown_coll i _) _ d

/-- A device that leaves is in no job (R319). -/
theorem Device.leaveJob_job (d : Device) : d.leaveJob.coll.job = none := by
  rw [Device.leaveJob, Device.collView_coll]

/-! ### The commands -/

/-- In IDLE with a program nothing of a device's own state bars a JOIN with RESULT 6 (R318). -/
theorem Device.ready_of_idle {d : Device} (idle : d.phase = .idle) (loaded : d.spine.prog.isNone = false) :
    ¬(d.phase ≠ .idle ∨ d.spine.prog.isNone = true) :=
  fun unready => unready.elim (absurd idle) (ne_true_of_eq_false loaded)

section Commands

variable {s : State} (reach : s.reaches F.COLL_CMD.key) (free : s.seen.flag F.COLL_CMD_STATUS_BUSY = false)
include reach free

section Join

variable {w : List Host.Cell} {d : Device} (wrote : d = s.seen.hostWrites w)
include wrote

/-- Out of IDLE, or without a program, a JOIN answers 6 (R318). -/
theorem exec_join_unready (unready : d.phase ≠ .idle ∨ d.spine.prog.isNone = true) :
    exec (.join w) s = .next (s.withDev (d.collResult 6)) := by
  subst wrote
  change s.collCmd _ = _
  rw [State.collCmd_of_free reach free]
  dsimp only
  rw [if_pos unready]

variable (idle : d.phase = .idle) (loaded : d.spine.prog.isNone = false)
include idle loaded

/-- Inside a job it answers 7 (R318). -/
theorem exec_join_inJob (member : d.coll.job ≠ none) : exec (.join w) s = .next (s.withDev (d.collResult 7)) := by
  subst wrote
  change s.collCmd _ = _
  rw [State.collCmd_of_free reach free]
  dsimp only
  rw [if_neg (Device.ready_of_idle idle loaded), if_pos (Option.isSome_iff_ne_none.mpr member)]

variable (outside : d.coll.job = none)
include outside

/-- With a table enabled it answers 9 (R319). -/
theorem exec_join_tables (tables : d.tablesOn ≠ []) : exec (.join w) s = .next (s.withDev (d.collResult 9)) := by
  subst wrote
  change s.collCmd _ = _
  rw [State.collCmd_of_free reach free]
  dsimp only
  rw [if_neg (Device.ready_of_idle idle loaded), outside, if_neg (by decide), if_pos (by simpa using tables)]

variable (noTables : d.tablesOn = [])
include noTables

/-- Where the job descriptor cannot be read it answers 2; R317 and R318 name no RESULT for this. -/
theorem exec_join_unread (unread : d.jobDesc = none) : exec (.join w) s = .next (s.withDev (d.collResult 2)) := by
  subst wrote
  change s.collCmd _ = _
  rw [State.collCmd_of_free reach free]
  dsimp only
  rw [if_neg (Device.ready_of_idle idle loaded), outside, if_neg (by decide), noTables, if_neg (by decide), unread]

/-- A descriptor that is read answers the first fault of its checks, or the device begins to join (R317, R318). -/
theorem exec_join_read {e : Device} {b : Bytes} (desc : d.jobDesc = some b)
    (asked : e = d.uniAsk (d.rd64 F.COLL_CMD_ADDR_LO_ADDR) b.length) :
    exec (.join w) s = .next (s.withDev (
      if e.jobFault (b.take 64) (jobRanks b) ≠ 0 then e.collResult (e.jobFault (b.take 64) (jobRanks b))
      else e.joinBegin b (jobRanks b))) := by
  subst wrote asked
  change s.collCmd _ = _
  rw [State.collCmd_of_free reach free]
  dsimp only
  rw [if_neg (Device.ready_of_idle idle loaded), outside, if_neg (by decide), noTables, if_neg (by decide), desc]

end Join

/-- In IDLE, inside a job and with no table enabled, a device leaves (R318, R319). -/
theorem exec_leave_inJob (idle : s.seen.phase = .idle) (member : s.seen.coll.job ≠ none) (noTables : s.seen.tablesOn = []) :
    exec .leave s = .next (s.withDev (s.seen.leaveJob.collResult 0)) := by
  change s.collCmd _ = _
  rw [State.collCmd_of_free reach free]
  rw [if_neg (not_not.mpr idle), if_neg (by simpa using member), noTables, if_neg (by decide)]

/-- Outside a job LEAVE answers 7 (R318). -/
theorem exec_leave_outside (idle : s.seen.phase = .idle) (outside : s.seen.coll.job = none) :
    exec .leave s = .next (s.withDev (s.seen.collResult 7)) := by
  change s.collCmd _ = _
  rw [State.collCmd_of_free reach free]
  rw [if_neg (not_not.mpr idle), outside, if_pos (by decide)]

theorem exec_compareNext : exec .compareNext s = .next (s.withDev (s.seen.askCompare.collResult 0)) := by
  change s.collCmd _ = _
  rw [State.collCmd_of_free reach free]

/-- On the job root every window empties (R347). -/
theorem exec_resetWindows_root (member : s.seen.coll.job ≠ none) (root : s.seen.isJobRoot = true) :
    exec .resetWindows s =
      .next (s.withDev (((List.range s.seen.flockSize).foldl (fun d i => d.setWindow i []) s.seen).collResult 0)) := by
  change s.collCmd _ = _
  rw [State.collCmd_of_free reach free]
  rw [root, Option.isSome_iff_ne_none.mpr member, Bool.and_self, if_pos rfl]

end Commands

/-! ### The messages of a JOIN -/

/-- Before a job of its own, a device keeps a JOIN message (R318, log entry 34). -/
theorem exec_joinMsg_early {s : State} {m : Bytes} (alone : s.seen.jobId = none) (type : mTy m = 0x11) (whole : m.length = 128)
    (serves : s.seen.domOn domSpine = true) : exec (.joinMsg m) s = .next (s.withDev (s.seen.keepMsg m)) := by
  change execJoinMsg m s = _
  rw [execJoinMsg, State.onDev_eq, Device.joinMsg, if_pos ⟨alone, type, whole, serves⟩]

section Heard

variable {s : State} {m : Bytes} (heard : s.seen.Hears 0x11 m) (sound : s.seen.msgCause m = 0) (fresh : s.seen.hasSeen 0x11 m = false)
include heard sound fresh

theorem exec_joinMsg_heard : exec (.joinMsg m) s = .next (s.withDev ((s.seen.seenMsg 0x11 m).joinHear m)) := by
  change execJoinMsg m s = _
  rw [execJoinMsg, State.onDev_eq, Device.joinMsg, if_neg fun early => heard.inJob early.1,
    Device.receive_new _ heard sound (.inr fresh)]

theorem exec_joinOutcome_heard : exec (.joinOutcome m) s = .next (s.withDev ((s.seen.seenMsg 0x11 m).joinHeard m)) := by
  change execJoinOutcome m s = _
  rw [execJoinOutcome, State.onDev_eq, Device.joinOutcome, Device.receive_new _ heard sound (.inr fresh)]

end Heard

section Joining

variable {d : Device} {j : Job} {g : Bytes} (joining : d.coll.joining = some (j, g))
include joining

/-- Device (0, 0) takes the digest of a member, and no outcome (R318). -/
theorem Device.joinHear_first (m : Bytes) (first : j.index = 0 ∧ j.stage = 0) :
    d.joinHear m = d.joinTake (mSrc m) ((mPayload m).take 16) := by
  simp only [Device.joinHear, joining, if_pos first]

theorem Device.joinHeard_first (m : Bytes) (first : j.index = 0 ∧ j.stage = 0) : d.joinHeard m = d := by
  simp only [Device.joinHeard, joining, if_pos first]

/-- Another device takes no digest, and joins where the outcome carries its own (R318, log entry 37). -/
theorem Device.joinHear_other (m : Bytes) (other : ¬(j.index = 0 ∧ j.stage = 0)) : d.joinHear m = d := by
  simp only [Device.joinHear, joining, if_neg other]

theorem Device.joinHeard_other (m : Bytes) (other : ¬(j.index = 0 ∧ j.stage = 0)) :
    d.joinHeard m = d.joinEnd ((mPayload m).take 16 == g) := by
  simp only [Device.joinHeard, joining, if_neg other]

/-- A JOIN that succeeds makes the device a member, sets JOINED and answers 0 (R318). -/
theorem Device.joinEnd_joined : d.joinEnd true = ((d.joinOver.inJob j).raise F.COLL_INT_STATUS_JOINED).collResult 0 := by
  simp only [Device.joinEnd, joining, if_true]

/-- One that fails sets JOIN_FAIL and answers 8 (R318). -/
theorem Device.joinEnd_failed : d.joinEnd false = (d.joinOver.raise F.COLL_INT_STATUS_JOIN_FAIL).collResult 8 := by
  simp only [Device.joinEnd, joining, Bool.false_eq_true, if_false]

end Joining

/-- Past COLL_VOTE_TIMEOUT device (0, 0) answers every device with the failure, and another device fails (R318). -/
theorem exec_joinTimeout_due {s : State} {j : Job} {g : Bytes} (joining : s.seen.coll.joining = some (j, g))
    (due : s.seen.rd F.COLL_VOTE_TIMEOUT_TICKS ≤ s.seen.coll.joinTicks) :
    exec .joinTimeout s =
      .next (s.withDev (if j.index = 0 ∧ j.stage = 0 then s.seen.joinAnswer false else s.seen.joinEnd false)) := by
  change execJoinTimeout s = _
  rw [execJoinTimeout, State.onDev_eq, joining]
  dsimp only
  rw [if_neg (Nat.not_lt.mpr due)]

/-! ### Votes -/

/-- A device votes once it may, and does nothing before (R334, log entry 4). -/
theorem exec_voteSend (s : State) :
    exec .voteSend s = .next (s.withDev (if s.seen.mayVote then s.seen.sendVote else s.seen)) := by
  change execVoteSend s = _
  rw [execVoteSend, State.onDev_eq]

/-- Past COLL_VOTE_TIMEOUT the missing votes are reported (R337). -/
theorem exec_voteTimeout_due {s : State} {n : Nat} (waits : s.seen.coll.voteTicks = some n)
    (due : s.seen.rd F.COLL_VOTE_TIMEOUT_TICKS ≤ n) : exec .voteTimeout s = .next (s.withDev s.seen.voteLate) := by
  change execVoteTimeout s = _
  rw [execVoteTimeout, State.onDev_eq, waits]
  dsimp only
  rw [if_neg (Nat.not_lt.mpr due)]

end Sys2Proof.Machine

open Sys2Proof Sys2Proof.Machine

/-- Settles O26. That a JOIN message waits where the device has no JOIN of its own, what the outcome of a JOIN carries, and the
RESULT of a descriptor that cannot be read are the model's choices (log entries 34 and 37 for the first two). -/
theorem jobCommands : Obligations.JobCommands := by
  refine ⟨?_, ?_, ?_, fun d => ⟨d.leaveJob_job, Device.rd_collResult _ (by decide)⟩, fun _ => exec_compareNext,
    fun _ => ⟨rfl, rfl⟩, fun _ => exec_resetWindows_root, fun _ _ => exec_joinMsg_early, ?_, ?_, ?_, ?_, ?_,
    fun _ _ => exec_voteTimeout_due⟩
  · intro s w d e b reach free idle wrote loaded outside noTables desc asked
    have idle' : d.phase = .idle := by rw [wrote, Device.hostWrites_phase, idle]
    have answer := exec_join_read reach free wrote idle' loaded outside noTables desc asked
    refine ⟨fun sound => by rw [answer, if_neg (not_not.mpr sound)], ?_⟩
    rintro _ rfl fault
    rw [answer, if_pos fault]
  · intro s w d reach free wrote
    refine ⟨exec_join_unready reach free wrote, fun idle loaded => ⟨exec_join_inJob reach free wrote idle loaded, fun outside => ?_⟩⟩
    exact ⟨exec_join_tables reach free wrote idle loaded outside, exec_join_unread reach free wrote idle loaded outside⟩
  · intro s reach free idle
    exact ⟨exec_leave_inJob reach free idle, exec_leave_outside reach free idle⟩
  · intro s m inJob type whole serves sound fresh
    have heard : s.seen.Hears 0x11 m := ⟨type, inJob, whole, serves⟩
    exact ⟨exec_joinMsg_heard heard sound fresh, exec_joinOutcome_heard heard sound fresh⟩
  · intro d m j g joining
    exact ⟨fun first => ⟨Device.joinHear_first joining m first, Device.joinHeard_first joining m first⟩,
      fun other => ⟨Device.joinHear_other joining m other, Device.joinHeard_other joining m other⟩,
      Device.joinEnd_joined joining, Device.joinEnd_failed joining, rfl⟩
  · intro s j g joining due
    have answer := exec_joinTimeout_due joining due
    exact ⟨fun first => by rw [answer, if_pos first], fun other => by rw [answer, if_neg other]⟩
  · intro s may
    rw [exec_voteSend, if_pos may]
  · intro s mayNot
    rw [exec_voteSend, if_neg (ne_true_of_eq_false mayNot)]

end

section
/-! PROOFS. The ring table: pointer writes, RING_CTL, moderation, entries that wait, fabric sends (R355 to R358, R363, R374, R406). -/

namespace Sys2Proof.Machine

/-! ### Pointer writes -/

/-- The register of a ring's producer or consumer pointer. -/
def ptrFld (r : Nat) (producer : Bool) : Fld := if producer then F.RING_PROD_PTR r else F.RING_CONS_PTR r

/-- Whether the host owns the pointer: the producer's of a ring it produces, the consumer's of one it consumes (R353). -/
def hostOwns (producer : Bool) (ty : Nat) : Bool := if producer then hostProduces ty else hostConsumes ty

section PtrWrite

variable {d : Device} {r v : Nat} {producer : Bool} (opens : d.barOpen = true)
  (decodes : d.decodes (keySource (ptrFld r producer).key).1 = true)
include opens decodes

/-- A write of a pointer the T24 owns is only logged (R355). -/
theorem Device.ptrWrite_of_foreign (foreign : hostOwns producer (d.rd (F.RING_CFG_TYPE r)) = false) :
    d.ptrWrite r producer v = d.logAccess (ptrFld r producer).key := by
  have turned : (!hostOwns producer (d.rd (F.RING_CFG_TYPE r))) = true := by rw [foreign, Bool.not_false]
  rw [Device.ptrWrite]
  refine (Device.access_open _ opens decodes).trans ?_
  exact if_pos turned

/-- One that falls back or leads too far is dropped, counted, flagged and logged (R355). -/
theorem Device.ptrWrite_of_bad (owned : hostOwns producer (d.rd (F.RING_CFG_TYPE r)) = true) (word : v < 2 ^ 32)
    (bad : d.ptrBad r producer v = true) :
    d.ptrWrite r producer v =
      ((d.inc (F.RING_DROP_COUNT r)).wr (F.RING_STATUS_PTR_ERR r) 1).logAccess (ptrFld r producer).key := by
  have kept : ¬(!hostOwns producer (d.rd (F.RING_CFG_TYPE r))) = true := by simp [owned]
  rw [Device.ptrWrite, Nat.mod_eq_of_lt word]
  refine (Device.access_open _ opens decodes).trans ?_
  exact (if_neg kept).trans (if_pos bad)

/-- Any other takes the value, and a consumer pointer of the delta ring makes its records durable (R355, R453). -/
theorem Device.ptrWrite_of_good (owned : hostOwns producer (d.rd (F.RING_CFG_TYPE r)) = true) (word : v < 2 ^ 32)
    (good : d.ptrBad r producer v = false) {e : Device} (taken : e = (d.wr (ptrFld r producer) v).ringFlags r) :
    d.ptrWrite r producer v =
      if !producer ∧ r = e.rd F.CKPT_CFG_DELTA_RING then e.durable (d.rd (ptrFld r producer)) v else e := by
  have kept : ¬(!hostOwns producer (d.rd (F.RING_CFG_TYPE r))) = true := by simp [owned]
  subst taken
  rw [Device.ptrWrite, Nat.mod_eq_of_lt word]
  refine (Device.access_open _ opens decodes).trans ?_
  exact (if_neg kept).trans (if_neg (ne_true_of_eq_false good))

end PtrWrite

/-- A producer pointer is good where it moves less than half of the counter's range on and leads the consumer by at most the ring's
entries (R355). -/
theorem Device.ptrBad_producer_iff (d : Device) (r v : Nat) :
    d.ptrBad r true v = false ↔ (v + 2 ^ 32 - d.rd (F.RING_PROD_PTR r)) % 2 ^ 32 < 2 ^ 31 ∧
      (v + 2 ^ 32 - d.rd (F.RING_CONS_PTR r)) % 2 ^ 32 ≤ 2 ^ d.rd (F.RING_CFG_LOG2_ENTRIES r) := by
  simp only [Device.ptrBad, if_true, Bool.or_eq_false_iff, decide_eq_false_iff_not, Nat.not_le, Nat.not_lt]

/-- The host's write of RING_PROD follows what it has written to its memory (log entry 1). -/
theorem exec_ringProdWrite {s : State} {r : Nat} (v : Nat) (w : List Host.Cell) (named : r < 4096) :
    exec (.ringProdWrite r v w) s = .next (s.withDev ((s.seen.hostWrites w).ptrWrite r true v)) := by
  change execRingProdWrite r v w s = _
  rw [execRingProdWrite, State.onDev_eq, if_neg (show ¬Config.rings ≤ r from Nat.not_le.mpr named)]

theorem exec_ringConsWrite {s : State} {r : Nat} (v : Nat) (named : r < 4096) :
    exec (.ringConsWrite r v) s = .next (s.withDev (s.seen.ptrWrite r false v)) := by
  change execRingConsWrite r v s = _
  rw [execRingConsWrite, State.onDev_eq, if_neg (show ¬Config.rings ≤ r from Nat.not_le.mpr named)]

/-! ### RING_CTL -/

/-- A write that would disable a submission ring whose channel `h` is not IDLE. -/
abbrev Device.disablesBusy (d : Device) (r v : Nat) (h : Channel) : Prop :=
  (d.rd (F.RING_CFG_TYPE r) = 1 ∨ d.rd (F.RING_CFG_TYPE r) = 2) ∧ d.flag (F.RING_CTL_ENABLE r) = true ∧ bit v 0 = false ∧ h.st ≠ .idle

section RingCtl

variable {s : State} {r v : Nat} {h : Channel} (named : r < 4096) (reach : s.reaches (F.RING_CTL r).key)
  (chan : h = s.seen.chan (s.seen.rd (F.RING_CFG_ENGINE r)) (s.seen.rd (F.RING_CFG_CHANNEL r)))
include named reach chan

/-- Such a write is only logged (R375). -/
theorem exec_ringCtlWrite_of_busy (busy : s.seen.disablesBusy r v h) :
    exec (.ringCtlWrite r v) s = .next (s.withDev (s.seen.logAccess (F.RING_CTL r).key)) := by
  subst chan
  change execRingCtlWrite r v s = _
  rw [execRingCtlWrite, State.onDev_eq, if_neg (show ¬Config.rings ≤ r from Nat.not_le.mpr named), State.access_reaches _ reach]
  dsimp only
  rw [if_pos busy]

theorem exec_ringCtlWrite_of_free (free : ¬s.seen.disablesBusy r v h) :
    exec (.ringCtlWrite r v) s = .next (s.withDev (s.seen.setReg (F.RING_CTL r).key (BitVec.ofNat 32 (v % 8)))) := by
  subst chan
  change execRingCtlWrite r v s = _
  rw [execRingCtlWrite, State.onDev_eq, if_neg (show ¬Config.rings ≤ r from Nat.not_le.mpr named), State.access_reaches _ reach]
  dsimp only
  rw [if_neg free]

end RingCtl

/-! ### Moderation -/

/-- At its time a moderated ring sends its vector and starts anew (R358). -/
theorem exec_ringModTimer_due {s : State} {r : Nat} (timing : (s.seen.ring r).timing = true)
    (enabled : s.seen.flag (F.RING_CTL_INT_EN r) = true) (timed : s.seen.rd (F.RING_MOD_CLK r) ≠ 0) :
    exec (.ringModTimer r) s = .next (s.withDev ((s.seen.modDone r).sendMsix (s.seen.rd (F.RING_CFG_VECTOR r)))) := by
  change execRingModTimer r s = _
  rw [execRingModTimer, State.onDev_eq]
  dsimp only
  rw [timing, enabled, bne_iff_ne.mpr timed, if_neg (by decide)]

theorem exec_ringModTimer_idle {s : State} {r : Nat}
    (idle : s.seen.flag (F.RING_CTL_INT_EN r) = false ∨ (s.seen.ring r).timing = false) :
    exec (.ringModTimer r) s = .next (s.withDev s.seen) := by
  change execRingModTimer r s = _
  rw [execRingModTimer, State.onDev_eq]
  dsimp only
  rw [if_pos (by rcases idle with masked | still <;> simp [*])]

/-! ### Entries that wait -/

/-- The oldest entry that waits is written where there is room (R357). -/
theorem Device.ringResume_written {d x : Device} {r : Nat} {e : Bytes} {q : List Bytes} (waits : (d.ring r).waiting = e :: q)
    (room : d.ringRoom r = true) (put : d.ringPut r e = (x, true, false)) :
    d.ringResume r = x.setRing r { x.ring r with waiting := q } := by
  simp only [Device.ringResume, waits, room, put, Bool.not_true, Bool.false_eq_true, if_false, if_true]

/-- Without an entry or without room nothing changes. -/
theorem Device.ringResume_idle {d : Device} {r : Nat} (idle : (d.ring r).waiting = [] ∨ d.ringRoom r = false) : d.ringResume r = d := by
  rw [Device.ringResume]
  split
  · rfl
  · next e q waits =>
    have full := idle.resolve_left (by simp [waits])
    rw [full, Bool.not_false, if_pos rfl]

theorem exec_ringFullResume (s : State) (r : Nat) : exec (.ringFullResume r) s = .next (s.withDev (s.seen.ringResume r)) := by
  change execRingFullResume r s = _
  rw [execRingFullResume, State.onDev_eq]

/-- A retry whose write reaches its memory is a write as of an entry that finds room. -/
theorem exec_ringWriteRetry_ok (s : State) (r : Nat) : exec (.ringWriteRetry r true) s = .next (s.withDev (s.seen.ringResume r)) := by
  change execRingWriteRetry r true s = _
  rw [execRingWriteRetry, State.onDev_eq, if_pos rfl]

/-- One that fails reports it where an entry waits and has room. -/
theorem exec_ringWriteRetry_failed (s : State) (r : Nat) :
    exec (.ringWriteRetry r false) s = .next (s.withDev
      (if (s.seen.ring r).waiting.isEmpty || !s.seen.ringRoom r then s.seen else s.seen.ringAccErr r)) := by
  change execRingWriteRetry r false s = _
  rw [execRingWriteRetry, State.onDev_eq, if_neg Bool.false_ne_true]

/-! ### Fabric send rings -/

/-- The entry at the head of a send ring goes to its device and is consumed (R363, R406). -/
theorem exec_fabricSendEntry {s : State} {r : Nat} {e : Bytes} (sends : s.seen.rd (F.RING_CFG_TYPE r) = 9)
    (head : s.seen.ringHead r = some e) :
    exec (.fabricSendEntry r) s = .next (s.withDev ((s.seen.sendMsg (u16At e 0 % 4096) 1 e).ringConsume r)) := by
  change execFabricSendEntry r s = _
  rw [execFabricSendEntry, State.onDev_eq, if_neg (not_not.mpr sends), head]

end Sys2Proof.Machine

open Sys2Proof Sys2Proof.Machine

/-- Settles O28. That the host's writes enter memory before its pointer write takes effect is the model's choice (log entry 1). -/
theorem ringPointers : Obligations.RingPointers := by
  refine ⟨?_, ?_, ?_, fun d r v _ _ => d.ptrBad_producer_iff r v, ?_, fun _ _ => exec_ringModTimer_due,
    fun _ _ => exec_ringModTimer_idle, ?_, ?_, ?_, fun _ _ _ => exec_fabricSendEntry, ?_⟩
  · rintro s r v w _ named ⟨opens, decodes⟩ rfl owned word
    rw [exec_ringProdWrite v w named]
    refine ⟨fun good => ?_, fun bad => ?_⟩
    · rw [Device.ptrWrite_of_good (d := s.seen.hostWrites w) (producer := true) opens decodes owned word good rfl]
      simp [ptrFld]
    · rw [Device.ptrWrite_of_bad (d := s.seen.hostWrites w) (producer := true) opens decodes owned word bad]
      rfl
  · rintro s r v named ⟨opens, decodes⟩ owned word _ rfl
    rw [exec_ringConsWrite v named]
    refine ⟨fun good => ?_, fun bad => ?_⟩
    · rw [Device.ptrWrite_of_good (producer := false) opens decodes owned word good rfl]
      simp [ptrFld]
    · rw [Device.ptrWrite_of_bad (producer := false) opens decodes owned word bad]
      rfl
  · intro s r v w named
    refine ⟨fun ⟨opens, decodes⟩ foreign => ?_, fun ⟨opens, decodes⟩ foreign => ?_⟩
    · rw [exec_ringProdWrite v w named, Device.ptrWrite_of_foreign (d := s.seen.hostWrites w) (producer := true) opens decodes foreign]
      rfl
    · rw [exec_ringConsWrite v named, Device.ptrWrite_of_foreign (producer := false) opens decodes foreign]
      rfl
  · rintro s r v _ h named reach rfl chan
    exact ⟨exec_ringCtlWrite_of_free named reach chan, fun submits enabled clears busy =>
      exec_ringCtlWrite_of_busy named reach chan ⟨submits, enabled, clears, busy⟩⟩
  · intro s r e q d waits room put
    rw [exec_ringFullResume, exec_ringWriteRetry_ok, Device.ringResume_written waits room put]
    exact ⟨rfl, rfl⟩
  · rintro s r idle _ (rfl | rfl | rfl)
    · rw [exec_ringFullResume, Device.ringResume_idle idle]
    · rw [exec_ringWriteRetry_ok, Device.ringResume_idle idle]
    · rw [exec_ringWriteRetry_failed, if_pos (by simpa using idle)]
  · intro s r waits room
    rw [exec_ringWriteRetry_failed, if_neg (by simp [waits, room])]
  · intro d r
    refine ⟨?_, ?_, ?_, Device.setRing_regs .., fun _ other => Device.ring_setRing_ne d _ other⟩ <;> rw [Device.modDone, Device.ring_setRing]

end

section
/-! PROOFS. The DMA engines: chains, descriptors, retries and DMA_CH_CTL (R369 to R379). -/

namespace Sys2Proof.Machine

/-! ### Chains -/

/-- A channel without a chain begins the one at the head of its ring, where its completion ring lets it (R357, R373, R374). -/
theorem exec_chainStart {s : State} {e c r : Nat} (ring : s.seen.chanRing e c = some r) (on : s.seen.engOn e = true)
    (enabled : s.seen.flag (F.RING_CTL_ENABLE r) = true) (holds : s.seen.ringEmpty r = false) (free : (s.seen.chan e c).live = false)
    (answered : s.seen.rd (F.RING_CFG_TYPE r) = 2 → (s.seen.ring (s.seen.rd (F.RING_PAIR_PAIR r))).waiting = [])
    (rests : s.seen.chanState e c = .idle ∨ s.seen.chanState e c = .running) :
    exec (.chainStart e c) s = .next (s.withDev (s.seen.chainBegin e c r)) := by
  have clear : (s.seen.rd (F.RING_CFG_TYPE r) == 2 && !(s.seen.ring (s.seen.rd (F.RING_PAIR_PAIR r))).waiting.isEmpty) = false := by
    simpa using answered
  have starts : (s.seen.chanState e c == .idle || s.seen.chanState e c == .running) = true := by simpa using rests
  change execChainStart e c s = _
  rw [execChainStart, State.onDev_eq, ring]
  dsimp only
  rw [on, enabled, holds, free, clear, starts, if_neg (by decide)]

/-- A chain that has ended completes with STATUS 0 (R366, R373). -/
theorem exec_chainComplete_ended {s : State} {e c : Nat} (on : s.seen.engOn e = true) (runs : (s.seen.chan e c).st = .running)
    (live : (s.seen.chan e c).live = true) (ended : (s.seen.chan e c).ended = true) :
    exec (.chainComplete e c) s = .next (s.withDev (s.seen.chainEnd e c 0 true)) := by
  change execChainComplete e c s = _
  rw [execChainComplete, State.onDev_eq]
  dsimp only
  rw [on, runs, live, ended, if_pos (by decide)]

/-! ### Descriptors -/

/-- The commands that carry out a descriptor, by its OP (R369). -/
def CarriesOut (i : Instr) (e c : Nat) (f : Option Nat) (op : Nat) : Prop :=
  (i = .dmaCopy e c f ∧ op = 0) ∨ (i = .dmaAccumulate e c f ∧ op = 1) ∨ (i = .dmaFill e c f ∧ op = 2) ∨ (i = .pageWalk e c f ∧ op = 3)

theorem exec_of_carriesOut {i : Instr} {e c op : Nat} {f : Option Nat} (s : State) (carries : CarriesOut i e c f op) :
    exec i s = .next (s.withDev (s.seen.runDesc e c op f)) := by
  rcases carries with ⟨rfl, rfl⟩ | ⟨rfl, rfl⟩ | ⟨rfl, rfl⟩ | ⟨rfl, rfl⟩ <;> rfl

/-- A running channel moves the lines that its descriptor has left (R368, R369). -/
theorem Device.runDesc_running {d : Device} {e c op : Nat} (f : Option Nat) (on : d.engOn e = true) (runs : (d.chan e c).st = .running)
    (live : (d.chan e c).live = true) (left : (d.chan e c).ended = false) (read : (d.chan e c).cur ≠ [])
    (does : qOp (d.chan e c).cur = op) :
    d.runDesc e c op f = Device.moveLines e c (qTotal (d.chan e c).cur - (d.chan e c).before) f d := by
  have known : (d.chan e c).cur.isEmpty = false := by simpa using read
  rw [Device.runDesc]
  rw [on, runs, live, left, known, does, beq_self_eq_true op, if_neg (by decide)]

/-! ### Lines -/

/-- The line named to fail makes the channel retry (R378). -/
theorem Device.moveLines_named_fail (d : Device) (e c n : Nat) : Device.moveLines e c (n + 1) (some 0) d = d.chanFail e c := by
  simp only [Device.moveLines, if_true]

section MoveLines

variable {d x : Device} {e c : Nat} {f : Option Nat} (n : Nat) (unnamed : f ≠ some 0)
include unnamed

/-- A line that moves counts, the position advances and the next line follows (R368). -/
theorem Device.moveLines_moved (moved : d.moveLine e c (d.chan e c) = .moved x) :
    Device.moveLines e c (n + 1) f d = Device.moveLines e c n (f.map (· - 1)) (x.lineMoved e c) := by
  simp only [Device.moveLines, if_neg unnamed, moved]

/-- One that fails makes the channel retry (R378). -/
theorem Device.moveLines_failed (failed : d.moveLine e c (d.chan e c) = .failed x) :
    Device.moveLines e c (n + 1) f d = x.chanFail e c := by
  simp only [Device.moveLines, if_neg unnamed, failed]

end MoveLines

/-- A line of FILL is the descriptor's pattern (R369). -/
theorem Device.moveLine_fill (d : Device) (e c : Nat) {dst : Nat} {h : Channel} (fills : qOp h.cur = 2)
    (dest : h.lineAddr (qDst h.cur) (qDstStride h.cur) = some dst) :
    d.moveLine e c h = d.dmaPut dst (((List.replicate 8 (sub h.cur 8 8)).flatten).take h.lineBytes) false := by
  rw [Device.moveLine]
  dsimp only
  rw [if_neg (by rw [fills]; decide), dest]
  dsimp only
  rw [if_pos fills]

/-! ### Retries -/

section Retry

variable {s : State} {e c : Nat} (on : s.seen.engOn e = true) (retries : (s.seen.chan e c).st = .retrying)
include on retries

/-- A retry counts and, where it fails, is a failed access again (R378). -/
theorem exec_dmaLineRetry_failed :
    exec (.dmaLineRetry e c false) s = .next (s.withDev ((s.seen.inc (F.DMA_ENG_RETRIES_COUNT e)).chanFail e c)) := by
  change execDmaLineRetry e c false s = _
  simp only [execDmaLineRetry, State.onDev_eq, on, retries, BEq.rfl, Bool.and_self, Bool.not_true, Bool.not_false,
    Bool.false_eq_true, if_false, if_true]

/-- Where the descriptor had not been read, it is read again (R378). -/
theorem exec_dmaLineRetry_desc (unread : (s.seen.chan e c).cur = [])
    (reads : (s.seen.inc (F.DMA_ENG_RETRIES_COUNT e)).uniOk (s.seen.chan e c).desc 64 = true) :
    exec (.dmaLineRetry e c true) s = .next (s.withDev
      (((s.seen.inc (F.DMA_ENG_RETRIES_COUNT e)).retryOk e c).reach e c (s.seen.chan e c).desc)) := by
  change execDmaLineRetry e c true s = _
  simp only [execDmaLineRetry, State.onDev_eq, on, retries, unread, reads, List.isEmpty_nil, BEq.rfl, Bool.and_self, Bool.not_true,
    Bool.false_eq_true, if_false, if_true]

/-- Where a line had failed and moves now, the channel goes on after it (R378). -/
theorem exec_dmaLineRetry_line {x : Device} (read : (s.seen.chan e c).cur ≠ [])
    (moved : (s.seen.inc (F.DMA_ENG_RETRIES_COUNT e)).moveLine e c (s.seen.chan e c) = .moved x) :
    exec (.dmaLineRetry e c true) s = .next (s.withDev ((x.retryOk e c).lineMoved e c)) := by
  change execDmaLineRetry e c true s = _
  have known : (s.seen.chan e c).cur.isEmpty = false := by simpa using read
  simp only [execDmaLineRetry, State.onDev_eq, on, retries, known, moved, BEq.rfl, Bool.and_self, Bool.not_true,
    Bool.false_eq_true, if_false]

end Retry

/-! ### DMA_CH_CTL -/

section ChanCtl

variable {s : State} {e v b : Nat} {may : ChState → Bool} (f : Device → Nat → Device) (named : e < 28)
  (reach : s.reaches (F.DMA_CH_CTL e 0).key) (asks : bit v b = true)
include named reach asks

/-- One bit alone acts on the selected channel in a state that takes it (R375). -/
theorem State.chanCtl_acts (alone : v % 8 = 2 ^ b) (takes : may (s.seen.chanState e (s.seen.rd (F.DMA_CH_SEL_CHANNEL e))) = true) :
    s.seen.chanCtl e v b may f = f s.seen (s.seen.rd (F.DMA_CH_SEL_CHANNEL e)) := by
  rw [Device.chanCtl, if_neg (by simp [Config.dmaEngines, named, asks])]
  dsimp only
  rw [State.access_reaches _ reach, if_neg (by simp [alone, takes])]

/-- In another state it is only logged (R375). -/
theorem State.chanCtl_logged (refuses : may (s.seen.chanState e (s.seen.rd (F.DMA_CH_SEL_CHANNEL e))) = false) :
    s.seen.chanCtl e v b may f = s.seen.logAccess (F.DMA_CH_CTL e 0).key := by
  rw [Device.chanCtl, if_neg (by simp [Config.dmaEngines, named, asks])]
  dsimp only
  rw [State.access_reaches _ reach, if_pos (.inr refuses)]

end ChanCtl

theorem exec_dmaPause (s : State) (e v : Nat) :
    exec (.dmaPause e v) s = .next (s.withDev
      (s.seen.chanCtl e v 0 (fun st => st == .running || st == .retrying) fun d c => d.pauseChan e c)) := by
  change execDmaPause e v s = _
  rw [execDmaPause, State.onDev_eq]

theorem exec_dmaResume (s : State) (e v : Nat) :
    exec (.dmaResume e v) s = .next (s.withDev
      (s.seen.chanCtl e v 1 (fun st => st == .paused || st == .halted) fun d c => d.resumeChan e c)) := by
  change execDmaResume e v s = _
  rw [execDmaResume, State.onDev_eq]

theorem exec_dmaAbort (s : State) (e v : Nat) :
    exec (.dmaAbort e v) s = .next (s.withDev
      (s.seen.chanCtl e v 2 (fun st => st == .paused || st == .halted) fun d c => d.abortChan e c)) := by
  change execDmaAbort e v s = _
  rw [execDmaAbort, State.onDev_eq]

/-! ### PAUSE, RESUME and ABORT of a channel -/

section Control

variable {d : Device} {e c : Nat}

/-- A channel that does not retry reads PAUSED after PAUSE (R375). -/
theorem Device.pauseChan_st (moves : (d.chan e c).st ≠ .retrying) : ((d.pauseChan e c).chan e c).st = .paused := by
  rw [Device.pauseChan, Device.chan_setChan, if_neg moves]

/-- One that retries goes on, with the pause asked for (R375). -/
theorem Device.pauseChan_retrying (retries : (d.chan e c).st = .retrying) :
    (d.pauseChan e c).chan e c = { d.chan e c with pauseReq := true } := by
  rw [Device.pauseChan, Device.chan_setChan, if_pos retries]

/-- Without a chain RESUME leaves the channel RUNNING. -/
theorem Device.resumeChan_st (free : (d.chan e c).live = false) : ((d.resumeChan e c).chan e c).st = .running := by
  rw [Device.resumeChan, free, Bool.false_and, if_neg Bool.false_ne_true, Device.chan_setChan]

/-- Without a chain ABORT leaves the channel RUNNING. -/
theorem Device.abortChan_st (free : (d.chan e c).live = false) : ((d.abortChan e c).chan e c).st = .running := by
  rw [Device.abortChan, free, if_neg Bool.false_ne_true, Device.chan_setChan]

/-- ABORT of a chain completes it with STATUS 2 after a descriptor error and with STATUS 1 otherwise (R366, R375). -/
theorem Device.abortChan_live (live : (d.chan e c).live = true) :
    d.abortChan e c =
      d.chainEnd e c (if (d.chan e c).st = .halted ∧ ((d.chan e c).cause = 2 ∨ (d.chan e c).cause = 3) then 2 else 1) true :=
  if_pos live

end Control

end Sys2Proof.Machine

open Sys2Proof Sys2Proof.Machine

/-- Settles O29. Where a unit's chain begins, when a descriptor is checked, what RESUME clears, and how the lines of an unaligned run
are counted are the model's choices (log entries 95, 94, 93 and 97). -/
theorem dmaChannels : Obligations.DmaChannels := by
  refine ⟨?_, ?_, ?_, fun d e c _ _ => d.moveLine_fill e c, ?_, ?_, ?_, ?_⟩
  · rintro s e c r _ ring rfl on enabled holds free answered rests
    exact exec_chainStart ring on enabled holds free answered rests
  · rintro s i e c op _ f _ carries rfl on runs live left read does rfl
    rw [exec_of_carriesOut s carries, Device.runDesc_running f on runs live left read does]
  · intro d x e c n f
    exact ⟨rfl, d.moveLines_named_fail e c n, fun unnamed => ⟨Device.moveLines_moved n unnamed, Device.moveLines_failed n unnamed⟩⟩
  · rintro s e c _ rfl on runs live ended
    exact exec_chainComplete_ended on runs live ended
  · rintro s e c _ _ rfl on retries rfl
    exact ⟨exec_dmaLineRetry_failed on retries, exec_dmaLineRetry_desc on retries, fun read _ => exec_dmaLineRetry_line on retries read⟩
  · rintro s e _ named reach rfl
    rw [exec_dmaPause, exec_dmaResume, exec_dmaAbort]
    refine ⟨fun busy => ?_, fun stands => ⟨?_, ?_⟩, fun notRunning notRetrying => ?_, fun notPaused notHalted => ⟨?_, ?_⟩⟩
    · rw [State.chanCtl_acts _ named reach (by decide) (by decide) (by simpa using busy)]
    · rw [State.chanCtl_acts _ named reach (by decide) (by decide) (by simpa using stands)]
    · rw [State.chanCtl_acts _ named reach (by decide) (by decide) (by simpa using stands)]
    · rw [State.chanCtl_logged _ named reach (by decide) (by simp [notRunning, notRetrying])]
    · rw [State.chanCtl_logged _ named reach (by decide) (by simp [notPaused, notHalted])]
    · rw [State.chanCtl_logged _ named reach (by decide) (by simp [notPaused, notHalted])]
  · intro d e c
    refine ⟨Device.pauseChan_st, fun retries => ?_, fun free => ⟨Device.resumeChan_st free, Device.abortChan_st free⟩,
      Device.abortChan_live⟩
    rw [Device.pauseChan_retrying retries]
    exact ⟨retries, rfl⟩

end

section
/-! PROOFS. The queue's front (00_scope.md), what each command leaves alone outside the units (R505, R535, R558, R560), and the fuses
and calibration slots over a step (R535, R570). -/

namespace Sys2Proof.Machine

/-! ### Commands that act on the units alone -/

/-- A result in which only the units differ from `s`. -/
def State.UnitsOnly (s : State) (r : Result) : Prop := ∃ d, r = .next (s.withDev d)

theorem State.unitsOnly_self (s : State) : s.UnitsOnly (.next s) := ⟨s.dev, rfl⟩

theorem State.unitsOnly_ite {s : State} {b : Bool} {r q : Result} (yes : s.UnitsOnly r) (no : s.UnitsOnly q) :
    s.UnitsOnly (if b then r else q) := by
  cases b
  · exact no
  · exact yes

/-- The commands with an effect outside the units. -/
def reachesOut (c : Instr) : Bool := blowsFuse c || ofSmu c || movesTick c

/-- A command that is none of those changes the units alone. -/
theorem exec_unitsOnly {c : Instr} (s : State) (inside : reachesOut c = false) : s.UnitsOnly (exec c s) := by
  cases c
  case lowWordRead | readToClear => exact State.unitsOnly_ite s.unitsOnly_self ⟨_, rfl⟩
  case calStatus => exact State.unitsOnly_ite ⟨_, rfl⟩ s.unitsOnly_self
  case setTick | droneTick | epochMarker | droneEdgeTimeout | holdoverTick | aonPowerGood | aonSupplyLoss | resetN | managementReset |
      lockstepMismatch | faultEvent | smbReset | smuSessionStart | smuSample | smuStepMessage | smuTickMessage | smuRecordClose |
      crystalStop | crystalReturn | smuSupplyLoss | calStage | calCommit | sealAssert | sealDeassert | secRevoke => cases inside
  all_goals exact ⟨_, rfl⟩

/-! ### Commands of the Drone inputs and resets -/

/-- A result in which only the units and the Drone inputs differ from `s`. -/
def State.UnitsAndDrone (s : State) (r : Result) : Prop := ∃ d x, r = .next { s with dev := d, drone := x }

theorem State.unitsAndDrone_self (s : State) : s.UnitsAndDrone (.next s) := ⟨s.dev, s.drone, rfl⟩

theorem State.unitsAndDrone_ite {s : State} {p : Prop} [Decidable p] {r q : Result} (yes : s.UnitsAndDrone r) (no : s.UnitsAndDrone q) :
    s.UnitsAndDrone (if p then r else q) := by
  by_cases h : p
  · rwa [if_pos h]
  · rwa [if_neg h]

theorem State.unitsAndDrone_holdEdge (s : State) (b : Bool) : s.UnitsAndDrone (.next (s.holdEdge b)) := by
  unfold State.holdEdge
  generalize (if b then s.drone.good + 1 else 1) = n
  dsimp only
  split
  · exact ⟨_, _, rfl⟩
  · exact ⟨_, _, rfl⟩

theorem State.unitsAndDrone_marker (s : State) (armed : Option Nat) : s.UnitsAndDrone (.next (s.marker armed)) := by
  cases armed with
  | some v => exact ⟨_, _, rfl⟩
  | none =>
    unfold State.marker State.slip
    dsimp only
    split
    · split
      · exact ⟨_, _, rfl⟩
      · exact ⟨_, _, rfl⟩
    · exact ⟨_, _, rfl⟩

theorem State.unitsAndDrone_mgmtReset (s : State) : s.UnitsAndDrone (.next s.mgmtReset) := ⟨_, _, rfl⟩

theorem State.unitsAndDrone_obey (s : State) (d : Device) (e : Option FaultEv) : s.UnitsAndDrone (.next (s.obey d e)) := by
  cases e with
  | none => exact ⟨_, _, rfl⟩
  | some e =>
    unfold State.obey
    dsimp only
    split
    · exact ⟨_, _, rfl⟩
    · split
      · exact ⟨_, _, rfl⟩
      · split
        · exact ⟨_, _, rfl⟩
        · exact ⟨_, _, rfl⟩

/-- The commands of the Drone inputs and the resets change the units and the Drone inputs alone. -/
theorem exec_unitsAndDrone {c : Instr} (s : State) (moves : movesTick c = true) : s.UnitsAndDrone (exec c s) := by
  cases c
  case setTick => exact ⟨_, _, rfl⟩
  case droneTick b =>
    exact State.unitsAndDrone_ite s.unitsAndDrone_self (State.unitsAndDrone_ite (s.unitsAndDrone_holdEdge b) ⟨_, _, rfl⟩)
  case epochMarker b =>
    exact State.unitsAndDrone_ite s.unitsAndDrone_self
      (State.unitsAndDrone_ite (s.unitsAndDrone_holdEdge b) (s.unitsAndDrone_marker _))
  case droneEdgeTimeout | holdoverTick => exact State.unitsAndDrone_ite s.unitsAndDrone_self ⟨_, _, rfl⟩
  case aonPowerGood | aonSupplyLoss => exact ⟨_, _, rfl⟩
  case resetN b => exact State.unitsAndDrone_ite ⟨_, _, rfl⟩ ⟨_, _, rfl⟩
  case managementReset => exact State.unitsAndDrone_ite s.unitsAndDrone_mgmtReset s.unitsAndDrone_self
  case lockstepMismatch =>
    exact State.unitsAndDrone_ite s.unitsAndDrone_self (State.unitsAndDrone_ite s.unitsAndDrone_mgmtReset ⟨_, _, rfl⟩)
  case faultEvent => exact State.unitsAndDrone_ite s.unitsAndDrone_self (s.unitsAndDrone_obey _ _)
  case smbReset => exact State.unitsAndDrone_ite s.unitsAndDrone_mgmtReset ⟨_, _, rfl⟩
  all_goals cases moves

/-! ### Commands of the sealed measurement unit -/

/-- A calibration slot once programmed stays, and stays in its place (R570). -/
def Smu.Extends (m n : Smu) : Prop := ∃ r, n.slots = m.slots ++ r

theorem Smu.extends_of_slots {m n : Smu} (same : n.slots = m.slots) : m.Extends n := ⟨[], by rw [same, List.append_nil]⟩

theorem Smu.extends_newSession (m : Smu) (n : Nat) : m.Extends (m.newSession n) := by
  by_cases bare : m.slots = []
  · exact ⟨[Config.calSlot0], by simp [Smu.newSession, bare]⟩
  · exact Smu.extends_of_slots (by simp [Smu.newSession, bare])

theorem Smu.foldl_slots {α : Type} {f : Smu → α → Smu} (keeps : ∀ m a, (f m a).slots = m.slots) (l : List α) (m : Smu) :
    (l.foldl f m).slots = m.slots := by
  induction l generalizing m with
  | nil => rfl
  | cons a r ih => exact (ih (f m a)).trans (keeps m a)

theorem Smu.sample_slots (m : Smu) (vs is : List Int) (free : Nat → Nat) : (m.sample vs is free).slots = m.slots := by
  unfold Smu.sample
  dsimp only
  split
  · refine Smu.foldl_slots ?_ _ _
    exact fun _ _ => rfl
  · refine Smu.foldl_slots ?_ _ _
    exact fun _ _ => rfl

theorem Smu.tickMsg_slots (m : Smu) (tick : Nat) : (m.tickMsg tick).slots = m.slots := by
  unfold Smu.tickMsg
  split <;> rfl

theorem Smu.sealOpen_slots (m : Smu) : m.sealOpen.slots = m.slots := by
  unfold Smu.sealOpen
  split
  · rfl
  · split <;> rfl

theorem Smu.stage_slots (m : Smu) (set : Bytes) (good : Bool) : (m.stage set good).slots = m.slots := by
  unfold Smu.stage
  split <;> rfl

theorem Smu.extends_commit (m : Smu) (staged : Option Bytes) (good : Bool) : m.Extends (m.commit staged good) := by
  cases staged with
  | none => exact Smu.extends_of_slots rfl
  | some set =>
    unfold Smu.commit
    dsimp only
    split
    · exact ⟨[set], rfl⟩
    · exact Smu.extends_of_slots rfl

/-- A result in which only the units and the SMU differ from `s`, the slots extended. -/
def State.UnitsAndSmu (s : State) (r : Result) : Prop := ∃ d m, r = .next { s with dev := d, smu := m } ∧ s.smu.Extends m

theorem State.unitsAndSmu_self (s : State) : s.UnitsAndSmu (.next s) := ⟨s.dev, s.smu, rfl, Smu.extends_of_slots rfl⟩

theorem State.unitsAndSmu_ite {s : State} {b : Bool} {r q : Result} (yes : s.UnitsAndSmu r) (no : s.UnitsAndSmu q) :
    s.UnitsAndSmu (if b then r else q) := by
  cases b
  · exact no
  · exact yes

theorem State.unitsAndSmu_onSmu {s : State} {f : Smu → Smu} (h : s.smu.Extends (f s.smu)) : s.UnitsAndSmu (s.onSmu f) :=
  ⟨s.dev, f s.smu, rfl, h⟩

theorem State.unitsAndSmu_stepReceived (s : State) (path : List (Nat × Bool × Nat)) : s.UnitsAndSmu (.next (s.stepReceived path)) := by
  cases path with
  | nil => exact s.unitsAndSmu_self
  | cons x r =>
    refine ⟨_, _, rfl, Smu.extends_of_slots ?_⟩
    split <;> rfl

/-- The commands of the SMU change the units and the SMU alone, and extend the slots. -/
theorem exec_unitsAndSmu {c : Instr} (s : State) (smu : ofSmu c = true) : s.UnitsAndSmu (exec c s) := by
  cases c
  case smuSessionStart => exact State.unitsAndSmu_ite s.unitsAndSmu_self ⟨_, _, rfl, s.smu.extends_newSession _⟩
  case smuSample => exact State.unitsAndSmu_ite ⟨_, _, rfl, Smu.extends_of_slots (s.smu.sample_slots _ _ _)⟩ s.unitsAndSmu_self
  case smuStepMessage => exact s.unitsAndSmu_stepReceived _
  case smuTickMessage => exact State.unitsAndSmu_onSmu (Smu.extends_of_slots (s.smu.tickMsg_slots _))
  case smuRecordClose =>
    refine State.unitsAndSmu_onSmu (Smu.extends_of_slots ?_)
    split <;> rfl
  case crystalStop | crystalReturn | smuSupplyLoss | sealDeassert => exact State.unitsAndSmu_onSmu (Smu.extends_of_slots rfl)
  case sealAssert => exact State.unitsAndSmu_onSmu (Smu.extends_of_slots s.smu.sealOpen_slots)
  case calStage => exact State.unitsAndSmu_onSmu (Smu.extends_of_slots (s.smu.stage_slots _ _))
  case calCommit good => exact State.unitsAndSmu_onSmu (f := fun m => m.commit m.staged good) (s.smu.extends_commit _ _)
  all_goals cases smu

/-! ### Revocation -/

/-- Nothing a key slot's fuse holds is undone, and the other fuses stand (R535). -/
structure Perm.Extends (p q : Perm) : Prop where
  revoked : ∀ k, bit p.revoked k = true → bit q.revoked k = true
  others : q.seedOk = p.seedOk ∧ q.edPub = p.edPub ∧ q.keyHash = p.keyHash

theorem Perm.extends_refl (p : Perm) : p.Extends p := ⟨fun _ h => h, rfl, rfl, rfl⟩

theorem bit_eq_testBit (v k : Nat) : bit v k = v.testBit k := by
  rw [bit, Nat.testBit_eq_decide_div_mod_eq, Bool.beq_eq_decide_eq]

/-- Blowing a slot's fuse sets its bit and keeps the others. -/
theorem Perm.bit_revoke (p : Perm) (j k : Nat) : bit (p.revoke j).revoked k = (bit p.revoked k || decide (k = j)) := by
  simp only [bit_eq_testBit, Perm.revoke, Nat.testBit_or, Nat.testBit_two_pow, eq_comm]

theorem Perm.extends_revoke (p : Perm) (j : Nat) : p.Extends (p.revoke j) :=
  ⟨fun k h => by rw [Perm.bit_revoke, h, Bool.true_or], rfl, rfl, rfl⟩

/-- A write of SEC_REVOKE changes the units and the fuses alone, and extends the fuses. -/
theorem exec_secRevoke_extends (k : Nat) (s : State) :
    ∃ d p, exec (.secRevoke k) s = .next { s with dev := d, perm := p } ∧ s.perm.Extends p := by
  change ∃ d p, execSecRevoke k s = _ ∧ _
  unfold execSecRevoke
  dsimp only
  split
  · exact ⟨_, _, rfl, s.perm.extends_refl⟩
  · split
    · exact ⟨_, _, rfl, s.perm.extends_revoke _⟩
    · exact ⟨_, _, rfl, s.perm.extends_refl⟩

/-! ### Every command -/

/-- What every command leaves alone outside the units, and what it may only extend. -/
structure Frame (c : Instr) (s t : State) : Prop where
  pending : t.pending = s.pending
  perm : blowsFuse c = false → t.perm = s.perm
  smu : ofSmu c = false → t.smu = s.smu
  drone : movesTick c = false → t.drone = s.drone
  fuses : s.perm.Extends t.perm
  slots : s.smu.Extends t.smu

theorem exec_frame (c : Instr) (s : State) : ∃ t, exec c s = .next t ∧ Frame c s t := by
  have still : s.smu.Extends s.smu := Smu.extends_of_slots rfl
  cases inside : reachesOut c with
  | false =>
    obtain ⟨d, ran⟩ := exec_unitsOnly s inside
    exact ⟨_, ran, rfl, fun _ => rfl, fun _ => rfl, fun _ => rfl, s.perm.extends_refl, still⟩
  | true =>
    simp only [reachesOut, Bool.or_eq_true] at inside
    obtain (fuse | smu) | moves := inside
    · cases c
      case secRevoke k =>
        obtain ⟨d, p, ran, grows⟩ := exec_secRevoke_extends k s
        exact ⟨_, ran, rfl, nofun, fun _ => rfl, fun _ => rfl, grows, still⟩
      all_goals cases fuse
    · obtain ⟨d, m, ran, grows⟩ := exec_unitsAndSmu s smu
      exact ⟨_, ran, rfl, fun _ => rfl, fun other => by simp [smu] at other, fun _ => rfl, s.perm.extends_refl, grows⟩
    · obtain ⟨d, x, ran⟩ := exec_unitsAndDrone s moves
      exact ⟨_, ran, rfl, fun _ => rfl, fun _ => rfl, fun other => by simp [moves] at other, s.perm.extends_refl, still⟩

/-! ### A step -/

/-- A step runs the front of the queue (DESIGN CHOICE, log entry 3). -/
theorem step_cons (c : Instr) (rest : List Instr) (s : State) :
    step { s with pending := c :: rest } = exec c { s with pending := rest } := rfl

/-- On an empty queue the block idles (DESIGN CHOICE, log entry 3). -/
theorem step_nil {s : State} (empty : s.pending = []) : step s = .next s := by
  rw [step, empty]

/-- Over a step the fuses and the slots only extend. -/
theorem step_extends {s t : State} (ran : step s = .next t) : s.perm.Extends t.perm ∧ s.smu.Extends t.smu := by
  rw [step] at ran
  split at ran
  · cases ran
    exact ⟨s.perm.extends_refl, Smu.extends_of_slots rfl⟩
  · next c rest _ =>
    obtain ⟨u, did, frame⟩ := exec_frame c { s with pending := rest }
    cases did.symm.trans ran
    exact ⟨frame.fuses, frame.slots⟩

/-- CAL_EVENTS never decreases where the slots only extend (R570). -/
theorem Smu.calEvents_le_of_extends {m n : Smu} (grows : m.Extends n) : m.calEvents ≤ n.calEvents := by
  obtain ⟨r, e⟩ := grows
  simp [Smu.calEvents, e]

end Sys2Proof.Machine

open Sys2Proof Sys2Proof.Machine

/-- Settles O1. That an empty queue idles is the model's choice (log entry 3). -/
theorem queueFront : Obligations.QueueFront := ⟨step_cons, fun _ empty => step_nil empty⟩

/-- Settles O50: every command falls into one of four groups by what it reaches outside the units. -/
theorem commandFrames : Obligations.CommandFrames := by
  intro c s
  obtain ⟨t, ran, frame⟩ := exec_frame c s
  exact ⟨t, ran, frame.pending, frame.perm, frame.smu, frame.drone⟩

/-- Settles O51: every command's frame only extends the fuses and the slots, and a step runs one command. -/
theorem fusesAndSlotsOnlyGrow : Obligations.FusesAndSlotsOnlyGrow := by
  intro s t ran
  obtain ⟨fuses, slots⟩ := step_extends ran
  exact ⟨fuses.revoked, fuses.others, slots, Smu.calEvents_le_of_extends slots⟩

end

section
/-! PROOFS. The interlock, open fibres, probes and optical feeds (R390 to R394). -/

namespace Sys2Proof.Machine

/-! ### The interlock (R390) -/

section Interlock

variable {s : State}

theorem exec_laserInterlockOpen_of_closed (closed : s.seen.optics.interlock = true) : exec .laserInterlockOpen s =
    .next (s.withDev ((s.seen.interlockSet false false).allFeeds.raise F.FAB_SAFETY_INT_STATUS_INTLK_OPEN)) := by
  change execLaserInterlockOpen s = _
  simp [execLaserInterlockOpen, State.onDev_eq, closed]

theorem exec_laserInterlockOpen_of_open (isOpen : s.seen.optics.interlock = false) :
    exec .laserInterlockOpen s = .next (s.withDev s.seen) := by
  change execLaserInterlockOpen s = _
  simp [execLaserInterlockOpen, State.onDev_eq, isOpen]

theorem exec_laserInterlockClose_of_open (isOpen : s.seen.optics.interlock = false) :
    exec .laserInterlockClose s = .next (s.withDev (s.seen.interlockSet true true)) := by
  change execLaserInterlockClose s = _
  simp [execLaserInterlockClose, State.onDev_eq, isOpen]

theorem exec_laserInterlockClose_of_closed (closed : s.seen.optics.interlock = true) :
    exec .laserInterlockClose s = .next (s.withDev s.seen) := by
  change execLaserInterlockClose s = _
  simp [execLaserInterlockClose, State.onDev_eq, closed]

theorem exec_interlockHoldDone_of_hold (closed : s.seen.optics.interlock = true) (holds : s.seen.optics.hold = true) :
    exec .interlockHoldDone s = .next (s.withDev (s.seen.interlockSet true false).allFeeds) := by
  change execInterlockHoldDone s = _
  simp [execInterlockHoldDone, State.onDev_eq, closed, holds]

theorem exec_interlockHoldDone_of_free (free : s.seen.optics.hold = false) :
    exec .interlockHoldDone s = .next (s.withDev s.seen) := by
  change execInterlockHoldDone s = _
  simp [execInterlockHoldDone, State.onDev_eq, free]

end Interlock

/-! ### Open fibres and probes (R391) -/

section Fibres

variable {s : State} {l : Nat} (real : l < 12) (powered : s.seen.linkPowered l = true)
include real powered

theorem exec_laneGroupDark_of_lit (lit : (s.seen.link l).blanked = false) : exec (.laneGroupDark l) s =
    .next (s.withDev ((s.seen.setLink l { s.seen.link l with blanked := true, probing := false }).raise
      F.FAB_SAFETY_INT_STATUS_OPEN_FIBRE)) := by
  change execLaneGroupDark l s = _
  simp [execLaneGroupDark, State.onDev_eq, real, powered, lit]

theorem exec_openFibreProbe_of_blanked (blanked : (s.seen.link l).blanked = true) (idle : (s.seen.link l).probing = false) :
    exec (.openFibreProbe l) s = .next (s.withDev (s.seen.setLink l { s.seen.link l with probing := true })) := by
  change execOpenFibreProbe l s = _
  simp [execOpenFibreProbe, State.onDev_eq, real, powered, blanked, idle]

end Fibres

theorem exec_laneGroupDark_of_blanked {s : State} {l : Nat} (blanked : (s.seen.link l).blanked = true) :
    exec (.laneGroupDark l) s = .next (s.withDev s.seen) := by
  change execLaneGroupDark l s = _
  simp [execLaneGroupDark, State.onDev_eq, blanked]

theorem exec_probeEnd_of_probing {s : State} {l : Nat} (light : Bool) (probing : (s.seen.link l).probing = true) :
    exec (.probeEnd l light) s = .next (s.withDev
      (if light then (s.seen.setLink l { s.seen.link l with probing := false, blanked := false, training := true }).wr (linkState l)
          (if (s.seen.link l).outage then 4 else 1)
        else s.seen.setLink l { s.seen.link l with probing := false })) := by
  change execProbeEnd l light s = _
  simp [execProbeEnd, State.onDev_eq, probing]

/-! ### Feeds (R392 to R394) -/

section Feeds

variable {s : State} {e : Nat} (real : e < 4)
include real

theorem exec_feedOverPower_of_within (within : s.seen.flag (F.FAB_ENG_STATUS_OVER e) = false) : exec (.feedOverPower e) s =
    .next (s.withDev (((s.seen.wr (F.FAB_ENG_STATUS_OVER e) 1).feedEnables e).raise F.FAB_SAFETY_INT_STATUS_OVER_POWER)) := by
  change execFeedOverPower e s = _
  simp [execFeedOverPower, State.onDev_eq, Config.engines, real.not_ge, within]

theorem exec_clearOver_of_reaches (reach : s.reaches (F.FAB_ENG_CTL e).key) :
    exec (.clearOver e) s = .next (s.withDev ((s.seen.wr (F.FAB_ENG_STATUS_OVER e) 0).feedEnables e)) := by
  change execClearOver e s = _
  simp [execClearOver, State.onDev_eq, Config.engines, real.not_ge, State.access_reaches _ reach]

theorem exec_feedOffWrite_of_reaches (v : Nat) (reach : s.reaches (F.FAB_ENG_CTL e).key) : exec (.feedOffWrite e v) s =
    .next (s.withDev ((s.seen.feedOff e 0 (bits v 0 0)).feedOff e 1 (bits v 1 1))) := by
  change execFeedOffWrite e v s = _
  simp [execFeedOffWrite, State.onDev_eq, Config.engines, real.not_ge, State.access_reaches _ reach]

theorem exec_feedFail_of_inWindow {f : Nat} (feed : f < 2) (inWindow : s.seen.rd (feedFld e f) = 1) :
    exec (.feedFail e f) s = .next (s.withDev (s.seen.feedLost e f)) := by
  change execFeedFail e f s = _
  simp [execFeedFail, State.onDev_eq, Config.engines, real.not_ge, feed.not_ge, inWindow]

theorem exec_feedWindowTimeout_of_opening {f : Nat} (feed : f < 2) (opens : 2 * e + f ∈ s.seen.optics.opening) :
    exec (.feedWindowTimeout e f) s = .next (s.withDev ((s.seen.notOpening e f).feedLost e f)) := by
  change execFeedWindowTimeout e f s = _
  simp [execFeedWindowTimeout, State.onDev_eq, Config.engines, real.not_ge, feed.not_ge, opens]

end Feeds

/-- A feed that is lost reads out of window and without power, with FEED_FAULT set; the rest is reporting (R393). -/
theorem Device.feedLost_calm (d : Device) (e f : Nat) :
    Device.Calm (((d.wr (feedFld e f) 2).wr (powerFld e f) 0x8000).wr F.FAB_SAFETY_INT_STATUS_FEED_FAULT 1) (d.feedLost e f) :=
  (Device.raise_calm _ rfl (by decide) (by simp [notCfg, F.FAB_SAFETY_INT_STATUS_FEED_FAULT])).trans (Device.log_calm _ _ _ _ _ _ _)

theorem Device.not_mem_opening_notOpening (d : Device) (e f : Nat) : 2 * e + f ∉ (d.notOpening e f).optics.opening := by
  simp [Device.notOpening]

/-- FEED_x_OFF of the last feed in window is ignored and logged (R394). -/
theorem Device.feedOff_of_last {d : Device} {e f : Nat}
    (changes : 1 ≠ d.rd (if f = 0 then F.FAB_ENG_CTL_FEED_A_OFF e else F.FAB_ENG_CTL_FEED_B_OFF e))
    (last : d.rd (feedFld e (1 - f)) ≠ 1) : d.feedOff e f 1 = d.logAccess (F.FAB_ENG_CTL e).key := by
  rw [Device.feedOff, if_neg changes, if_pos ⟨rfl, last⟩]

/-- Any other change of FEED_x_OFF takes effect (R394). -/
theorem Device.feedOff_of_allowed {d : Device} {e f v : Nat} {o : Fld}
    (fld : o = if f = 0 then F.FAB_ENG_CTL_FEED_A_OFF e else F.FAB_ENG_CTL_FEED_B_OFF e) (changes : v ≠ d.rd o)
    (allowed : v ≠ 1 ∨ d.rd (feedFld e (1 - f)) = 1) : d.feedOff e f v = (d.wr o v).feedEnable e f := by
  subst fld
  rw [Device.feedOff, if_neg changes, if_neg (by tauto)]

end Sys2Proof.Machine

open Sys2Proof Sys2Proof.Machine

/-- Settles O30. That FEED_A_OFF is written before FEED_B_OFF is the model's choice (log entry 70). -/
theorem laserSafety : Obligations.LaserSafety := by
  refine ⟨fun s => exec_laserInterlockOpen_of_closed,
    fun s isOpen => ⟨exec_laserInterlockClose_of_open isOpen, exec_laserInterlockOpen_of_open isOpen⟩,
    fun s closed => ⟨exec_interlockHoldDone_of_hold closed, exec_interlockHoldDone_of_free, exec_laserInterlockClose_of_closed closed⟩,
    fun d c h => ⟨rfl, rfl, rfl⟩, fun s l => exec_laneGroupDark_of_lit,
    fun s l real powered blanked idle =>
      ⟨exec_openFibreProbe_of_blanked real powered blanked idle, exec_laneGroupDark_of_blanked blanked⟩,
    fun s l probing => ⟨exec_probeEnd_of_probing true probing, exec_probeEnd_of_probing false probing⟩,
    fun s e => exec_feedOverPower_of_within, fun s e => exec_clearOver_of_reaches,
    fun s e f real feed => ⟨exec_feedFail_of_inWindow real feed, exec_feedWindowTimeout_of_opening real feed⟩,
    fun d e f => ⟨d.feedLost_calm e f, d.not_mem_opening_notOpening e f⟩,
    fun s e v real => exec_feedOffWrite_of_reaches real v, fun d e f v o fld changes => ⟨?_, Device.feedOff_of_allowed fld changes⟩⟩
  rintro rfl last
  exact Device.feedOff_of_last (fld ▸ changes) last

end

section
/-! PROOFS. The link layer: flits, acknowledgements, replay, credit and reassembly (R395 to R397, R405, R408). -/

namespace Sys2Proof.Machine

/-! ### Flits and control records on a link that is up -/

section Up

variable {s : State} {l : Nat} (up : s.seen.linkUp l = true)
include up

/-- A data flit of good CRC that is the one expected: after its acknowledgement it is accepted and handed on (R395, R396). -/
theorem exec_dataFlit_of_expected {x : Bytes} {d : Device} (acked : d = s.seen.ackUpTo l (flitAck l x))
    (expected : flitSeq l x = (d.link l).rxSeq) : exec (.dataFlit l x true) s = .next (s.withDev
      (if l < 8 then (d.seqTaken l).takeFlit l x else (d.seqTaken l).takeSlots (l - 8) x (min 3 (u8At x 6)))) := by
  subst acked
  change execDataFlit l x true s = _
  simp [execDataFlit, State.onDev_eq, up, expected]

theorem exec_dataFlit_of_missed {x : Bytes} {d : Device} (acked : d = s.seen.ackUpTo l (flitAck l x))
    (missed : flitSeq l x ≠ (d.link l).rxSeq) : exec (.dataFlit l x true) s = .next (s.withDev (d.seqMiss l)) := by
  subst acked
  change execDataFlit l x true s = _
  simp [execDataFlit, State.onDev_eq, up, missed]

theorem exec_dataFlit_of_bad (x : Bytes) : exec (.dataFlit l x false) s = .next (s.withDev (s.seen.badFlit l)) := by
  change execDataFlit l x false s = _
  simp [execDataFlit, State.onDev_eq, up]

theorem exec_idleFlit_of_up (a : Nat) (good : Bool) :
    exec (.idleFlit l a good) s = .next (s.withDev (if good then s.seen.ackUpTo l a else s.seen.badFlit l)) := by
  change execIdleFlit l a good s = _
  simp [execIdleFlit, State.onDev_eq, up]

theorem exec_nak_of_up (q : Nat) :
    exec (.nak l q) s = .next (s.withDev ((s.seen.ackUpTo l ((q + 65535) % 65536)).replayFrom l q)) := by
  change execNak l q s = _
  simp [execNak, State.onDev_eq, up]

theorem exec_credit_of_up (vc n : Nat) (plane : l < 8) : exec (.credit l vc n) s =
    .next (s.withDev ((s.seen.setLink l ((s.seen.link l).credited vc n)).flitPump (s.seen.link l).wait.length l)) := by
  change execCredit l vc n s = _
  simp [execCredit, State.onDev_eq, up, plane]

theorem exec_replayTimeout_of_up {t : TxFlit} {r : List TxFlit} (held : (s.seen.link l).buf = t :: r) :
    exec (.replayTimeout l) s = .next (s.withDev (s.seen.replayFrom l t.seq)) := by
  change execReplayTimeout l s = _
  simp [execReplayTimeout, State.onDev_eq, up, held]

end Up

/-! ### On a link that is not up -/

section Down

variable {s : State} {l : Nat} (down : s.seen.linkUp l = false)
include down

theorem exec_dataFlit_of_down (x : Bytes) (good : Bool) : exec (.dataFlit l x good) s = .next (s.withDev s.seen) := by
  change execDataFlit l x good s = _
  simp [execDataFlit, State.onDev_eq, down]

theorem exec_idleFlit_of_down (a : Nat) (good : Bool) : exec (.idleFlit l a good) s = .next (s.withDev s.seen) := by
  change execIdleFlit l a good s = _
  simp [execIdleFlit, State.onDev_eq, down]

theorem exec_nak_of_down (q : Nat) : exec (.nak l q) s = .next (s.withDev s.seen) := by
  change execNak l q s = _
  simp [execNak, State.onDev_eq, down]

theorem exec_credit_of_down (vc n : Nat) : exec (.credit l vc n) s = .next (s.withDev s.seen) := by
  change execCredit l vc n s = _
  simp [execCredit, State.onDev_eq, down]

theorem exec_replayTimeout_of_down : exec (.replayTimeout l) s = .next (s.withDev s.seen) := by
  change execReplayTimeout l s = _
  rw [execReplayTimeout, State.onDev_eq]
  cases held : (s.seen.link l).buf with
  | nil => rfl
  | cons t r => simp [down]

end Down

/-! ### What the operations leave -/

theorem Device.seqTaken_link (d : Device) (l : Nat) :
    (d.seqTaken l).link l = { d.link l with naking := false, rxSeq := ((d.link l).rxSeq + 1) % 65536 } :=
  d.link_setLink l _

/-- A flit refused leaves the number still expected, and a NAK outstanding (R396). -/
theorem Device.seqMiss_link (d : Device) (l : Nat) : (d.seqMiss l).link l = { d.link l with naking := true } := by
  unfold Device.seqMiss
  dsimp only
  split
  · next naks => rw [← naks]
  · exact Store.get_set_same ..

theorem Device.seqMiss_regs (d : Device) (l : Nat) : (d.seqMiss l).regs = d.regs := by
  unfold Device.seqMiss
  dsimp only
  split <;> rfl

/-- An acknowledgement that names no flit held changes nothing (R395). -/
theorem Device.ackUpTo_of_unheld {d : Device} {l a : Nat} (unheld : ∀ t ∈ (d.link l).buf, t.seq ≠ a) : d.ackUpTo l a = d := by
  rw [Device.ackUpTo, if_pos (by simpa using unheld)]

/-! ### Reassembly (R408) -/

theorem exec_reasmTimeout_of_partial {s : State} {p src : Nat} (plane : p < 8)
    (waits : ((s.seen.link p).partials.any fun x => x.src = src) = true) :
    exec (.reasmTimeout p src) s = .next (s.withDev (s.seen.dropPart p src)) := by
  change execReasmTimeout p src s = _
  rw [execReasmTimeout, State.onDev_eq, if_neg (by simp [waits, plane.not_ge])]

theorem Device.dropPart_partials (d : Device) (p src : Nat) :
    ((d.dropPart p src).link p).partials = (d.link p).partials.filter (·.src ≠ src) := by
  rw [Device.dropPart, Device.link, Device.inc_links]
  exact congrArg Link.partials (Device.link_setLink d p _)

end Sys2Proof.Machine

open Sys2Proof Sys2Proof.Machine

/-- Settles O31. That one CREDIT record of one flit answers each flit taken is the model's choice (log entry 42). -/
theorem linkLayer : Obligations.LinkLayer := by
  refine ⟨fun s l x d up acked => ⟨fun expected => ⟨fun plane => ?_, fun tier => ?_⟩, exec_dataFlit_of_missed up acked,
      exec_dataFlit_of_bad up x⟩,
    fun s l a up => ⟨exec_idleFlit_of_up up a true, exec_idleFlit_of_up up a false⟩, fun s l q up => exec_nak_of_up up q,
    fun s l vc n plane up => exec_credit_of_up up vc n plane, fun s l t r up => exec_replayTimeout_of_up up, ?_,
    fun s p src => exec_reasmTimeout_of_partial, fun d l => ?_, fun k n => ⟨rfl, rfl, rfl, rfl⟩,
    fun d l a => Device.ackUpTo_of_unheld, fun d p src => ?_⟩
  · rw [exec_dataFlit_of_expected up acked expected, if_pos plane]
  · rw [exec_dataFlit_of_expected up acked expected, if_neg tier.not_gt]
  · rintro s l x g a vc n q i down (rfl | rfl | rfl | rfl | rfl)
    · exact exec_dataFlit_of_down down x g
    · exact exec_idleFlit_of_down down a g
    · exact exec_nak_of_down down q
    · exact exec_credit_of_down down vc n
    · exact exec_replayTimeout_of_down down
  · rw [d.seqTaken_link, d.seqMiss_link, d.seqMiss_regs]
    exact ⟨rfl, rfl, rfl, rfl, rfl, rfl⟩
  · rw [Device.dropPart_partials]
    simp

end

section
/-! PROOFS. Lane checks, sparing, retraining and outages of a link (R398 to R400, R402, R418). -/

namespace Sys2Proof.Machine

/-! ### Lanes that fail (R398, R399) -/

section Lanes

variable {s : State} {l : Nat} (up : s.seen.linkUp l = true)
include up

theorem exec_laneCheck_of_up {es : List Nat} {d : Device}
    (counted : d = (List.range (linkFibres l)).foldl (fun d f => d.countLane l f (es.getD f 0)) s.seen) :
    exec (.laneCheck l es) s = .next (s.withDev (d.laneFails l (d.newFailing l))) := by
  subst counted
  change execLaneCheck l es s = _
  simp [execLaneCheck, State.onDev_eq, up]

theorem exec_laneLossOfLock_of_active {n : Nat} (active : n + 1 < linkFibres l) (serves : (s.seen.link l).failing.contains n = false) :
    exec (.laneLossOfLock l n) s = .next (s.withDev (s.seen.laneFails l [n])) := by
  change execLaneLossOfLock l n s = _
  rw [execLaneLossOfLock, State.onDev_eq, up, serves, decide_eq_false active.not_ge, if_neg (by decide)]

theorem exec_laneSwitchReq_of_free {n : Nat} (active : n + 1 < linkFibres l) (free : s.seen.laneMap l % 9 = 0) :
    exec (.laneSwitchReq l n) s = .next (s.withDev ((s.seen.txSpare l n).emit (.control l (ctlRecord 4 n 0 0)))) := by
  change execLaneSwitchReq l n s = _
  rw [execLaneSwitchReq, State.onDev_eq, up, free, decide_eq_false active.not_ge, if_neg (by decide)]

/-- A RETRAIN_REQ for width 4, or for the full width of the link (R399). -/
theorem exec_retrainReq_of_up {w : Nat} (width : w = 4 ∨ w = if l < 8 then 8 else 5) :
    exec (.retrainReq l w) s = .next (s.withDev (s.seen.retrain l (w == 4) false)) := by
  change execRetrainReq l w s = _
  rw [execRetrainReq, State.onDev_eq, up, if_neg (by decide)]
  rcases width with rfl | full
  · rfl
  · have notHalf : w ≠ 4 := by split at full <;> omega
    rw [if_neg notHalf, if_pos full, beq_false_of_ne notHalf]

end Lanes

theorem Device.laneFails_nil (d : Device) (l : Nat) : d.laneFails l [] = d := rfl

theorem Device.laneFails_of_ne_nil {d : Device} {l : Nat} {ns : List Nat} (some : ns ≠ []) :
    d.laneFails l ns = (d.setLink l { d.link l with failing := (d.link l).failing ++ ns }).linkFault l := by
  rw [Device.laneFails, if_neg (by simpa using some)]

/-! ### The spare (R400) -/

section Spare

variable {s : State} {l n : Nat}

theorem exec_laneSwitchAck_of_asked (asked : (s.seen.link l).switching = some (n, false)) :
    exec (.laneSwitchAck l n) s = .next (s.withDev (s.seen.setLink l { s.seen.link l with switching := some (n, true) })) := by
  change execLaneSwitchAck l n s = _
  rw [execLaneSwitchAck, State.onDev_eq, if_neg (by simpa using asked)]

theorem exec_laneSwitchAck_of_unasked (unasked : (s.seen.link l).switching ≠ some (n, false)) :
    exec (.laneSwitchAck l n) s = .next (s.withDev s.seen) := by
  change execLaneSwitchAck l n s = _
  rw [execLaneSwitchAck, State.onDev_eq, if_pos unasked]

theorem exec_spareDeskewed_of_answered (answered : (s.seen.link l).switching = some (n, true)) :
    exec (.spareDeskewed l) s = .next (s.withDev ((s.seen.spareTakes l n).spareShown l n)) := by
  change execSpareDeskewed l s = _
  rw [execSpareDeskewed, State.onDev_eq, answered]

end Spare

/-! ### Retraining (R399) -/

/-- STATE and LINK stand in the same three bits (R419, R420). -/
theorem linkState_place (l : Nat) : (linkState l).lo = 29 ∧ (linkState l).w = 3 := by
  unfold linkState
  split <;> exact ⟨rfl, rfl⟩

theorem Device.rd_wr_linkState (d : Device) (l : Nat) {x : Nat} (code : x < 2 ^ 3) : (d.wr (linkState l) x).rd (linkState l) = x := by
  obtain ⟨lo, w⟩ := linkState_place l
  rw [Device.rd_wr_same _ _ _ (by omega), w, Nat.mod_eq_of_lt code]

/-- A retraining link is training, at the width asked for, and shows it. -/
theorem Device.retrain_shows (d : Device) (l : Nat) (four tell : Bool) :
    ((d.retrain l four tell).link l).training = true ∧ ((d.retrain l four tell).link l).width4 = four ∧
      (d.retrain l four tell).rd (linkState l) = if l < 8 then 3 else 1 := by
  have code : (if l < 8 then 3 else 1) < 2 ^ 3 := by split <;> decide
  have link : (d.retrain l four tell).link l = { d.link l with training := true, width4 := four, switching := none } := by
    unfold Device.retrain
    cases tell <;> exact Device.link_setLink d l _
  rw [link]
  exact ⟨rfl, rfl, Device.rd_wr_linkState _ l code⟩

section Retrained

variable {s : State} {l : Nat} {d : Device} (real : l < 12) (training : (s.seen.link l).training = true)
  (powered : s.seen.linkPowered l = true) (lit : (s.seen.link l).blanked = false)
  (cleared : d = s.seen.wr (if l < 8 then F.FAB_PL_CTL_RETRAIN l else F.TLNK_C_CTL_RETRAIN (l - 8)) 0)
include real training powered lit cleared

/-- A retraining ends: well, or with a fault that remains (R399). -/
theorem exec_linkRetrainDone_of_training (ok remains : Bool) : exec (.linkRetrainDone l ok remains) s =
    .next (s.withDev (if !ok || remains then d.linkOut l else d.retrainedWell l (d.fellTo4 l))) := by
  subst cleared
  change execLinkRetrainDone l ok remains s = _
  rw [execLinkRetrainDone, State.onDev_eq, training, powered, lit, decide_eq_true real, if_neg (by decide)]

end Retrained

/-! ### Outages and first training (R402, R418) -/

section Outages

variable {s : State} {l : Nat} (powered : s.seen.linkPowered l = true)
include powered

theorem exec_linkOutage_of_lit (real : l < 12) (lit : (s.seen.link l).blanked = false) (on : s.seen.rd (linkState l) ≠ 0) :
    exec (.linkOutage l) s = .next (s.withDev
      (if l < 8 then (if s.seen.rd (linkState l) = 4 then s.seen else s.seen.planeOut l) else s.seen.tierOutage (l - 8))) := by
  change execLinkOutage l s = _
  rw [execLinkOutage, State.onDev_eq, if_neg (by simp [powered, real, lit, on])]

theorem exec_lightReturn_of_outage (real : l < 12) (out : s.seen.rd (linkState l) = 4) :
    exec (.lightReturn l) s = .next (s.withDev ((s.seen.lit l).retrain l (s.seen.link l).width4 false)) := by
  change execLightReturn l s = _
  rw [execLightReturn, State.onDev_eq, if_neg (by simp [powered, real, out])]

theorem exec_linkTrained_of_light (real : l < 12) (lit : (s.seen.link l).blanked = false) (closed : s.seen.optics.interlock = true)
    (free : s.seen.optics.hold = false) (down : s.seen.rd (linkState l) = 0 ∨ s.seen.rd (linkState l) = 1) :
    exec (.linkTrained l) s = .next (s.withDev ((s.seen.linkFresh l).linkIn l)) := by
  change execLinkTrained l s = _
  rw [execLinkTrained, State.onDev_eq, if_neg (by simpa [powered, real, lit, closed, free] using or_iff_not_imp_left.mp down)]

end Outages

end Sys2Proof.Machine

open Sys2Proof Sys2Proof.Machine

/-- Settles O32. How a carrier's outage is logged is the model's choice (log entry 69). -/
theorem laneRepair : Obligations.LaneRepair := by
  refine ⟨fun s l es d up counted => exec_laneCheck_of_up up counted, fun s l n up => exec_laneLossOfLock_of_active up,
    fun d l ns => ⟨d.laneFails_nil l, Device.laneFails_of_ne_nil⟩, fun s l n up => exec_laneSwitchReq_of_free up,
    fun s l n => exec_laneSwitchAck_of_asked, fun s l n => exec_spareDeskewed_of_answered, fun s l n => exec_laneSwitchAck_of_unasked,
    fun s l up => ⟨exec_retrainReq_of_up up (.inl rfl), fun plane => exec_retrainReq_of_up up (.inr (if_pos plane).symm),
      fun tier => exec_retrainReq_of_up up (.inr (if_neg tier.not_gt).symm)⟩,
    fun d l four tell => d.retrain_shows l four tell, fun s l ok remains d real training powered lit cleared => ?_,
    fun s l powered lit on => ⟨fun plane up => ?_, fun plane out => ?_, fun tier real => ?_⟩,
    fun s l real powered => exec_lightReturn_of_outage powered real,
    fun s l real powered => exec_linkTrained_of_light powered real⟩
  · have ends := exec_linkRetrainDone_of_training real training powered lit cleared
    exact ⟨ends true false, ends true true, ends false remains⟩
  · rw [exec_linkOutage_of_lit powered (by omega) lit on, if_pos plane, if_neg up]
  · rw [exec_linkOutage_of_lit powered (by omega) lit on, if_pos plane, if_pos out]
  · rw [exec_linkOutage_of_lit powered real lit on, if_neg tier.not_gt]

end

section
/-! PROOFS. The control registers of planes and tier links, and margin sweeps (R399, R401, R419). -/

namespace Sys2Proof.Machine

/-! ### DISABLE (R419) -/

section Disable

variable {s : State} {p : Nat} (plane : p < 8) (reach : s.reaches (F.FAB_PL_CTL p).key)
include plane reach

/-- A write of the value DISABLE has changes nothing but the register. -/
theorem exec_planeDisable_of_same {v : Bool} (same : s.seen.flag (F.FAB_PL_CTL_DISABLE p) = v) :
    exec (.planeDisable p v) s = .next (s.withDev (s.seen.wr (F.FAB_PL_CTL_DISABLE p) (b2n v))) := by
  change execPlaneDisable p v s = _
  rw [execPlaneDisable, State.onDev_eq, if_neg plane.not_ge, State.access_reaches _ reach, same, if_pos (beq_self_eq_true v)]

theorem exec_planeDisable_of_set (clear : s.seen.flag (F.FAB_PL_CTL_DISABLE p) = false) :
    exec (.planeDisable p true) s = .next (s.withDev ((s.seen.wr (F.FAB_PL_CTL_DISABLE p) 1).planeOff p)) := by
  change execPlaneDisable p true s = _
  rw [execPlaneDisable, State.onDev_eq, if_neg plane.not_ge, State.access_reaches _ reach, clear]
  rfl

theorem exec_planeDisable_of_cleared (set : s.seen.flag (F.FAB_PL_CTL_DISABLE p) = true) :
    exec (.planeDisable p false) s = .next (s.withDev ((s.seen.wr (F.FAB_PL_CTL_DISABLE p) 0).planeOn p)) := by
  change execPlaneDisable p false s = _
  rw [execPlaneDisable, State.onDev_eq, if_neg plane.not_ge, State.access_reaches _ reach, set]
  rfl

end Disable

theorem Device.planeOff_of_serving {d : Device} {p : Nat} (serves : d.rd (linkState p) = 2 ∨ d.rd (linkState p) = 3) :
    d.planeOff p = ((d.setLink p { d.link p with training := false }).wr (linkState p) 5).planeLeaves p :=
  if_pos serves

theorem Device.planeOff_of_not_serving {d : Device} {p : Nat} (notUp : d.rd (linkState p) ≠ 2)
    (notRetraining : d.rd (linkState p) ≠ 3) : d.planeOff p = d :=
  if_neg (not_or.mpr ⟨notUp, notRetraining⟩)

theorem Device.planeOn_of_out {d : Device} {p : Nat} (out : d.rd (linkState p) = 5) :
    (d.planeOn p).rd (linkState p) = 1 ∧ ((d.planeOn p).link p).training = true := by
  rw [Device.planeOn, if_pos out, Device.link_wr, Device.link_setLink]
  exact ⟨Device.rd_wr_linkState _ p (by decide), rfl⟩

theorem Device.planeOn_of_not_out {d : Device} {p : Nat} (notOut : d.rd (linkState p) ≠ 5) : d.planeOn p = d := if_neg notOut

/-! ### RETRAIN and MARGIN (R399, R401) -/

section Plane

variable {s : State} {p : Nat} (plane : p < 8) (reach : s.reaches (F.FAB_PL_CTL p).key)
include plane reach

theorem exec_planeRetrain_of_reaches : exec (.planeRetrain p) s = .next (s.withDev (s.seen.retrainWrite p)) := by
  change execPlaneRetrain p s = _
  rw [execPlaneRetrain, State.onDev_eq, if_neg plane.not_ge, State.access_reaches _ reach]

theorem exec_planeMargin_of_reaches : exec (.planeMargin p) s = .next (s.withDev (s.seen.marginStart p)) := by
  change execPlaneMargin p s = _
  rw [execPlaneMargin, State.onDev_eq, if_neg plane.not_ge, State.access_reaches _ reach]

end Plane

/-- Every carrier's number is below the number of carriers. -/
theorem carriers_not_le {c : Nat} (tier : c < 4) : ¬Config.carriers ≤ c := tier.not_ge

section Tier

variable {s : State} {c : Nat} (tier : c < 4) (reach : s.reaches (F.TLNK_C_CTL c).key)
include tier reach

theorem exec_carrierRetrain_of_reaches : exec (.carrierRetrain c) s = .next (s.withDev (s.seen.retrainWrite (8 + c))) := by
  change execCarrierRetrain c s = _
  rw [execCarrierRetrain, State.onDev_eq, if_neg (carriers_not_le tier), State.access_reaches _ reach]

theorem exec_carrierMargin_of_reaches : exec (.carrierMargin c) s = .next (s.withDev (s.seen.marginStart (8 + c))) := by
  change execCarrierMargin c s = _
  rw [execCarrierMargin, State.onDev_eq, if_neg (carriers_not_le tier), State.access_reaches _ reach]

end Tier

/-- RETRAIN of a powered link that is neither off nor in outage (R399). -/
theorem Device.retrainWrite_of_on {d : Device} {l : Nat} (powered : d.linkPowered l = true) (on : d.rd (linkState l) ≠ 0)
    (lit : d.rd (linkState l) ≠ 4) {e : Device}
    (written : e = d.wr (if l < 8 then F.FAB_PL_CTL_RETRAIN l else F.TLNK_C_CTL_RETRAIN (l - 8)) 1) :
    d.retrainWrite l = (e.setLink l { e.link l with retrained := false, failing := [] }).retrain l false true := by
  subst written
  rw [Device.retrainWrite, if_neg (by simp [powered, on, lit])]

theorem Device.retrainWrite_of_off {d : Device} {l : Nat}
    (off : d.linkPowered l = false ∨ d.rd (linkState l) = 0 ∨ d.rd (linkState l) = 4) : d.retrainWrite l = d := by
  rw [Device.retrainWrite, if_pos (by simpa [or_assoc] using off)]

/-! ### The end of a margin sweep (R401) -/

/-- A sweep ends: the eye is shown, and one below the minimum makes the spare bad. -/
theorem exec_spareMarginDone_of_sweep {s : State} {l w h : Nat} {d : Device} (real : l < 12) (sweeps : (s.seen.link l).margin = true)
    (shown : d = (s.seen.marginOver l).marginShown l w h) : exec (.spareMarginDone l w h) s =
      .next (s.withDev (if d.rd F.FAB_MARGIN_MIN_EYE_W ≤ w ∧ d.rd F.FAB_MARGIN_MIN_EYE_H ≤ h then d
        else d.spareBad l (s.seen.mgmt.testing.contains (1000 + l)))) := by
  subst shown
  change execSpareMarginDone l w h s = _
  rw [execSpareMarginDone, State.onDev_eq, sweeps, decide_eq_true real, if_neg (by decide)]

theorem exec_spareMarginDone_of_idle {s : State} {l : Nat} (w h : Nat) (idle : (s.seen.link l).margin = false) :
    exec (.spareMarginDone l w h) s = .next (s.withDev s.seen) := by
  change execSpareMarginDone l w h s = _
  rw [execSpareMarginDone, State.onDev_eq, if_pos (by simp [idle])]

theorem Device.marginOver_margin (d : Device) (l : Nat) : ((d.marginOver l).link l).margin = false :=
  congrArg Link.margin (d.link_setLink l _)

theorem Device.marginOver_testing (d : Device) (l : Nat) : (d.marginOver l).mgmt.testing.contains (1000 + l) = false := by
  simp [Device.marginOver]

section Shown

variable (d : Device) {l w h : Nat} (plane : l < 8)
include plane

theorem Device.marginShown_plane : d.marginShown l w h =
    (((d.wr (F.FAB_PL_CTL_MARGIN l) 0).wr (F.FAB_PL_MARGIN_VALID l) 1).wr (F.FAB_PL_MARGIN_EYE_W l) w).wr (F.FAB_PL_MARGIN_EYE_H l) h :=
  if_pos plane

theorem Device.marginShown_eyeH (small : h < 2 ^ 8) : (d.marginShown l w h).rd (F.FAB_PL_MARGIN_EYE_H l) = h := by
  rw [Device.marginShown_plane d plane, Device.rd_wr_same _ _ _ (by simp [F.FAB_PL_MARGIN_EYE_H])]
  exact Nat.mod_eq_of_lt small

theorem Device.marginShown_eyeW (small : w < 2 ^ 8) : (d.marginShown l w h).rd (F.FAB_PL_MARGIN_EYE_W l) = w := by
  rw [Device.marginShown_plane d plane,
    Device.rd_wr_disj _ _ (by simp [F.FAB_PL_MARGIN_EYE_H]) (.inr (by simp [F.FAB_PL_MARGIN_EYE_H, F.FAB_PL_MARGIN_EYE_W])),
    Device.rd_wr_same _ _ _ (by simp [F.FAB_PL_MARGIN_EYE_W])]
  exact Nat.mod_eq_of_lt small

theorem Device.marginShown_valid : (d.marginShown l w h).rd (F.FAB_PL_MARGIN_VALID l) = 1 := by
  rw [Device.marginShown_plane d plane,
    Device.rd_wr_disj _ _ (by simp [F.FAB_PL_MARGIN_EYE_H]) (.inr (by simp [F.FAB_PL_MARGIN_EYE_H, F.FAB_PL_MARGIN_VALID])),
    Device.rd_wr_disj _ _ (by simp [F.FAB_PL_MARGIN_EYE_W]) (.inr (by simp [F.FAB_PL_MARGIN_EYE_W, F.FAB_PL_MARGIN_VALID])),
    Device.rd_wr_same _ _ _ (by simp [F.FAB_PL_MARGIN_VALID])]
  rfl

theorem Device.marginShown_over : (d.marginShown l w h).rd (F.FAB_PL_CTL_MARGIN l) = 0 := by
  rw [Device.marginShown_plane d plane, Device.rd_wr_ne _ _ (by simp [F.FAB_PL_MARGIN_EYE_H, F.FAB_PL_CTL_MARGIN]),
    Device.rd_wr_ne _ _ (by simp [F.FAB_PL_MARGIN_EYE_W, F.FAB_PL_CTL_MARGIN]),
    Device.rd_wr_ne _ _ (by simp [F.FAB_PL_MARGIN_VALID, F.FAB_PL_CTL_MARGIN]),
    Device.rd_wr_same _ _ _ (by simp [F.FAB_PL_CTL_MARGIN])]
  rfl

end Shown

end Sys2Proof.Machine

open Sys2Proof Sys2Proof.Machine

/-- Settles O33: each control write is its named operation where it reaches its register, and a sweep's end shows its eye. -/
theorem planeControls : Obligations.PlaneControls := by
  refine ⟨fun s p plane reach =>
      ⟨fun clear => ⟨exec_planeDisable_of_set plane reach clear, exec_planeDisable_of_same plane reach clear⟩,
        fun set => ⟨exec_planeDisable_of_cleared plane reach set, exec_planeDisable_of_same plane reach set⟩⟩,
    fun d p => ⟨Device.planeOff_of_serving, Device.planeOff_of_not_serving, Device.planeOn_of_out, Device.planeOn_of_not_out⟩,
    fun s p plane reach => ⟨exec_planeRetrain_of_reaches plane reach, exec_planeMargin_of_reaches plane reach⟩,
    fun s c tier reach => ⟨exec_carrierRetrain_of_reaches tier reach, exec_carrierMargin_of_reaches tier reach⟩,
    fun d l powered on lit e => Device.retrainWrite_of_on powered on lit, fun d l => Device.retrainWrite_of_off,
    fun s l w h d real sweeps shown => ⟨fun wide high => ?_, fun low => ?_⟩, fun s l w h => exec_spareMarginDone_of_idle w h,
    fun d l w h => ⟨d.marginOver_margin l, d.marginOver_testing l, fun plane wFits hFits => ⟨d.marginShown_eyeW plane wFits,
      d.marginShown_eyeH plane hFits, d.marginShown_valid plane, d.marginShown_over plane⟩⟩⟩
  · rw [exec_spareMarginDone_of_sweep real sweeps shown, if_pos ⟨wide, high⟩]
  · rw [exec_spareMarginDone_of_sweep real sweeps shown, if_neg (by omega)]

end

section
/-! PROOFS. Carriers: ACCEPT, responses, HELLO and time limits (R415 to R417). -/

namespace Sys2Proof.Machine

/-! ### ACCEPT (R417) -/

section Accept

variable {s : State} {c : Nat} (tier : c < 4) (reach : s.reaches (F.TLNK_C_CTL c).key)
include tier reach

theorem exec_accept_of_sound (joins : s.seen.carrierState c = 1) (sound : (s.seen.carrier c).helloBad = false) :
    exec (.accept c) s = .next (s.withDev (s.seen.carrierIn c)) := by
  change execAccept c s = _
  rw [execAccept, State.onDev_eq, if_neg (carriers_not_le tier), State.access_reaches _ reach, if_pos (by simp [joins, sound])]

theorem exec_accept_of_unsound (unsound : s.seen.carrierState c ≠ 1 ∨ (s.seen.carrier c).helloBad = true) :
    exec (.accept c) s = .next (s.withDev (s.seen.logAccess (F.TLNK_C_CTL c).key)) := by
  change execAccept c s = _
  rw [execAccept, State.onDev_eq, if_neg (carriers_not_le tier), State.access_reaches _ reach, if_neg]
  rintro ⟨joins, sound⟩
  simp [joins] at unsound
  simp [unsound] at sound

end Accept

/-! ### Responses (R415, R417) -/

section Responses

variable {d : Device} {c : Nat} (tier : c < 4)
include tier

section Found

variable {g : Nat} {t : Tag}

/-- A READ_DATA of a tag that is outstanding, by its STATUS. -/
theorem Device.readDone_of_tag (found : d.findTag c g 1 = some t) {n : Nat} (status : n ≤ 3) : d.readDone c g n =
    if n = 0 then d.tagDone c t
    else if n = 1 then
      if t.poisons = 0 then (d.inc (F.TLNK_C_POISON_COUNT c)).poisonAgain c t else (d.inc (F.TLNK_C_POISON_COUNT c)).twicePoison c t
    else d.carrierFail c := by
  rw [Device.readDone, if_neg (carriers_not_le tier), found]
  simp only [if_pos status]

/-- A WRITE_DONE of a tag that is outstanding, by its STATUS. -/
theorem Device.writeDone_of_tag (found : d.findTag c g 2 = some t) {n : Nat} (status : n = 0 ∨ n = 2 ∨ n = 3) :
    d.writeDone c g n = if n = 0 then d.tagDone c t else d.carrierFail c := by
  rw [Device.writeDone, if_neg (carriers_not_le tier), found]
  rcases status with rfl | failed
  · rfl
  · simp only [if_pos failed]

end Found

theorem Device.readDone_of_no_tag {g : Nat} (n : Nat) (gone : d.findTag c g 1 = none) : d.readDone c g n = d.dupResponse c := by
  rw [Device.readDone, if_neg (carriers_not_le tier), gone]

theorem Device.writeDone_of_no_tag {g : Nat} (n : Nat) (gone : d.findTag c g 2 = none) : d.writeDone c g n = d.dupResponse c := by
  rw [Device.writeDone, if_neg (carriers_not_le tier), gone]

theorem Device.quiesced_of_tag {t : Tag} (found : ((d.carrier c).tags.find? fun t => t.op = 5) = some t) :
    d.quiesced c = (d.tagDone c t).nowQuiet c := by
  rw [Device.quiesced, if_neg (carriers_not_le tier), found]

theorem Device.quiesced_of_no_tag (gone : ((d.carrier c).tags.find? fun t => t.op = 5) = none) : d.quiesced c = d.dupResponse c := by
  rw [Device.quiesced, if_neg (carriers_not_le tier), gone]

end Responses

theorem exec_readData (s : State) (c g n : Nat) : exec (.readData c g n) s = .next (s.withDev (s.seen.readDone c g n)) := rfl

theorem exec_writeDone (s : State) (c g n : Nat) : exec (.writeDone c g n) s = .next (s.withDev (s.seen.writeDone c g n)) := rfl

theorem exec_quiesced (s : State) (c : Nat) : exec (.quiesced c) s = .next (s.withDev (s.seen.quiesced c)) := rfl

/-! ### HELLO (R416, R417) -/

/-- A HELLO on a link that is up, by the carrier's state. -/
theorem exec_hello_of_up {s : State} {c : Nat} {d : Device} (x : Bytes) (tier : c < 4) (powered : s.seen.linkPowered (8 + c) = true)
    (up : s.seen.rd (linkState (8 + c)) = 2 ∨ s.seen.rd (linkState (8 + c)) = 3) (raised : d = s.seen.raise (F.TLNK_C_INT_STATUS_HELLO c)) :
    exec (.hello c x) s = .next (s.withDev (if d.carrierState c = 2 ∨ d.carrierState c = 3 then d.helloBack c x
      else if d.carrierState c = 4 ∨ (d.carrierState c = 5 ∧ (d.carrier c).queue ≠ 0) then d else d.helloNew c x)) := by
  subst raised
  have isUp : (s.seen.rd (linkState (8 + c)) == 2 || s.seen.rd (linkState (8 + c)) == 3) = true := by simpa using up
  have known : decide (c < Config.carriers) = true := decide_eq_true tier
  change Host.Outcome.next (s.withDev (s.seen.hello c x)) = _
  rw [Device.hello, known, powered, isUp, if_neg (by decide)]

theorem Device.helloNew_of_sound {d e : Device} {c : Nat} {x : Bytes} (sound : helloOk x = true)
    (taken : e = ((d.setCarrier c {}).helloTake c x).setCarrierState c 1) :
    d.helloNew c x = if e.flag F.TLNK_CFG_AUTO_JOIN then e.carrierIn c else e := by
  subst taken
  rw [Device.helloNew, if_pos sound]

theorem Device.carrier_setLink (d : Device) (l : Nat) (k : Link) (c : Nat) : (d.setLink l k).carrier c = d.carrier c := rfl

/-- An unsound HELLO is kept as such, and this end blanks the link (R416). -/
theorem Device.helloNew_of_unsound {d : Device} {c : Nat} {x : Bytes} (unsound : helloOk x = false) :
    ((d.helloNew c x).carrier c).helloBad = true ∧ ((d.helloNew c x).link (8 + c)).blanked = true := by
  rw [Device.helloNew, unsound, if_neg Bool.false_ne_true]
  dsimp only
  rw [Device.carrier_setLink, Device.carrier_setCarrier, Device.link_setLink]
  exact ⟨rfl, rfl⟩

theorem Device.helloBack_of_lit {d : Device} {c : Nat} (x : Bytes) (lit : (d.link (8 + c)).outage = false) : d.helloBack c x = d := by
  rw [Device.helloBack, lit, if_pos (by decide)]

theorem Device.helloBack_of_other {d : Device} {c : Nat} {x : Bytes} (out : (d.link (8 + c)).outage = true)
    (other : helloOk x = false ∨ u64At x 0x10 ≠ (d.carrier c).id) : d.helloBack c x = d.carrierFail c := by
  have notIt : ¬(helloOk x = true ∧ u64At x 0x10 = (d.carrier c).id) := by
    rintro ⟨sound, same⟩
    simp [sound, same] at other
  rw [Device.helloBack, out, if_neg (by decide), if_neg notIt]

/-! ### Time limits (R415, R417) -/

/-- A tag without a response is sent again after the first try, and fails the carrier after the second. -/
theorem exec_tagTimeout_of_tag {s : State} {c g : Nat} {t : Tag} (tier : c < 4) (lit : (s.seen.link (8 + c)).outage = false)
    (found : ((s.seen.carrier c).tags.find? fun t => t.tag = g) = some t) :
    exec (.tagTimeout c g) s = .next (s.withDev (if t.tries ≤ 1 then s.seen.tagAgain c t else s.seen.carrierFail c)) := by
  change execTagTimeout c g s = _
  rw [execTagTimeout, State.onDev_eq, if_neg (by simp [carriers_not_le tier, lit]), found]

/-- An outage fails its carrier at its limit, and not before. -/
theorem exec_carrierOutageLimit_of_outage {s : State} {c : Nat} (tier : c < 4) (out : (s.seen.link (8 + c)).outage = true) :
    exec (.carrierOutageLimit c) s = .next (s.withDev (if (s.seen.link (8 + c)).outageTicks < s.seen.rd F.TLNK_OUTAGE_LIMIT_TICKS
      then s.seen else s.seen.carrierFail c)) := by
  change execCarrierOutageLimit c s = _
  rw [execCarrierOutageLimit, State.onDev_eq]
  simp [carriers_not_le tier, out]

end Sys2Proof.Machine

open Sys2Proof Sys2Proof.Machine

/-- Settles O34. What a HELLO from a failed carrier does, and that its line arrives with its command, are the model's choices
(log entry 68). -/
theorem carrierResponses : Obligations.CarrierResponses := by
  refine ⟨fun s c tier reach => ⟨exec_accept_of_sound tier reach, exec_accept_of_unsound tier reach⟩, ?_, ?_, ?_, ?_, ?_,
    fun d e c x => ⟨Device.helloNew_of_sound, Device.helloNew_of_unsound, Device.helloBack_of_lit x, Device.helloBack_of_other⟩, ?_, ?_⟩
  · rintro s c g t d tier found rfl
    simp only [exec_readData]
    refine ⟨?_, fun first => ?_, fun again => ?_, ?_, ?_⟩
    · rw [Device.readDone_of_tag tier found (by decide), if_pos rfl]
    · rw [Device.readDone_of_tag tier found (by decide), if_neg (by decide), if_pos rfl, if_pos first]
    · rw [Device.readDone_of_tag tier found (by decide), if_neg (by decide), if_pos rfl, if_neg again]
    · rw [Device.readDone_of_tag tier found (by decide), if_neg (by decide), if_neg (by decide)]
    · rw [Device.readDone_of_tag tier found (by decide), if_neg (by decide), if_neg (by decide)]
  · intro s c g t tier found
    simp only [exec_writeDone]
    refine ⟨?_, ?_, ?_⟩
    · rw [Device.writeDone_of_tag tier found (.inl rfl), if_pos rfl]
    · rw [Device.writeDone_of_tag tier found (.inr (.inl rfl)), if_neg (by decide)]
    · rw [Device.writeDone_of_tag tier found (.inr (.inr rfl)), if_neg (by decide)]
  · intro s c g n tier
    rw [exec_readData, exec_writeDone, exec_quiesced]
    exact ⟨fun gone => by rw [Device.readDone_of_no_tag tier n gone], fun gone => by rw [Device.writeDone_of_no_tag tier n gone],
      fun gone => by rw [Device.quiesced_of_no_tag tier gone]⟩
  · intro s c t tier found
    rw [exec_quiesced, Device.quiesced_of_tag tier found]
  · intro s c x d tier powered up raised
    rw [exec_hello_of_up x tier powered up raised]
    refine ⟨fun serves => by rw [if_pos serves], fun new => ?_, fun drained => by rw [if_neg (by omega), if_pos (.inl drained)]⟩
    rw [if_neg (by omega), if_neg (by omega)]
  · intro s c g t tier lit found
    rw [exec_tagTimeout_of_tag tier lit found]
    exact ⟨fun first => by rw [if_pos first], fun again => by rw [if_neg (by omega)]⟩
  · intro s c tier out
    rw [exec_carrierOutageLimit_of_outage tier out]
    exact ⟨fun past => by rw [if_neg past.not_gt], fun within => by rw [if_pos within]⟩

end

section
/-! PROOFS. The host link: training and loss, CXL resets, CXL.cache, the HDM decoder, DOE and IDE (R421 to R431, R442, R443). -/

namespace Sys2Proof.Machine

/-! ### Training (R421, R422) -/

section Training

variable {s : State} {v w : Nat} (on : s.seen.domOn domHost = true)
include on

/-- A training within R421: the link is shown, a change of speed or width is reported, and what waits is issued. -/
theorem exec_hostLinkUp_of_within {d : Device} (within : linkWithin v w = true) (shown : d = (s.seen.linkEnds false true).linkShown v w) :
    exec (.hostLinkUp v w) s = .next (s.withDev
      (if s.seen.rd F.HOST_STATUS_SPEED = v ∧ s.seen.rd F.HOST_STATUS_WIDTH = w then d.d2hReissue
      else (d.raise F.HOST_INT_STATUS_LINK_CHANGE).d2hReissue)) := by
  subst shown
  change execHostLinkUp v w s = _
  rw [execHostLinkUp, State.onDev_eq, on, within, if_neg (by decide), if_neg (by decide)]
  by_cases same : s.seen.rd F.HOST_STATUS_SPEED = v ∧ s.seen.rd F.HOST_STATUS_WIDTH = w
  · simp [same]
  · simp [same, not_and_or.mp same]

theorem exec_hostLinkUp_of_outside (outside : linkWithin v w = false) :
    exec (.hostLinkUp v w) s = .next (s.withDev ((s.seen.linkEnds true false).wr F.HOST_STATUS_LINK_UP 0)) := by
  change execHostLinkUp v w s = _
  rw [execHostLinkUp, State.onDev_eq, on, outside, if_neg (by decide), if_pos (by decide)]

end Training

/-- A speed and width within R421 fit their fields. -/
theorem lt_of_linkWithin {v w : Nat} (within : linkWithin v w = true) : v < 2 ^ 3 ∧ w < 2 ^ 4 := by
  simp only [linkWithin, Bool.and_eq_true, Bool.or_eq_true, beq_iff_eq] at within
  omega

theorem Device.ready_wr_ne (d : Device) {f : Fld} (x : Nat) (other : F.DRONE_START_STATUS_STATE.key ≠ f.key) :
    (d.wr f x).ready = d.ready := by
  rw [Device.ready, Device.rd_wr_ne d x other, Device.ready]

/-- What HOST_STATUS and HOST_CTL show of a link that is up. -/
theorem Device.linkShown_shows (d : Device) {v w : Nat} (within : linkWithin v w = true) :
    (d.linkShown v w).rd F.HOST_STATUS_LINK_UP = 1 ∧ (d.linkShown v w).rd F.HOST_STATUS_SPEED = v ∧
      (d.linkShown v w).rd F.HOST_STATUS_WIDTH = w ∧ (d.linkShown v w).rd F.HOST_CTL_RETRAIN = 0 ∧
      (d.linkShown v w).rd F.HOST_STATUS_MEM_ACTIVE = b2n d.ready := by
  obtain ⟨speed, width⟩ := lt_of_linkWithin within
  have active : b2n d.ready < 2 ^ 1 := by cases d.ready <;> decide
  simp (disch := decide) only [Device.linkShown, Device.ready_wr_ne, Device.rd_wr_same, Device.rd_wr_ne, Device.rd_wr_disj]
  exact ⟨rfl, Nat.mod_eq_of_lt speed, Nat.mod_eq_of_lt width, rfl, Nat.mod_eq_of_lt active⟩

/-! ### Loss of the link and CXL resets (R422, R423) -/

theorem exec_hostLinkDown (s : State) (k : Nat) : exec (.hostLinkDown k) s = .next (s.withDev
    ((((((s.seen.resetDomain domHost).reloadRwl domHost).wr (F.PWR_DOM_STATE_STATE domHost) (s.seen.rd (F.PWR_DOM_STATE_STATE domHost))).wr
      F.HOST_LINK_DOWN_CNT_COUNT (s.seen.rd F.HOST_LINK_DOWN_CNT_COUNT)).inc F.HOST_LINK_DOWN_CNT_COUNT).linkLost k)) := rfl

/-- Every request on a link that is lost is to be issued again, in its place. -/
theorem Device.linkLost_d2h (d : Device) (k : Nat) : (d.linkLost k).host.d2h.all (fun r => !r.issued) = true ∧
    (d.linkLost k).host.d2h.length = d.host.d2h.length := by
  simp [Device.linkLost]

theorem exec_hostRetrainTimer_of_outside {s : State} (outside : s.seen.host.outside = true) :
    exec .hostRetrainTimer s = .next (s.withDev (s.seen.wr F.HOST_STATUS_LINK_UP 0)) := by
  change execHostRetrainTimer s = _
  rw [execHostRetrainTimer, State.onDev_eq, if_pos outside]

theorem exec_hostRetrainTimer_of_inside {s : State} (inside : s.seen.host.outside = false) :
    exec .hostRetrainTimer s = .next (s.withDev s.seen) := by
  change execHostRetrainTimer s = _
  rw [execHostRetrainTimer, State.onDev_eq, inside, if_neg Bool.false_ne_true]

theorem exec_hostRetrain_of_reaches {s : State} (reach : s.reaches F.HOST_CTL.key) :
    exec .hostRetrain s = .next (s.withDev (s.seen.wr F.HOST_CTL_RETRAIN 1)) := by
  change execHostRetrain s = _
  rw [execHostRetrain, State.onDev_eq, State.access_reaches _ reach]

/-- A CXL reset after start-up's step 6 stops every switchable domain and resumes start-up there (R423, R524). -/
theorem exec_cxlReset_of_started {s : State} (started : s.seen.rd F.DRONE_START_STATUS_STATE = 1 ∨
      (s.seen.rd F.DRONE_START_STATUS_STATE = 0 ∧ 6 ≤ s.seen.rd F.DRONE_START_STATUS_STEP)) :
    exec .cxlReset s = .next (s.withDev
      ((switchable.foldl (fun d n => d.stopEmergency n 0) (s.seen.wr F.DRONE_RESET_CAUSE_CAUSE 4)).cxlCleared.resumeStep6)) := by
  change execCxlReset s = _
  rw [execCxlReset, State.onDev_eq, if_pos started]

/-! ### CXL.cache (R426, R427, R430) -/

section Cache

variable {s : State}

theorem exec_h2dSnoop_of_up (l : Nat) (up : s.seen.flag F.HOST_STATUS_LINK_UP = true) (enabled : s.seen.host.cacheEn = true) :
    exec (.h2dSnoop l) s = .next (s.withDev (s.seen.emit .rspIHitI)) := by
  change execH2dSnoop l s = _
  rw [execH2dSnoop, State.onDev_eq, up, enabled, if_pos (by decide)]

theorem exec_d2hResponse_of_request {l : Nat} (waits : s.seen.d2hHas l = true) :
    exec (.d2hResponse l) s = .next (s.withDev (s.seen.d2hDrop l)) := by
  change execD2hResponse l s = _
  rw [execD2hResponse, State.onDev_eq, if_pos waits]

theorem exec_cplTimeout_of_request {l : Nat} (waits : s.seen.d2hHas l = true) (up : s.seen.flag F.HOST_STATUS_LINK_UP = true) :
    exec (.cplTimeout l) s = .next (s.withDev ((((s.seen.d2hDrop l).inc F.HOST_CPL_TO_CNT_COUNT).raise
      F.HOST_INT_STATUS_CPL_TIMEOUT).lasting 0x0900 14 0 0 (l * 64) 12 0)) := by
  change execCplTimeout l s = _
  rw [execCplTimeout, State.onDev_eq, up, waits, if_neg (by decide)]

end Cache

/-! ### The HDM decoder (R431) -/

section Hdm

variable {s : State} {b z n : Nat}

theorem exec_hdmCommit_of_allowed (on : s.seen.domOn domHost = true) (free : s.seen.flag F.HOST_STATUS_HDM_COMMITTED = false)
    (allowed : hdmOk b z n = true) : exec (.hdmCommit b z n) s = .next (s.withDev (s.seen.hdmSet b z)) := by
  change execHdmCommit b z n s = _
  rw [execHdmCommit, State.onDev_eq, on, free, allowed, if_neg (by decide)]

theorem exec_hdmCommit_of_other (other : n ≠ 1 ∨ hdmOk b z n = false) : exec (.hdmCommit b z n) s = .next (s.withDev s.seen) := by
  have refused : hdmOk b z n = false := by
    rcases other with ways | refused
    · rw [hdmOk, beq_false_of_ne ways, Bool.and_false]
    · exact refused
  change execHdmCommit b z n s = _
  rw [execHdmCommit, State.onDev_eq, refused, if_pos (by simp)]

end Hdm

theorem Device.hdmSet_committed (d : Device) (b z : Nat) : (d.hdmSet b z).rd F.HOST_STATUS_HDM_COMMITTED = 1 := by
  rw [Device.hdmSet, Device.rd_wr_same _ _ _ (by decide)]
  rfl

/-! ### DOE and IDE (R442, R443) -/

theorem exec_doeObject_of_served {s : State} {o : Bytes} (on : s.seen.domOn domHost = true) (served : doeServed o = true) :
    exec (.doeObject o) s =
      .next (s.withDev ((s.seen.emit (.doe (Config.doeAnswer o s.measurements s.seen.host.sessions))).doeTaken o)) := by
  change execDoeObject o s = _
  rw [execDoeObject, State.onDev_eq, on, served, if_neg (by decide)]

/-- Only a secured object touches the sessions and the IDE streams. -/
theorem Device.doeTaken_of_plain {d : Device} {o : Bytes} (plain : u16At o 0 ≠ 1 ∨ u8At o 2 = 0) : d.doeTaken o = d := by
  have notSecured : ¬(u16At o 0 = 1 ∧ u8At o 2 ≠ 0) := by tauto
  have notKeys : ¬(u16At o 0 = 1 ∧ u8At o 2 = 2 ∧ d.host.sessions ≠ 0) := by
    rintro ⟨vendor, type, -⟩
    exact notSecured ⟨vendor, by omega⟩
  rw [Device.doeTaken, if_neg notSecured, if_neg notKeys]

theorem exec_ideFail_of_secure {s : State} {k : Nat} (secure : bit (s.seen.ideBits % 8) k = true) : exec (.ideFail k) s =
    .next (s.withDev (((s.seen.setIde (s.seen.ideBits - 2 ^ k)).raise F.HOST_INT_STATUS_IDE_FAIL).lasting 0x0901 14 k 0 0 12 0)) := by
  change execIdeFail k s = _
  rw [execIdeFail, State.onDev_eq, secure, if_neg (by decide)]

end Sys2Proof.Machine

open Sys2Proof Sys2Proof.Machine

/-- Settles O35. That a training within R421 enables CXL.cache and CXL.mem, that a CXL reset before step 6 is ignored, and what a DOE
answer holds are the model's choices (log entries 26, 54 and 25). -/
theorem hostLink : Obligations.HostLink := by
  refine ⟨fun s v w d on within shown => ?_, fun s v w => exec_hostLinkUp_of_outside, fun d v w => d.linkShown_shows, ?_,
    fun d k => ⟨(d.linkLost_d2h k).1, (d.linkLost_d2h k).2, rfl⟩,
    fun s => ⟨exec_hostRetrainTimer_of_outside, exec_hostRetrainTimer_of_inside⟩, fun s => exec_hostRetrain_of_reaches,
    fun s => exec_cxlReset_of_started, fun d => ⟨rfl, rfl⟩, fun s l => exec_h2dSnoop_of_up l,
    fun s l waits => ⟨exec_d2hResponse_of_request waits, exec_cplTimeout_of_request waits⟩,
    fun s b z on free => ⟨exec_hdmCommit_of_allowed on free, fun n => exec_hdmCommit_of_other⟩,
    fun d b z => ⟨rfl, rfl, d.hdmSet_committed b z⟩, fun s o => exec_doeObject_of_served, fun d o => Device.doeTaken_of_plain,
    fun s k => exec_ideFail_of_secure⟩
  · rw [exec_hostLinkUp_of_within on within shown]
    exact ⟨fun same => by rw [if_pos same], fun change => by rw [if_neg change]⟩
  · rintro s k d rfl
    exact exec_hostLinkDown s k

end

section
/-! PROOFS. CXL.mem requests and back-invalidation (R430 to R434). -/

namespace Sys2Proof.Machine

/-! ### What the decoder takes (R431, R432) -/

section Taken

variable {s : State} {a : Nat} (hit : s.seen.hdmHit a = true)
include hit

theorem exec_memRd_of_hit : exec (.memRd a) s = .next (s.withDev (s.seen.hostReq ⟨0, a, 0, []⟩)) := by
  change execMemRd a s = _
  rw [execMemRd, State.onDev_eq, if_pos hit]

theorem exec_memWr_of_hit (x : Bytes) : exec (.memWr a x) s = .next (s.withDev (s.seen.hostReq ⟨1, a, 2 ^ 64 - 1, padTo 64 x⟩)) := by
  change execMemWr a x s = _
  rw [execMemWr, State.onDev_eq, if_pos hit, fullMask]

theorem exec_memWrPtl_of_hit {m : Nat} (x : Bytes) (word : m < 2 ^ 64) :
    exec (.memWrPtl a m x) s = .next (s.withDev (s.seen.hostReq ⟨2, a, m, padTo 64 x⟩)) := by
  change execMemWrPtl a m x s = _
  rw [execMemWrPtl, State.onDev_eq, if_pos hit, Nat.mod_eq_of_lt word]

theorem exec_memInv_of_hit : exec (.memInv a) s = .next (s.withDev (s.seen.hostReq ⟨3, a, 0, []⟩)) := by
  change execMemInv a s = _
  rw [execMemInv, State.onDev_eq, if_pos hit]

end Taken

/-- A request that the decoder does not take changes nothing. -/
theorem exec_mem_of_miss {s : State} {a m : Nat} {x : Bytes} {i : Instr} (miss : s.seen.hdmHit a = false)
    (request : i = .memRd a ∨ i = .memWr a x ∨ i = .memWrPtl a m x ∨ i = .memInv a) : exec i s = .next (s.withDev s.seen) := by
  rcases request with rfl | rfl | rfl | rfl
  · change execMemRd a s = _
    rw [execMemRd, State.onDev_eq, miss, if_neg Bool.false_ne_true]
  · change execMemWr a x s = _
    rw [execMemWr, State.onDev_eq, miss, if_neg Bool.false_ne_true]
  · change execMemWrPtl a m x s = _
    rw [execMemWrPtl, State.onDev_eq, miss, if_neg Bool.false_ne_true]
  · change execMemInv a s = _
    rw [execMemInv, State.onDev_eq, miss, if_neg Bool.false_ne_true]

/-! ### Where a request goes (R216, R432 to R434, R443) -/

theorem Device.hostReq_of_blocked {d : Device} (q : HostReq) (blocked : d.ideBlocked = true) :
    d.hostReq q = d.hostRefused q.kind q.hpa 14 :=
  if_pos blocked

/-- No back-invalidate of a line is without its answer. -/
theorem Device.bi_any_of_free {d : Device} {x : Nat} (free : ∀ b ∈ d.host.bi, b.1 ≠ x) : (d.host.bi.any (·.1 = x)) = false := by
  simpa only [List.any_eq_false, decide_eq_true_eq] using free

section Request

variable {d : Device} {q : HostReq} {o : Nat} (line : o = (q.hpa - d.host.hdmBase) / 64 * 64)
include line

theorem Device.hostReq_of_invalidating (secure : d.ideBlocked = false) (waits : ∃ b ∈ d.host.bi, b.1 = o / 64) :
    d.hostReq q = d.holdReq q := by
  subst line
  rw [Device.hostReq, secure, if_neg Bool.false_ne_true, if_pos (by simpa using waits)]

section Free

variable (secure : d.ideBlocked = false) (free : ∀ b ∈ d.host.bi, b.1 ≠ o / 64)
include secure free

theorem Device.hostReq_of_no_row (noRow : d.hdmRow o = none) : d.hostReq q = d.hostRefused q.kind q.hpa 4 := by
  subst line
  rw [Device.hostReq, secure, if_neg Bool.false_ne_true, Device.bi_any_of_free free, if_neg Bool.false_ne_true, noRow]

theorem Device.hostReq_of_row {n r l : Nat} {p : Nat × Nat × Nat} (row : d.hdmRow o = some (n, r, l)) (place : d.hostLoc n r = some p) :
    d.hostReq q = d.hostServe q n r l o p := by
  subst line
  rw [Device.hostReq, secure, if_neg Bool.false_ne_true, Device.bi_any_of_free free, if_neg Bool.false_ne_true, row]
  dsimp only
  rw [place]

end Free

end Request

/-- What a request does at its row, by its kind (R432). -/
theorem Device.hostServe_of_read {q : HostReq} (d : Device) (n r l o : Nat) (p : Nat × Nat × Nat) (read : q.kind = 0) :
    d.hostServe q n r l o p = d.hostRead n r l o p := by
  simp only [Device.hostServe, read]

theorem Device.hostServe_of_write {q : HostReq} (d : Device) (n r l o : Nat) (p : Nat × Nat × Nat) (write : q.kind = 1 ∨ q.kind = 2) :
    d.hostServe q n r l o p = d.hostWrite q n r l p := by
  rcases write with kind | kind <;> simp only [Device.hostServe, kind]

theorem Device.hostServe_of_inv {q : HostReq} (d : Device) (n r l o : Nat) (p : Nat × Nat × Nat) (inv : q.kind = 3) :
    d.hostServe q n r l o p = d.invLine (o / 64) := by
  simp only [Device.hostServe, inv]

/-! ### Writes (R213, R216, R218) -/

theorem Device.hostWrite_of_fenced {d : Device} {n r : Nat} (q : HostReq) (l : Nat) (p : Nat × Nat × Nat) (fenced : d.fenced n r = true) :
    d.hostWrite q n r l p = ((d.deferWrite n r l q.mask q.data).inc64 F.HOST_MEM_WR_LO_COUNT).emit .memCmp :=
  if_pos fenced

theorem Device.hostWrite_of_placed {d : Device} {n r : Nat} (q : HostReq) (l : Nat) {p : Nat × Nat × Nat} (free : d.fenced n r = false)
    (placed : p.1 ≠ 0) : d.hostWrite q n r l p =
      ((((d.putLine (locLine p l) q.mask q.data (n, r)).bumpVersion n r).noteWrite n r).inc64 F.HOST_MEM_WR_LO_COUNT).emit .memCmp := by
  rw [Device.hostWrite, free, if_neg Bool.false_ne_true, if_neg placed]

/-! ### Back-invalidates (R433, R434) -/

section Invalidate

variable {s : State} {l n : Nat} (waits : s.seen.host.bi.find? (·.1 = l) = some (l, n))
include waits

theorem exec_birsp_of_waits : exec (.birsp l) s = .next (s.withDev (s.seen.biDone l)) := by
  have found : (s.seen.host.bi.any (·.1 = l)) = true := List.any_eq_true.mpr ⟨(l, n), List.mem_of_find?_eq_some waits, by simp⟩
  change execBirsp l s = _
  rw [execBirsp, State.onDev_eq, if_pos found]

/-- A back-invalidate without an answer is sent once more, and then dropped and reported. -/
theorem exec_biTimeout_of_waits : exec (.biTimeout l) s = .next (s.withDev (if n < 2 then s.seen.biAgain l
    else ((s.seen.biDone l).raise F.HOST_INT_STATUS_BI_TIMEOUT).lasting 0x0900 14 0 0 (l * 64) 12 0)) := by
  change execBiTimeout l s = _
  rw [execBiTimeout, State.onDev_eq, waits]

end Invalidate

end Sys2Proof.Machine

open Sys2Proof Sys2Proof.Machine

/-- Settles O36. That MemInv drops the line's entry of the snoop filter, and which counters a refused access enters, are the model's
choices (log entries 50 and 49). -/
theorem hostMemory : Obligations.HostMemory := by
  refine ⟨fun s a m x hit => ⟨exec_memRd_of_hit hit, exec_memWr_of_hit hit x, exec_memWrPtl_of_hit hit x, exec_memInv_of_hit hit⟩,
    fun s a m x i => exec_mem_of_miss, fun d q o n r l p line secure free row place => ?_,
    fun d q o line => ⟨Device.hostReq_of_blocked q, fun secure =>
      ⟨Device.hostReq_of_invalidating line secure, Device.hostReq_of_no_row line secure⟩⟩,
    fun d q n r l p => ⟨Device.hostWrite_of_fenced q l p, Device.hostWrite_of_placed q l⟩,
    fun s l n waits => ⟨exec_birsp_of_waits waits, fun first => ?_, fun again => ?_⟩⟩
  · rw [Device.hostReq_of_row line secure free row place]
    exact ⟨d.hostServe_of_read n r l o p, d.hostServe_of_write n r l o p, d.hostServe_of_inv n r l o p⟩
  · rw [exec_biTimeout_of_waits waits, if_pos first]
  · rw [exec_biTimeout_of_waits waits, if_neg again.not_gt]

end

section
/-! PROOFS. Mailbox commands: length, result, output and completion (R438 to R441, R465, R466, R506, R537). -/

namespace Sys2Proof.Machine

/-! ### The mailbox (R438, R439) -/

/-- A mailbox command that is called: one of the right input length runs, any other answers RESULT 2. -/
theorem State.mbox_of_calls {s : State} {value op : Nat} (called : s.calls value op) (lenOk : Nat → Bool) (f : Device → Device) :
    s.seen.mbox value op lenOk f =
      if lenOk (bits value 24 16) then f (s.seen.mboxTaken value op) else (s.seen.mboxTaken value op).mboxEnd 2 [] := by
  obtain ⟨doorbell, opcode, reach, idle⟩ := called
  rw [Device.mbox, doorbell, opcode, if_neg (by simp), State.access_reaches _ reach, idle, if_neg Bool.false_ne_true]

/-- The same where the host has written its memory before. -/
theorem State.mbox_hostWrites_of_calls {s : State} {value op : Nat} (called : s.calls value op) (w : List Host.Cell) (lenOk : Nat → Bool)
    (f : Device → Device) : (s.seen.hostWrites w).mbox value op lenOk f =
      if lenOk (bits value 24 16) then f ((s.seen.hostWrites w).mboxTaken value op)
      else ((s.seen.hostWrites w).mboxTaken value op).mboxEnd 2 [] := by
  obtain ⟨doorbell, opcode, reach, idle⟩ := called
  have still : (s.seen.hostWrites w).flag F.HOST_MBOX_STATUS_BUSY = false := idle
  rw [Device.mbox, doorbell, opcode, if_neg (by simp), State.access_hostWrites _ w reach, still, if_neg Bool.false_ne_true]

/-- While BUSY reads 1 the write is only logged. -/
theorem State.mbox_of_busy {s : State} {value op : Nat} (lenOk : Nat → Bool) (f : Device → Device)
    (reach : s.reaches F.HOST_MBOX_CMD.key) (doorbell : bit value 31 = true) (opcode : bits value 15 0 = op)
    (busy : s.seen.flag F.HOST_MBOX_STATUS_BUSY = true) : s.seen.mbox value op lenOk f = s.seen.logAccess F.HOST_MBOX_CMD.key := by
  rw [Device.mbox, doorbell, opcode, if_neg (by simp), State.access_reaches _ reach, if_pos busy]

/-! ### The end of a command (R438) -/

/-- What MBOX_DONE's report leaves of the registers that a mailbox command ends in. -/
theorem Device.mboxEnd_rd (d : Device) (r : Nat) (out : Bytes) {f : Fld} (calm : quiet f.key = true)
    (other : f.key ≠ F.HOST_INT_STATUS_MBOX_DONE.key) : (d.mboxEnd r out).rd f =
      ((((((d.putPayload 64 (padTo (ceilTo 4 out.length) out)).wr F.HOST_MBOX_STATUS_RESULT r).wr F.HOST_MBOX_STATUS_OUT_LEN
        out.length).wr F.HOST_MBOX_STATUS_BUSY 0).wr F.HOST_MBOX_CMD_DOORBELL 0)).rd f :=
  ((Device.raise_calm _ rfl (by decide) (by simp [notCfg, F.HOST_INT_STATUS_MBOX_DONE])).rd calm).trans (Device.rd_wr_ne _ 1 other)

theorem Device.mboxEnd_shows (d : Device) {r : Nat} {out : Bytes} (code : r < 2 ^ 8) (short : out.length < 2 ^ 9) :
    (d.mboxEnd r out).rd F.HOST_MBOX_STATUS_RESULT = r ∧ (d.mboxEnd r out).rd F.HOST_MBOX_STATUS_OUT_LEN = out.length ∧
      (d.mboxEnd r out).flag F.HOST_MBOX_STATUS_BUSY = false ∧ (d.mboxEnd r out).flag F.HOST_MBOX_CMD_DOORBELL = false := by
  simp (disch := decide) only [Device.flag, Device.mboxEnd_rd, Device.rd_wr_same, Device.rd_wr_ne, Device.rd_wr_disj]
  exact ⟨Nat.mod_eq_of_lt code, Nat.mod_eq_of_lt short, rfl, rfl⟩

/-! ### The commands -/

/-- A mailbox command of the right input length runs, and one of any other answers RESULT 2, as its length check says. -/
theorem State.splits_of_length {s : State} {r : Result} {ok : Bool} {p : Prop} {d e : Device}
    (ran : r = .next (s.withDev (if ok then d else e))) (length : ok = true ↔ p) :
    (p → r = .next (s.withDev d)) ∧ (¬p → r = .next (s.withDev e)) := by
  subst ran
  exact ⟨fun right => by rw [if_pos (length.mpr right)], fun wrong => by rw [if_neg (mt length.mp wrong)]⟩

theorem lenFrom_iff {n len : Nat} : lenFrom n len = true ↔ n ≤ len ∧ len ≤ 256 := decide_eq_true_iff

section Commands

variable {s : State} {value : Nat}

theorem exec_identify_of_calls (called : s.calls value 1) : exec (.identify value) s = .next (s.withDev
    (if bits value 24 16 == 0 then (s.seen.mboxTaken value 1).mboxEnd 0 (s.seen.mboxTaken value 1).identity
      else (s.seen.mboxTaken value 1).mboxEnd 2 [])) := by
  change execIdentify value s = _
  rw [execIdentify, State.onDev_eq, State.mbox_of_calls called]

theorem exec_loadProgram_of_calls (called : s.calls value 0x20) (w : List Host.Cell) (fails : Bool) :
    exec (.loadProgram value w fails) s = .next (s.withDev
      (if bits value 24 16 == 16 then ((s.seen.hostWrites w).mboxTaken value 0x20).loadProgram s.perm fails
        else ((s.seen.hostWrites w).mboxTaken value 0x20).mboxEnd 2 [])) := by
  change execLoadProgram value w fails s = _
  rw [execLoadProgram, State.onDev_eq, State.mbox_hostWrites_of_calls called]

theorem exec_unloadProgram_of_calls (called : s.calls value 0x21) : exec (.unloadProgram value) s = .next (s.withDev
    (if bits value 24 16 == 0 then (s.seen.mboxTaken value 0x21).unloadReply else (s.seen.mboxTaken value 0x21).mboxEnd 2 [])) := by
  change execUnloadProgram value s = _
  rw [execUnloadProgram, State.onDev_eq, State.mbox_of_calls called]

theorem exec_loadFirmware_of_calls (called : s.calls value 0x30) (w : List Host.Cell) (fails : Bool) (r : Nat) :
    exec (.loadFirmware value w fails r) s = .next (s.withDev
      (if bits value 24 16 == 16 then ((s.seen.hostWrites w).mboxTaken value 0x30).loadFirmware s.perm fails r
        else ((s.seen.hostWrites w).mboxTaken value 0x30).mboxEnd 2 [])) := by
  change execLoadFirmware value w fails r s = _
  rw [execLoadFirmware, State.onDev_eq, State.mbox_hostWrites_of_calls called]

theorem exec_checkpointStatus_of_calls (called : s.calls value 0x40) (sub : s.seen.mboxSub ≠ 1) :
    exec (.checkpointStatus value) s = .next (s.withDev (if lenFrom 1 (bits value 24 16)
      then (s.seen.mboxTaken value 0x40).ckptReply value else (s.seen.mboxTaken value 0x40).mboxEnd 2 [])) := by
  change execCheckpointStatus value s = _
  rw [execCheckpointStatus, State.onDev_eq, if_neg sub, State.mbox_of_calls called]

theorem exec_baseNow_of_calls (called : s.calls value 0x40) (sub : s.seen.mboxSub = 1) :
    exec (.baseNow value) s = .next (s.withDev (if lenFrom 1 (bits value 24 16)
      then (s.seen.mboxTaken value 0x40).baseNow value else (s.seen.mboxTaken value 0x40).mboxEnd 2 [])) := by
  change execBaseNow value s = _
  rw [execBaseNow, State.onDev_eq, if_neg (not_not_intro sub), State.mbox_of_calls called]

section Restore

variable (called : s.calls value 0x41)
include called

theorem exec_restoreBegin_of_calls (sub : s.seen.mboxSub = 0 ∨ 3 < s.seen.mboxSub) :
    exec (.restoreBegin value) s = .next (s.withDev (if lenFrom 16 (bits value 24 16)
      then (s.seen.mboxTaken value 0x41).restoreBegin ((s.seen.mboxTaken value 0x41).mboxIn value)
      else (s.seen.mboxTaken value 0x41).mboxEnd 2 [])) := by
  change execRestoreBegin value s = _
  rw [execRestoreBegin, State.onDev_eq, if_neg (by omega), State.mbox_of_calls called]

theorem exec_restoreSource_of_calls {w : List Host.Cell} {e : Device} (written : e = s.seen.hostWrites w) (sub : e.mboxSub = 1) :
    exec (.restoreSource value w) s = .next (s.withDev (if lenFrom 16 (bits value 24 16)
      then (e.mboxTaken value 0x41).restoreSource ((e.mboxTaken value 0x41).mboxIn value)
      else (e.mboxTaken value 0x41).mboxEnd 2 [])) := by
  subst written
  change execRestoreSource value w s = _
  rw [execRestoreSource, State.onDev_eq]
  dsimp only
  rw [if_neg (not_not_intro sub), State.mbox_hostWrites_of_calls called]

theorem exec_restoreFinish_of_calls (sub : s.seen.mboxSub = 2) :
    exec (.restoreFinish value) s = .next (s.withDev (if lenFrom 2 (bits value 24 16)
      then (s.seen.mboxTaken value 0x41).restoreLast ((s.seen.mboxTaken value 0x41).mboxIn value)
      else (s.seen.mboxTaken value 0x41).mboxEnd 2 [])) := by
  change execRestoreFinish value s = _
  rw [execRestoreFinish, State.onDev_eq, if_neg (not_not_intro sub), State.mbox_of_calls called]

theorem exec_restoreAbort_of_calls (sub : s.seen.mboxSub = 3) :
    exec (.restoreAbort value) s = .next (s.withDev (if lenFrom 1 (bits value 24 16)
      then (s.seen.mboxTaken value 0x41).restoreAbort ((s.seen.mboxTaken value 0x41).mboxIn value)
      else (s.seen.mboxTaken value 0x41).mboxEnd 2 [])) := by
  change execRestoreAbort value s = _
  rw [execRestoreAbort, State.onDev_eq, if_neg (not_not_intro sub), State.mbox_of_calls called]

end Restore

/-! ### SET_TICK (R506) -/

section SetTick

variable (called : s.calls value 0x10)
include called

/-- A called SET_TICK is taken where its length is 16 and its value sound. -/
theorem tickTaken_of_calls : tickTaken s.drone s.seen value =
    (bits value 24 16 == 16 && setTickResult s.drone (s.seen.payload 16) == 0) := by
  obtain ⟨doorbell, opcode, ⟨barOpen, decodes⟩, idle⟩ := called
  have host : s.seen.decodes domHost = true := decodes
  rw [tickTaken, doorbell, opcode, barOpen, host, idle]
  simp

theorem exec_setTick_of_calls : exec (.setTick value) s = .next { s with
    drone := if bits value 24 16 == 16 && setTickResult s.drone (s.seen.payload 16) == 0
      then s.drone.arm (u64At (s.seen.payload 16) 0) else s.drone
    dev := if bits value 24 16 == 16
      then (s.seen.mboxTaken value 0x10).mboxEnd (setTickResult s.drone (s.seen.payload 16)) []
      else (s.seen.mboxTaken value 0x10).mboxEnd 2 [] } := by
  rw [← tickTaken_of_calls called, ← State.mbox_of_calls called (· == 16)
    (fun e => e.mboxEnd (setTickResult s.drone (s.seen.payload 16)) [])]
  rfl

theorem exec_setTick_of_wrong_length (wrong : bits value 24 16 ≠ 16) :
    exec (.setTick value) s = .next (s.withDev ((s.seen.mboxTaken value 0x10).mboxEnd 2 [])) := by
  rw [exec_setTick_of_calls called, beq_false_of_ne wrong, Bool.false_and, if_neg Bool.false_ne_true, if_neg Bool.false_ne_true,
    State.withDev]

section Length

variable {r : Nat} (right : bits value 24 16 = 16) (result : setTickResult s.drone (s.seen.payload 16) = r)
include right result

theorem exec_setTick_of_refused (refused : r ≠ 0) :
    exec (.setTick value) s = .next (s.withDev ((s.seen.mboxTaken value 0x10).mboxEnd r [])) := by
  rw [exec_setTick_of_calls called, result, right, beq_self_eq_true, beq_false_of_ne refused, Bool.and_false,
    if_neg Bool.false_ne_true, if_pos rfl, State.withDev]

theorem exec_setTick_of_taken (taken : r = 0) : exec (.setTick value) s = .next
    { s.withDev ((s.seen.mboxTaken value 0x10).mboxEnd 0 []) with drone := s.drone.arm (u64At (s.seen.payload 16) 0) } := by
  rw [exec_setTick_of_calls called, result, right, taken, beq_self_eq_true, beq_self_eq_true, Bool.and_self, if_pos rfl, if_pos rfl,
    State.withDev]

end Length

end SetTick

end Commands

/-- The RESULT of SET_TICK (R506). -/
theorem setTickResult_of_unsound {t : Drone} {p : Bytes} (unsound : zeros p 8 8 = false ∨ u64At p 0 % 1000000 ≠ 0) :
    setTickResult t p = 3 :=
  if_pos (by simpa using unsound)

section Sound

variable {t : Drone} {p : Bytes} (zero : zeros p 8 8 = true) (multiple : u64At p 0 % 1000000 = 0)
include zero multiple

theorem setTickResult_of_behind (set : t.isSet = true) (behind : u64At p 0 < t.tick) : setTickResult t p = 4 := by
  rw [setTickResult, if_neg (by simp [zero, multiple]), if_pos ⟨set, behind⟩]

theorem setTickResult_of_ahead (ahead : t.isSet = false ∨ t.tick ≤ u64At p 0) : setTickResult t p = 0 := by
  have allowed : ¬(t.isSet = true ∧ u64At p 0 < t.tick) := by
    rintro ⟨set, behind⟩
    simp [set, behind.not_ge] at ahead
  rw [setTickResult, if_neg (by simp [zero, multiple]), if_neg allowed]

end Sound

end Sys2Proof.Machine

open Sys2Proof Sys2Proof.Machine

/-- Settles O37. That CHECKPOINT and RESTORE take an input at least as long as the fields they name, and that a reserved SUB is
answered by STATUS or BEGIN, are the model's choices (log entry 138). -/
theorem mailboxCommands : Obligations.MailboxCommands := by
  refine ⟨fun s value called => State.splits_of_length (exec_identify_of_calls called) beq_iff_eq,
    fun s value w fails called => State.splits_of_length (exec_loadProgram_of_calls called w fails) beq_iff_eq,
    fun s value called => State.splits_of_length (exec_unloadProgram_of_calls called) beq_iff_eq,
    fun s value r w fails called => State.splits_of_length (exec_loadFirmware_of_calls called w fails r) beq_iff_eq,
    fun s value called => ⟨fun sub => State.splits_of_length (exec_checkpointStatus_of_calls called sub) lenFrom_iff,
      fun sub => State.splits_of_length (exec_baseNow_of_calls called sub) lenFrom_iff⟩,
    fun s value w e called written => ⟨fun sub => State.splits_of_length (exec_restoreBegin_of_calls called sub) lenFrom_iff,
      fun sub => State.splits_of_length (exec_restoreSource_of_calls called written sub) lenFrom_iff,
      fun sub => State.splits_of_length (exec_restoreFinish_of_calls called sub) lenFrom_iff,
      fun sub => State.splits_of_length (exec_restoreAbort_of_calls called sub) lenFrom_iff⟩,
    ?_, fun d r out code short => d.mboxEnd_shows code (by omega),
    fun s value op f g reach doorbell opcode busy => State.mbox_of_busy f g reach doorbell opcode busy⟩
  rintro s value _ _ called rfl rfl
  exact ⟨exec_setTick_of_wrong_length called,
    fun right unsound => exec_setTick_of_refused called right (setTickResult_of_unsound unsound) (by decide),
    fun right zero multiple set behind =>
      exec_setTick_of_refused called right (setTickResult_of_behind zero multiple set behind) (by decide),
    fun right zero multiple ahead => exec_setTick_of_taken called right (setTickResult_of_ahead zero multiple ahead) rfl⟩

end


section
/-! PROOFS. Base generations and restores (R457, R465 to R468). -/

namespace Sys2Proof.Machine

/-! ### The drain of the snapshot buffer -/

/-- A snapshot buffer whose ring takes no more stands as it is. -/
theorem Device.snapDrain_of_held {d : Device} {r : Nat} (held : d.ringHeld r = true) : ∀ fuel, Device.snapDrain r fuel d = d
  | 0 => rfl
  | fuel + 1 => by
    rw [Device.snapDrain]
    split
    · rfl
    · exact if_pos held

theorem Device.snapDrain_of_room {d : Device} {r fuel : Nat} {x : Bool × Bytes} {l : List (Bool × Bytes)}
    (buffer : d.ckpt.snap = x :: l) (room : d.ringHeld r = false) :
    Device.snapDrain r (fuel + 1) d = Device.snapDrain r fuel ((d.setSnap l).produceOrWait r x.2) := by
  simp [Device.snapDrain, buffer, room]

theorem Device.baseEnd_of_held {d : Device} {r : Nat} (held : d.ringHeld r = true) : d.baseEnd r = d := by
  rw [Device.baseEnd]
  split
  · rfl
  · exact if_pos (by simp [held])

theorem Device.baseEnd_of_none {d : Device} {r : Nat} (run : d.ckpt.run = none) : d.baseEnd r = d := by
  rw [Device.baseEnd, run]

theorem Device.baseEnd_of_part {d : Device} {r : Nat} {g : BaseGen} (run : d.ckpt.run = some g) (part : g.whole = false) :
    d.baseEnd r = d := by
  rw [Device.baseEnd, run]
  exact if_pos (by simp [part])

theorem Device.baseEnd_of_whole {d : Device} {r : Nat} {g : BaseGen} (buffer : d.ckpt.snap = []) (room : d.ringHeld r = false)
    (run : d.ckpt.run = some g) (whole : g.whole = true) : d.baseEnd r = d.baseClose r g := by
  rw [Device.baseEnd, run]
  exact if_neg (by simp [whole, buffer, room])

section Drain

variable {s : State}

theorem exec_baseDrain_of_no_ring (ring : s.seen.baseRing = none) : exec .baseDrain s = .next (s.withDev s.seen) := by
  change execBaseDrain s = _
  rw [execBaseDrain, State.onDev_eq, ring]
  rfl

variable {r : Nat} (ring : s.seen.baseRing = some r)
include ring

theorem exec_baseDrain_of_ring :
    exec .baseDrain s = .next (s.withDev ((Device.snapDrain r s.seen.ckpt.snap.length s.seen).baseEnd r)) := by
  change execBaseDrain s = _
  rw [execBaseDrain, State.onDev_eq, ring]
  rfl

theorem exec_baseDrain_of_held (held : s.seen.ringHeld r = true) : exec .baseDrain s = .next (s.withDev s.seen) := by
  rw [exec_baseDrain_of_ring ring, Device.snapDrain_of_held held, Device.baseEnd_of_held held]

theorem exec_baseDrain_of_empty (buffer : s.seen.ckpt.snap = []) : exec .baseDrain s = .next (s.withDev (s.seen.baseEnd r)) := by
  rw [exec_baseDrain_of_ring ring, buffer]
  rfl

theorem exec_baseDrain_of_room {x : Bool × Bytes} {l : List (Bool × Bytes)} (buffer : s.seen.ckpt.snap = x :: l)
    (room : s.seen.ringHeld r = false) : exec .baseDrain s =
      .next (s.withDev ((Device.snapDrain r l.length ((s.seen.setSnap l).produceOrWait r x.2)).baseEnd r)) := by
  rw [exec_baseDrain_of_ring ring, buffer, List.length_cons, Device.snapDrain_of_room buffer room]

end Drain

/-! ### BASE_NOW -/

theorem Device.raise_ckpt (d : Device) {f : Fld} (one : f.w = 1) (fits : f.lo < 32) (c : notCfg f.key) : (d.raise f).ckpt = d.ckpt := by
  have same := congrArg Device.ckpt (Device.raise_calm d one fits c).inner
  exact same

theorem Device.baseAbandon_run (d : Device) : d.baseAbandon.ckpt.run = none := by
  rw [Device.baseAbandon]
  split
  · rename_i none
    exact Option.isNone_iff_eq_none.mp none
  · rw [Device.raise_ckpt _ rfl (by decide) (by simp [notCfg, F.CKPT_INT_STATUS_BASE_ABANDON])]
    rfl

section BaseNow

variable {d : Device} {value : Nat}

theorem Device.baseNow_of_not_zero (zero : zerosFrom 1 (d.mboxIn value) = false) : d.baseNow value = d.mboxEnd 3 [] :=
  if_pos zero

theorem Device.baseNow_of_off (zero : zerosFrom 1 (d.mboxIn value) = true) (off : d.domOn domSpine = false) :
    d.baseNow value = d.mboxEnd 4 [] := by
  rw [Device.baseNow, if_neg (by simp [zero]), if_pos (by simp [off])]

theorem Device.baseNow_of_on (zero : zerosFrom 1 (d.mboxIn value) = true) (on : d.domOn domSpine = true) :
    d.baseNow value = d.baseAbandon.askBase.mboxEnd 0 [] := by
  rw [Device.baseNow, if_neg (by simp [zero]), if_neg (by simp [on])]

end BaseNow

/-! ### RESTORE -/

section Restores

variable {d : Device} {b : Bytes}

section Begin

variable (sub : d.mboxSub = 0) (head : zeros b 1 7 = true) (tail : zerosFrom 16 b = true)
include sub head tail

theorem Device.restoreBegin_of_refused (may : d.restoreMay = false) : d.restoreBegin b = (d.restoreErr 6 0).mboxEnd 8 [] := by
  rw [Device.restoreBegin, if_neg (by simp [sub, head, tail]), if_pos (by simp [may]), Device.restoreRefuse]

theorem Device.restoreBegin_of_may (may : d.restoreMay = true) : d.restoreBegin b =
    (d.setRestore (some { resume := u64At b 8, began := d.now })).mboxEnd 0 (pairOut 0 0) := by
  rw [Device.restoreBegin, if_neg (by simp [sub, head, tail]), if_neg (by simp [may])]

end Begin

section Finish

variable (flag : u8At b 1 ≤ 1) (zero : zerosFrom 2 b = true)
include flag zero

theorem Device.restoreLast_of_input : d.restoreLast b = d.restoreEnd d.ckpt.restore (u8At b 1 == 1) :=
  if_neg (by simp [flag.not_gt, zero])

theorem Device.restoreLast_of_none (none : d.ckpt.restore = none) : d.restoreLast b = d.mboxEnd 4 [] := by
  rw [Device.restoreLast_of_input flag zero, none, Device.restoreEnd]

variable {r : Restore} (started : d.ckpt.restore = some r) (sound : r.bad = false)
include started sound

theorem Device.restoreLast_of_missing (missing : r.complete = false) : d.restoreLast b = (d.restoreErr 5 0).mboxEnd 8 [] := by
  rw [Device.restoreLast_of_input flag zero, started, Device.restoreEnd, if_neg (by simp [sound]), if_pos (by simp [missing]),
    Device.restoreRefuse]

theorem Device.restoreLast_of_complete (complete : r.complete = true) : d.restoreLast b = d.restoreFinish r (u8At b 1 == 1) := by
  rw [Device.restoreLast_of_input flag zero, started, Device.restoreEnd, if_neg (by simp [sound]), if_neg (by simp [complete])]

end Finish

section Source

variable {r : Restore} (phase : u8At b 1 ≤ 1) (rank : u16At b 2 ≤ 4095) (zero : zerosFrom 16 b = true)
  (started : d.ckpt.restore = some r) (sound : r.bad = false)
include phase rank zero started sound

theorem Device.restoreSource_of_started : d.restoreSource b =
    if !d.inWindow (u64At b 8) (64 * u32At b 4) then d.mboxEnd 6 []
    else d.takeExtent r (u8At b 1) (u16At b 2) (u32At b 4) (u64At b 8) := by
  rw [Device.restoreSource, if_neg (by simp [phase.not_gt, rank.not_gt, zero]), started, Device.restoreExtent,
    if_neg (by simp [sound])]

theorem Device.restoreSource_of_outside (outside : d.inWindow (u64At b 8) (64 * u32At b 4) = false) :
    d.restoreSource b = d.mboxEnd 6 [] := by
  rw [Device.restoreSource_of_started phase rank zero started sound, if_pos (by simp [outside])]

theorem Device.restoreSource_of_inside (inside : d.inWindow (u64At b 8) (64 * u32At b 4) = true) :
    d.restoreSource b = d.takeExtent r (u8At b 1) (u16At b 2) (u32At b 4) (u64At b 8) := by
  rw [Device.restoreSource_of_started phase rank zero started sound, if_neg (by simp [inside])]

theorem Device.restoreSource_of_base_after_delta (inside : d.inWindow (u64At b 8) (64 * u32At b 4) = true)
    (base : u8At b 1 = 0) (delta : r.delta = true) : d.restoreSource b = (d.restoreErr 1 (u16At b 2)).mboxEnd 8 [] := by
  rw [Device.restoreSource_of_inside phase rank zero started sound inside, Device.takeExtent, if_pos ⟨base, delta⟩,
    Device.restoreRefuse]

end Source

section Abort

variable (zero : zerosFrom 1 b = true)
include zero

theorem Device.restoreAbort_of_none (none : d.ckpt.restore = none) : d.restoreAbort b = d.mboxEnd 4 [] := by
  rw [Device.restoreAbort, if_neg (by simp [zero]), if_pos (by simp [none])]

theorem Device.restoreAbort_of_some (started : d.ckpt.restore.isSome = true) :
    d.restoreAbort b = (d.setRestore none).mboxEnd 0 (pairOut 0 0) := by
  rw [Device.restoreAbort, if_neg (by simp [zero]), if_neg (by simpa [← Option.isSome_iff_ne_none] using started)]

end Abort

end Restores

end Sys2Proof.Machine

open Sys2Proof Sys2Proof.Machine

/-- Settles O39. That each form of CHECKPOINT and RESTORE reads its fields where the model lays them, and that the bytes past them
must be zero, are the model's choices (log entries 138, 123 and 117). -/
theorem checkpointsAndRestores : Obligations.CheckpointsAndRestores := by
  refine ⟨fun s => exec_baseDrain_of_no_ring, ?_, ?_,
    fun d b sub head tail => ⟨Device.restoreBegin_of_refused sub head tail, Device.restoreBegin_of_may sub head tail⟩,
    fun d b r flag zero started sound =>
      ⟨Device.restoreLast_of_missing flag zero started sound, Device.restoreLast_of_complete flag zero started sound⟩,
    fun d b r phase rank zero started sound => ⟨Device.restoreSource_of_outside phase rank zero started sound, fun inside =>
      ⟨Device.restoreSource_of_base_after_delta phase rank zero started sound inside,
        fun _ => Device.restoreSource_of_inside phase rank zero started sound inside⟩⟩,
    fun d b => ⟨fun none => ⟨fun flag zero => Device.restoreLast_of_none flag zero none,
      fun zero => Device.restoreAbort_of_none zero none⟩, fun started zero => Device.restoreAbort_of_some zero started, fun r => rfl⟩⟩
  · intro s r ring
    refine ⟨exec_baseDrain_of_held ring, fun buffer room => ?_, ?_⟩
    · rw [exec_baseDrain_of_empty ring buffer]
      refine ⟨fun run => ?_, fun g run => ⟨fun whole => ?_, fun part => ?_⟩⟩
      · rw [Device.baseEnd_of_none run]
      · rw [Device.baseEnd_of_whole buffer room run whole]
      · rw [Device.baseEnd_of_part run part]
    · rintro x l _ buffer room rfl
      exact exec_baseDrain_of_room ring buffer room
  · exact fun d value => ⟨Device.baseNow_of_not_zero, fun zero => ⟨Device.baseNow_of_off zero,
      fun on => ⟨Device.baseNow_of_on zero on, rfl, d.baseAbandon_run⟩⟩⟩

end


section
/-! PROOFS. Power domains: enable, disable, ON, OFF and the drain limit (R481 to R484). -/

namespace Sys2Proof.Machine

/-! ### Writes of PWR_DOM_CTL -/

theorem exec_domainEnable_of_reaches {s : State} (v : Nat) (reach : s.reaches offDomCtl) :
    exec (.domainEnable v) s = .next (s.withDev (s.seen.enableDoms v)) := by
  change execDomainEnable v s = _
  rw [execDomainEnable, State.onDev_eq, State.access_reaches _ reach]

theorem exec_domainDisable_of_reaches {s : State} (v : Nat) (reach : s.reaches offDomCtl) :
    exec (.domainDisable v) s = .next (s.withDev (s.seen.disableDoms v)) := by
  change execDomainDisable v s = _
  rw [execDomainDisable, State.onDev_eq, State.access_reaches _ reach]

/-! ### One domain enabled -/

/-- The device in which an enable has set its bit and taken back a pending disable. -/
def Device.enabling (d : Device) (n : Nat) : Device := (d.setEn n true).wr (F.PWR_DOM_STATE_PENDING_DISABLE n) 0

section Enable

variable {d : Device} {n c : Nat}

theorem Device.enableDom_of_refused (refused : d.railFailed n = true ∨ d.pwr.tripped = true) :
    d.enableDom n c = d.wr (F.PWR_DOM_STATE_LAST_ERR n) 4 :=
  if_pos (by simpa using refused)

/-- An enable that is not refused, as the registers show it: during STOPPING it stands as PENDING_ENABLE. -/
theorem Device.enableDom_rd (rail : d.railFailed n = false) (trip : d.pwr.tripped = false) (f : Fld) :
    (d.enableDom n c).rd f = if (d.enabling n).domState n = 3 then ((d.enabling n).wr (F.PWR_DOM_STATE_PENDING_ENABLE n) 1).rd f
      else (d.enabling n).rd f := by
  rw [Device.enableDom, if_neg (by simp [rail, trip])]
  change (if (d.enabling n).domState n == 3 then _ else if (d.enabling n).domState n == 0 then _ else d.enabling n : Device).rd f = _
  unfold Device.enabling
  generalize (d.setEn n true).wr (F.PWR_DOM_STATE_PENDING_DISABLE n) 0 = e
  generalize e.wr (F.PWR_DOM_STATE_PENDING_ENABLE n) 1 = g
  by_cases stopping : e.domState n = 3
  · rw [if_pos (beq_iff_eq.mpr stopping), if_pos stopping]
    rfl
  · rw [if_neg (mt beq_iff_eq.mp stopping), if_neg stopping]
    split <;> rfl

theorem Device.enabling_pendingDisable (d : Device) (n : Nat) : (d.enabling n).rd (F.PWR_DOM_STATE_PENDING_DISABLE n) = 0 :=
  Device.rd_wr_same _ _ _ (by simp [F.PWR_DOM_STATE_PENDING_DISABLE])

variable (rail : d.railFailed n = false) (trip : d.pwr.tripped = false)
include rail trip

theorem Device.enableDom_pendingDisable : (d.enableDom n c).flag (F.PWR_DOM_STATE_PENDING_DISABLE n) = false := by
  have other : ((d.enabling n).wr (F.PWR_DOM_STATE_PENDING_ENABLE n) 1).rd (F.PWR_DOM_STATE_PENDING_DISABLE n) = 0 := by
    rw [Device.rd_wr_disj _ _ (by simp [F.PWR_DOM_STATE_PENDING_ENABLE])
      (by simp [F.PWR_DOM_STATE_PENDING_ENABLE, F.PWR_DOM_STATE_PENDING_DISABLE]), Device.enabling_pendingDisable]
  rw [Device.flag, Device.enableDom_rd rail trip, other, Device.enabling_pendingDisable, ite_self]
  rfl

theorem Device.enableDom_pendingEnable (stopping : (d.enabling n).domState n = 3) :
    (d.enableDom n c).flag (F.PWR_DOM_STATE_PENDING_ENABLE n) = true := by
  rw [Device.flag, Device.enableDom_rd rail trip, if_pos stopping,
    Device.rd_wr_same _ _ _ (by simp [F.PWR_DOM_STATE_PENDING_ENABLE])]
  rfl

end Enable

/-! ### One domain disabled -/

/-- The device in which a disable has cleared its bit and taken back a pending enable. -/
def Device.disabling (d : Device) (n : Nat) : Device := (d.setEn n false).wr (F.PWR_DOM_STATE_PENDING_ENABLE n) 0

section Disable

variable {d : Device} {n : Nat}

theorem Device.disableDom_of_refused (refused : d.disableRefused n = true) :
    d.disableDom n = (d.wr (F.PWR_DOM_STATE_LAST_ERR n) 1).raise F.PWR_INT_STATUS_DOM_REFUSED :=
  if_pos refused

variable (allowed : d.disableRefused n = false)
include allowed

theorem Device.disableDom_of_starting (starting : (d.disabling n).domState n = 1) :
    d.disableDom n = (d.disabling n).wr (F.PWR_DOM_STATE_PENDING_DISABLE n) 1 := by
  rw [Device.disableDom, if_neg (by simp [allowed])]
  exact if_pos (beq_iff_eq.mpr starting)

theorem Device.disableDom_of_not_starting (other : (d.disabling n).domState n ≠ 1) :
    d.disableDom n = (d.disabling n).stopOrderly n := by
  rw [Device.disableDom, if_neg (by simp [allowed])]
  exact if_neg (mt beq_iff_eq.mp other)

end Disable

/-! ### ON, OFF and the drain limit -/

section Reached

variable {s : State} {n : Nat} (low : 2 ≤ n) (high : n < 20)
include low high

theorem exec_domainOn_of_starting (bad : List (Nat × Nat)) (starting : s.seen.domState n = 1) :
    exec (.domainOn n bad) s = .next (s.withDev (s.seen.domainUp n bad)) := by
  change execDomainOn n bad s = _
  rw [execDomainOn, State.onDev_eq, if_neg (by simp [low.not_gt, high.not_ge, starting])]

theorem exec_domainOff_of_drained (stopping : s.seen.domState n = 3) (idle : s.seen.groupBusy n = false) :
    exec (.domainOff n) s = .next (s.withDev (s.seen.domainOff n)) := by
  change execDomainOff n s = _
  rw [execDomainOff, State.onDev_eq, if_neg (by simp [low.not_gt, high.not_ge, stopping, idle])]

end Reached

section Stands

variable {s : State} {n : Nat}

theorem exec_domainOn_of_not_starting (bad : List (Nat × Nat)) (other : s.seen.domState n ≠ 1) :
    exec (.domainOn n bad) s = .next (s.withDev s.seen) := by
  change execDomainOn n bad s = _
  rw [execDomainOn, State.onDev_eq, if_pos (.inr (.inr other))]

theorem exec_domainOff_of_not_drained (other : s.seen.domState n ≠ 3 ∨ s.seen.groupBusy n = true) :
    exec (.domainOff n) s = .next (s.withDev s.seen) := by
  change execDomainOff n s = _
  rw [execDomainOff, State.onDev_eq, if_pos (.inr (.inr other))]

theorem exec_drainLimitExpiry_of_stopping (low : 2 ≤ n) (core : n < 10) (stopping : s.seen.domState n = 3) :
    exec (.drainLimitExpiry n) s = .next (s.withDev (s.seen.requeue (s.seen.drained n))) := by
  change execDrainLimitExpiry n s = _
  rw [execDrainLimitExpiry, State.onDev_eq, if_pos ⟨low, core, stopping⟩]

end Stands

/-- The device in which a start has ended, its tasks done and the change reported. -/
def Device.started (d : Device) (n : Nat) (bad : List (Nat × Nat)) : Device :=
  (((d.wr (F.PWR_DOM_STATE_STATE n) 2).startTasks n bad).wr { F.PWR_STATUS_ON with lo := n, w := 1 } 1).raise F.PWR_INT_STATUS_DOM_CHANGE

section Up

variable {d : Device} {n : Nat} {bad : List (Nat × Nat)}

theorem Device.domainUp_of_pending (pending : (d.started n bad).flag (F.PWR_DOM_STATE_PENDING_DISABLE n) = true) :
    d.domainUp n bad = ((d.started n bad).wr (F.PWR_DOM_STATE_PENDING_DISABLE n) 0).stopOrderly n :=
  if_pos pending

theorem Device.domainUp_of_not_pending (none : (d.started n bad).flag (F.PWR_DOM_STATE_PENDING_DISABLE n) = false) :
    d.domainUp n bad = (d.started n bad).settle :=
  if_neg (ne_true_of_eq_false none)

end Up

end Sys2Proof.Machine

open Sys2Proof Sys2Proof.Machine

/-- Settles O40. That bits 1:0 of PWR_DOM_CTL ignore writes, and that an enable and a disable of one write each take their own
side of it, are the model's choices (log entry 47). -/
theorem powerDomains : Obligations.PowerDomains := by
  refine ⟨fun s v reach => ⟨exec_domainEnable_of_reaches v reach, exec_domainDisable_of_reaches v reach⟩,
    fun d n c => ⟨Device.enableDom_of_refused, fun rail trip _ _ =>
      ⟨Device.enableDom_pendingDisable rail trip, Device.enableDom_pendingEnable rail trip⟩⟩, ?_,
    fun s n bad low high => ⟨exec_domainOn_of_starting low high bad, exec_domainOn_of_not_starting bad⟩, ?_,
    fun s n low high => ⟨exec_domainOff_of_drained low high, exec_domainOff_of_not_drained,
      exec_drainLimitExpiry_of_stopping low⟩⟩
  · refine fun d e n => ⟨Device.disableDom_of_refused, ?_⟩
    rintro allowed rfl
    exact ⟨Device.disableDom_of_starting allowed, Device.disableDom_of_not_starting allowed⟩
  · rintro d _ n bad rfl
    exact ⟨Device.domainUp_of_pending, Device.domainUp_of_not_pending⟩

end


section
/-! PROOFS. Rails: power-good, its loss, lowering, targets and AVSBus requests (R472 to R479). -/

namespace Sys2Proof.Machine

/-! ### A rail being raised -/

section Raised

variable {s : State} {r : Nat}

theorem exec_railRetryWait_of_waiting (waits : r ∈ s.seen.pwr.retryWait) :
    exec (.railRetryWait r) s = .next (s.withDev (s.seen.pgAgain r)) := by
  change execRailRetryWait r s = _
  rw [execRailRetryWait, State.onDev_eq, if_pos waits]

variable (rail : r < 9)
include rail

section Trying

variable (raised : s.seen.railSt r = 1) (tries : r ∉ s.seen.pwr.retryWait)
include raised tries

theorem exec_railPowerGood_of_raised : exec (.railPowerGood r) s = .next (s.withDev (s.seen.railUp r)) := by
  change execRailPowerGood r s = _
  rw [execRailPowerGood, State.onDev_eq, if_pos ⟨rail, raised, tries⟩]

theorem exec_railPgTimeout_of_first (first : s.seen.pgTried r = 0) :
    exec (.railPgTimeout r) s = .next (s.withDev (s.seen.pgWait r)) := by
  change execRailPgTimeout r s = _
  rw [execRailPgTimeout, State.onDev_eq, if_pos ⟨rail, raised, tries⟩, if_pos first]

theorem exec_railPgTimeout_of_second (second : s.seen.pgTried r ≠ 0) :
    exec (.railPgTimeout r) s = .next (s.withDev (s.seen.railFault r 1)) := by
  change execRailPgTimeout r s = _
  rw [execRailPgTimeout, State.onDev_eq, if_pos ⟨rail, raised, tries⟩, if_neg second]

end Trying

/-! ### A rail that is up or being lowered -/

theorem exec_railPgLost_of_enabled (enabled : s.seen.railSt r = 2 ∨ s.seen.railSt r = 3 ∨ s.seen.railSt r = 4) :
    exec (.railPgLost r) s = .next (s.withDev (s.seen.railFault r 2)) := by
  change execRailPgLost r s = _
  rw [execRailPgLost, State.onDev_eq, if_pos ⟨rail, enabled⟩]

theorem exec_railLower_of_next (lowering : s.seen.railSt r = 4) (next : s.seen.lowersNext r = true) :
    exec (.railLower r) s = .next (s.withDev (s.seen.railDown r)) := by
  change execRailLower r s = _
  rw [execRailLower, State.onDev_eq, if_pos ⟨rail, lowering, next⟩]

omit rail in
theorem exec_railLower_of_not_next (later : s.seen.lowersNext r = false) :
    exec (.railLower r) s = .next (s.withDev s.seen) := by
  change execRailLower r s = _
  rw [execRailLower, State.onDev_eq, if_neg (fun all => absurd all.2.2 (by simp [later]))]

theorem exec_railTargetWrite_of_reaches (v : Nat) (reach : s.reaches (F.PWR_RAIL_TGT_MV r).key) :
    exec (.railTargetWrite r v) s = .next (s.withDev (s.seen.railTarget r v)) := by
  change execRailTargetWrite r v s = _
  rw [execRailTargetWrite, State.onDev_eq, if_neg rail.not_ge, State.access_reaches _ reach]

end Raised

/-! ### AVSBus requests -/

section Requests

variable {s : State} {bus : Nat}

theorem exec_avsStatusPoll_eq (vdone good : Bool) (mv : Nat) : exec (.avsStatusPoll bus vdone good mv) s =
    .next (s.withDev (s.seen.avsHeard bus (s.seen.avsQueue bus) vdone good mv)) := rfl

theorem exec_avsTimeout_eq : exec (.avsTimeout bus) s = .next (s.withDev (s.seen.avsFail bus)) := rfl

theorem Device.avsFail_of_none {d : Device} (queue : d.avsQueue bus = []) : d.avsFail bus = d := by
  rw [Device.avsFail, ← Device.avsQueue, queue]

section Queued

variable {d : Device} {x : AvsReq} {l : List AvsReq} (queue : d.avsQueue bus = x :: l)
include queue

theorem Device.avsFail_of_first (first : x.tries = 0) : d.avsFail bus =
    ((d.setAvs bus ({ x with tries := 1 } :: l)).inc F.PWR_AVS_RETRY).emit (.avsWrite bus (railSelect x.rail) x.mv) := by
  rw [Device.avsFail, ← Device.avsQueue, queue]
  exact if_pos first

theorem Device.avsFail_of_second (second : x.tries ≠ 0) : d.avsFail bus = (d.avsNext bus).railFault x.rail 3 := by
  rw [Device.avsFail, ← Device.avsQueue, queue]
  exact if_neg second

end Queued

end Requests

/-- A bus's queue after a request: one that waits for the same rail is replaced, and a bus that is free starts it. -/
def avsQueued (req : AvsReq) : List AvsReq → List AvsReq
  | [] => [req]
  | cur :: wait => cur ::
    if wait.any fun x => x.rail = req.rail then wait.map fun x => if x.rail = req.rail then req else x else wait ++ [req]

theorem mem_avsQueued {req x : AvsReq} {q : List AvsReq} (mem : x ∈ avsQueued req q) : x ∈ q ∨ x = req := by
  cases q with
  | nil => exact .inr (List.mem_singleton.mp mem)
  | cons cur wait =>
    obtain rfl | later := List.mem_cons.mp mem
    · exact .inl List.mem_cons_self
    · split at later
      · obtain ⟨y, old, rfl⟩ := List.mem_map.mp later
        split
        · exact .inr rfl
        · exact .inl (List.mem_cons_of_mem _ old)
      · obtain old | rfl := List.mem_append.mp later |>.imp_right List.mem_singleton.mp
        · exact .inl (List.mem_cons_of_mem _ old)
        · exact .inr rfl

/-- The voltage a request for `mv` carries: `mv` brought into the rail's window (R476). -/
def Device.clamped (d : Device) (r mv : Nat) : Nat := max (d.rd (F.PWR_RAIL_WIN_MIN_MV r)) (min mv (d.rd (F.PWR_RAIL_WIN_MAX_MV r)))

theorem Device.avsRequest_queue (d : Device) (r mv : Nat) :
    (d.avsRequest r mv).avsQueue (railBus r) = avsQueued ⟨r, d.clamped r mv, 0⟩ (d.avsQueue (railBus r)) := by
  have pwr : (if d.clamped r mv = mv then d else d.inc F.PWR_VCLAMP_CNT).pwr = d.pwr := by
    split <;> simp
  rw [Device.avsRequest, ← Device.clamped]
  generalize (if d.clamped r mv = mv then d else d.inc F.PWR_VCLAMP_CNT) = e at pwr ⊢
  have queue : d.avsQueue (railBus r) = Store.get (fun _ => []) e.pwr.avs (railBus r) := by rw [pwr, Device.avsQueue]
  rw [queue]
  dsimp only
  split
  · rename_i none
    rw [none]
    exact Store.get_set_same (fun _ => []) e.pwr.avs (railBus r) (avsQueued _ [])
  · rename_i cur wait some
    rw [some]
    exact Store.get_set_same (fun _ => []) e.pwr.avs (railBus r) (avsQueued ⟨r, d.clamped r mv, 0⟩ (cur :: wait))

theorem Device.clamped_mem_window {d : Device} {r mv : Nat}
    (window : d.rd (F.PWR_RAIL_WIN_MIN_MV r) ≤ d.rd (F.PWR_RAIL_WIN_MAX_MV r)) :
    d.rd (F.PWR_RAIL_WIN_MIN_MV r) ≤ d.clamped r mv ∧ d.clamped r mv ≤ d.rd (F.PWR_RAIL_WIN_MAX_MV r) :=
  ⟨le_max_left .., max_le window (min_le_right ..)⟩

end Sys2Proof.Machine

open Sys2Proof Sys2Proof.Machine

/-- Settles O41. -/
theorem powerRails : Obligations.PowerRails := by
  refine ⟨fun s r rail raised => ⟨fun tries => ⟨exec_railPowerGood_of_raised rail raised tries,
      exec_railPgTimeout_of_first rail raised tries, exec_railPgTimeout_of_second rail raised tries⟩, exec_railRetryWait_of_waiting⟩,
    fun s r rail => ⟨exec_railPgLost_of_enabled rail, fun lowering =>
      ⟨exec_railLower_of_next rail lowering, exec_railLower_of_not_next⟩⟩, ?_, ?_,
    fun d b x l queue => ⟨Device.avsFail_of_first queue, Device.avsFail_of_second queue⟩, ?_⟩
  · rintro s r v _ rail reach rfl
    rw [exec_railTargetWrite_of_reaches rail v reach]
    exact ⟨fun up => congrArg _ (congrArg _ (if_pos up)), fun other => congrArg _ (congrArg _ (if_neg other))⟩
  · intro s b mv vdone good
    refine ⟨fun queue => ?_, ?_⟩
    · rw [exec_avsStatusPoll_eq, exec_avsTimeout_eq, Device.avsFail_of_none queue, queue]
      exact ⟨rfl, rfl⟩
    · rintro x l _ queue rfl
      have heard (vdone good : Bool) : exec (.avsStatusPoll b vdone good mv) s =
          .next (s.withDev (s.seen.avsHeard b (x :: l) vdone good mv)) := by rw [exec_avsStatusPoll_eq, queue]
      exact ⟨heard vdone false, heard true true, heard false true, exec_avsTimeout_eq⟩
  · rintro d r mv _ _ rfl rfl window x mem
    rw [Device.avsRequest_queue] at mem
    obtain old | rfl := mem_avsQueued mem
    · exact .inl old
    · exact .inr ⟨rfl, Device.clamped_mem_window window⟩

end


section
/-! PROOFS. Standby and wake, the budget window and the clamp (R489 to R491, R495, R497). -/

namespace Sys2Proof.Machine

/-! ### Standby -/

section Standby

variable {s : State} (reach : s.reaches F.PWR_CTL_STANDBY.key)
include reach

theorem exec_standby_of_reaches : exec .standby s = .next (s.withDev s.seen.enterStandby) := by
  change execStandby s = _
  rw [execStandby, State.onDev_eq, State.access_reaches _ reach]

end Standby

/-- The device in which standby was asked for and no stop has begun yet. -/
def Device.standbyAsked (d : Device) : Device :=
  let d := (d.wr F.PWR_CTL_STANDBY 1).wr F.PWR_DOM_CTL_EN 3
  { d with pwr := { d.pwr with standbyReq := true } }

theorem Device.enterStandby_of_busy {d : Device} (busy : d.phase ≠ .idle) :
    d.enterStandby = d.raise F.PWR_INT_STATUS_DOM_REFUSED :=
  if_pos busy

theorem Device.enterStandby_of_idle {d : Device} (idle : d.phase = .idle) : d.enterStandby = d.standbyAsked.standbyNext :=
  if_neg (not_not_intro idle)

/-! ### Wake -/

/-- The domains that a wake enables (R490). -/
def Device.wakeSet (d : Device) : List Nat := switchable.filter fun n => bit (d.rd F.PWR_WAKE_SET) n

theorem Device.wake_of_standby {d : Device} (c : Nat) (standby : d.flag F.PWR_STATUS_STANDBY = true) :
    d.wake c = (d.wakeSet.foldl (fun d n => d.enableDom n c) ((d.wr F.PWR_STATUS_STANDBY 0).raise F.PWR_INT_STATUS_WAKE)).settle :=
  if_pos standby

theorem Device.wake_of_running {d : Device} (c : Nat) (standby : d.flag F.PWR_STATUS_STANDBY = false)
    (asked : d.pwr.standbyReq = false) : d.wake c = d := by
  rw [Device.wake, if_neg (ne_true_of_eq_false standby), if_neg (ne_true_of_eq_false asked)]

theorem exec_wakeNEdge_eq (s : State) : exec .wakeNEdge s = .next (s.withDev (s.seen.wake 3)) := rfl

theorem exec_wakeAlarm_of_due {s : State} (due : s.seen.alarmDue = true) :
    exec .wakeAlarm s = .next (s.withDev (s.seen.wake 5)) := by
  change execWakeAlarm s = _
  rw [execWakeAlarm, State.onDev_eq, if_pos due]

theorem exec_wakeAlarm_of_not_due {s : State} (early : s.seen.alarmDue = false) :
    exec .wakeAlarm s = .next (s.withDev s.seen) := by
  change execWakeAlarm s = _
  rw [execWakeAlarm, State.onDev_eq, if_neg (ne_true_of_eq_false early)]

/-! ### The budget window -/

theorem exec_budgetWindow_of_open {s : State} (opened : s.seen.pwr.bWindow = some (s.seen.now / 1000)) :
    exec .budgetWindow s = .next (s.withDev s.seen) := by
  change execBudgetWindow s = _
  rw [execBudgetWindow, State.onDev_eq, if_pos opened]

theorem exec_budgetWindow_of_not_open {s : State} (next : s.seen.pwr.bWindow ≠ some (s.seen.now / 1000)) :
    exec .budgetWindow s = .next (s.withDev s.seen.newWindow) := by
  change execBudgetWindow s = _
  rw [execBudgetWindow, State.onDev_eq, if_neg next]

theorem Device.newWindow_bal (d : Device) : d.newWindow.pwr.bal =
    ((d.rd F.PWR_CAP_CAP - d.rd F.PWR_RESERVE_WATTS : Nat) : Int) * 256000 + min d.pwr.bal 0 := by
  have bal : d.newWindow.pwr.bal = (d.budget : Int) + min d.pwr.bal 0 := rfl
  rw [bal, Device.budget, Nat.mul_assoc, Nat.cast_mul]
  rfl

/-! ### The clamp -/

theorem Device.log_pwr (d : Device) (code sev src arg b : Nat) (t : Nat) : (d.log code sev src arg b t).pwr = d.pwr := by
  have same := congrArg Device.pwr (Device.log_calm d code sev src arg b t).inner
  exact same

theorem Device.raise_pwr (d : Device) {f : Fld} (one : f.w = 1) (fits : f.lo < 32) (c : notCfg f.key) : (d.raise f).pwr = d.pwr := by
  have same := congrArg Device.pwr (Device.raise_calm d one fits c).inner
  exact same

theorem Device.clampTo_pwr (d : Device) (p : Pwr) : (d.clampTo p).pwr = p := by
  unfold Device.clampTo Device.showGate
  simp only [Device.wr_pwr]
  split <;> split <;> split <;>
    simp [Device.log_pwr, Device.raise_pwr _ (f := F.PWR_INT_STATUS_CLAMP) rfl (by decide) (by simp [notCfg, F.PWR_INT_STATUS_CLAMP])]

/-- Of the registers, the measurements shown write PWR_MEAS alone. -/
theorem Device.powerShown_rd (d : Device) (p : Nat) (ss : List Nat) {f : Fld} (other : f.key ≠ F.PWR_MEAS_INST_W.key) :
    (d.powerShown p ss).rd f = d.rd f := by
  rw [Device.powerShown, Device.rd_wr_ne (f := F.PWR_MEAS_AVG_W) _ _ other, Device.rd_wr_ne _ _ other]

theorem Device.powerShown_pwr (d : Device) (p : Nat) (ss : List Nat) : (d.powerShown p ss).pwr = d.pwr := by simp [Device.powerShown]

theorem Device.powerShown_sampled (d : Device) (p q : Nat) (ss : List Nat) : (d.powerShown p ss).sampled q = d.sampled q := by
  rw [Device.sampled, Device.powerShown_pwr, Device.powerShown_rd _ _ _ (by decide), Device.sampled]

theorem Device.powerSample_pwr (d : Device) (p : Nat) :
    (d.powerSample p).pwr = d.pwr.clamp (d.rd F.PWR_CAP_CAP) (d.rd F.PWR_CLAMP_CFG_WINDOW) (d.sampled p) := by
  rw [Device.powerSample, Device.clampTo_pwr, Device.powerShown_sampled, Device.powerShown_pwr,
    Device.powerShown_rd _ _ _ (by decide), Device.powerShown_rd _ _ _ (by decide)]

/-- A mean above 1.05 × CAP is not below CAP. -/
theorem underCap_of_overCap {cap : Nat} {ss : List Nat} (above : overCap cap ss = true) : underCap cap ss = false := by
  have sum : 21 * cap * ss.length * 10000 < 20 * ss.sum := of_decide_eq_true above
  have scaled : 21 * cap * ss.length * 10000 = 21 * (cap * ss.length * 10000) := by ring
  exact decide_eq_false (by omega)

section Clamp

variable {p : Pwr} {cap w : Nat} {ss : List Nat}

theorem Pwr.clamp_g_of_over (above : overCap cap ss = true) : (p.clamp cap w ss).g = min (p.g + 1) 16 :=
  if_pos above

section NotOver

variable (above : overCap cap ss = false)
include above

theorem Pwr.clamp_g_of_under (under : underCap cap ss = true) (eight : 8 ≤ p.sinceChange + 1) : (p.clamp cap w ss).g = p.g - 1 :=
  (if_neg (ne_true_of_eq_false above)).trans (if_pos ⟨under, eight⟩)

theorem Pwr.clamp_g_of_stands (stands : underCap cap ss = false ∨ p.sinceChange + 1 < 8) : (p.clamp cap w ss).g = p.g := by
  refine (if_neg (ne_true_of_eq_false above)).trans (if_neg ?_)
  rintro ⟨under, eight⟩
  obtain level | few := stands
  · exact absurd under (ne_true_of_eq_false level)
  · exact absurd few eight.not_gt

end NotOver

theorem Pwr.clamp_g_le (level : p.g ≤ 16) : (p.clamp cap w ss).g ≤ 16 := by
  change gateNext _ _ _ _ ≤ 16
  unfold gateNext
  split
  · exact min_le_right ..
  · split
    · exact (Nat.sub_le ..).trans level
    · exact level

theorem Pwr.clamp_stage2_of_under (under : underCap cap ss = true) : (p.clamp cap w ss).stage2 = false :=
  if_pos under

/-- Stage 2 stands on, or is entered once the gate level stood at 16 with the mean above 1.05 × CAP. -/
theorem Pwr.of_clamp_stage2 (stage2 : (p.clamp cap w ss).stage2 = true) :
    p.stage2 = true ∨ w = 0 ∨ p.g = 16 ∧ overCap cap ss = true := by
  have next : (if underCap cap ss then false else p.stage2 || decide (w ≤ if overCap cap ss ∧ p.g = 16 then p.over16 + 1 else 0)) = true :=
    stage2
  by_cases top : overCap cap ss = true ∧ p.g = 16
  · exact .inr (.inr top.symm)
  · cases under : underCap cap ss <;> simp [under, top] at next
    exact next.imp_right .inl

end Clamp

end Sys2Proof.Machine

open Sys2Proof Sys2Proof.Machine

/-- Settles O42; while there are fewer samples than WINDOW the mean is that of those there are (log entry 19). -/
theorem standbyBudgetClamp : Obligations.StandbyBudgetClamp := by
  refine ⟨?_, ?_, fun s => ⟨exec_budgetWindow_of_open, exec_budgetWindow_of_not_open⟩, fun d => ⟨d.newWindow_bal, rfl⟩,
    fun s a mv => rfl, fun d p => ⟨d.powerSample_pwr p, List.length_take_le ..⟩,
    fun p cap w ss => ⟨fun above => ⟨Pwr.clamp_g_of_over above, underCap_of_overCap above⟩, Pwr.clamp_g_of_under,
      Pwr.clamp_g_of_stands, Pwr.clamp_g_le, Pwr.clamp_stage2_of_under, Pwr.of_clamp_stage2⟩⟩
  · intro s d reach
    rw [exec_standby_of_reaches reach]
    refine ⟨fun busy => by rw [Device.enterStandby_of_busy busy], ?_⟩
    rintro idle rfl
    rw [Device.enterStandby_of_idle idle]
    rfl
  · rintro s _ _ rfl rfl
    rw [exec_wakeNEdge_eq]
    refine ⟨fun standby => ⟨?_, fun due => ?_⟩, exec_wakeAlarm_of_not_due, fun standby asked => ?_⟩
    · rw [Device.wake_of_standby 3 standby, Device.wakeSet]
    · rw [exec_wakeAlarm_of_due due, Device.wake_of_standby 5 standby, Device.wakeSet]
    · rw [Device.wake_of_running 3 standby asked]

end


section
/-! PROOFS. Logic temperature, the thermal trip and its clearing (R499 to R501). -/

namespace Sys2Proof.Machine

/-! ### Temperature -/

theorem Device.logicTemps_pwr (d : Device) (rs : List Int) :
    (d.logicTemps rs).pwr = d.pwr.heated rs (rs.getD (hotSensor rs) 0) := by
  unfold Device.logicTemps Device.showGate
  simp only [Device.wr_pwr]
  split
  · rw [Device.raise_pwr _ rfl (by decide) (by simp [notCfg, F.PWR_INT_STATUS_THERM_WARN])]
  · rfl

section Levels

variable {p : Pwr} {rs : List Int} {t : Int}

theorem Pwr.heated_gTherm_iff : (p.heated rs t).gTherm = 8 ↔ throttleNext (p.gTherm == 8) t = true := by
  change (if throttleNext (p.gTherm == 8) t then 8 else 0) = 8 ↔ _
  split <;> simp [*]

theorem Pwr.heated_gTherm_of_throttled (throttled : p.gTherm = 8) : (p.heated rs t).gTherm = 8 ↔ 1552 ≤ t := by
  simp [Pwr.heated_gTherm_iff, throttled, throttleNext]

theorem Pwr.heated_gTherm_of_clear (clear : p.gTherm = 0) : (p.heated rs t).gTherm = 8 ↔ 1600 ≤ t := by
  simp [Pwr.heated_gTherm_iff, clear, throttleNext]

theorem Pwr.heated_warn_of_clear (clear : p.warn = false) : (p.heated rs t).warn = true ↔ 1440 ≤ t := by
  simp [Pwr.heated, clear, warnNext]

theorem Pwr.heated_warn_of_warned (warned : p.warn = true) : (p.heated rs t).warn = true ↔ 1408 ≤ t := by
  simp [Pwr.heated, warned, warnNext]

end Levels

/-- The greater of two indices' values, kept along a list, is at least the value of each. -/
theorem le_foldl_greatest (v : Nat → Int) (l : List Nat) : ∀ b, v b ≤ v (l.foldl (fun b i => if v b < v i then i else b) b) ∧
    ∀ i ∈ l, v i ≤ v (l.foldl (fun b i => if v b < v i then i else b) b) := by
  induction l with
  | nil => exact fun b => ⟨le_rfl, by simp⟩
  | cons a l ih =>
    intro b
    have step : v b ≤ v (if v b < v a then a else b) ∧ v a ≤ v (if v b < v a then a else b) := by
      split
      next hotter => exact ⟨hotter.le, le_rfl⟩
      next colder => exact ⟨le_rfl, not_lt.mp colder⟩
    obtain ⟨kept, rest⟩ := ih (if v b < v a then a else b)
    refine ⟨step.1.trans kept, fun i mem => ?_⟩
    obtain rfl | later := List.mem_cons.mp mem
    · exact step.2.trans kept
    · exact rest i later

theorem le_hotSensor (rs : List Int) {i : Nat} (sensor : i < 32) : rs.getD i 0 ≤ rs.getD (hotSensor rs) 0 := by
  have greatest := (le_foldl_greatest (fun i => rs.getD i 0) (List.range 32) 0).2 i (List.mem_range.mpr sensor)
  rwa [← hotSensor] at greatest

/-! ### The trip -/

theorem Device.tripLatch_flag (d : Device) : d.tripLatch.flag F.PWR_STATUS_TRIP = true := by
  have shown := Device.rd_wr_same (d.emit (.pin .thermtripN false)) F.PWR_STATUS_TRIP 1 (by decide)
  unfold Device.tripLatch
  generalize (d.emit (.pin .thermtripN false)).wr F.PWR_STATUS_TRIP 1 = e at shown ⊢
  exact beq_iff_eq.mpr shown

theorem Device.tripFree_flag (d : Device) : d.tripFree.flag F.PWR_STATUS_TRIP = false := by
  have shown := Device.rd_wr_same (d.emit (.pin .thermtripN true)) F.PWR_STATUS_TRIP 0 (by decide)
  unfold Device.tripFree
  generalize (d.emit (.pin .thermtripN true)).wr F.PWR_STATUS_TRIP 0 = e at shown ⊢
  exact beq_eq_false_iff_ne.mpr (ne_of_eq_of_ne shown (by decide))

theorem Device.coolNow_iff (d : Device) : d.coolNow = true ↔ d.pwr.tripped = true ∧ ∀ e ∈ d.pwr.sensors, e.2 < 1440 := by
  simp [Device.coolNow]

section TripClear

variable {d : Device}

theorem Device.tripClear_of_hot (hot : d.coolNow = false) : d.tripClear = d :=
  if_pos (by simp [hot])

theorem Device.tripClear_of_cool (cool : d.coolNow = true) :
    d.tripClear = if d.rd F.DRONE_START_STATUS_STATE = 0 then d.tripFree.resumeStep6 else d.tripFree := by
  rw [Device.tripClear, if_neg (by simp [cool])]

end TripClear

theorem exec_tripClear_of_reaches {s : State}
    (reach : s.seen.rd F.DRONE_START_STATUS_STATE = 1 → s.reaches F.PWR_CTL_TRIP_CLEAR.key) :
    exec .tripClear s = .next (s.withDev s.seen.tripClear) := by
  change execTripClear s = _
  rw [execTripClear, State.onDev_eq]
  split
  · rename_i running
    rw [State.access_reaches _ (reach running)]
  · rfl

end Sys2Proof.Machine

open Sys2Proof Sys2Proof.Machine

/-- Settles O43; that the sensors report in sixteenths of a degree is the model's choice (log entry 55). -/
theorem thermalProtection : Obligations.ThermalProtection := by
  refine ⟨fun s rs => rfl, ?_, fun rs i => le_hotSensor rs, fun s => ⟨rfl, rfl, Device.tripLatch_flag _⟩, fun s reach => ?_,
    fun d => ⟨d.coolNow_iff, rfl, d.tripFree_flag⟩⟩
  · rintro d rs _ rfl
    rw [Device.logicTemps_pwr]
    exact ⟨rfl, Pwr.heated_gTherm_of_throttled, Pwr.heated_gTherm_of_clear, Pwr.heated_warn_of_clear, Pwr.heated_warn_of_warned⟩
  · rw [exec_tripClear_of_reaches reach]
    refine ⟨fun hot => ?_, fun cool running => ?_, fun cool starting => ?_⟩
    · rw [Device.tripClear_of_hot hot]
    · rw [Device.tripClear_of_cool cool, if_neg running]
    · rw [Device.tripClear_of_cool cool, if_pos starting]

end


section
/-! PROOFS. The tick value (R504 to R508). -/

namespace Sys2Proof.Machine

/-! ### The commands of the tick pair -/

section Down

variable {s : State} (down : s.dev.aonUp = false)
include down

theorem exec_droneTick_of_down (b : Bool) : exec (.droneTick b) s = .next s := by
  change execDroneTick b s = _
  rw [execDroneTick, down]
  rfl

theorem exec_epochMarker_of_down (b : Bool) : exec (.epochMarker b) s = .next s := by
  change execEpochMarker b s = _
  rw [execEpochMarker, down]
  rfl

theorem exec_droneEdgeTimeout_of_down : exec .droneEdgeTimeout s = .next s := by
  change execDroneEdgeTimeout s = _
  rw [execDroneEdgeTimeout, down]
  rfl

theorem exec_holdoverTick_of_down : exec .holdoverTick s = .next s := by
  change execHoldoverTick s = _
  rw [execHoldoverTick, down]
  rfl

end Down

section Up

variable {s : State} (up : s.dev.aonUp = true)
include up

section Following

variable (following : s.drone.lock ≠ 2)
include following

theorem exec_droneTick_of_following (b : Bool) : exec (.droneTick b) s = .next (s.atTick s.drone.follow id) := by
  change execDroneTick b s = _
  rw [execDroneTick, if_neg (by simp [up]), if_neg following]

omit up in
theorem exec_holdoverTick_of_following : exec .holdoverTick s = .next s := by
  change execHoldoverTick s = _
  rw [execHoldoverTick, if_pos (by simp [following])]

theorem exec_droneEdgeTimeout_of_following :
    exec .droneEdgeTimeout s = .next { s with drone := s.drone.lose, dev := s.seen.droneLost } := by
  change execDroneEdgeTimeout s = _
  rw [execDroneEdgeTimeout, if_neg (by simp [up, following])]
  rfl

theorem exec_epochMarker_of_following (b : Bool) : exec (.epochMarker b) s = .next (s.marker s.drone.due) := by
  change execEpochMarker b s = _
  rw [execEpochMarker, if_neg (by simp [up]), if_neg following]

end Following

section Holdover

variable (holdover : s.drone.lock = 2)
include holdover

theorem exec_holdoverTick_of_holdover : exec .holdoverTick s = .next (s.atTick s.drone.advance Device.heldTick) := by
  change execHoldoverTick s = _
  rw [execHoldoverTick, if_neg (by simp [up, holdover])]

omit up in
theorem exec_droneEdgeTimeout_of_holdover : exec .droneEdgeTimeout s = .next s := by
  change execDroneEdgeTimeout s = _
  rw [execDroneEdgeTimeout, if_pos (by simp [holdover])]

theorem exec_droneTick_of_holdover (b : Bool) : exec (.droneTick b) s = .next (s.holdEdge b) := by
  change execDroneTick b s = _
  rw [execDroneTick, if_neg (by simp [up]), if_pos holdover]

theorem exec_epochMarker_of_holdover (b : Bool) : exec (.epochMarker b) s = .next (s.holdEdge b) := by
  change execEpochMarker b s = _
  rw [execEpochMarker, if_neg (by simp [up]), if_pos holdover]

end Holdover

end Up

theorem State.holdEdge_of_few {s : State} {b : Bool} (few : (if b then s.drone.good + 1 else 1) < 16) :
    s.holdEdge b = { s with drone := s.drone.edges (if b then s.drone.good + 1 else 1) } :=
  if_pos few

theorem State.holdEdge_of_enough {s : State} {b : Bool} (enough : 16 ≤ (if b then s.drone.good + 1 else 1)) :
    s.holdEdge b = { s with drone := s.drone.regain, dev := s.seen.regained } :=
  if_neg enough.not_gt

section Marker

variable {s : State}

theorem State.marker_none_of_not_set (unset : s.drone.isSet = false) : s.marker none = s.atTick s.drone.follow id :=
  if_neg (ne_true_of_eq_false unset)

variable (set : s.drone.isSet = true)
include set

theorem State.marker_none_of_on_time (onTime : s.drone.follow.tick = nearestEpoch s.drone.follow.tick) :
    s.marker none = s.atTick s.drone.follow id :=
  (if_pos set).trans (if_pos onTime)

theorem State.marker_none_of_off (off : s.drone.follow.tick ≠ nearestEpoch s.drone.follow.tick) :
    s.marker none = s.atTick (s.drone.follow.slip (nearestEpoch s.drone.follow.tick))
      (Device.slipped ((s.drone.follow.tick : Int) - nearestEpoch s.drone.follow.tick)) :=
  (if_pos set).trans (if_neg off)

end Marker

/-! ### The tick value after each change of the inputs -/

section Drone

variable {t : Drone} {v m : Nat}

theorem Drone.follow_of_running (running : t.hold = 0) : t.follow.tick = (t.tick + 1) % 2 ^ 64 ∧ t.follow.hold = 0 := by
  rw [Drone.follow, Drone.advance, if_pos running]
  exact ⟨rfl, running⟩

theorem Drone.follow_of_held (held : t.hold ≠ 0) : t.follow.tick = t.tick ∧ t.follow.hold = t.hold - 1 := by
  rw [Drone.follow, Drone.advance, if_neg held]
  exact ⟨rfl, rfl⟩

theorem Drone.take_of_not_set (unset : t.isSet = false) : (t.take v).tick = v :=
  if_neg (ne_true_of_eq_false unset)

theorem Drone.take_of_set (set : t.isSet = true) : (t.take v).tick = max v t.tick :=
  if_pos set

theorem Drone.slip_of_late (late : t.tick < m) : (t.slip m).tick = m := by
  rw [Drone.slip, if_pos late]

theorem Drone.slip_of_early (early : m < t.tick) : (t.slip m).tick = t.tick ∧ (t.slip m).hold = t.tick - m := by
  rw [Drone.slip, if_neg early.not_gt]
  exact ⟨rfl, rfl⟩

theorem Drone.due_eq_some_iff : t.due = some v ↔ t.armed = some v ∧ t.armNew = false := by
  rw [Drone.due]
  split
  next new => simp [new]
  next old => simp [old]

/-- A slip never moves the tick value back (R507). -/
theorem Drone.tick_le_slip : t.tick ≤ (t.slip m).tick := by
  rw [Drone.slip]
  split
  next late => exact late.le
  next => exact le_rfl

theorem Drone.tick_le_follow (room : t.tick + 1 < 2 ^ 64) : t.tick ≤ t.follow.tick := by
  by_cases running : t.hold = 0
  · rw [(Drone.follow_of_running running).1, Nat.mod_eq_of_lt room]
    exact Nat.le_succ _
  · exact (Drone.follow_of_held running).1.ge

end Drone

theorem nearestEpoch_near (v : Nat) :
    nearestEpoch v % 1000000 = 0 ∧ v < nearestEpoch v + 500000 ∧ nearestEpoch v ≤ v + 500000 := by
  rw [nearestEpoch]
  omega

/-! ### The tick value never falls -/

section Rises

variable {s : State} (room : s.drone.tick + 1 < 2 ^ 64)

theorem State.tick_holdEdge (s : State) (b : Bool) : (s.holdEdge b).drone.tick = s.drone.tick := by
  rw [State.holdEdge]
  exact (apply_ite (fun e : State => e.drone.tick) _ _ _).trans (ite_self _)

include room

theorem State.tick_le_marker (known : s.drone.isSet = true ∨ s.drone.due = none) :
    s.drone.tick ≤ (s.marker s.drone.due).drone.tick := by
  have kept := Drone.tick_le_follow room
  cases due : s.drone.due with
  | some v =>
    have set := known.resolve_right (by simp [due])
    exact (le_max_right ..).trans_eq (Drone.take_of_set set).symm
  | none =>
    cases set : s.drone.isSet with
    | false => exact (State.marker_none_of_not_set set).symm ▸ kept
    | true =>
      by_cases onTime : s.drone.follow.tick = nearestEpoch s.drone.follow.tick
      · exact (State.marker_none_of_on_time set onTime).symm ▸ kept
      · exact (State.marker_none_of_off set onTime).symm ▸ kept.trans Drone.tick_le_slip

theorem tick_le_of_droneTick {b : Bool} {t : State} (run : exec (.droneTick b) s = .next t) : s.drone.tick ≤ t.drone.tick := by
  cases up : s.dev.aonUp with
  | false =>
    cases (exec_droneTick_of_down up b).symm.trans run
    exact le_rfl
  | true =>
    by_cases holdover : s.drone.lock = 2
    · cases (exec_droneTick_of_holdover up holdover b).symm.trans run
      exact (s.tick_holdEdge b).ge
    · cases (exec_droneTick_of_following up holdover b).symm.trans run
      exact Drone.tick_le_follow room

theorem tick_le_of_epochMarker {b : Bool} {t : State} (known : s.drone.isSet = true ∨ s.drone.due = none)
    (run : exec (.epochMarker b) s = .next t) : s.drone.tick ≤ t.drone.tick := by
  cases up : s.dev.aonUp with
  | false =>
    cases (exec_epochMarker_of_down up b).symm.trans run
    exact le_rfl
  | true =>
    by_cases holdover : s.drone.lock = 2
    · cases (exec_epochMarker_of_holdover up holdover b).symm.trans run
      exact (s.tick_holdEdge b).ge
    · cases (exec_epochMarker_of_following up holdover b).symm.trans run
      exact State.tick_le_marker room known

omit room in
theorem tick_le_of_droneEdgeTimeout {t : State} (run : exec .droneEdgeTimeout s = .next t) : s.drone.tick ≤ t.drone.tick := by
  cases up : s.dev.aonUp with
  | false =>
    cases (exec_droneEdgeTimeout_of_down up).symm.trans run
    exact le_rfl
  | true =>
    by_cases holdover : s.drone.lock = 2
    · cases (exec_droneEdgeTimeout_of_holdover holdover).symm.trans run
      exact le_rfl
    · cases (exec_droneEdgeTimeout_of_following up holdover).symm.trans run
      exact le_rfl

theorem tick_le_of_holdoverTick {t : State} (run : exec .holdoverTick s = .next t) : s.drone.tick ≤ t.drone.tick := by
  cases up : s.dev.aonUp with
  | false =>
    cases (exec_holdoverTick_of_down up).symm.trans run
    exact le_rfl
  | true =>
    by_cases holdover : s.drone.lock = 2
    · cases (exec_holdoverTick_of_holdover up holdover).symm.trans run
      exact Drone.tick_le_follow room
    · cases (exec_holdoverTick_of_following holdover).symm.trans run
      exact le_rfl

end Rises

end Sys2Proof.Machine

open Sys2Proof Sys2Proof.Machine

/-- Settles O44. That an armed value below the tick value leaves it (log entry 21), and that the sixteenth edge on time ends the
holdover (log entry 20), are the model's choices; that edge adds nothing to the tick value. -/
theorem droneTicks : Obligations.DroneTicks := by
  refine ⟨fun s b down => ⟨exec_droneTick_of_down down b, exec_epochMarker_of_down down b, exec_droneEdgeTimeout_of_down down,
      exec_holdoverTick_of_down down⟩,
    fun s b up following => ⟨exec_droneTick_of_following up following b, exec_holdoverTick_of_following following,
      exec_droneEdgeTimeout_of_following up following⟩, ?_, ?_,
    fun t v m => ⟨Drone.follow_of_running, Drone.follow_of_held, rfl, rfl, Drone.take_of_not_set, Drone.take_of_set, rfl, rfl,
      Drone.slip_of_late, Drone.slip_of_early, Drone.due_eq_some_iff, rfl, rfl, rfl, rfl⟩, nearestEpoch_near⟩
  · rintro s b _ up holdover rfl
    rw [exec_droneTick_of_holdover up holdover, exec_epochMarker_of_holdover up holdover]
    refine ⟨exec_holdoverTick_of_holdover up holdover, exec_droneEdgeTimeout_of_holdover holdover, fun few => ?_, fun enough => ?_⟩
    · rw [State.holdEdge_of_few few]
      exact ⟨rfl, rfl⟩
    · rw [State.holdEdge_of_enough enough]
      exact ⟨rfl, rfl⟩
  · rintro s b _ _ up following rfl rfl
    rw [exec_epochMarker_of_following up following]
    refine ⟨fun v due => ?_, fun due => ?_⟩
    · rw [due]
      rfl
    · rw [due]
      exact ⟨fun unset => congrArg _ (State.marker_none_of_not_set unset), fun set =>
        ⟨fun onTime => congrArg _ (State.marker_none_of_on_time set onTime),
          fun off => congrArg _ (State.marker_none_of_off set off)⟩⟩

/-- Settles O45. -/
theorem tickNeverFalls : Obligations.TickNeverFalls := by
  rintro c s t (⟨b, rfl | rfl⟩ | rfl | rfl) room known run
  · exact tick_le_of_droneTick room run
  · exact tick_le_of_epochMarker room known run
  · exact tick_le_of_droneEdgeTimeout run
  · exact tick_le_of_holdoverTick room run

end


section
/-! PROOFS. The management pair: disagreement, fault events and key revocation (R527, R535, R543). -/

namespace Sys2Proof.Machine

/-! ### A disagreement of the pair -/

theorem exec_lockstepMismatch_of_down {s : State} (down : s.dev.aonUp = false) : exec .lockstepMismatch s = .next s := by
  change execLockstepMismatch s = _
  rw [execLockstepMismatch, if_pos (by simp [down])]

theorem exec_lockstepMismatch_of_second {s : State} (up : s.dev.aonUp = true)
    (second : secondMismatch s.dev.mgmt.sinceMismatch = true) : exec .lockstepMismatch s = .next s.mgmtReset := by
  change execLockstepMismatch s = _
  rw [execLockstepMismatch, if_neg (by simp [up]), if_pos second]

theorem exec_lockstepMismatch_of_first {s : State} (up : s.dev.aonUp = true)
    (first : secondMismatch s.dev.mgmt.sinceMismatch = false) :
    exec .lockstepMismatch s = .next (s.withDev s.seen.lockstepRestart) := by
  change execLockstepMismatch s = _
  rw [execLockstepMismatch, if_neg (by simp [up]), if_neg (ne_true_of_eq_false first), State.onDev_eq]

/-! ### Fault events -/

theorem exec_faultEvent_of_down {s : State} (down : s.dev.aonUp = false) : exec .faultEvent s = .next s := by
  change execFaultEvent s = _
  rw [execFaultEvent, if_pos (by simp [down])]

theorem exec_faultEvent_of_up {s : State} (up : s.dev.aonUp = true) :
    exec .faultEvent s = .next (s.obey s.seen.takeEvent.1 s.seen.takeEvent.2) := by
  change execFaultEvent s = _
  rw [execFaultEvent, if_neg (by simp [up])]
  rfl

section Policy

variable {s : State} {d : Device} {e : FaultEv}

theorem State.obey_of_log (log : d.policy e.cls = 0) : s.obey d (some e) = s.withDev d := by
  rw [State.obey, log]
  rfl

theorem State.obey_of_drain (drain : d.policy e.cls = 1) : s.obey d (some e) = s.withDev (d.drainFor e) :=
  if_pos drain

theorem State.obey_of_halt (halt : d.policy e.cls = 2) : s.obey d (some e) = s.withDev d.haltReq := by
  rw [State.obey, halt]
  rfl

theorem State.obey_of_reset (reset : d.policy e.cls = 3) : s.obey d (some e) = (s.withDev d).mgmtReset := by
  rw [State.obey, if_neg (by simp [reset]), if_neg (by simp [reset]), if_pos reset]
  rfl

end Policy

section Queue

variable {d : Device} (kept : d.mgmt.evLost ≠ some 0)
include kept

theorem Device.takeEvent_of_empty (empty : d.mgmt.evq = []) : d.takeEvent = (d, none) := by
  rw [Device.takeEvent, if_neg kept, empty]

variable {e : FaultEv} {q : List FaultEv} (queue : d.mgmt.evq = e :: q)
include queue

theorem Device.takeEvent_of_cons : d.takeEvent =
    (Device.wr { d with mgmt := { d.mgmt with evq := q, evLost := d.mgmt.evLost.map (· - 1) } } F.MGMT_STATUS_EVQ (min q.length 255),
      some e) := by
  rw [Device.takeEvent, if_neg kept, queue]

theorem Device.takeEvent_queue : d.takeEvent.1.mgmt.evq = q := by
  rw [Device.takeEvent_of_cons kept queue]
  rfl

theorem Device.takeEvent_shows : d.takeEvent.1.rd F.MGMT_STATUS_EVQ = min q.length 255 := by
  rw [Device.takeEvent_of_cons kept queue, Device.rd_wr_same _ _ _ (by decide)]
  exact Nat.mod_eq_of_lt ((min_le_right ..).trans_lt (by decide))

end Queue

/-! ### Revocation -/

theorem exec_secRevoke_of_shut {s : State} (k : Nat) (shut : s.seen.barOpen = false) :
    exec (.secRevoke k) s = .next (s.withDev (s.seen.emit .unsupportedRequest)) := by
  change execSecRevoke k s = _
  exact if_pos ((Bool.not_eq_true' _).mpr shut)

section Revoke

variable {s : State} {k : Nat} (bar : s.seen.barOpen = true)
include bar

theorem exec_secRevoke_of_open : exec (.secRevoke k) s = if s.revokes s.seen (k % 4) then
      .next { s with perm := s.perm.revoke (k % 4), dev := (s.seen.noteRevoke (k % 4)).revoked (s.perm.revoke (k % 4)) }
    else .next (s.withDev ((s.seen.noteRevoke (k % 4)).logAccess F.SEC_REVOKE.key)) := by
  change execSecRevoke k s = _
  exact if_neg (by rw [Bool.not_eq_true']; exact ne_false_of_eq_true bar)

theorem exec_secRevoke_of_ignored (ignored : s.revokes s.seen (k % 4) = false) :
    exec (.secRevoke k) s = .next (s.withDev ((s.seen.noteRevoke (k % 4)).logAccess F.SEC_REVOKE.key)) := by
  rw [exec_secRevoke_of_open bar, if_neg (ne_true_of_eq_false ignored)]

theorem exec_secRevoke_of_taken (taken : s.revokes s.seen (k % 4) = true) : exec (.secRevoke k) s =
    .next { s with perm := s.perm.revoke (k % 4), dev := (s.seen.noteRevoke (k % 4)).revoked (s.perm.revoke (k % 4)) } := by
  rw [exec_secRevoke_of_open bar, if_pos taken]

end Revoke

theorem Device.revokedBefore_iff {d : Device} {j : Nat} :
    d.revokedBefore j = true ↔ ∃ t, d.mgmt.lastRevoke = some (j, t) ∧ d.now ≤ t + 1000000 := by
  rw [Device.revokedBefore]
  split
  next p t last =>
    simp only [last, Bool.and_eq_true, beq_iff_eq, decide_eq_true_eq, Option.some.injEq, Prod.mk.injEq]
    exact ⟨fun ⟨same, soon⟩ => ⟨t, ⟨same, rfl⟩, soon⟩, fun ⟨_, ⟨same, at_t⟩, soon⟩ => ⟨same, at_t ▸ soon⟩⟩
  next none => simp [none]

theorem State.revokes_iff {s : State} {d : Device} {j : Nat} : s.revokes d j = true ↔
    (∃ t, d.mgmt.lastRevoke = some (j, t) ∧ d.now ≤ t + 1000000) ∧
      d.rd F.SEC_STATUS_KEY_SLOT ≠ j ∧ bit s.perm.revoked (d.rd F.SEC_STATUS_KEY_SLOT) = false := by
  simp only [State.revokes, Bool.and_eq_true, Device.revokedBefore_iff, bne_iff_ne, Bool.not_eq_true', and_assoc]

end Sys2Proof.Machine

open Sys2Proof Sys2Proof.Machine

/-- Settles O47. The model's choices in it: a second of the pair is 1,000,000 ticks (log entry 31), HALT sets SPINE_CTL.HALT_REQ
itself (log entry 13), the first event lost of a run is an event of its own (log entry 145), and the first of the two writes of
SEC_REVOKE is logged as ignored (log entry 48). -/
theorem faultPolicyAndRevocation : Obligations.FaultPolicyAndRevocation := by
  refine ⟨fun s down => ⟨exec_lockstepMismatch_of_down down, exec_faultEvent_of_down down⟩,
    fun s up => ⟨exec_lockstepMismatch_of_second up, exec_lockstepMismatch_of_first up⟩, ?_,
    fun d kept => ⟨Device.takeEvent_of_empty kept, fun e q queue => ⟨congrArg Prod.snd (Device.takeEvent_of_cons kept queue),
      Device.takeEvent_queue kept queue, Device.takeEvent_shows kept queue⟩⟩, ?_, fun s d j => State.revokes_iff,
    fun p d j k => ⟨p.bit_revoke j k, rfl⟩⟩
  · rintro s _ o up rfl event
    rw [exec_faultEvent_of_up up, ← event]
    refine ⟨?_, ?_⟩
    · rintro rfl
      rfl
    · rintro e rfl
      exact ⟨fun log => congrArg _ (State.obey_of_log log), fun drain => congrArg _ (State.obey_of_drain drain),
        fun halt => congrArg _ (State.obey_of_halt halt), fun reset => congrArg _ (State.obey_of_reset reset)⟩
  · rintro s k _ _ rfl rfl
    exact ⟨exec_secRevoke_of_shut k, fun bar => ⟨exec_secRevoke_of_ignored bar, exec_secRevoke_of_taken bar⟩⟩

end


section
/-! PROOFS. In-service test windows and the SMBus commands (R545, R553, R554). -/

namespace Sys2Proof.Machine

/-! ### Test windows -/

section TestWindow

variable {s : State}

theorem exec_testWindowOpen_of_due (due : s.seen.testDue = true) : exec .testWindowOpen s = .next (s.withDev s.seen.testOpen) := by
  change execTestWindowOpen s = _
  rw [execTestWindowOpen, State.onDev_eq, if_pos due]

theorem exec_testWindowOpen_of_not_due (early : s.seen.testDue = false) :
    exec .testWindowOpen s = .next (s.withDev s.seen) := by
  change execTestWindowOpen s = _
  rw [execTestWindowOpen, State.onDev_eq, if_neg (ne_true_of_eq_false early)]

theorem exec_testWindowClose_of_passed (opened : s.seen.flag F.TEST_STATUS_IN_WINDOW = true) (passed : s.seen.mgmt.testLeft = 0) :
    exec .testWindowClose s = .next (s.withDev s.seen.testClose) := by
  change execTestWindowClose s = _
  rw [execTestWindowClose, State.onDev_eq, if_pos (by simp [opened, passed])]

theorem exec_testWindowClose_of_not_passed
    (stands : s.seen.flag F.TEST_STATUS_IN_WINDOW = false ∨ s.seen.mgmt.testLeft ≠ 0) :
    exec .testWindowClose s = .next (s.withDev s.seen) := by
  change execTestWindowClose s = _
  rw [execTestWindowClose, State.onDev_eq, if_neg ?_]
  rw [Bool.and_eq_true, beq_iff_eq]
  rintro ⟨opened, passed⟩
  exact stands.elim (fun shut => absurd opened (ne_true_of_eq_false shut)) (fun left => left passed)

end TestWindow

/-! ### SMBus -/

section Smb

variable {s : State} (f : Device → Device)

theorem State.smb_of_down (down : s.seen.aonUp = false) (pec : Bool) : s.smb pec f = .next (s.withDev s.seen) := by
  rw [State.smb, State.onDev_eq, if_pos (by simp [down])]

variable (up : s.seen.aonUp = true)
include up

theorem State.smb_of_good : s.smb true f = .next (s.withDev (f s.seen)) := by
  rw [State.smb, State.onDev_eq, if_neg (by simp [up]), if_pos rfl]

theorem State.smb_of_bad : s.smb false f = .next (s.withDev (s.seen.inc F.MGMT_SMB_ERR)) := by
  rw [State.smb, State.onDev_eq, if_neg (by simp [up]), if_neg (by decide)]

end Smb

section Forms

variable (s : State) (pec : Bool)

theorem exec_smbStatus_eq : exec (.smbStatus pec) s = s.smb pec fun d => d.emit (.smbus d.smbWords) := rfl

theorem exec_readAon_eq (o : Nat) : exec (.readAon o pec) s = s.smb pec fun d => d.emit (.smbus (d.smbAon o)) := rfl

theorem exec_smbWake_eq : exec (.smbWake pec) s = s.smb pec fun d => d.wake 4 := rfl

theorem exec_smbStandby_eq : exec (.smbStandby pec) s = s.smb pec Device.enterStandby := rfl

theorem exec_setCap_eq (w : Nat) : exec (.setCap w pec) s = s.smb pec fun d => d.smbCap w := rfl

theorem exec_smbLog_eq : exec (.smbLog pec) s = s.smb pec fun d => (d.smbTaken.emit (.smbus d.smbEntry)).alertView := rfl

theorem exec_smbIdentify_eq : exec (.smbIdentify pec) s = s.smb pec fun d => d.emit (.smbus d.identity) := rfl

end Forms

section SetCap

variable {d : Device} {w : Nat}

theorem Device.smbCap_of_allowed (allowed : d.flag F.MGMT_SMB_CFG_CAP_EN = true) :
    d.smbCap w = d.wr F.PWR_CAP_CAP (d.limitField "PWR_CAP" "CAP" (w % 65536)) :=
  if_pos allowed

theorem Device.smbCap_of_refused (refused : d.flag F.MGMT_SMB_CFG_CAP_EN = false) : d.smbCap w = d.inc F.MGMT_SMB_ERR :=
  if_neg (ne_true_of_eq_false refused)

end SetCap

theorem State.seen_aonUp (s : State) : s.seen.aonUp = s.dev.aonUp := rfl

theorem State.seen_flag (s : State) (f : Fld) : s.seen.flag f = s.dev.flag f := rfl

section Reset

variable {s : State}

theorem exec_smbReset_of_allowed (up : s.seen.aonUp = true) (allowed : s.seen.flag F.MGMT_SMB_CFG_RESET_EN = true) :
    exec (.smbReset 0xA55A true) s = .next s.mgmtReset := by
  rw [State.seen_aonUp] at up
  rw [State.seen_flag] at allowed
  change execSmbReset 0xA55A true s = _
  rw [execSmbReset, if_pos (by simp [up, allowed])]

/-- A RESET that is not acted on is a command with a bad PEC. -/
theorem exec_smbReset_of_refused {w : Nat} {pec : Bool}
    (refused : pec = false ∨ s.seen.aonUp = false ∨ w ≠ 0xA55A ∨ s.seen.flag F.MGMT_SMB_CFG_RESET_EN = false) :
    exec (.smbReset w pec) s = s.smb false id := by
  rw [State.seen_aonUp, State.seen_flag] at refused
  change execSmbReset w pec s = _
  rw [execSmbReset, if_neg ?_]
  simp only [Bool.and_eq_true, beq_iff_eq]
  rintro ⟨⟨⟨good, word⟩, up⟩, allowed⟩
  simp [good, word, up, allowed] at refused

end Reset

/-- A command that is bad, or that AON is down for, does what any SMBus command does then. -/
theorem exec_smb_of_ignored {s t : State} {b : Bool} {o w : Nat} {c : Instr} (ignored : ∀ f, s.smb b f = .next t)
    (reset : exec (.smbReset w b) s = s.smb b id) (smb : c = .smbStatus b ∨ c = .readAon o b ∨ c = .smbWake b ∨
    c = .smbStandby b ∨ c = .smbReset w b ∨ c = .setCap w b ∨ c = .smbLog b ∨ c = .smbIdentify b) : exec c s = .next t := by
  obtain rfl | rfl | rfl | rfl | rfl | rfl | rfl | rfl := smb
  · exact (exec_smbStatus_eq s b).trans (ignored _)
  · exact (exec_readAon_eq s b o).trans (ignored _)
  · exact (exec_smbWake_eq s b).trans (ignored _)
  · exact (exec_smbStandby_eq s b).trans (ignored _)
  · exact reset.trans (ignored _)
  · exact (exec_setCap_eq s b w).trans (ignored _)
  · exact (exec_smbLog_eq s b).trans (ignored _)
  · exact (exec_smbIdentify_eq s b).trans (ignored _)

section Alert

variable {s : State}

theorem exec_alertResponse_of_alert (up : s.seen.aonUp = true) (alert : s.seen.mgmt.alert = true) : exec .alertResponse s =
    .next (s.withDev ((s.seen.alertOff.emit (.smbus [BitVec.ofNat 8 (s.seen.rd F.MGMT_SMB_CFG_ADDR * 2)])).emit
      (.pin .smbAlertN true))) := by
  change execAlertResponse s = _
  rw [execAlertResponse, State.onDev_eq, if_pos (by simp [up, alert])]

theorem exec_alertResponse_of_none (silent : s.seen.aonUp = false ∨ s.seen.mgmt.alert = false) :
    exec .alertResponse s = .next (s.withDev s.seen) := by
  change execAlertResponse s = _
  rw [execAlertResponse, State.onDev_eq, if_neg (by simpa [imp_iff_not_or] using silent)]

end Alert

theorem exec_smbReset_of_down {s : State} (down : s.seen.aonUp = false) (w : Nat) (b : Bool) :
    exec (.smbReset w b) s = s.smb b id := by
  rw [exec_smbReset_of_refused (.inr (.inl down)), State.smb_of_down id down, State.smb_of_down id down]

/-! ### The log as LOG reads it -/

section Read

variable {l : List (LogEntry × Bool)} (read : ∀ e ∈ l, e.2 = false)
include read

theorem find_unread_eq_none : l.reverse.find? (·.2) = none :=
  List.find?_eq_none.mpr fun e mem => ne_true_of_eq_false (read e (List.mem_reverse.mp mem))

theorem readOldest_of_read : readOldest l = l := by
  cases l with
  | nil => rfl
  | cons e r =>
    have none : r.any (·.2) = false := List.any_eq_false.mpr fun x mem => ne_true_of_eq_false (read x (List.mem_cons_of_mem _ mem))
    have head : e.2 = false := read e List.mem_cons_self
    rw [readOldest, if_neg (ne_true_of_eq_false none), ← head]

end Read

section Log

variable {d : Device} (read : ∀ e ∈ d.mgmt.aonLog, e.2 = false)
include read

theorem Device.smbEntry_of_read : d.smbEntry = zeroBytes 64 := by
  rw [Device.smbEntry, find_unread_eq_none read]

theorem Device.smbTaken_of_read : d.smbTaken = d := by
  rw [Device.smbTaken, readOldest_of_read read]

end Log

end Sys2Proof.Machine

open Sys2Proof Sys2Proof.Machine

/-- Settles O48; that the PEC is an operand of each SMBus command is the model's choice (log entry 71). -/
theorem testWindowsAndSmbus : Obligations.TestWindowsAndSmbus := by
  refine ⟨fun s => ⟨exec_testWindowOpen_of_due, exec_testWindowOpen_of_not_due, exec_testWindowClose_of_passed,
      exec_testWindowClose_of_not_passed⟩, ?_, fun s o w c up => exec_smb_of_ignored (fun f => State.smb_of_bad f up)
      (exec_smbReset_of_refused (.inl rfl)), ?_,
    fun s up => ⟨exec_alertResponse_of_alert up, fun silent => exec_alertResponse_of_none (.inr silent)⟩,
    fun d => ⟨rfl, fun read => ⟨Device.smbEntry_of_read read, Device.smbTaken_of_read read⟩⟩⟩
  · intro s o w up
    rw [exec_smbStatus_eq, exec_readAon_eq, exec_smbWake_eq, exec_smbStandby_eq, exec_smbLog_eq, exec_smbIdentify_eq,
      exec_setCap_eq]
    simp only [State.smb_of_good _ up, true_and]
    exact ⟨fun allowed => by rw [Device.smbCap_of_allowed allowed], fun refused => by rw [Device.smbCap_of_refused refused],
      exec_smbReset_of_allowed up, fun refused =>
        (exec_smbReset_of_refused (.inr (.inr refused))).trans (State.smb_of_bad id up)⟩
  · intro s b o w c down smb
    simp only [← or_assoc] at smb
    obtain command | rfl := smb
    · exact exec_smb_of_ignored (fun f => State.smb_of_down f down b) (exec_smbReset_of_down down w b)
        (by simpa only [or_assoc] using command)
    · exact exec_alertResponse_of_none (.inl down)

end


section
/-! PROOFS. The sealed measurement unit (R558 to R573). -/

namespace Sys2Proof.Machine

/-! ### Its commands -/

section Commands

variable {s : State}

section Powered

variable (powered : s.smu.powered = true)
include powered

theorem exec_smuSessionStart_of_powered : exec .smuSessionStart s = .next s := by
  change execSmuSessionStart s = _
  rw [execSmuSessionStart, if_pos powered]

theorem exec_smuSample_of_powered (v a : List Int) : exec (.smuSample v a) s = .next (s.smuSampled v a) := by
  change execSmuSample v a s = _
  rw [execSmuSample, if_pos powered]

theorem exec_calStatus_of_powered : exec (.calStatus true) s = .next { s with dev := s.dev.emit (.calPort s.smu.calReply) } := by
  change execCalStatus true s = _
  rw [execCalStatus, if_pos (by simp [powered])]

theorem exec_smuStepMessage_of_cons {x : Nat × Bool × Nat} {r : List (Nat × Bool × Nat)} (path : s.dev.smuPath = x :: r) :
    exec .smuStepMessage s = .next { s with smu := s.smu.stepMsg x.1 x.2.1 x.2.2, dev := s.dev.setPath r } := by
  change execSmuStepMessage s = _
  rw [execSmuStepMessage, path, State.stepReceived, if_pos powered]

end Powered

section Unpowered

variable (unpowered : s.smu.powered = false)
include unpowered

theorem exec_smuSessionStart_of_unpowered : exec .smuSessionStart s = .next s.newSession := by
  change execSmuSessionStart s = _
  rw [execSmuSessionStart, if_neg (ne_true_of_eq_false unpowered)]

theorem exec_smuSample_of_unpowered (v a : List Int) : exec (.smuSample v a) s = .next s := by
  change execSmuSample v a s = _
  rw [execSmuSample, if_neg (ne_true_of_eq_false unpowered)]

end Unpowered

theorem exec_calStatus_of_none {b : Bool} (none : s.smu.powered = false ∨ b = false) : exec (.calStatus b) s = .next s := by
  change execCalStatus b s = _
  rw [execCalStatus, if_neg]
  rw [Bool.and_eq_true]
  rintro ⟨powered, good⟩
  simp [powered, good] at none

theorem exec_smuStepMessage_of_nil (path : s.dev.smuPath = []) : exec .smuStepMessage s = .next s := by
  change execSmuStepMessage s = _
  rw [execSmuStepMessage, path, State.stepReceived]

theorem exec_smuRecordClose_of_due (due : s.smu.closeDue = true) :
    exec .smuRecordClose s = .next { s with smu := s.smu.closeRecord } := by
  change execSmuRecordClose s = _
  rw [execSmuRecordClose, State.onSmu, if_pos due]

theorem exec_smuRecordClose_of_not_due (early : s.smu.closeDue = false) : exec .smuRecordClose s = .next s := by
  change execSmuRecordClose s = _
  rw [execSmuRecordClose, State.onSmu, if_neg (ne_true_of_eq_false early)]

end Commands

/-! ### Sessions and step messages -/

theorem Smu.newSession_slots_of_programmed {m : Smu} (n : Nat) (programmed : m.slots ≠ []) : (m.newSession n).slots = m.slots :=
  if_neg programmed

/-- A session has a slot in force: one programmed before, or slot 0 (R570). -/
theorem Smu.one_le_newSession_calEvents (m : Smu) (n : Nat) : 1 ≤ (m.newSession n).calEvents := by
  rw [Smu.calEvents]
  by_cases blank : m.slots = []
  · have first : (m.newSession n).slots = [Config.calSlot0] := if_pos blank
    rw [first, List.length_singleton]
  · rw [m.newSession_slots_of_programmed n blank]
    exact List.length_pos_iff.mpr blank

section StepMessage

variable {m : Smu} {x n : Nat} {b : Bool}

theorem Smu.stepMsg_counts : (m.stepMsg x b n).applied + (m.stepMsg x b n).skipped = m.applied + m.skipped + 1 := by
  change m.applied + (if b then 1 else 0) + (m.skipped + if b then 0 else 1) = _
  cases b with
  | false => exact (Nat.add_assoc ..).symm
  | true => exact Nat.add_right_comm ..

theorem Smu.stepMsg_in_order (next : m.lastStep = none ∨ m.lastStep = some (x - 1) ∧ 0 < x) :
    (m.stepMsg x b n).gaps = m.gaps ∧ (m.stepMsg x b n).flags = m.flags := by
  obtain first | ⟨before, positive⟩ := next
  · simp [Smu.stepMsg, first]
  · simp [Smu.stepMsg, before, Nat.sub_add_cancel positive]

theorem Smu.stepMsg_gap {l : Nat} (last : m.lastStep = some l) (gap : x ≠ l + 1) :
    (m.stepMsg x b n).gaps = min (m.gaps + 1) 4294967295 ∧ (m.stepMsg x b n).flags = m.flags ||| 32 := by
  simp [Smu.stepMsg, last, gap]

end StepMessage

/-! ### Records -/

/-- Of the keys that a list sets, each to its own value, each has its value. -/
theorem Store.get_foldl_set_of_mem {α : Type} [DecidableEq α] (d v : Nat → α) {k : Nat} {l : List Nat} (mem : k ∈ l) :
    ∀ a : List (Nat × α), Store.get d (l.foldl (fun a n => Store.set d a n (v n)) a) k = v k := by
  induction l using List.reverseRecOn with
  | nil => exact absurd mem List.not_mem_nil
  | append_singleton l n ih =>
    intro a
    rw [List.foldl_append, List.foldl_cons, List.foldl_nil]
    by_cases same : k = n
    · rw [same, Store.get_set_same]
    · rw [Store.get_set_ne _ _ _ same]
      exact ih ((List.mem_append.mp mem).resolve_right (mt List.mem_singleton.mp same)) a

section Record

variable {m : Smu}

/-- Each channel's remainder below a microjoule is carried into the next interval (R563). -/
theorem Smu.closeRecord_acc {n : Nat} (channel : n < 4) :
    Store.get (fun _ => 0) m.closeRecord.acc n = Store.get (fun _ => 0) m.acc n % 1000000 :=
  Store.get_foldl_set_of_mem _ (fun n => Store.get (fun _ => 0) m.acc n % 1000000) (List.mem_range.mpr channel) m.acc

section Stored

variable {h : Bytes} (head : h = m.recordHead (m.flags + (if m.seq = 0 then 1 else 0)) (m.start + calInterval m.calSet * 32768))
include head

theorem Smu.closeRecord_store :
    m.closeRecord.store = Store.set (fun _ => []) m.store (m.seq % 240) (smuRecord h) := by
  rw [head, Smu.closeRecord]

theorem Smu.closeRecord_prev : m.closeRecord.prev = Config.sha3 256 h := by
  rw [head, Smu.closeRecord]

theorem Smu.closeRecord_store_same : Store.get (fun _ => []) m.closeRecord.store (m.seq % 240) = smuRecord h := by
  rw [Smu.closeRecord_store head, Store.get_set_same]

theorem Smu.closeRecord_store_other {k : Nat} (other : k ≠ m.seq % 240) :
    Store.get (fun _ => []) m.closeRecord.store k = Store.get (fun _ => []) m.store k := by
  rw [Smu.closeRecord_store head, Store.get_set_ne _ _ _ other]

end Stored

theorem Smu.closeRecord_calSet {l : List Bytes} {set : Bytes} (last : m.slots = l ++ [set]) : m.closeRecord.calSet = set := by
  change (m.slots.getLast?).getD m.calSet = set
  rw [last, List.getLast?_concat, Option.getD_some]

end Record

/-! ### The calibration port -/

section Calibration

variable {m : Smu} {set : Bytes} {b : Bool}

theorem Smu.stage_staged_iff : (m.stage set b).staged = some set ↔
    m.staged = some set ∨ m.powered = true ∧ b = true ∧ m.sealOn = true ∧ calValid set = true := by
  rw [Smu.stage]
  split
  next taken => exact iff_of_true rfl (.inr (by simpa [and_assoc] using taken))
  next refused => exact (or_iff_left (by simpa [and_assoc] using refused)).symm

theorem Smu.commit_of_taken (powered : m.powered = true) (opened : m.sealOn = true) (room : m.slots.length < 64) :
    m.commit (some set) true = m.program set :=
  if_pos (by simp [powered, opened, room])

theorem Smu.commit_of_refused (refused : m.powered = false ∨ b = false ∨ m.sealOn = false ∨ 64 ≤ m.slots.length) :
    m.commit (some set) b = m := by
  refine if_neg ?_
  simp only [Bool.and_eq_true, decide_eq_true_eq]
  rintro ⟨⟨⟨powered, good⟩, opened⟩, room⟩
  simp [powered, good, opened, room.not_ge] at refused

theorem Smu.sealOpen_counts (shut : m.sealOn = false) (powered : m.powered = true) :
    m.sealOpen.sealOpens = min (m.sealOpens + 1) 4294967295 ∧ m.sealOpen.flags = m.flags ||| 2 := by
  rw [Smu.sealOpen, if_neg (ne_true_of_eq_false shut), if_pos powered]
  exact ⟨rfl, rfl⟩

end Calibration

end Sys2Proof.Machine

open Sys2Proof Sys2Proof.Machine

/-- Settles O49. The model's choices in it: the SESSION value and the rounding of a sample's energy are free values (log entries 6
and 16), STATUS answers CAL_EVENTS, the seal and the slot last programmed (log entry 17), and uptime counts with each tick message
(log entry 57). -/
theorem sealedMeasurement : Obligations.SealedMeasurement := by
  refine ⟨fun s v a => ⟨fun powered => ⟨exec_smuSessionStart_of_powered powered, exec_smuSample_of_powered powered v a⟩,
      fun unpowered => ⟨exec_smuSessionStart_of_unpowered unpowered, exec_smuSample_of_unpowered unpowered v a⟩⟩,
    fun s => ⟨exec_smuStepMessage_of_nil, fun x r path powered => exec_smuStepMessage_of_cons powered path, rfl,
      exec_smuRecordClose_of_due, exec_smuRecordClose_of_not_due⟩,
    fun s b set => ⟨rfl, rfl, rfl, rfl, rfl, rfl, rfl, exec_calStatus_of_powered, exec_calStatus_of_none⟩,
    fun m n => ⟨rfl, rfl, rfl, rfl, rfl, rfl, rfl, rfl, rfl, m.one_le_newSession_calEvents n, m.newSession_slots_of_programmed n⟩,
    fun m x n b => ⟨rfl, Smu.stepMsg_counts, rfl, Smu.stepMsg_in_order, fun l => Smu.stepMsg_gap⟩, ?_, ?_⟩
  · exact fun m h head => ⟨rfl, rfl, Smu.closeRecord_store_same head, Smu.closeRecord_prev head, rfl,
      fun k => Smu.closeRecord_store_other head, fun n => Smu.closeRecord_acc, fun l set => Smu.closeRecord_calSet⟩
  · exact fun m set b => ⟨m.stage_slots set b, Smu.stage_staged_iff, Smu.commit_of_taken, Smu.commit_of_refused, rfl,
      List.length_append, rfl, rfl, rfl, rfl, Smu.sealOpen_counts⟩

end
